-- ==== Sys2Proof/Word.lean ====
section
/-!
DEFINITION. The word types of the module and their plainest arithmetic (00_scope.md R7; 02_dictionary.md R33).
-/
namespace Sys2Proof

/-- One byte of a frame, an item, a BLOB or an image. -/
abbrev Byte := BitVec 8

/-- One U32 word of an item unit (R70). -/
abbrev Word := BitVec 32

/-- 1 for true, 0 for false. -/
def b2n (b : Bool) : Nat := if b then 1 else 0

end Sys2Proof
end

