-- ==== Sys2Proof/Syntax.lean ====
section
/-!
DEFINITION. The commands of the module: one constructor per row of spec/opcode_table.json, in its order, with the row's operands. The table gives
the rows no bits; the operands are the model's own (log entry 6): the unit a command names, the values a host or a far end
sends, and what is measured outside.
-/
namespace Sys2Proof

/-- A UDP datagram over IPv4 that reached ETH0 or ETH1 (R37, R405): source address and port, destination address and port, the Ethernet port of arrival,
its UDP checksum, and its payload. -/
structure Datagram where
  ip : Nat
  port : Nat
  dstIp : Nat
  dstPort : Nat
  eth : Nat
  sum : Nat
  bytes : List Byte
deriving DecidableEq, Repr

/-- The value of a write: a number, or the bytes of a STR. -/
inductive WVal where
  | num (v : Int)
  | str (bs : List Byte)
deriving DecidableEq, Repr

/-- Where a register write goes: an entry over an access path (R35), or a BAR0 register by offset (R47, R117, R438). -/
inductive RegWrite where
  | entry (path idx sub : Nat) (v : WVal)
  | bar0 (offset value : Nat)
deriving DecidableEq, Repr

/-- How storing a firmware image ends (R52). -/
inductive FwResult where
  | stored | badSignature | writeFailed
deriving DecidableEq, Repr

/-- What the receiver of a lane meets in a tick (R251, R253, R254): the line bits in the order received, whether the phase-tracking loop is locked, the
values the equaliser takes after each error-free block of the tick while it adapts (they stay past the end of the list), and the mean round-trip delay in
units of 0.25 ns (R275). -/
structure LaneRx where
  lane : Nat
  phase : Bool
  bits : List Bool
  eq : List Nat
  rtd : Nat
deriving DecidableEq, Repr

/-- What the outside gives one tick: the levels of SEQ_IN0 to SEQ_IN3 (R134), the converted samples of the analog inputs (R294), whether the readback of
the interlock path agrees (R489), whether the dictionary engine has worked without an internal failure (R46, R68), and what arrives on the lanes. -/
structure TickIn where
  seqIn : Nat
  ain : List Nat
  readbackOk : Bool
  dictOk : Bool
  rx : List LaneRx
deriving DecidableEq, Repr

/-- A NAND target as its parameter page and its factory marks show it (R347, R348, R360): ONFI version times 10, NV-DDR3 support, page and spare bytes, pages
per block, blocks, data rate in MT/s by NV-DDR3 timing mode (0 for a mode it lacks), maximum suspend latency in µs where it can suspend, pages of a wordline
group, rated endurance in erases, factory-marked blocks. -/
structure Target where
  onfi : Nat
  nvddr3 : Bool
  pageBytes : Nat
  spareBytes : Nat
  pages : Nat
  blocks : Nat
  speeds : List Nat
  suspend : Option Nat
  group : Nat
  endurance : Nat
  marks : List Nat
deriving DecidableEq, Repr

/-- A block of a target (R349, R360): slabs programmed since its erase, erases, page reads since the erase, equivalent age in 2^-16 minutes, the age at its
last patrol, and whether a read showed that its data must move. -/
structure NandBlock where
  top : Nat
  erases : Nat
  reads : Nat
  age : Nat
  patrolled : Nat
  weak : Bool
deriving DecidableEq, Repr

/-- A committed object (R351, R366): key, identity, operating time of the commit, bytes, and the logical slabs that hold them (R349). -/
structure StkObj where
  kind : Nat
  job : Nat
  layer : Nat
  unit : Nat
  seq : Nat
  id : Nat
  opTime : Nat
  data : List Byte
  slabs : List Nat
deriving DecidableEq, Repr

/-- What a journal record does to the map and the directory (R361): commit an object with the physical slab of each of its logical slabs, delete an object,
move slabs, retire a block. -/
inductive JournalOp where
  | commit (o : StkObj) (places : List (Nat × Nat))
  | delete (id : Nat)
  | relocate (places : List (Nat × Nat))
  | retire (block : Nat)
deriving DecidableEq, Repr

/-- A record of the journal (R361): its sequence number, what it records, its CRC-32, and whether that CRC agrees when it is read. -/
structure JournalRecord where
  seq : Nat
  op : JournalOp
  crc : Nat
  valid : Bool
deriving DecidableEq, Repr

/-- The map and the directory (R349, R350, R361): objects in order of commit, the next identity, the physical slab of each logical slab, blocks retired in use,
blocks left of those set aside as spare. -/
structure Directory where
  objects : List StkObj
  nextId : Nat
  map : List (Nat × Nat)
  retired : List Nat
  spare : Nat
deriving DecidableEq, Repr

/-- The geometry of a store (R347, R361): the populated targets as 4 × channel + target, page and spare bytes, pages per block, blocks per target. -/
structure Geometry where
  populated : List Nat
  pageBytes : Nat
  spareBytes : Nat
  pages : Nat
  blocks : Nat
deriving DecidableEq, Repr

/-- A superblock (R361): its sequence, STORE_ID, the bytes of journal and checkpoint blocks, the geometry, the number of the newest checkpoint and where that
lies. -/
structure Superblock where
  seq : Nat
  id : Nat
  area : Nat
  geometry : Geometry
  checkpoint : Nat
  location : Nat
deriving DecidableEq, Repr

/-- A checkpoint (R361): its number, the map and the directory, and the sequence number of the first journal record after it. -/
structure Checkpoint where
  number : Nat
  dir : Directory
  journalSeq : Nat
deriving DecidableEq, Repr

/-- What the NAND on the backplane holds (R347 to R363): the populated targets by 4 × channel + target; the blocks that are not as a new one is, by target ×
blocks per target + block; the two superblocks where they are valid; the checkpoints; the journal; the slabs of each object that has no commit record; the
blocks that hold a partly programmed page. -/
structure Medium where
  targets : List (Nat × Target)
  blocks : List (Nat × NandBlock)
  superA : Option Superblock
  superB : Option Superblock
  checkpoints : List Checkpoint
  journal : List JournalRecord
  loose : List (List Nat)
  torn : List Nat
deriving DecidableEq, Repr

/-- How a mount ends (R363): the NAND the mount finds, where it is not what the module last knew, and its duration in ms. -/
structure MountEnd where
  found : Option Medium
  ms : Nat
deriving DecidableEq, Repr

/-- How a staging read ends (R356, R359, R360): the slab of the object that stayed uncorrectable, whether the CRC-32 of the stream failed, the reads that needed
a retry and the bits corrected by channel, and the targets, as 4 × channel + target, whose program or erase it found in progress. -/
structure StageRead where
  uncorrectable : Option Nat
  crcBad : Bool
  retries : List Nat
  corrected : List Nat
  waited : List Nat
deriving DecidableEq, Repr

/-- Care of the medium that ended within a minute (R360): a block's data was relocated; a block was patrolled, with more than 75 % of the correction capability
used or not; the read levels of a target were calibrated; a garbage collection ran. -/
inductive CareWork where
  | relocate (block : Nat)
  | patrol (block : Nat) (weak : Bool)
  | calibrate (target : Nat)
  | collect
deriving DecidableEq, Repr

/-- How a start-up step ends (R499): done in a time in µs, or failed with the rail or the DRAM channel. -/
inductive StepEnd where
  | done (us : Nat)
  | failed (addr : Nat)
deriving DecidableEq, Repr

/-- What ends the input (R494, R507). -/
inductive LossCause where
  | underVoltage | overVoltage | overCurrent
deriving DecidableEq, Repr

/-- The commands. -/
inductive Instr where
  /-- ENABLE_RISE (R498). -/
  | enableRise
  /-- ENABLE_FALL (R498). -/
  | enableFall
  /-- ENABLE_GLITCH (R498). -/
  | enableGlitch
  /-- THERMAL_EXIT_CHECK (R467). -/
  | thermalExitCheck (readings : List Int)
  /-- EJECT_REQ (R502). -/
  | ejectReq
  /-- SAFE_TO_REMOVE (R502). -/
  | safeToRemove (ckptDone : Bool) (ms : Nat)
  /-- PRECHARGE_START (R495). -/
  | prechargeStart
  /-- STANDBY_START (R495). -/
  | standbyStart
  /-- MAIN_SWITCH_CLOSE (R495). -/
  | mainSwitchClose
  /-- PRECHARGE_FAIL (R495). -/
  | prechargeFail
  /-- INPUT_LOSS (R504). -/
  | inputLoss (cause : LossCause)
  /-- INPUT_RETURN (R505). -/
  | inputReturn (enableHigh : Bool)
  /-- POWER_MEASUREMENT (R494). -/
  | powerMeasurement (mv ma mw : Nat)
  /-- PERST_N (R506). -/
  | perstN
  /-- PCIE_LINK_DOWN (R49). -/
  | pcieLinkDown
  /-- FUNCTION_LEVEL_RESET (R49). -/
  | functionLevelReset
  /-- REFCLK_LOST (R516). -/
  | refclkLost
  /-- PLL_UNLOCK (R20). -/
  | pllUnlock
  /-- DRAM_CORRECTED (R443). -/
  | dramCorrected (addr : Nat)
  /-- DRAM_UNCORR (R443). -/
  | dramUncorr (addr : Nat)
  /-- SRAM_CORRECTED (R443). -/
  | sramCorrected (addr : Nat)
  /-- SRAM_UNCORR (R443). -/
  | sramUncorr (addr : Nat)
  /-- TICK (R13). -/
  | tick (inp : TickIn)
  /-- LASER_INTERLOCK_ASSERT (R489). -/
  | laserInterlockAssert
  /-- INTERLOCK_RELEASE (R489). -/
  | interlockRelease
  /-- GO_READY (R23). -/
  | goReady
  /-- GO_SERVICE (R23). -/
  | goService
  /-- START_BUILD (R23). -/
  | startBuild
  /-- PAUSE (R23). -/
  | pause
  /-- RESUME (R23). -/
  | resume
  /-- STOP (R525). -/
  | stop
  /-- SAFE (R144). -/
  | safe
  /-- OPEN (R41). -/
  | ddpOpen (dg : Datagram)
  /-- CLOSE (R42). -/
  | close (dg : Datagram)
  /-- KEEPALIVE (R42). -/
  | keepalive (dg : Datagram)
  /-- SESSION_TIMEOUT (R42). -/
  | sessionTimeout (path : Nat)
  /-- READ (R43). -/
  | read (dg : Datagram)
  /-- WRITE (R43). -/
  | write (dg : Datagram)
  /-- BLOB_READ (R45). -/
  | blobRead (dg : Datagram)
  /-- BLOB_WRITE (R45). -/
  | blobWrite (dg : Datagram)
  /-- BLOB_END (R45). -/
  | blobEnd (dg : Datagram)
  /-- BAD_FRAME_DROP (R37). -/
  | badFrameDrop (dg : Datagram)
  /-- MBX_DOORBELL (R48). -/
  | mbxDoorbell (word : Nat)
  /-- MBX_STATUS_READ (R47). -/
  | mbxStatusRead
  /-- REGISTER_WRITE (R55). -/
  | registerWrite (w : RegWrite)
  /-- CFG_SAVE (R53). -/
  | cfgSave
  /-- CFG_SAVE_COMPLETE (R53). -/
  | cfgSaveComplete (ok : Bool)
  /-- CFG_ERASE (R53). -/
  | cfgErase
  /-- TXN_BEGIN (R55). -/
  | txnBegin (path : Nat)
  /-- TXN_COMMIT (R59). -/
  | txnCommit (path : Nat)
  /-- TXN_ROLLBACK (R63). -/
  | txnRollback (path : Nat)
  /-- TXN_TIMEOUT (R64). -/
  | txnTimeout (path : Nat)
  /-- ITEM_ACCEPT (R94). -/
  | itemAccept (ctx : Nat) (units : List Byte)
  /-- WINDOW_WRITE (R111). -/
  | windowWrite (offset : Nat) (data : List Byte)
  /-- CTX_DMA_DOORBELL (R117). -/
  | ctxDmaDoorbell (word : Nat)
  /-- DMA_FETCH (R112). -/
  | dmaFetch (ctx : Nat) (desc data : List Byte) (err : Bool)
  /-- CTX_ENABLE (R122). -/
  | ctxEnable (ctx : Nat)
  /-- CTX_DISABLE (R122). -/
  | ctxDisable (ctx : Nat)
  /-- CTX_FLUSH (R119). -/
  | ctxFlush (ctx : Nat)
  /-- STRIPE_ACK (R106). -/
  | stripeAck (ch : Nat)
  /-- HEAD_LATE (R123). -/
  | headLate (ch ctx wait : Nat)
  /-- ITEMS_NOTICE (R118). -/
  | itemsNotice (ctx : Nat)
  /-- NTC_LOST_READ (R117). -/
  | ntcLostRead
  /-- START_EXPOSURE (R130). -/
  | startExposure (mask : Nat)
  /-- WAIT_EXPOSURE (R132). -/
  | waitExposure (layer : Bool) (mask timeout : Nat)
  /-- AXIS_MOVE (R135). -/
  | axisMove (axis : Nat) (relative : Bool) (target : Int) (speed accel : Nat)
  /-- AXIS_WAIT (R134). -/
  | axisWait (mask timeout : Nat)
  /-- GEAR_SET (R387). -/
  | gearSet (axis enc : Nat) (disengage : Bool) (num : Int) (den : Nat)
  /-- CAPTURE (R136). -/
  | capture (port : Nat) (armed wait folio : Bool)
  /-- STROBE (R322). -/
  | strobe (port mask : Nat)
  /-- GRID_SNAPSHOT (R238). -/
  | gridSnapshot (folio wait : Bool)
  /-- STORE_OBJECT (R137). -/
  | storeObject (kind : Nat) (wait : Bool) (port : Nat)
  /-- CAT_WAIT_TICKS (R125). -/
  | catWaitTicks (count : Nat)
  /-- WAIT_INPUT (R134). -/
  | waitInput (source : Nat) (level edge : Bool) (timeout : Nat)
  /-- APPLY_TXN (R133). -/
  | applyTxn
  /-- LOOP (R128). -/
  | loop (level count target : Nat)
  /-- JUMP (R125). -/
  | jump (target : Nat)
  /-- BRANCH_FLAG (R129). -/
  | branchFlag (flag : Nat) (sense : Bool) (target : Nat)
  /-- HALT (R23). -/
  | halt
  /-- WAIT_STEP_COMPLETE (R127). -/
  | waitStepComplete
  /-- WAIT_TIMEOUT (R132). -/
  | waitTimeout
  /-- LAYER_BOUNDARY (R131). -/
  | layerBoundary
  /-- CHS_ENABLE (R143). -/
  | chsEnable (ch : Nat)
  /-- CHS_DISABLE (R527). -/
  | chsDisable (ch : Nat)
  /-- STRIPE_DECISION (R180). -/
  | stripeDecision (ch : Nat)
  /-- SEGMENT_MARK (R75). -/
  | segmentMark (ch : Nat)
  /-- SEGMENT_JUMP (R77). -/
  | segmentJump (ch : Nat)
  /-- SEGMENT_MARK_EXT (R78). -/
  | segmentMarkExt (ch : Nat)
  /-- WAIT_TICKS (R89). -/
  | waitTicks (ch : Nat)
  /-- PHASE_END (R146). -/
  | phaseEnd (ch : Nat)
  /-- TRJ_LATE (R159). -/
  | trjLate (ch wait : Nat)
  /-- ENGINE_AT_REST (R156). -/
  | engineAtRest (ch : Nat)
  /-- DRIFT_UPDATE (R165). -/
  | driftUpdate (ch : Nat)
  /-- FEEDBACK_CONSUME (R160). -/
  | feedbackConsume (ch : Nat)
  /-- PLUME_CHECK (R185). -/
  | plumeCheck (ch : Nat)
  /-- PLUME_HOLD_LONG (R188). -/
  | plumeHoldLong (ch : Nat)
  /-- REPLAN_COMPLETE (R192). -/
  | replanComplete
  /-- REACH_MAP_COMPLETE (R175). -/
  | reachMapComplete
  /-- LOOP_SAMPLE_CONSUME (R205). -/
  | loopSampleConsume (ch : Nat)
  /-- MPL_RECLOSE (R218). -/
  | mplReclose (ch : Nat)
  /-- MPL_RESET_INTEGRAL (R218). -/
  | mplResetIntegral (ch : Nat)
  /-- SWEEP_START (R230). -/
  | sweepStart
  /-- TILE_SLOT (R231). -/
  | tileSlot
  /-- GRID_LATE (R231). -/
  | gridLate (deposit : Bool) (cell amount : Nat)
  /-- GRD_RESET (R226). -/
  | grdReset
  /-- GRD_SNAPSHOT_RAW (R238). -/
  | grdSnapshotRaw
  /-- GRD_SNAPSHOT_FOLIO (R238). -/
  | grdSnapshotFolio
  /-- GRD_RELEASE (R238). -/
  | grdRelease
  /-- SNAPSHOT_CAPTURE_COMPLETE (R238). -/
  | snapshotCaptureComplete
  /-- LNK_ENABLE (R267). -/
  | lnkEnable (lane : Nat)
  /-- LNK_DISABLE (R267). -/
  | lnkDisable (lane : Nat)
  /-- LNK_RETRAIN (R267). -/
  | lnkRetrain (lane : Nat)
  /-- LNK_RELEARN (R266). -/
  | lnkRelearn (lane : Nat)
  /-- MARKER_LOCK (R259). -/
  | markerLock (lane serial : Nat)
  /-- CAP_BLOCK (R261). -/
  | capBlock (lane : Nat) (block : List Byte)
  /-- STEP_ECHO (R259). -/
  | stepEcho (lane : Nat)
  /-- TRAINING_END (R259). -/
  | trainingEnd (lane eq rtd : Nat)
  /-- ERROR_TEST_END (R259). -/
  | errorTestEnd (lane own : Nat) (farPass : Bool) (rtd : Nat)
  /-- LANE_LOST (R262). -/
  | laneLost (lane cause : Nat)
  /-- LANE_FREEZE (R255). -/
  | laneFreeze (lane : Nat)
  /-- REFRESH_BURST (R257). -/
  | refreshBurst (lane : Nat)
  /-- DRIFT_RELEARN (R266). -/
  | driftRelearn (lane eq : Nat)
  /-- INGRESS_FIFO_OVERFLOW (R19). -/
  | ingressFifoOverflow (src blocks : Nat)
  /-- UPSTREAM_FRAME (R274). -/
  | upstreamFrame (lane : Nat) (frame : List Byte) (bad : Bool)
  /-- TILE_HDR (R282). -/
  | tileHdr (lane : Nat) (frame : List Byte)
  /-- TILE_DATA (R281). -/
  | tileData (lane : Nat) (frame : List Byte)
  /-- SOURCE_STATUS_CONSUME (R288). -/
  | sourceStatusConsume (ch : Nat)
  /-- XY_STATUS_FRAME (R291). -/
  | xyStatusFrame (port bits : Nat)
  /-- ARMED_TRIG (R301). -/
  | armedTrig (port : Nat)
  /-- FVAL_RISE (R303). -/
  | fvalRise (port : Nat)
  /-- FVAL_FALL (R303). -/
  | fvalFall (port : Nat) (rows : List (List Nat)) (lost : List (Nat × Nat))
  /-- FRAME_TIMEOUT (R303). -/
  | frameTimeout (port : Nat) (rows : List (List Nat)) (lost : List (Nat × Nat))
  /-- FRAME_CLOSE (R307). -/
  | frameClose (port : Nat)
  /-- MPF_HANDOVER (R313). -/
  | mpfHandover (ch : Nat)
  /-- LAMP_DIAGNOSIS (R325). -/
  | lampDiagnosis (lamp vSink current : Nat)
  /-- LAMP_PULSE_END (R323). -/
  | lampPulseEnd (lamp : Nat)
  /-- LAMP_PROBE (R326). -/
  | lampProbe (lamp : Nat)
  /-- ILM_APPLY (R324). -/
  | ilmApply
  /-- ILM_PROBE (R326). -/
  | ilmProbe
  /-- LAMP_ENABLE (R327). -/
  | lampEnable (lamp : Nat)
  /-- LAMP_DISABLE (R327). -/
  | lampDisable (lamp : Nat)
  /-- FOL_START (R338). -/
  | folStart (slot : Nat)
  /-- FOL_CANCEL (R343). -/
  | folCancel (slot : Nat)
  /-- FOL_RELEASE (R341). -/
  | folRelease (slot : Nat)
  /-- FOLIO_JOB_END (R334). -/
  | folioJobEnd
  /-- FOLIO_WAIT_EXPIRY (R340). -/
  | folioWaitExpiry
  /-- FOLIO_DISABLE (R343). -/
  | folioDisable
  /-- FOLIO_ENABLE (R343). -/
  | folioEnable
  /-- STK_MOUNT (R364). -/
  | stkMount
  /-- MOUNT_COMPLETE (R363). -/
  | mountComplete (r : MountEnd)
  /-- STK_UNMOUNT (R364). -/
  | stkUnmount
  /-- STK_FORMAT (R350). -/
  | stkFormat
  /-- STK_DELETE (R352). -/
  | stkDelete (path : Nat)
  /-- OBJECT_COMMIT (R352). -/
  | objectCommit (which : Nat)
  /-- STAGING_READ_COMPLETE (R355). -/
  | stagingReadComplete (r : StageRead)
  /-- SUSPEND_RESUME (R359). -/
  | suspendResume (ch target : Nat)
  /-- PROGRAM_FAIL (R360). -/
  | programFail (ch block : Nat)
  /-- ERASE_FAIL (R360). -/
  | eraseFail (ch block : Nat)
  /-- TARGET_TIMEOUT (R370). -/
  | targetTimeout (ch target block : Nat)
  /-- RETENTION_AGE (R360). -/
  | retentionAge (temps : List (Option Int)) (done : List CareWork)
  /-- AX_MOVE (R376). -/
  | axMove (axis : Nat)
  /-- AX_STOP (R380). -/
  | axStop (axis : Nat)
  /-- AX_QUICK_STOP (R380). -/
  | axQuickStop (axis : Nat)
  /-- AX_HOME (R385). -/
  | axHome (axis : Nat)
  /-- AX_JOG (R379). -/
  | axJog (axis : Nat)
  /-- AX_GEAR_ENGAGE (R387). -/
  | axGearEngage (axis : Nat)
  /-- AX_GEAR_DISENGAGE (R380). -/
  | axGearDisengage (axis : Nat)
  /-- AX_GEAR_ARM_SWITCH (R389). -/
  | axGearArmSwitch (axis : Nat)
  /-- AXIS_ENABLE (R382). -/
  | axisEnable (axis : Nat)
  /-- AXIS_DISABLE (R382). -/
  | axisDisable (axis : Nat)
  /-- AX_PROFILE_WRITE (R378). -/
  | axProfileWrite (axis sub : Nat) (v : Int)
  /-- JOG_SPEED_WRITE (R379). -/
  | jogSpeedWrite (axis : Nat) (v : Int)
  /-- STEP_PULSE (R373). -/
  | stepPulse (axis : Nat)
  /-- WAKE_DELAY_ELAPSED (R375). -/
  | wakeDelayElapsed (axis : Nat)
  /-- STANDSTILL_DELAY_ELAPSED (R381). -/
  | standstillDelayElapsed (axis : Nat)
  /-- SWITCH_INPUT_EDGE (R383). -/
  | switchInputEdge (axis input : Nat) (level : Bool)
  /-- HOLDOFF_END (R383). -/
  | holdoffEnd (axis input : Nat)
  /-- ENCODER_EDGE (R390). -/
  | encoderEdge (enc at4 : Nat) (a b z : Bool)
  /-- ENCODER_INDEX (R392). -/
  | encoderIndex (enc : Nat)
  /-- ENCODER_TOOTH (R393). -/
  | encoderTooth (enc at4 : Nat)
  /-- ENCODER_SPEED_TIMEOUT (R394). -/
  | encoderSpeedTimeout (enc : Nat)
  /-- CMP_ARM (R396). -/
  | cmpArm (unit : Nat)
  /-- CMP_DISARM (R398). -/
  | cmpDisarm (unit : Nat)
  /-- CMP_POSITION_WRITE (R396). -/
  | cmpPositionWrite (unit : Nat) (v : Int)
  /-- CMP_PULSE_END (R395). -/
  | cmpPulseEnd (unit : Nat)
  /-- ARP_REPLY (R405). -/
  | arpReply (port : Nat) (frame : List Byte)
  /-- ICMP_ECHO (R405). -/
  | icmpEcho (port : Nat) (frame : List Byte)
  /-- PTP_RECEIVE (R412), some ns into the present tick. -/
  | ptpReceive (port offset : Nat) (frame : List Byte)
  /-- RX_FRAME_DROP (R405). -/
  | rxFrameDrop (port : Nat) (error : Bool)
  /-- NETCLK_WRITE (R407). -/
  | netclkWrite (v : Nat)
  /-- SERVO_OFFSET (R408). -/
  | servoOffset (o : Int)
  /-- LAUNCH_EVALUATE (R410). -/
  | launchEvaluate (port : Nat)
  /-- TX_FRAME_SENT (R411), some ns into the present tick. -/
  | txFrameSent (port offset : Nat)
  /-- LINK_DOWN (R411). -/
  | linkDown (port : Nat)
  /-- LINK_UP (R421). -/
  | linkUp (port : Nat) (remoteFault : Bool)
  /-- PHASE_MEASUREMENT (R414). -/
  | phaseMeasurement
  /-- TSYNC_ENABLE (R415). -/
  | tsyncEnable (on : Bool)
  /-- FAULT_COLLECT (R424). -/
  | faultCollect
  /-- ESCALATION (R431). -/
  | escalation (src : Nat)
  /-- RECOVERY (R434). -/
  | recovery (src : Nat)
  /-- ERR_N_MIN_END (R437). -/
  | errNMinEnd
  /-- FLT_SRC_ACK (R430). -/
  | fltSrcAck (path : Nat)
  /-- FLT_SRC_CLEAR (R436). -/
  | fltSrcClear (path : Nat)
  /-- FLT_ACK_ACK (R438). -/
  | fltAckAck (src : Nat)
  /-- FLT_ACK_CLEAR (R438). -/
  | fltAckClear (src : Nat)
  /-- FLT_REARM (R425). -/
  | fltRearm
  /-- FLT_ACK_ALL (R430). -/
  | fltAckAll
  /-- FLT_CLEAR_ALL (R436). -/
  | fltClearAll
  /-- LDG_FREEZE (R452). -/
  | ldgFreeze
  /-- LDG_UNFREEZE (R452). -/
  | ldgUnfreeze
  /-- FREEZE_EXPIRED (R452). -/
  | freezeExpired
  /-- LDG_MARK (R448). -/
  | ldgMark
  /-- LEDGER_CHECKPOINT (R451). -/
  | ledgerCheckpoint
  /-- SENSOR_READING (R460). -/
  | sensorReading (sensor count : Nat)
  /-- RATE_CHECK (R463). -/
  | rateCheck
  /-- TMP_ACK_SHUTDOWN (R468). -/
  | tmpAckShutdown
  /-- TMP_EXCLUDE_WRITE (R465). -/
  | tmpExcludeWrite (v : Nat)
  /-- CAL_RUN (R470). -/
  | calRun
  /-- CAL_POINT_TIMEOUT (R469). -/
  | calPointTimeout (entry : Nat)
  /-- CAL_RUN_END (R470). -/
  | calRunEnd (points : List (Int × Int))
  /-- START_UP_STEP_COMPLETE (R499). -/
  | startUpStepComplete (r : StepEnd)
  /-- FW_STORE_COMPLETE (R52). -/
  | fwStoreComplete (result : FwResult)
  /-- TXN_COMMIT_COPY_END (R59). -/
  | txnCommitCopyEnd (path : Nat)
  /-- LATE_TILE_WRITTEN (R231). -/
  | lateTileWritten (tile : Nat)
  /-- EJECT_LATCH_CLOSED (R490). -/
  | ejectLatchClosed
  /-- HOLD_UP_EXHAUSTED (R504). -/
  | holdUpExhausted
deriving DecidableEq, Repr

end Sys2Proof
end

