-- ==== Sys2Proof/WellFormed.lean ====
section
/-!
DEFINITION. Well-formed commands: the unit a command names exists, and a value fits the field the chapters give it.
-/
namespace Sys2Proof

namespace Instr

/-- The assigned fault sources (R423). -/
def assigned (n : Nat) : Bool :=
  decide (n < 0x60) || (decide (0x80 ≤ n) && decide (n < 0x98)) || (decide (0xA0 ≤ n) && decide (n < 0xD0)) || (decide (0xD0 ≤ n) && decide (n < 0xE8)) ||
    (decide (0x100 ≤ n) && decide (n < 0x104)) || (decide (0x110 ≤ n) && decide (n < 0x128)) || (decide (0x130 ≤ n) && decide (n < 0x140)) ||
    (decide (0x150 ≤ n) && decide (n < 0x159)) || (decide (0x160 ≤ n) && decide (n < 0x180)) ||
    [0xF0, 0xF8, 0x108, 0x140, 0x180, 0x190, 0x198, 0x1A0, 0x1B0, 0x1C0, 0x1C8, 0x1D0, 0x1D8, 0x1F0].contains n

/-- Numbers that rise strictly and lie below a bound. -/
def rising (bound : Nat) : Nat → List Nat → Bool
  | _, [] => true
  | lo, n :: l => decide (lo ≤ n) && decide (n < bound) && rising bound (n + 1) l

/-- NAND as a mount can find it (R347): at most 32 targets, each listed once, its factory marks on its blocks, and every block listed once. -/
def nandOk (m : Medium) : Bool :=
  rising 32 0 (m.targets.map fun e => e.1) && (m.targets.all fun e => rising e.2.blocks 0 e.2.marks) &&
    rising (32 * ((m.targets.head?.map fun e => e.2.blocks).getD 0)) 0 (m.blocks.map fun e => e.1)

/-- A command that the module can be given. -/
def wellFormed : Instr → Bool
  | .enableRise => true
  | .enableFall => true
  | .enableGlitch => true
  | .thermalExitCheck _ => true
  | .ejectReq => true
  | .safeToRemove _ _ => true
  | .prechargeStart => true
  | .standbyStart => true
  | .mainSwitchClose => true
  | .prechargeFail => true
  | .inputLoss _ => true
  | .inputReturn _ => true
  | .powerMeasurement _ _ _ => true
  | .perstN => true
  | .pcieLinkDown => true
  | .functionLevelReset => true
  | .refclkLost => true
  | .pllUnlock => true
  | .dramCorrected addr => decide (addr < 2 ^ 32)
  | .dramUncorr addr => decide (addr < 2 ^ 32)
  | .sramCorrected addr => decide (addr < 2 ^ 32)
  | .sramUncorr addr => decide (addr < 2 ^ 32)
  | .tick _ => true
  | .laserInterlockAssert => true
  | .interlockRelease => true
  | .goReady => true
  | .goService => true
  | .startBuild => true
  | .pause => true
  | .resume => true
  | .stop => true
  | .safe => true
  | .ddpOpen _ => true
  | .close _ => true
  | .keepalive _ => true
  | .sessionTimeout path => (decide (1 ≤ path) && decide (path ≤ 4))
  | .read _ => true
  | .write _ => true
  | .blobRead _ => true
  | .blobWrite _ => true
  | .blobEnd _ => true
  | .badFrameDrop _ => true
  | .mbxDoorbell word => decide (word < 2 ^ 16)
  | .mbxStatusRead => true
  | .registerWrite _ => true
  | .cfgSave => true
  | .cfgSaveComplete _ => true
  | .cfgErase => true
  | .txnBegin path => decide (path ≤ 4)
  | .txnCommit path => decide (path ≤ 4)
  | .txnRollback path => decide (path ≤ 4)
  | .txnTimeout path => decide (path ≤ 4)
  | .itemAccept ctx _ => decide (ctx < 96)
  | .windowWrite o d => decide (o + d.length ≤ 2 ^ 28)
  | .ctxDmaDoorbell word => decide (word < 2 ^ 32)
  | .dmaFetch ctx _ _ _ => decide (ctx < 96)
  | .ctxEnable ctx => decide (ctx < 96)
  | .ctxDisable ctx => decide (ctx < 96)
  | .ctxFlush ctx => decide (ctx < 96)
  | .stripeAck ch => decide (ch < 24)
  | .headLate ch ctx _ => decide (ch < 24) && decide (ctx < 96)
  | .itemsNotice ctx => decide (ctx < 96)
  | .ntcLostRead => true
  | .startExposure mask => (decide (0 < mask) && decide (mask < 2 ^ 24))
  | .waitExposure _ mask timeout => decide (mask < 2 ^ 24) && decide (timeout < 2 ^ 32)
  | .axisMove axis _ _ _ _ => decide (axis < 8)
  | .axisWait mask timeout => (decide (0 < mask) && decide (mask < 2 ^ 8)) && decide (timeout < 2 ^ 32)
  | .gearSet axis enc _ _ den => decide (axis < 8) && decide (enc < 8) && decide (1 ≤ den)
  | .capture port _ _ _ => decide (port < 4)
  | .strobe port mask => decide (port < 4) && decide (mask < 2 ^ 16)
  | .gridSnapshot _ _ => true
  | .storeObject kind _ port => (decide (1 ≤ kind) && decide (kind ≤ 3)) && decide (port < 4)
  | .catWaitTicks count => (decide (1 ≤ count) && decide (count ≤ 2000000000))
  | .waitInput source _ _ timeout => (decide (source < 0x18) || (decide (0x20 ≤ source) && decide (source < 0x24))) && decide (timeout < 2 ^ 32)
  | .applyTxn => true
  | .loop level count target => decide (level < 4) && decide (count < 2 ^ 16) && decide (target < 4096)
  | .jump target => decide (target < 4096)
  | .branchFlag flag _ target => decide (flag < 8) && decide (target < 4096)
  | .halt => true
  | .waitStepComplete => true
  | .waitTimeout => true
  | .layerBoundary => true
  | .chsEnable ch => decide (ch < 24)
  | .chsDisable ch => decide (ch < 24)
  | .stripeDecision ch => decide (ch < 24)
  | .segmentMark ch => decide (ch < 24)
  | .segmentJump ch => decide (ch < 24)
  | .segmentMarkExt ch => decide (ch < 24)
  | .waitTicks ch => decide (ch < 24)
  | .phaseEnd ch => decide (ch < 24)
  | .trjLate ch _ => decide (ch < 24)
  | .engineAtRest ch => decide (ch < 24)
  | .driftUpdate ch => decide (ch < 24)
  | .feedbackConsume ch => decide (ch < 24)
  | .plumeCheck ch => decide (ch < 24)
  | .plumeHoldLong ch => decide (ch < 24)
  | .replanComplete => true
  | .reachMapComplete => true
  | .loopSampleConsume ch => decide (ch < 24)
  | .mplReclose ch => decide (ch < 24)
  | .mplResetIntegral ch => decide (ch < 24)
  | .sweepStart => true
  | .tileSlot => true
  | .gridLate _ _ _ => true
  | .grdReset => true
  | .grdSnapshotRaw => true
  | .grdSnapshotFolio => true
  | .grdRelease => true
  | .snapshotCaptureComplete => true
  | .lnkEnable lane => decide (lane < 48)
  | .lnkDisable lane => decide (lane < 48)
  | .lnkRetrain lane => decide (lane < 48)
  | .lnkRelearn lane => decide (lane < 48)
  | .markerLock lane _ => decide (lane < 48)
  | .capBlock lane _ => decide (lane < 48)
  | .stepEcho lane => decide (lane < 48)
  | .trainingEnd lane _ _ => decide (lane < 48)
  | .errorTestEnd lane _ _ _ => decide (lane < 48)
  | .laneLost lane _ => decide (lane < 48)
  | .laneFreeze lane => decide (lane < 48)
  | .refreshBurst lane => decide (lane < 48)
  | .driftRelearn lane _ => decide (lane < 48)
  | .ingressFifoOverflow _ _ => true
  | .upstreamFrame lane _ _ => decide (lane < 48)
  | .tileHdr lane _ => decide (lane < 48)
  | .tileData lane _ => decide (lane < 48)
  | .sourceStatusConsume ch => decide (ch < 24)
  | .xyStatusFrame port bits => decide (port < 8) && decide (bits < 2 ^ 20)
  | .armedTrig port => decide (port < 4)
  | .fvalRise port => decide (port < 4)
  | .fvalFall port _ _ => decide (port < 4)
  | .frameTimeout port _ _ => decide (port < 4)
  | .frameClose port => decide (port < 4)
  | .mpfHandover ch => decide (ch < 24)
  | .lampDiagnosis lamp _ _ => decide (lamp < 16)
  | .lampPulseEnd lamp => decide (lamp < 16)
  | .lampProbe lamp => decide (lamp < 16)
  | .ilmApply => true
  | .ilmProbe => true
  | .lampEnable lamp => decide (lamp < 16)
  | .lampDisable lamp => decide (lamp < 16)
  | .folStart slot => decide (slot < 4)
  | .folCancel slot => decide (slot < 4)
  | .folRelease slot => decide (slot < 4)
  | .folioJobEnd => true
  | .folioWaitExpiry => true
  | .folioDisable => true
  | .folioEnable => true
  | .stkMount => true
  | .mountComplete r => (r.found.map nandOk).getD true
  | .stkUnmount => true
  | .stkFormat => true
  | .stkDelete path => decide (path ≤ 4)
  | .objectCommit _ => true
  | .stagingReadComplete _ => true
  | .suspendResume ch target => decide (ch < 8) && decide (target < 4)
  | .programFail ch _ => decide (ch < 8)
  | .eraseFail ch _ => decide (ch < 8)
  | .targetTimeout ch target _ => decide (ch < 8) && decide (target < 4)
  | .retentionAge _ _ => true
  | .axMove axis => decide (axis < 8)
  | .axStop axis => decide (axis < 8)
  | .axQuickStop axis => decide (axis < 8)
  | .axHome axis => decide (axis < 8)
  | .axJog axis => decide (axis < 8)
  | .axGearEngage axis => decide (axis < 8)
  | .axGearDisengage axis => decide (axis < 8)
  | .axGearArmSwitch axis => decide (axis < 8)
  | .axisEnable axis => decide (axis < 8)
  | .axisDisable axis => decide (axis < 8)
  | .axProfileWrite axis _ _ => decide (axis < 8)
  | .jogSpeedWrite axis _ => decide (axis < 8)
  | .stepPulse axis => decide (axis < 8)
  | .wakeDelayElapsed axis => decide (axis < 8)
  | .standstillDelayElapsed axis => decide (axis < 8)
  | .switchInputEdge axis input _ => decide (axis < 8) && decide (input < 3)
  | .holdoffEnd axis input => decide (axis < 8) && decide (input < 3)
  | .encoderEdge enc at4 _ _ _ => decide (enc < 8) && decide (at4 < 125)
  | .encoderIndex enc => decide (enc < 8)
  | .encoderTooth enc at4 => decide (enc < 8) && decide (at4 < 125)
  | .encoderSpeedTimeout enc => decide (enc < 8)
  | .cmpArm unit => decide (unit < 16)
  | .cmpDisarm unit => decide (unit < 16)
  | .cmpPositionWrite unit _ => decide (unit < 16)
  | .cmpPulseEnd unit => decide (unit < 16)
  | .arpReply port _ => decide (port < 2)
  | .icmpEcho port _ => decide (port < 2)
  | .ptpReceive port offset _ => decide (port < 2) && decide (offset < 500)
  | .rxFrameDrop port _ => decide (port < 2)
  | .netclkWrite v => decide (v < 2 ^ 64)
  | .servoOffset _ => true
  | .launchEvaluate port => decide (port < 2)
  | .txFrameSent port offset => decide (port < 2) && decide (offset < 500)
  | .linkDown port => decide (port < 2)
  | .linkUp port _ => decide (port < 2)
  | .phaseMeasurement => true
  | .tsyncEnable _ => true
  | .faultCollect => true
  | .escalation src => assigned src
  | .recovery src => assigned src
  | .errNMinEnd => true
  | .fltSrcAck path => decide (path ≤ 4)
  | .fltSrcClear path => decide (path ≤ 4)
  | .fltAckAck src => decide (src < 2 ^ 10)
  | .fltAckClear src => decide (src < 2 ^ 10)
  | .fltRearm => true
  | .fltAckAll => true
  | .fltClearAll => true
  | .ldgFreeze => true
  | .ldgUnfreeze => true
  | .freezeExpired => true
  | .ldgMark => true
  | .ledgerCheckpoint => true
  | .sensorReading sensor count => decide (sensor < 40) && decide (count < 65536)
  | .rateCheck => true
  | .tmpAckShutdown => true
  | .tmpExcludeWrite v => decide (v < 2 ^ 40)
  | .calRun => true
  | .calPointTimeout entry => decide (entry < 104)
  | .calRunEnd _ => true
  | .startUpStepComplete _ => true
  | .fwStoreComplete _ => true
  | .txnCommitCopyEnd path => decide (path ≤ 4)
  | .lateTileWritten _ => true
  | .ejectLatchClosed => true
  | .holdUpExhausted => true

end Instr

end Sys2Proof
end

