-- ==== Sys2Proof/Decode.lean ====
section
/-!
DEFINITION. Commands from words. The opcode table gives its rows no bits, so no word spells a command: commands reach the module as terms
(log entry 6).
-/
namespace Sys2Proof

/-- The command that a word spells by the bits of spec/opcode_table.json: none, since no row of the table has bits. -/
def decodeTableWord (_nbits _w : Nat) : Option Instr := none

end Sys2Proof
end

