-- ==== Sys2Proof/Machine/Contacts.lean ====
section
/-!
DEFINITION. The contacts of the three connectors (21_module_connectors.md R478 to R487): which signal stands where, when it mates, what it carries and what
the module does with it while the core rails are off. No step reads them.
What the rules leave to the model: log entry 46.
-/
namespace Sys2Proof.Machine.Contacts

/-- A signal: one of its own name, or a pin of a unit of a group, such as DQ5 of NF3. -/
inductive Signal where
  | fixed (name : String)
  | pin (group : String) (unit : Nat) (name : String)
deriving DecidableEq, Repr

/-- A contact that the module leaves unconnected. -/
def reserved : Signal := .fixed "reserved"

/-- The rows of BP-H and BP-L; there is no row I. -/
inductive Row where
  | a | b | c | d | e | f | g | h | j | k
deriving DecidableEq, Repr

/-- The place of a row in the order of the tables. -/
def Row.index : Row → Nat
  | .a => 0 | .b => 1 | .c => 2 | .d => 3 | .e => 4 | .f => 5 | .g => 6 | .h => 7 | .j => 8 | .k => 9

/-! ### BP-P (R479) -/

/-- Positions 1 to 8. -/
def bpP (n : Nat) : Option Signal :=
  if n = 1 then some (.fixed "CHASSIS")
  else if 2 ≤ n ∧ n ≤ 4 then some (.fixed "PGND")
  else if n = 5 then some (.fixed "48V_PRE")
  else if 6 ≤ n ∧ n ≤ 8 then some (.fixed "48V")
  else none

/-! ### BP-H (R481) -/

/-- The pair of a column: its group, its unit, and its name; `tx`: the pair in rows A and B. -/
def bpHPair (col : Nat) (tx : Bool) : Option (String × Nat × String) :=
  let side := if tx then "TX" else "RX"
  if col < 1 ∨ 56 < col then none
  else if col ≤ 48 then some ("LANE", col - 1, side)
  else if col ≤ 52 then some ("PCIE", col - 49, side)
  else if col ≤ 54 then some ("ETH", col - 53, side)
  else if col = 55 ∧ tx then some ("REFCLK", 0, "")
  else some ("reserved", 0, "")

/-- Rows A to F, columns 1 to 56: P in A and D, N in B and E, GND in C and F. -/
def bpH (row : Row) (col : Nat) : Option Signal :=
  let of := fun (tx : Bool) (side : String) => (bpHPair col tx).map fun p => if p.1 = "reserved" then reserved else .pin p.1 p.2.1 (p.2.2 ++ side)
  match row with
  | .a => of true "P"
  | .b => of true "N"
  | .d => of false "P"
  | .e => of false "N"
  | .c => (bpHPair col true).map fun _ => .fixed "GND"
  | .f => (bpHPair col true).map fun _ => .fixed "GND"
  | _ => none

/-! ### BP-L (R483 to R485) -/

/-- The row patterns of the blocks of R484, rows A to H, J, K. -/
def nfPattern : List (List String) :=
  [["DQ0", "DQ1", "DQ2", "DQ3", "GND", "DQ4", "DQ5", "DQ6", "DQ7", "GND"],
   ["DQS_T", "DQS_C", "GND", "RE_T", "RE_C", "GND", "CLE", "ALE", "WE_N", "GND"],
   ["CE0_N", "CE1_N", "CE2_N", "CE3_N", "GND", "WP_N", "RB_N", "reserved", "GND", "GND"]]

/-- Camera ports. -/
def camPattern : List (List String) :=
  [["PCLK", "GND", "D0", "D1", "D2", "D3", "GND", "D4", "D5", "D6"],
   ["FVAL", "LVAL", "D7", "D8", "GND", "D9", "D10", "D11", "D12", "GND"],
   ["TRIG", "STROBE_SYNC", "GND", "D13", "D14", "D15", "GND", "reserved", "reserved", "GND"]]

/-- XY2-100 ports. -/
def xyPattern : List (List String) :=
  [["CLOCK_P", "CLOCK_N", "GND", "SYNC_P", "SYNC_N", "GND", "CHAN1_P", "CHAN1_N", "GND", "GND"],
   ["CHAN2_P", "CHAN2_N", "GND", "STATUS_P", "STATUS_N", "GND", "reserved", "reserved", "GND", "GND"]]

/-- Axes. -/
def axPattern : List (List String) := [["STEP", "DIR", "EN", "SHORT", "GND", "LIMP", "LIMN", "HOME", "GND", "GND"]]

/-- A pattern's name as a signal of a unit: grounds and reserved places belong to none. -/
def named (group : String) (unit : Nat) (name : String) : Signal :=
  if name = "GND" ∨ name = "AGND" ∨ name = "LGND" ∨ name = "reserved" then .fixed name else .pin group unit name

/-- A block of `pat.length` columns to a unit, from column `base`. -/
def block (group : String) (base : Nat) (pat : List (List String)) (row : Row) (col : Nat) : Option Signal :=
  ((pat[(col - base) % pat.length]?).bind fun l => l[row.index]?).map (named group ((col - base) / pat.length))

/-- The miscellaneous positions of rows H and J, columns 61 to 68 (R485). -/
def misc (row : Row) (e : Nat) : Option Signal :=
  let l := if row = .h then ["LASER_INTERLOCK_N", "ENABLE", "PERST_N", "SEQ_IN0", "SEQ_IN2", "REF_TUNE", "IN_COM", "reserved"]
    else ["ILK_RTN", "PRSNT_N", "ERR_N", "SEQ_IN1", "SEQ_IN3", "AGND", "IN_COM", "reserved"]
  (l[e]?).map .fixed

/-- An encoder column: ENCe, the compare outputs 2e and 2e + 1, and two miscellaneous places. -/
def encColumn (row : Row) (e : Nat) : Option Signal :=
  match row with
  | .a => some (.pin "ENC" e "A") | .b => some (.pin "ENC" e "B") | .c => some (.pin "ENC" e "Z")
  | .e => some (.pin "CMP" (2 * e) "OUT") | .f => some (.pin "CMP" (2 * e + 1) "OUT")
  | .h => misc .h e | .j => misc .j e
  | _ => some (.fixed "GND")

/-- An analog column: channels 2k and 2k + 1. -/
def analogColumn (row : Row) (k : Nat) : Option Signal :=
  match row with
  | .a => some (.pin "AOUT" (2 * k) "") | .b => some (.fixed "AGND") | .c => some (.pin "AIN" (2 * k) "") | .d => some (.pin "GATE" (2 * k) "")
  | .e => some (.pin "PWM" (2 * k) "") | .f => some (.pin "AOUT" (2 * k + 1) "") | .g => some (.fixed "AGND") | .h => some (.pin "AIN" (2 * k + 1) "")
  | .j => some (.pin "GATE" (2 * k + 1) "") | .k => some (.pin "PWM" (2 * k + 1) "")

/-- A lamp column: sinks 4k to 4k + 3. -/
def lampColumn (row : Row) (k : Nat) : Option Signal :=
  match row with
  | .a => some (.pin "IL" (4 * k) "") | .b => some (.pin "IL" (4 * k + 1) "") | .e => some (.pin "IL" (4 * k + 2) "") | .f => some (.pin "IL" (4 * k + 3) "")
  | .j => some reserved | .k => some (.fixed "GND")
  | _ => some (.fixed "LGND")

/-- Columns 1 to 84 (R483): job store, camera ports, XY2-100 ports, axes, encoders and compare, analog, lamps. -/
def bpL (row : Row) (col : Nat) : Option Signal :=
  if col < 1 ∨ 84 < col then none
  else if col ≤ 24 then block "NF" 1 nfPattern row col
  else if col ≤ 36 then block "CAM" 25 camPattern row col
  else if col ≤ 52 then block "XY" 37 xyPattern row col
  else if col ≤ 60 then block "AX" 53 axPattern row col
  else if col ≤ 68 then encColumn row (col - 61)
  else if col ≤ 80 then analogColumn row (col - 69)
  else lampColumn row (col - 81)

/-! ### Mating, rating, and the state with the core rails off -/

/-- The mating level of a contact (R478). -/
def level : Signal → Nat
  | .fixed n =>
    if n = "CHASSIS" ∨ n = "PGND" ∨ n = "GND" ∨ n = "AGND" ∨ n = "LGND" then 1
    else if n = "48V_PRE" then 2 else if n = "48V" then 3 else if n = "PRSNT_N" then 5 else 4
  | .pin _ _ _ => 4

/-- The lead of a level over level 4 during insertion, in µm (R478). -/
def advance (l : Nat) : Int := if l = 1 then 2000 else if l = 2 then 1500 else if l = 3 then 1000 else if l = 5 then -500 else 0

/-- The rating of a BP-L contact in mA (R486). -/
def rating : Signal → Nat
  | .fixed n => if n = "LGND" then 1500 else 500
  | .pin g _ _ => if g = "IL" then 1500 else 500

/-- What an output does while the core rails are off (R487). -/
inductive Off where
  | transmitterOff | low | high | highZ | volts0 | off
  /-- An input. -/
  | input
deriving DecidableEq, Repr

/-- The state of a signal while the core rails are off (R487); ERR_N is held asserted in THERMAL_OFF (R437). -/
def offState : Signal → Off
  | .fixed n => if n = "ERR_N" then .highZ else if n = "REF_TUNE" then .volts0 else if n = "PRSNT_N" then .low else .input
  | .pin g _ n =>
    if g = "LANE" ∨ g = "PCIE" ∨ g = "ETH" then (if n = "TXP" ∨ n = "TXN" then .transmitterOff else .input)
    else if g = "NF" then (if n = "CE0_N" ∨ n = "CE1_N" ∨ n = "CE2_N" ∨ n = "CE3_N" then .high else if n = "WP_N" then .low else .highZ)
    else if g = "CAM" then (if n = "TRIG" ∨ n = "STROBE_SYNC" then .low else .input)
    else if g = "XY" then (if n = "STATUS_P" ∨ n = "STATUS_N" then .input else .highZ)
    else if g = "AX" then (if n = "STEP" ∨ n = "DIR" ∨ n = "EN" ∨ n = "SHORT" then .low else .input)
    else if g = "CMP" ∨ g = "GATE" ∨ g = "PWM" then .low
    else if g = "AOUT" then .volts0
    else if g = "IL" then .off
    else .input

end Sys2Proof.Machine.Contacts
end

