-- ==== Sys2Proof/Config.lean ====
section
/-!
DEFINITION. What one module fixes and the manual leaves to it: factory constants (log entry 3) and free values (log entry 7). None has a body:
nothing can compute with them, so a statement about them holds for every value.
-/
namespace Sys2Proof.Config

/-- The value the manual leaves open at the `n`-th place a run meets one (log entry 7). -/
opaque freeNat : Nat → Nat

/-- Byte `i` of the factory HW_REV string (R51). -/
opaque hwRev : Nat → BitVec 8

/-- Byte `i` of the factory SERIAL string (R51), and its length. -/
opaque serial : Nat → BitVec 8

/-- The length of the factory SERIAL string (R51). -/
opaque serialLen : Nat

/-- The MAC address of port `p` (R417). -/
opaque mac : Nat → Nat

/-- Byte `i` of the factory calibration values (R471, R473). -/
opaque calFactory : Nat → BitVec 8

/-- The nominal curve of the temperature sensors (R460): what a count stands for, in 1/16 °C. -/
opaque tNom : Nat → Rat

/-- The version of the image that runs before any other is stored (R51). -/
opaque fwVersion : Nat

/-- Byte `i` of that image (R52), and its length. -/
opaque fwByte : Nat → BitVec 8

/-- The length of that image (R52). -/
opaque fwLen : Nat

/-- Byte `i` of the recovery image (R500), which a read of DEV_FW.IMAGE returns while it runs (R52). -/
opaque recoveryByte : Nat → BitVec 8

/-- The length of the recovery image. -/
opaque recoveryLen : Nat

/-- Byte `i` of a checkpoint slot of the Ledger that holds an operating time, a power-cycle count and a SEQ: the manual gives no layout (R451). -/
opaque checkpointByte : Nat → Nat → Nat → Nat → BitVec 8

/-- Byte `i` of DATA of the CAP blocks the device sends on lane `m` (R259, R261): the manual gives the far end's values only. -/
opaque capByte : Nat → Nat → BitVec 8

/-- Byte `i` of DATA of the STEP blocks the device sends (R259): the manual gives none. -/
opaque stepByte : Nat → BitVec 8

/-- Whether the first marker a lane sends after it was enabled is 0x0F5A (R249): the manual says only that markers alternate. -/
opaque firstMarker : Nat → Bool

/-- Rows that a sensor has sent when its frame is cut at the `n`-th free value, pixels of row `y`, and pixel (x, y): they come from outside (R303). -/
opaque sensorRows : Nat → Nat

/-- Pixels that the sensor has sent of row `y`. -/
opaque sensorColumns : Nat → Nat → Nat

/-- Pixel `x` of row `y` as the sensor has sent it. -/
opaque sensorPixel : Nat → Nat → Nat → Nat

/-- Whether an overflow has lost pixel `x` of row `y` (R19, R303). -/
opaque sensorLost : Nat → Nat → Nat → Bool

/-- The length of a journal record by its type, and its CRC-32 by type, sequence number and subject: the manual gives no layout (R361). -/
opaque journalBytes : Nat → Nat

/-- The CRC-32 of a journal record. -/
opaque journalCrc : Nat → Nat → Nat → Nat

/-- Where the checkpoint with this number lies: the manual leaves the place to the device (R361). -/
opaque checkpointAt : Nat → Nat

/-- The place among the populated targets at which the slabs of an object begin: the manual gives only their rotation (R349). -/
opaque firstSlab : Nat → Nat

/-- The deviation of REFCLK in ppb that the module measures in second `n` of TICK (R510, R516): it comes from outside. -/
opaque refclkPpb : Nat → BitVec 32

end Sys2Proof.Config
end

