-- ==== Sys2Proof/Machine/DictNames.lean ====
section
/-!
DEFINITION. The names of the object dictionary: one index constant per record (the first index of a record repeated per unit) and one
subindex constant per entry (02_dictionary.md R34 and the record tables of the chapters).
-/
namespace Sys2Proof.Machine.D

/-- Record DEV_STATE (01_architecture.md R21). -/
abbrev iDEV_STATE : Nat := 0x1010
/-- Record DEV_DET (01_architecture.md R30). -/
abbrev iDEV_DET : Nat := 0x1018
/-- Record DEV_IDENT (02_dictionary.md R51). -/
abbrev iDEV_IDENT : Nat := 0x1000
/-- Record DEV_FW (02_dictionary.md R52). -/
abbrev iDEV_FW : Nat := 0x1002
/-- Record DEV_CFG (02_dictionary.md R53). -/
abbrev iDEV_CFG : Nat := 0x1005
/-- Record TXN_CTRL (02_dictionary.md R54). -/
abbrev iTXN_CTRL : Nat := 0x1100
/-- Record TXN_PENDING (02_dictionary.md R65). -/
abbrev iTXN_PENDING : Nat := 0x1108
/-- Record TXN_PATH (02_dictionary.md R66). -/
abbrev iTXN_PATH : Nat := 0x1110
/-- Record TXN_STATS (02_dictionary.md R67). -/
abbrev iTXN_STATS : Nat := 0x1120
/-- Record PS (03_job_model.md R91). -/
abbrev iPS : Nat := 0x2900
/-- Record CTX (04_stream_contexts.md R99). -/
abbrev iCTX : Nat := 0x2000
/-- Record CAT_CTRL (05_catalogue_sequencer.md R140). -/
abbrev iCAT_CTRL : Nat := 0x2300
/-- Record CAT_STATUS (05_catalogue_sequencer.md R141). -/
abbrev iCAT_STATUS : Nat := 0x2301
/-- Record CHS (05_catalogue_sequencer.md R142). -/
abbrev iCHS : Nat := 0x2200
/-- Record TRJ (06_trajectory_correction.md R169). -/
abbrev iTRJ : Nat := 0x2400
/-- Record COR (06_trajectory_correction.md R170). -/
abbrev iCOR : Nat := 0x2500
/-- Record LND (07_lending_overlap.md R198). -/
abbrev iLND : Nat := 0x2600
/-- Record LNDC (07_lending_overlap.md R199). -/
abbrev iLNDC : Nat := 0x2610
/-- Record PLM (07_lending_overlap.md R200). -/
abbrev iPLM : Nat := 0x2640
/-- Record MPL (08_meltpool_loop.md R220). -/
abbrev iMPL : Nat := 0x2700
/-- Record MPLC (08_meltpool_loop.md R221). -/
abbrev iMPLC : Nat := 0x2720
/-- Record GRD_CFG (09_thermal_grid.md R241). -/
abbrev iGRD_CFG : Nat := 0x2800
/-- Record GRD_SWEEP (09_thermal_grid.md R242). -/
abbrev iGRD_SWEEP : Nat := 0x2810
/-- Record GRD_CURVE (09_thermal_grid.md R243). -/
abbrev iGRD_CURVE : Nat := 0x2820
/-- Record GRD_MODEL (09_thermal_grid.md R244). -/
abbrev iGRD_MODEL : Nat := 0x2860
/-- Record LNK (10_akzi_lanes.md R269). -/
abbrev iLNK : Nat := 0x3000
/-- Record HDP (11_head_source_protocols.md R295). -/
abbrev iHDP : Nat := 0x3100
/-- Record SRC (11_head_source_protocols.md R296). -/
abbrev iSRC : Nat := 0x3120
/-- Record XY (11_head_source_protocols.md R297). -/
abbrev iXY : Nat := 0x3140
/-- Record AIO (11_head_source_protocols.md R298). -/
abbrev iAIO : Nat := 0x3150
/-- Record CAM (12_reading_room_imaging.md R317). -/
abbrev iCAM : Nat := 0x3200
/-- Record IMG (12_reading_room_imaging.md R318). -/
abbrev iIMG : Nat := 0x3210
/-- Record MPF (12_reading_room_imaging.md R319). -/
abbrev iMPF : Nat := 0x3220
/-- Record ILM (13_illumination.md R330). -/
abbrev iILM : Nat := 0x3300
/-- Record ILMG (13_illumination.md R331). -/
abbrev iILMG : Nat := 0x3310
/-- Record FOL (14_folio_codec.md R344). -/
abbrev iFOL : Nat := 0x3400
/-- Record FOLJ (14_folio_codec.md R345). -/
abbrev iFOLJ : Nat := 0x3410
/-- Record STK_CTRL (15_stacks_job_store.md R365). -/
abbrev iSTK_CTRL : Nat := 0x3500
/-- Record STK_STATUS (15_stacks_job_store.md R366). -/
abbrev iSTK_STATUS : Nat := 0x3501
/-- Record STK_OBJ (15_stacks_job_store.md R367). -/
abbrev iSTK_OBJ : Nat := 0x3502
/-- Record STK_STAGE (15_stacks_job_store.md R368). -/
abbrev iSTK_STAGE : Nat := 0x3504
/-- Record STK_NF (15_stacks_job_store.md R369). -/
abbrev iSTK_NF : Nat := 0x3508
/-- Record AX (16_machine_axes.md R399). -/
abbrev iAX : Nat := 0x3600
/-- Record ENC (16_machine_axes.md R401). -/
abbrev iENC : Nat := 0x3610
/-- Record CMP (16_machine_axes.md R402). -/
abbrev iCMP : Nat := 0x3630
/-- Record NET_PORT (17_network_time.md R416). -/
abbrev iNET_PORT : Nat := 0x3700
/-- Record NET_CLK (17_network_time.md R417). -/
abbrev iNET_CLK : Nat := 0x3702
/-- Record NET_TSYNC (17_network_time.md R418). -/
abbrev iNET_TSYNC : Nat := 0x3703
/-- Record NET_TX (17_network_time.md R419). -/
abbrev iNET_TX : Nat := 0x3708
/-- Record NET_RX (17_network_time.md R420). -/
abbrev iNET_RX : Nat := 0x3709
/-- Record FLT_CTRL (18_faults.md R439). -/
abbrev iFLT_CTRL : Nat := 0x4000
/-- Record FLT_FIRST (18_faults.md R440). -/
abbrev iFLT_FIRST : Nat := 0x4001
/-- Record FLT_PIN (18_faults.md R441). -/
abbrev iFLT_PIN : Nat := 0x4002
/-- Record FLT_SRC (18_faults.md R442). -/
abbrev iFLT_SRC : Nat := 0x4010
/-- Record LDG_CTRL (19_ledger.md R456). -/
abbrev iLDG_CTRL : Nat := 0x4100
/-- Record LDG_STATUS (19_ledger.md R457). -/
abbrev iLDG_STATUS : Nat := 0x4101
/-- Record TMP (20_temperature_calibration.md R472). -/
abbrev iTMP : Nat := 0x3800
/-- Record CAL (20_temperature_calibration.md R473). -/
abbrev iCAL : Nat := 0x3900
/-- Record PWR_STATUS (22_power_hotplug_startup.md R507). -/
abbrev iPWR_STATUS : Nat := 0x1300
/-- Record PWR_START (22_power_hotplug_startup.md R508). -/
abbrev iPWR_START : Nat := 0x1301
/-- Record PWR_CFG (22_power_hotplug_startup.md R509). -/
abbrev iPWR_CFG : Nat := 0x1302
/-- Record CLK_STATUS (22_power_hotplug_startup.md R510). -/
abbrev iCLK_STATUS : Nat := 0x1200
/-- Record TXN_TIMEOUT (02_dictionary.md R32). -/
abbrev iTXN_TIMEOUT : Nat := 0x1101
/-- Record REG (06_trajectory_correction.md R171). -/
abbrev iREG : Nat := 0x2520
/-- Record GEAR (16_machine_axes.md R400). -/
abbrev iGEAR : Nat := 0x3620
/-- Record LDG_SNAP_SEL (19_ledger.md R458). -/
abbrev iLDG_SNAP_SEL : Nat := 0x4102
/-- DEV_STATE_STATE (R21). -/
abbrev DEV_STATE_STATE : Nat := 0x1
/-- DEV_STATE_PREV_STATE (R21). -/
abbrev DEV_STATE_PREV_STATE : Nat := 0x2
/-- DEV_STATE_CMD (R21). -/
abbrev DEV_STATE_CMD : Nat := 0x3
/-- DEV_STATE_LAST_REASON (R21). -/
abbrev DEV_STATE_LAST_REASON : Nat := 0x4
/-- DEV_STATE_LAST_REFUSED (R21). -/
abbrev DEV_STATE_LAST_REFUSED : Nat := 0x5
/-- DEV_STATE_TICK (R21). -/
abbrev DEV_STATE_TICK : Nat := 0x6
/-- DEV_STATE_BTICK (R21). -/
abbrev DEV_STATE_BTICK : Nat := 0x7
/-- DEV_DET_LAYER (R30). -/
abbrev DEV_DET_LAYER : Nat := 0x1
/-- DEV_DET_IN_ENVELOPE (R30). -/
abbrev DEV_DET_IN_ENVELOPE : Nat := 0x2
/-- DEV_DET_BREAK (R30). -/
abbrev DEV_DET_BREAK : Nat := 0x3
/-- DEV_DET_FIRST_BREAK_BTICK (R30). -/
abbrev DEV_DET_FIRST_BREAK_BTICK : Nat := 0x4
/-- DEV_DET_OUT_DIGEST (R30). -/
abbrev DEV_DET_OUT_DIGEST : Nat := 0x5
/-- DEV_DET_GRID_DIGEST (R30). -/
abbrev DEV_DET_GRID_DIGEST : Nat := 0x6
/-- DEV_DET_LIVE_BREAK (R30). -/
abbrev DEV_DET_LIVE_BREAK : Nat := 0x7
/-- DEV_IDENT_VENDOR_ID (R51). -/
abbrev DEV_IDENT_VENDOR_ID : Nat := 0x1
/-- DEV_IDENT_PRODUCT_CODE (R51). -/
abbrev DEV_IDENT_PRODUCT_CODE : Nat := 0x2
/-- DEV_IDENT_HW_REV (R51). -/
abbrev DEV_IDENT_HW_REV : Nat := 0x3
/-- DEV_IDENT_SERIAL (R51). -/
abbrev DEV_IDENT_SERIAL : Nat := 0x4
/-- DEV_IDENT_FW_VERSION (R51). -/
abbrev DEV_IDENT_FW_VERSION : Nat := 0x5
/-- DEV_IDENT_DICT_VERSION (R51). -/
abbrev DEV_IDENT_DICT_VERSION : Nat := 0x6
/-- DEV_IDENT_NAME (R51). -/
abbrev DEV_IDENT_NAME : Nat := 0x7
/-- DEV_FW_IMAGE (R52). -/
abbrev DEV_FW_IMAGE : Nat := 0x1
/-- DEV_FW_STATUS (R52). -/
abbrev DEV_FW_STATUS : Nat := 0x2
/-- DEV_CFG_CMD (R53). -/
abbrev DEV_CFG_CMD : Nat := 0x1
/-- DEV_CFG_SAVED_CRC (R53). -/
abbrev DEV_CFG_SAVED_CRC : Nat := 0x2
/-- DEV_CFG_SAVE_COUNT (R53). -/
abbrev DEV_CFG_SAVE_COUNT : Nat := 0x3
/-- DEV_CFG_RESULT (R53). -/
abbrev DEV_CFG_RESULT : Nat := 0x4
/-- TXN_CTRL_CMD (R54). -/
abbrev TXN_CTRL_CMD : Nat := 0x1
/-- TXN_CTRL_STATE (R54). -/
abbrev TXN_CTRL_STATE : Nat := 0x2
/-- TXN_CTRL_COUNT (R54). -/
abbrev TXN_CTRL_COUNT : Nat := 0x3
/-- TXN_CTRL_TXN_ID (R54). -/
abbrev TXN_CTRL_TXN_ID : Nat := 0x4
/-- TXN_CTRL_LAST_RESULT (R54). -/
abbrev TXN_CTRL_LAST_RESULT : Nat := 0x5
/-- TXN_CTRL_PATH (R54). -/
abbrev TXN_CTRL_PATH : Nat := 0x6
/-- TXN_PENDING_COUNT (R65). -/
abbrev TXN_PENDING_COUNT : Nat := 0x1
/-- TXN_PENDING_OLDEST_ID (R65). -/
abbrev TXN_PENDING_OLDEST_ID : Nat := 0x2
/-- TXN_PENDING_LAST_APPLIED_ID (R65). -/
abbrev TXN_PENDING_LAST_APPLIED_ID : Nat := 0x3
/-- TXN_PENDING_LAST_APPLY_BTICK (R65). -/
abbrev TXN_PENDING_LAST_APPLY_BTICK : Nat := 0x4
/-- TXN_PENDING_LAST_APPLY_POINT (R65). -/
abbrev TXN_PENDING_LAST_APPLY_POINT : Nat := 0x5
/-- TXN_PATH_STATE (R66). -/
abbrev TXN_PATH_STATE : Nat := 0x1
/-- TXN_PATH_TXN_ID (R66). -/
abbrev TXN_PATH_TXN_ID : Nat := 0x2
/-- TXN_PATH_COUNT (R66). -/
abbrev TXN_PATH_COUNT : Nat := 0x3
/-- TXN_PATH_IDLE_MS (R66). -/
abbrev TXN_PATH_IDLE_MS : Nat := 0x4
/-- TXN_PATH_REMOTE_IP (R66). -/
abbrev TXN_PATH_REMOTE_IP : Nat := 0x5
/-- TXN_PATH_REMOTE_PORT (R66). -/
abbrev TXN_PATH_REMOTE_PORT : Nat := 0x6
/-- TXN_PATH_TIMEOUTS (R66). -/
abbrev TXN_PATH_TIMEOUTS : Nat := 0x7
/-- TXN_STATS_CONFLICTS (R67). -/
abbrev TXN_STATS_CONFLICTS : Nat := 0x1
/-- TXN_STATS_ROLLBACKS (R67). -/
abbrev TXN_STATS_ROLLBACKS : Nat := 0x2
/-- TXN_STATS_BAD_FRAMES (R67). -/
abbrev TXN_STATS_BAD_FRAMES : Nat := 0x3
/-- TXN_STATS_RETRIES (R67). -/
abbrev TXN_STATS_RETRIES : Nat := 0x4
/-- PS_MARK_SPEED (R91). -/
abbrev PS_MARK_SPEED : Nat := 0x1
/-- PS_JUMP_SPEED (R91). -/
abbrev PS_JUMP_SPEED : Nat := 0x2
/-- PS_MARK_ACCEL (R91). -/
abbrev PS_MARK_ACCEL : Nat := 0x3
/-- PS_JUMP_ACCEL (R91). -/
abbrev PS_JUMP_ACCEL : Nat := 0x4
/-- PS_LOOP_SETPOINT (R91). -/
abbrev PS_LOOP_SETPOINT : Nat := 0x5
/-- PS_P_MIN (R91). -/
abbrev PS_P_MIN : Nat := 0x6
/-- PS_P_MAX (R91). -/
abbrev PS_P_MAX : Nat := 0x7
/-- PS_ON_DELAY (R91). -/
abbrev PS_ON_DELAY : Nat := 0x8
/-- PS_OFF_DELAY (R91). -/
abbrev PS_OFF_DELAY : Nat := 0x9
/-- PS_MARK_DELAY (R91). -/
abbrev PS_MARK_DELAY : Nat := 0xa
/-- PS_JUMP_DELAY (R91). -/
abbrev PS_JUMP_DELAY : Nat := 0xb
/-- PS_CORNER_DELAY (R91). -/
abbrev PS_CORNER_DELAY : Nat := 0xc
/-- PS_FF_CURVE (R91). -/
abbrev PS_FF_CURVE : Nat := 0xd
/-- PS_MP_COEF (R91). -/
abbrev PS_MP_COEF : Nat := 0xe
/-- PS_MODEL (R91). -/
abbrev PS_MODEL : Nat := 0xf
/-- CTX_CTRL (R99). -/
abbrev CTX_CTRL : Nat := 0x1
/-- CTX_CMD (R99). -/
abbrev CTX_CMD : Nat := 0x2
/-- CTX_MEMBERS (R99). -/
abbrev CTX_MEMBERS : Nat := 0x3
/-- CTX_LIVE_MEMBERS (R99). -/
abbrev CTX_LIVE_MEMBERS : Nat := 0x4
/-- CTX_RING_SIZE (R99). -/
abbrev CTX_RING_SIZE : Nat := 0x5
/-- CTX_STATE (R99). -/
abbrev CTX_STATE : Nat := 0x6
/-- CTX_FLAGS (R99). -/
abbrev CTX_FLAGS : Nat := 0x7
/-- CTX_LIVE (R99). -/
abbrev CTX_LIVE : Nat := 0x8
/-- CTX_FREE (R99). -/
abbrev CTX_FREE : Nat := 0x9
/-- CTX_PROD_POS (R99). -/
abbrev CTX_PROD_POS : Nat := 0xa
/-- CTX_WP (R99). -/
abbrev CTX_WP : Nat := 0xb
/-- CTX_VP (R99). -/
abbrev CTX_VP : Nat := 0xc
/-- CTX_RP (R99). -/
abbrev CTX_RP : Nat := 0xd
/-- CTX_RM (R99). -/
abbrev CTX_RM : Nat := 0xe
/-- CTX_ITEMS_IN (R99). -/
abbrev CTX_ITEMS_IN : Nat := 0xf
/-- CTX_ITEMS_OUT (R99). -/
abbrev CTX_ITEMS_OUT : Nat := 0x10
/-- CTX_ITEMS_WD (R99). -/
abbrev CTX_ITEMS_WD : Nat := 0x11
/-- CTX_NOTICE_COALESCE (R99). -/
abbrev CTX_NOTICE_COALESCE : Nat := 0x12
/-- CTX_DMA_RING (R99). -/
abbrev CTX_DMA_RING : Nat := 0x13
/-- CTX_DMA_ENTRIES (R99). -/
abbrev CTX_DMA_ENTRIES : Nat := 0x14
/-- CTX_DMA_HEAD (R99). -/
abbrev CTX_DMA_HEAD : Nat := 0x15
/-- CTX_UNDERRUNS (R99). -/
abbrev CTX_UNDERRUNS : Nat := 0x16
/-- CTX_DROPPED (R99). -/
abbrev CTX_DROPPED : Nat := 0x17
/-- CTX_STAGED_LAYER (R99). -/
abbrev CTX_STAGED_LAYER : Nat := 0x18
/-- CAT_CTRL_IMAGE (R140). -/
abbrev CAT_CTRL_IMAGE : Nat := 0x1
/-- CAT_CTRL_ENTRIES (R140). -/
abbrev CAT_CTRL_ENTRIES : Nat := 0x2
/-- CAT_CTRL_IMAGE_CRC (R140). -/
abbrev CAT_CTRL_IMAGE_CRC : Nat := 0x3
/-- CAT_CTRL_FIRST_LAYER (R140). -/
abbrev CAT_CTRL_FIRST_LAYER : Nat := 0x4
/-- CAT_CTRL_LAST_LAYER (R140). -/
abbrev CAT_CTRL_LAST_LAYER : Nat := 0x5
/-- CAT_CTRL_HOST_FLAGS (R140). -/
abbrev CAT_CTRL_HOST_FLAGS : Nat := 0x6
/-- CAT_STATUS_STATE (R141). -/
abbrev CAT_STATUS_STATE : Nat := 0x1
/-- CAT_STATUS_PC (R141). -/
abbrev CAT_STATUS_PC : Nat := 0x2
/-- CAT_STATUS_STEP_BTICK (R141). -/
abbrev CAT_STATUS_STEP_BTICK : Nat := 0x3
/-- CAT_STATUS_LAYER (R141). -/
abbrev CAT_STATUS_LAYER : Nat := 0x4
/-- CAT_STATUS_LAYER_OPEN (R141). -/
abbrev CAT_STATUS_LAYER_OPEN : Nat := 0x5
/-- CAT_STATUS_STARTED (R141). -/
abbrev CAT_STATUS_STARTED : Nat := 0x6
/-- CAT_STATUS_DONE (R141). -/
abbrev CAT_STATUS_DONE : Nat := 0x7
/-- CAT_STATUS_SKIPPED (R141). -/
abbrev CAT_STATUS_SKIPPED : Nat := 0x8
/-- CAT_STATUS_FLAGS (R141). -/
abbrev CAT_STATUS_FLAGS : Nat := 0x9
/-- CAT_STATUS_LOOPS (R141). -/
abbrev CAT_STATUS_LOOPS : Nat := 0xa
/-- CAT_STATUS_LAYERS_DONE (R141). -/
abbrev CAT_STATUS_LAYERS_DONE : Nat := 0xb
/-- CHS_ENABLE (R142). -/
abbrev CHS_ENABLE : Nat := 0x1
/-- CHS_STATE (R142). -/
abbrev CHS_STATE : Nat := 0x2
/-- CHS_LAYER (R142). -/
abbrev CHS_LAYER : Nat := 0x3
/-- CHS_START_BTICK (R142). -/
abbrev CHS_START_BTICK : Nat := 0x4
/-- CHS_END_BTICK (R142). -/
abbrev CHS_END_BTICK : Nat := 0x5
/-- CHS_LAYERS (R142). -/
abbrev CHS_LAYERS : Nat := 0x6
/-- CHS_MISMATCHES (R142). -/
abbrev CHS_MISMATCHES : Nat := 0x7
/-- TRJ_HEAD_HALF_XY (R169). -/
abbrev TRJ_HEAD_HALF_XY : Nat := 0x1
/-- TRJ_HEAD_HALF_Z (R169). -/
abbrev TRJ_HEAD_HALF_Z : Nat := 0x2
/-- TRJ_SPEED_LIMIT (R169). -/
abbrev TRJ_SPEED_LIMIT : Nat := 0x3
/-- TRJ_ACCEL_LIMIT (R169). -/
abbrev TRJ_ACCEL_LIMIT : Nat := 0x4
/-- TRJ_ON_DELAY (R169). -/
abbrev TRJ_ON_DELAY : Nat := 0x5
/-- TRJ_OFF_DELAY (R169). -/
abbrev TRJ_OFF_DELAY : Nat := 0x6
/-- TRJ_FE_LIMIT_MARK (R169). -/
abbrev TRJ_FE_LIMIT_MARK : Nat := 0x7
/-- TRJ_FE_LIMIT_JUMP (R169). -/
abbrev TRJ_FE_LIMIT_JUMP : Nat := 0x8
/-- TRJ_FE_COUNT (R169). -/
abbrev TRJ_FE_COUNT : Nat := 0x9
/-- TRJ_FE_LAG (R169). -/
abbrev TRJ_FE_LAG : Nat := 0xa
/-- TRJ_STATUS (R169). -/
abbrev TRJ_STATUS : Nat := 0xb
/-- TRJ_FLAGS (R169). -/
abbrev TRJ_FLAGS : Nat := 0xc
/-- TRJ_STOP_X (R169). -/
abbrev TRJ_STOP_X : Nat := 0xd
/-- TRJ_STOP_Y (R169). -/
abbrev TRJ_STOP_Y : Nat := 0xe
/-- TRJ_STOP_BTICK (R169). -/
abbrev TRJ_STOP_BTICK : Nat := 0xf
/-- TRJ_LATE_COUNT (R169). -/
abbrev TRJ_LATE_COUNT : Nat := 0x10
/-- TRJ_FE_MAX (R169). -/
abbrev TRJ_FE_MAX : Nat := 0x11
/-- TRJ_HEAD_TEMP (R169). -/
abbrev TRJ_HEAD_TEMP : Nat := 0x12
/-- COR_TABLE (R170). -/
abbrev COR_TABLE : Nat := 0x1
/-- COR_FIELD_HALF (R170). -/
abbrev COR_FIELD_HALF : Nat := 0x2
/-- COR_ENABLE (R170). -/
abbrev COR_ENABLE : Nat := 0x3
/-- COR_TABLE_CRC (R170). -/
abbrev COR_TABLE_CRC : Nat := 0x4
/-- COR_DRIFT_REF (R170). -/
abbrev COR_DRIFT_REF : Nat := 0x5
/-- COR_DRIFT_GAIN_X (R170). -/
abbrev COR_DRIFT_GAIN_X : Nat := 0x6
/-- COR_DRIFT_GAIN_Y (R170). -/
abbrev COR_DRIFT_GAIN_Y : Nat := 0x7
/-- COR_DRIFT_OFF_X (R170). -/
abbrev COR_DRIFT_OFF_X : Nat := 0x8
/-- COR_DRIFT_OFF_Y (R170). -/
abbrev COR_DRIFT_OFF_Y : Nat := 0x9
/-- COR_DRIFT_OFF_Z (R170). -/
abbrev COR_DRIFT_OFF_Z : Nat := 0xa
/-- COR_TABLE_LOADS (R170). -/
abbrev COR_TABLE_LOADS : Nat := 0xb
/-- LND_MODE (R198). -/
abbrev LND_MODE : Nat := 0x1
/-- LND_REACH_MARGIN (R198). -/
abbrev LND_REACH_MARGIN : Nat := 0x2
/-- LND_REACH (R198). -/
abbrev LND_REACH : Nat := 0x3
/-- LND_STATUS (R198). -/
abbrev LND_STATUS : Nat := 0x4
/-- LND_REPLANS (R198). -/
abbrev LND_REPLANS : Nat := 0x5
/-- LND_REPLAN_MAX (R198). -/
abbrev LND_REPLAN_MAX : Nat := 0x6
/-- LND_LOST_STRIPES (R198). -/
abbrev LND_LOST_STRIPES : Nat := 0x7
/-- LND_REPLAYS_OPEN (R198). -/
abbrev LND_REPLAYS_OPEN : Nat := 0x8
/-- LND_ROTATION (R198). -/
abbrev LND_ROTATION : Nat := 0x9
/-- LND_SHARE_WEIGHT (R198). -/
abbrev LND_SHARE_WEIGHT : Nat := 0x20
/-- LNDC_PRIV_WEIGHT (R199). -/
abbrev LNDC_PRIV_WEIGHT : Nat := 0x1
/-- LNDC_REACH_ENABLE (R199). -/
abbrev LNDC_REACH_ENABLE : Nat := 0x2
/-- LNDC_OVERLAP (R199). -/
abbrev LNDC_OVERLAP : Nat := 0x3
/-- LNDC_RANK (R199). -/
abbrev LNDC_RANK : Nat := 0x4
/-- LNDC_STRIPES (R199). -/
abbrev LNDC_STRIPES : Nat := 0x5
/-- LNDC_SHARED (R199). -/
abbrev LNDC_SHARED : Nat := 0x6
/-- LNDC_REPLAYS (R199). -/
abbrev LNDC_REPLAYS : Nat := 0x7
/-- LNDC_HOLDS (R199). -/
abbrev LNDC_HOLDS : Nat := 0x8
/-- LNDC_HOLD_TICKS (R199). -/
abbrev LNDC_HOLD_TICKS : Nat := 0x9
/-- LNDC_REMAIN (R199). -/
abbrev LNDC_REMAIN : Nat := 0xa
/-- LNDC_PACE (R199). -/
abbrev LNDC_PACE : Nat := 0xb
/-- LNDC_LAG (R199). -/
abbrev LNDC_LAG : Nat := 0xc
/-- LNDC_PARKED (R199). -/
abbrev LNDC_PARKED : Nat := 0xd
/-- LNDC_FREEZE_TICKS (R199). -/
abbrev LNDC_FREEZE_TICKS : Nat := 0xe
/-- PLM_ENABLE (R200). -/
abbrev PLM_ENABLE : Nat := 0x1
/-- PLM_KEEPOUT (R200). -/
abbrev PLM_KEEPOUT : Nat := 0x2
/-- PLM_FLOW_ANGLE (R200). -/
abbrev PLM_FLOW_ANGLE : Nat := 0x3
/-- PLM_CORR_LEN (R200). -/
abbrev PLM_CORR_LEN : Nat := 0x4
/-- PLM_CORR_WIDTH (R200). -/
abbrev PLM_CORR_WIDTH : Nat := 0x5
/-- PLM_HOLD_LIMIT (R200). -/
abbrev PLM_HOLD_LIMIT : Nat := 0x6
/-- PLM_HOLDS (R200). -/
abbrev PLM_HOLDS : Nat := 0x7
/-- PLM_HOLD_TICKS (R200). -/
abbrev PLM_HOLD_TICKS : Nat := 0x8
/-- PLM_LONG_HOLDS (R200). -/
abbrev PLM_LONG_HOLDS : Nat := 0x9
/-- PLM_FLOW_X (R200). -/
abbrev PLM_FLOW_X : Nat := 0xa
/-- PLM_FLOW_Y (R200). -/
abbrev PLM_FLOW_Y : Nat := 0xb
/-- MPL_CTRL (R220). -/
abbrev MPL_CTRL : Nat := 0x1
/-- MPL_CMD (R220). -/
abbrev MPL_CMD : Nat := 0x2
/-- MPL_SETTLE (R220). -/
abbrev MPL_SETTLE : Nat := 0x3
/-- MPL_STATE (R220). -/
abbrev MPL_STATE : Nat := 0x4
/-- MPL_FACTOR (R220). -/
abbrev MPL_FACTOR : Nat := 0x5
/-- MPL_INTEGRAL (R220). -/
abbrev MPL_INTEGRAL : Nat := 0x6
/-- MPL_AW (R220). -/
abbrev MPL_AW : Nat := 0x7
/-- MPL_COEF (R220). -/
abbrev MPL_COEF : Nat := 0x8
/-- MPL_LAST_MEAS (R220). -/
abbrev MPL_LAST_MEAS : Nat := 0x9
/-- MPL_LAST_ERR (R220). -/
abbrev MPL_LAST_ERR : Nat := 0xa
/-- MPL_LAST_EXPECT (R220). -/
abbrev MPL_LAST_EXPECT : Nat := 0xb
/-- MPL_MISSES (R220). -/
abbrev MPL_MISSES : Nat := 0xc
/-- MPL_MISS_RUN (R220). -/
abbrev MPL_MISS_RUN : Nat := 0xd
/-- MPL_IMPL_RUN (R220). -/
abbrev MPL_IMPL_RUN : Nat := 0xe
/-- MPL_FALLBACKS (R220). -/
abbrev MPL_FALLBACKS : Nat := 0xf
/-- MPL_ABOVE (R220). -/
abbrev MPL_ABOVE : Nat := 0x10
/-- MPL_BELOW (R220). -/
abbrev MPL_BELOW : Nat := 0x11
/-- MPL_SAT_TICKS (R220). -/
abbrev MPL_SAT_TICKS : Nat := 0x12
/-- MPL_PWR_CLAMPS (R220). -/
abbrev MPL_PWR_CLAMPS : Nat := 0x13
/-- MPL_FLAGS (R220). -/
abbrev MPL_FLAGS : Nat := 0x14
/-- MPLC_BAND (R221). -/
abbrev MPLC_BAND : Nat := 0x1
/-- MPLC_DELTA (R221). -/
abbrev MPLC_DELTA : Nat := 0x2
/-- MPLC_KI (R221). -/
abbrev MPLC_KI : Nat := 0x3
/-- MPLC_I_MAX (R221). -/
abbrev MPLC_I_MAX : Nat := 0x4
/-- MPLC_WINDOW (R221). -/
abbrev MPLC_WINDOW : Nat := 0x5
/-- MPLC_COUNT (R221). -/
abbrev MPLC_COUNT : Nat := 0x6
/-- MPLC_LATENCY (R221). -/
abbrev MPLC_LATENCY : Nat := 0x7
/-- GRD_CFG_CTRL (R241). -/
abbrev GRD_CFG_CTRL : Nat := 0x1
/-- GRD_CFG_CMD (R241). -/
abbrev GRD_CFG_CMD : Nat := 0x2
/-- GRD_CFG_SIZE_X (R241). -/
abbrev GRD_CFG_SIZE_X : Nat := 0x3
/-- GRD_CFG_SIZE_Y (R241). -/
abbrev GRD_CFG_SIZE_Y : Nat := 0x4
/-- GRD_CFG_PITCH (R241). -/
abbrev GRD_CFG_PITCH : Nat := 0x5
/-- GRD_CFG_ORIGIN_X (R241). -/
abbrev GRD_CFG_ORIGIN_X : Nat := 0x6
/-- GRD_CFG_ORIGIN_Y (R241). -/
abbrev GRD_CFG_ORIGIN_Y : Nat := 0x7
/-- GRD_CFG_T_AMB (R241). -/
abbrev GRD_CFG_T_AMB : Nat := 0x8
/-- GRD_CFG_EQ (R241). -/
abbrev GRD_CFG_EQ : Nat := 0x9
/-- GRD_CFG_SNAP_STATE (R241). -/
abbrev GRD_CFG_SNAP_STATE : Nat := 0xa
/-- GRD_CFG_SNAPSHOT (R241). -/
abbrev GRD_CFG_SNAPSHOT : Nat := 0xb
/-- GRD_CFG_SNAP_SWEEP (R241). -/
abbrev GRD_CFG_SNAP_SWEEP : Nat := 0xc
/-- GRD_CFG_SNAP_DIGEST (R241). -/
abbrev GRD_CFG_SNAP_DIGEST : Nat := 0xd
/-- GRD_CFG_DEP_OUTSIDE (R241). -/
abbrev GRD_CFG_DEP_OUTSIDE : Nat := 0xe
/-- GRD_CFG_PFS (R241). -/
abbrev GRD_CFG_PFS : Nat := 0xf
/-- GRD_SWEEP_PERIOD (R242). -/
abbrev GRD_SWEEP_PERIOD : Nat := 0x1
/-- GRD_SWEEP_DECAY (R242). -/
abbrev GRD_SWEEP_DECAY : Nat := 0x2
/-- GRD_SWEEP_DIFFUSE (R242). -/
abbrev GRD_SWEEP_DIFFUSE : Nat := 0x3
/-- GRD_SWEEP_GAIN (R242). -/
abbrev GRD_SWEEP_GAIN : Nat := 0x4
/-- GRD_SWEEP_STATE (R242). -/
abbrev GRD_SWEEP_STATE : Nat := 0x5
/-- GRD_SWEEP_SWEEP (R242). -/
abbrev GRD_SWEEP_SWEEP : Nat := 0x6
/-- GRD_SWEEP_SWEEP_START (R242). -/
abbrev GRD_SWEEP_SWEEP_START : Nat := 0x7
/-- GRD_SWEEP_PENDING (R242). -/
abbrev GRD_SWEEP_PENDING : Nat := 0x8
/-- GRD_SWEEP_E_TOTAL (R242). -/
abbrev GRD_SWEEP_E_TOTAL : Nat := 0x9
/-- GRD_SWEEP_T_MAX (R242). -/
abbrev GRD_SWEEP_T_MAX : Nat := 0xa
/-- GRD_SWEEP_MIN_SLACK (R242). -/
abbrev GRD_SWEEP_MIN_SLACK : Nat := 0xb
/-- GRD_SWEEP_LATE_SWEEPS (R242). -/
abbrev GRD_SWEEP_LATE_SWEEPS : Nat := 0xc
/-- GRD_SWEEP_LATE_TILES (R242). -/
abbrev GRD_SWEEP_LATE_TILES : Nat := 0xd
/-- GRD_SWEEP_DEP_LATE (R242). -/
abbrev GRD_SWEEP_DEP_LATE : Nat := 0xe
/-- GRD_SWEEP_DEP_SAT (R242). -/
abbrev GRD_SWEEP_DEP_SAT : Nat := 0xf
/-- GRD_SWEEP_TEMP_SAT (R242). -/
abbrev GRD_SWEEP_TEMP_SAT : Nat := 0x10
/-- GRD_CURVE_POINTS (R243). -/
abbrev GRD_CURVE_POINTS : Nat := 0x1
/-- GRD_CURVE_CRC (R243). -/
abbrev GRD_CURVE_CRC : Nat := 0x2
/-- GRD_MODEL_TABLE (R244). -/
abbrev GRD_MODEL_TABLE : Nat := 0x1
/-- GRD_MODEL_CRC (R244). -/
abbrev GRD_MODEL_CRC : Nat := 0x2
/-- LNK_CTRL (R269). -/
abbrev LNK_CTRL : Nat := 0x1
/-- LNK_CMD (R269). -/
abbrev LNK_CMD : Nat := 0x2
/-- LNK_STATE (R269). -/
abbrev LNK_STATE : Nat := 0x3
/-- LNK_RATE (R269). -/
abbrev LNK_RATE : Nat := 0x4
/-- LNK_CEILING (R269). -/
abbrev LNK_CEILING : Nat := 0x5
/-- LNK_PROTOCOL (R269). -/
abbrev LNK_PROTOCOL : Nat := 0x6
/-- LNK_REMOTE_CAP (R269). -/
abbrev LNK_REMOTE_CAP : Nat := 0x7
/-- LNK_REMOTE_ID (R269). -/
abbrev LNK_REMOTE_ID : Nat := 0x8
/-- LNK_TEST_MAX (R269). -/
abbrev LNK_TEST_MAX : Nat := 0x9
/-- LNK_TRAIN_TICKS (R269). -/
abbrev LNK_TRAIN_TICKS : Nat := 0xa
/-- LNK_GUARD (R269). -/
abbrev LNK_GUARD : Nat := 0xb
/-- LNK_REFRESH (R269). -/
abbrev LNK_REFRESH : Nat := 0xc
/-- LNK_EQ (R269). -/
abbrev LNK_EQ : Nat := 0xd
/-- LNK_EQ_TRAINED (R269). -/
abbrev LNK_EQ_TRAINED : Nat := 0xe
/-- LNK_LIVE (R269). -/
abbrev LNK_LIVE : Nat := 0xf
/-- LNK_BLOCK_ERRORS (R269). -/
abbrev LNK_BLOCK_ERRORS : Nat := 0x10
/-- LNK_LOSSES (R269). -/
abbrev LNK_LOSSES : Nat := 0x11
/-- LNK_STEP_FAILS (R269). -/
abbrev LNK_STEP_FAILS : Nat := 0x12
/-- LNK_RELEARNS (R269). -/
abbrev LNK_RELEARNS : Nat := 0x13
/-- LNK_FREEZES (R269). -/
abbrev LNK_FREEZES : Nat := 0x14
/-- LNK_UP_TICK (R269). -/
abbrev LNK_UP_TICK : Nat := 0x15
/-- LNK_FIFO_OVF (R269). -/
abbrev LNK_FIFO_OVF : Nat := 0x16
/-- HDP_D_H (R295). -/
abbrev HDP_D_H : Nat := 0x1
/-- HDP_FE_LAG (R295). -/
abbrev HDP_FE_LAG : Nat := 0x2
/-- HDP_LINK_DELAY (R295). -/
abbrev HDP_LINK_DELAY : Nat := 0x3
/-- HDP_STATUS (R295). -/
abbrev HDP_STATUS : Nat := 0x4
/-- HDP_HEAD_FAULT (R295). -/
abbrev HDP_HEAD_FAULT : Nat := 0x5
/-- HDP_FB_ABSENT (R295). -/
abbrev HDP_FB_ABSENT : Nat := 0x6
/-- HDP_HEAD_RX_MISS (R295). -/
abbrev HDP_HEAD_RX_MISS : Nat := 0x7
/-- HDP_TAG_DISCARDS (R295). -/
abbrev HDP_TAG_DISCARDS : Nat := 0x8
/-- HDP_TILES_OK (R295). -/
abbrev HDP_TILES_OK : Nat := 0x9
/-- HDP_TILES_BAD (R295). -/
abbrev HDP_TILES_BAD : Nat := 0xa
/-- SRC_ATTACH (R296). -/
abbrev SRC_ATTACH : Nat := 0x1
/-- SRC_CTRL (R296). -/
abbrev SRC_CTRL : Nat := 0x2
/-- SRC_LATENCY (R296). -/
abbrev SRC_LATENCY : Nat := 0x3
/-- SRC_EM_LAG (R296). -/
abbrev SRC_EM_LAG : Nat := 0x4
/-- SRC_EM_WINDOW (R296). -/
abbrev SRC_EM_WINDOW : Nat := 0x5
/-- SRC_EM_COUNT (R296). -/
abbrev SRC_EM_COUNT : Nat := 0x6
/-- SRC_STATUS (R296). -/
abbrev SRC_STATUS : Nat := 0x7
/-- SRC_EMISSION (R296). -/
abbrev SRC_EMISSION : Nat := 0x8
/-- SRC_SOURCE_FAULT (R296). -/
abbrev SRC_SOURCE_FAULT : Nat := 0x9
/-- SRC_SOURCE_TEMP (R296). -/
abbrev SRC_SOURCE_TEMP : Nat := 0xa
/-- SRC_LINK_DELAY (R296). -/
abbrev SRC_LINK_DELAY : Nat := 0xb
/-- SRC_OVERRIDES (R296). -/
abbrev SRC_OVERRIDES : Nat := 0xc
/-- SRC_SRC_RX_MISS (R296). -/
abbrev SRC_SRC_RX_MISS : Nat := 0xd
/-- SRC_HB_LOSSES (R296). -/
abbrev SRC_HB_LOSSES : Nat := 0xe
/-- XY_SELECT (R297). -/
abbrev XY_SELECT : Nat := 0x1
/-- XY_STATUS_MASK (R297). -/
abbrev XY_STATUS_MASK : Nat := 0x2
/-- XY_STATUS_OK (R297). -/
abbrev XY_STATUS_OK : Nat := 0x3
/-- XY_STATUS_COUNT (R297). -/
abbrev XY_STATUS_COUNT : Nat := 0x4
/-- XY_STATUS_WORD (R297). -/
abbrev XY_STATUS_WORD : Nat := 0x5
/-- XY_BAD_FRAMES (R297). -/
abbrev XY_BAD_FRAMES : Nat := 0x6
/-- XY_FRAMES (R297). -/
abbrev XY_FRAMES : Nat := 0x7
/-- AIO_CTRL (R298). -/
abbrev AIO_CTRL : Nat := 0x1
/-- AIO_AIN_SEL (R298). -/
abbrev AIO_AIN_SEL : Nat := 0x2
/-- AIO_AOUT_ZERO (R298). -/
abbrev AIO_AOUT_ZERO : Nat := 0x3
/-- AIO_AOUT_FS (R298). -/
abbrev AIO_AOUT_FS : Nat := 0x4
/-- AIO_PWM_PERIOD (R298). -/
abbrev AIO_PWM_PERIOD : Nat := 0x5
/-- AIO_AIN_VALUE (R298). -/
abbrev AIO_AIN_VALUE : Nat := 0x6
/-- AIO_AOUT_CODE (R298). -/
abbrev AIO_AOUT_CODE : Nat := 0x7
/-- AIO_AIN_FULL (R298). -/
abbrev AIO_AIN_FULL : Nat := 0x8
/-- CAM_CTRL (R317). -/
abbrev CAM_CTRL : Nat := 0x1
/-- CAM_WIDTH (R317). -/
abbrev CAM_WIDTH : Nat := 0x2
/-- CAM_HEIGHT (R317). -/
abbrev CAM_HEIGHT : Nat := 0x3
/-- CAM_TRIG_WIDTH (R317). -/
abbrev CAM_TRIG_WIDTH : Nat := 0x4
/-- CAM_TIMEOUT (R317). -/
abbrev CAM_TIMEOUT : Nat := 0x5
/-- CAM_BLACK (R317). -/
abbrev CAM_BLACK : Nat := 0x6
/-- CAM_DEFECT_MAP (R317). -/
abbrev CAM_DEFECT_MAP : Nat := 0x7
/-- CAM_SHADING (R317). -/
abbrev CAM_SHADING : Nat := 0x8
/-- CAM_HOMOGRAPHY (R317). -/
abbrev CAM_HOMOGRAPHY : Nat := 0x9
/-- CAM_STATE (R317). -/
abbrev CAM_STATE : Nat := 0xa
/-- CAM_FRAME_NO (R317). -/
abbrev CAM_FRAME_NO : Nat := 0xb
/-- CAM_LAST_FLAGS (R317). -/
abbrev CAM_LAST_FLAGS : Nat := 0xc
/-- CAM_RAW_FREE (R317). -/
abbrev CAM_RAW_FREE : Nat := 0xd
/-- CAM_FRAMES (R317). -/
abbrev CAM_FRAMES : Nat := 0xe
/-- CAM_SHORT (R317). -/
abbrev CAM_SHORT : Nat := 0xf
/-- CAM_LONG (R317). -/
abbrev CAM_LONG : Nat := 0x10
/-- CAM_TRUNCATED (R317). -/
abbrev CAM_TRUNCATED : Nat := 0x11
/-- CAM_STRAY (R317). -/
abbrev CAM_STRAY : Nat := 0x12
/-- CAM_FRAME (R317). -/
abbrev CAM_FRAME : Nat := 0x13
/-- CAM_LAST_CLOSE (R317). -/
abbrev CAM_LAST_CLOSE : Nat := 0x14
/-- IMG_INLINE (R318). -/
abbrev IMG_INLINE : Nat := 0x1
/-- IMG_RECTIFY (R318). -/
abbrev IMG_RECTIFY : Nat := 0x2
/-- IMG_OUT_W (R318). -/
abbrev IMG_OUT_W : Nat := 0x3
/-- IMG_OUT_H (R318). -/
abbrev IMG_OUT_H : Nat := 0x4
/-- IMG_PITCH (R318). -/
abbrev IMG_PITCH : Nat := 0x5
/-- IMG_ORIGIN_X (R318). -/
abbrev IMG_ORIGIN_X : Nat := 0x6
/-- IMG_ORIGIN_Y (R318). -/
abbrev IMG_ORIGIN_Y : Nat := 0x7
/-- IMG_BACKLOG (R318). -/
abbrev IMG_BACKLOG : Nat := 0x8
/-- IMG_SUSPENDS (R318). -/
abbrev IMG_SUSPENDS : Nat := 0x9
/-- IMG_RAW_FULLS (R318). -/
abbrev IMG_RAW_FULLS : Nat := 0xa
/-- MPF_CTRL (R319). -/
abbrev MPF_CTRL : Nat := 0x1
/-- MPF_PERIOD (R319). -/
abbrev MPF_PERIOD : Nat := 0x2
/-- MPF_PHASE (R319). -/
abbrev MPF_PHASE : Nat := 0x3
/-- MPF_EXP (R319). -/
abbrev MPF_EXP : Nat := 0x4
/-- MPF_DELAY (R319). -/
abbrev MPF_DELAY : Nat := 0x5
/-- MPF_THRESH (R319). -/
abbrev MPF_THRESH : Nat := 0x6
/-- MPF_LAST_TAG (R319). -/
abbrev MPF_LAST_TAG : Nat := 0x7
/-- MPF_AREA (R319). -/
abbrev MPF_AREA : Nat := 0x8
/-- MPF_LENGTH (R319). -/
abbrev MPF_LENGTH : Nat := 0x9
/-- MPF_WIDTH (R319). -/
abbrev MPF_WIDTH : Nat := 0xa
/-- MPF_PEAK (R319). -/
abbrev MPF_PEAK : Nat := 0xb
/-- MPF_CENTROID (R319). -/
abbrev MPF_CENTROID : Nat := 0xc
/-- MPF_VALID (R319). -/
abbrev MPF_VALID : Nat := 0xd
/-- MPF_INVALID (R319). -/
abbrev MPF_INVALID : Nat := 0xe
/-- MPF_STRAY (R319). -/
abbrev MPF_STRAY : Nat := 0xf
/-- MPF_LOG (R319). -/
abbrev MPF_LOG : Nat := 0x10
/-- MPF_LOG_POS (R319). -/
abbrev MPF_LOG_POS : Nat := 0x11
/-- ILM_ENABLE (R330). -/
abbrev ILM_ENABLE : Nat := 0x1
/-- ILM_SET (R330). -/
abbrev ILM_SET : Nat := 0x2
/-- ILM_PULSE (R330). -/
abbrev ILM_PULSE : Nat := 0x3
/-- ILM_TRIM (R330). -/
abbrev ILM_TRIM : Nat := 0x4
/-- ILM_COLOUR_X (R330). -/
abbrev ILM_COLOUR_X : Nat := 0x5
/-- ILM_COLOUR_Y (R330). -/
abbrev ILM_COLOUR_Y : Nat := 0x6
/-- ILM_BIN (R330). -/
abbrev ILM_BIN : Nat := 0x7
/-- ILM_STATE (R330). -/
abbrev ILM_STATE : Nat := 0x8
/-- ILM_I_CODE (R330). -/
abbrev ILM_I_CODE : Nat := 0x9
/-- ILM_V_SINK (R330). -/
abbrev ILM_V_SINK : Nat := 0xa
/-- ILM_ARMED (R330). -/
abbrev ILM_ARMED : Nat := 0xb
/-- ILM_PULSES (R330). -/
abbrev ILM_PULSES : Nat := 0xc
/-- ILM_PROBES (R330). -/
abbrev ILM_PROBES : Nat := 0xd
/-- ILM_SKIPPED (R330). -/
abbrev ILM_SKIPPED : Nat := 0xe
/-- ILMG_DIMMER (R331). -/
abbrev ILMG_DIMMER : Nat := 0x1
/-- ILMG_CMD (R331). -/
abbrev ILMG_CMD : Nat := 0x2
/-- ILMG_PROBE_EVERY (R331). -/
abbrev ILMG_PROBE_EVERY : Nat := 0x3
/-- ILMG_V_SHORT (R331). -/
abbrev ILMG_V_SHORT : Nat := 0x4
/-- ILMG_P_AVG_LIMIT (R331). -/
abbrev ILMG_P_AVG_LIMIT : Nat := 0x5
/-- ILMG_COLOUR_TOL (R331). -/
abbrev ILMG_COLOUR_TOL : Nat := 0x6
/-- ILMG_APPLY_PENDING (R331). -/
abbrev ILMG_APPLY_PENDING : Nat := 0x7
/-- ILMG_WINDOW_ENERGY (R331). -/
abbrev ILMG_WINDOW_ENERGY : Nat := 0x8
/-- ILMG_LIMITED (R331). -/
abbrev ILMG_LIMITED : Nat := 0x9
/-- FOL_ENABLE (R344). -/
abbrev FOL_ENABLE : Nat := 0x1
/-- FOL_WAIT (R344). -/
abbrev FOL_WAIT : Nat := 0x2
/-- FOL_EXPAND_MAX (R344). -/
abbrev FOL_EXPAND_MAX : Nat := 0x3
/-- FOL_BUF_SIZE (R344). -/
abbrev FOL_BUF_SIZE : Nat := 0x4
/-- FOL_BUF_COUNT (R344). -/
abbrev FOL_BUF_COUNT : Nat := 0x5
/-- FOL_BUF_FREE (R344). -/
abbrev FOL_BUF_FREE : Nat := 0x6
/-- FOL_STATE (R344). -/
abbrev FOL_STATE : Nat := 0x7
/-- FOL_QUEUE (R344). -/
abbrev FOL_QUEUE : Nat := 0x8
/-- FOL_JOBS (R344). -/
abbrev FOL_JOBS : Nat := 0x9
/-- FOL_TRUNCATIONS (R344). -/
abbrev FOL_TRUNCATIONS : Nat := 0xa
/-- FOL_WAITS (R344). -/
abbrev FOL_WAITS : Nat := 0xb
/-- FOL_SUSPENDS (R344). -/
abbrev FOL_SUSPENDS : Nat := 0xc
/-- FOL_BYTES_IN (R344). -/
abbrev FOL_BYTES_IN : Nat := 0xd
/-- FOL_BYTES_OUT (R344). -/
abbrev FOL_BYTES_OUT : Nat := 0xe
/-- FOLJ_CMD (R345). -/
abbrev FOLJ_CMD : Nat := 0x1
/-- FOLJ_OP (R345). -/
abbrev FOLJ_OP : Nat := 0x2
/-- FOLJ_BITS (R345). -/
abbrev FOLJ_BITS : Nat := 0x3
/-- FOLJ_WIDTH (R345). -/
abbrev FOLJ_WIDTH : Nat := 0x4
/-- FOLJ_HEIGHT (R345). -/
abbrev FOLJ_HEIGHT : Nat := 0x5
/-- FOLJ_INPUT (R345). -/
abbrev FOLJ_INPUT : Nat := 0x6
/-- FOLJ_OUTPUT (R345). -/
abbrev FOLJ_OUTPUT : Nat := 0x7
/-- FOLJ_OUT_LIMIT (R345). -/
abbrev FOLJ_OUT_LIMIT : Nat := 0x8
/-- FOLJ_STATE (R345). -/
abbrev FOLJ_STATE : Nat := 0x9
/-- FOLJ_RESULT (R345). -/
abbrev FOLJ_RESULT : Nat := 0xa
/-- FOLJ_ROWS (R345). -/
abbrev FOLJ_ROWS : Nat := 0xb
/-- FOLJ_IN_BYTES (R345). -/
abbrev FOLJ_IN_BYTES : Nat := 0xc
/-- FOLJ_OUT_BYTES (R345). -/
abbrev FOLJ_OUT_BYTES : Nat := 0xd
/-- STK_CTRL_CMD (R365). -/
abbrev STK_CTRL_CMD : Nat := 0x1
/-- STK_CTRL_JOB (R365). -/
abbrev STK_CTRL_JOB : Nat := 0x2
/-- STK_CTRL_AHEAD (R365). -/
abbrev STK_CTRL_AHEAD : Nat := 0x3
/-- STK_CTRL_BG_BUDGET (R365). -/
abbrev STK_CTRL_BG_BUDGET : Nat := 0x4
/-- STK_CTRL_RESUME_GAP (R365). -/
abbrev STK_CTRL_RESUME_GAP : Nat := 0x5
/-- STK_CTRL_RETENTION_HOURS (R365). -/
abbrev STK_CTRL_RETENTION_HOURS : Nat := 0x6
/-- STK_CTRL_RD_LIMIT (R365). -/
abbrev STK_CTRL_RD_LIMIT : Nat := 0x7
/-- STK_CTRL_CAL_DELTA_T (R365). -/
abbrev STK_CTRL_CAL_DELTA_T : Nat := 0x8
/-- STK_CTRL_MOUNT_AT_START (R365). -/
abbrev STK_CTRL_MOUNT_AT_START : Nat := 0x9
/-- STK_STATUS_STATE (R366). -/
abbrev STK_STATUS_STATE : Nat := 0x1
/-- STK_STATUS_STORE_ID (R366). -/
abbrev STK_STATUS_STORE_ID : Nat := 0x2
/-- STK_STATUS_RAW_BYTES (R366). -/
abbrev STK_STATUS_RAW_BYTES : Nat := 0x3
/-- STK_STATUS_USABLE_BYTES (R366). -/
abbrev STK_STATUS_USABLE_BYTES : Nat := 0x4
/-- STK_STATUS_USED_BYTES (R366). -/
abbrev STK_STATUS_USED_BYTES : Nat := 0x5
/-- STK_STATUS_OBJECTS (R366). -/
abbrev STK_STATUS_OBJECTS : Nat := 0x6
/-- STK_STATUS_SPARE_PERMILLE (R366). -/
abbrev STK_STATUS_SPARE_PERMILLE : Nat := 0x7
/-- STK_STATUS_LIFE_USED (R366). -/
abbrev STK_STATUS_LIFE_USED : Nat := 0x8
/-- STK_STATUS_MOUNT_MS (R366). -/
abbrev STK_STATUS_MOUNT_MS : Nat := 0x9
/-- STK_STATUS_DISCARDED (R366). -/
abbrev STK_STATUS_DISCARDED : Nat := 0xa
/-- STK_STATUS_DIR (R366). -/
abbrev STK_STATUS_DIR : Nat := 0xb
/-- STK_OBJ_KIND (R367). -/
abbrev STK_OBJ_KIND : Nat := 0x1
/-- STK_OBJ_JOB (R367). -/
abbrev STK_OBJ_JOB : Nat := 0x2
/-- STK_OBJ_LAYER (R367). -/
abbrev STK_OBJ_LAYER : Nat := 0x3
/-- STK_OBJ_UNIT (R367). -/
abbrev STK_OBJ_UNIT : Nat := 0x4
/-- STK_OBJ_SEQ (R367). -/
abbrev STK_OBJ_SEQ : Nat := 0x5
/-- STK_OBJ_DATA (R367). -/
abbrev STK_OBJ_DATA : Nat := 0x6
/-- STK_OBJ_FOUND (R367). -/
abbrev STK_OBJ_FOUND : Nat := 0x7
/-- STK_OBJ_LENGTH (R367). -/
abbrev STK_OBJ_LENGTH : Nat := 0x8
/-- STK_OBJ_CRC (R367). -/
abbrev STK_OBJ_CRC : Nat := 0x9
/-- STK_OBJ_ID (R367). -/
abbrev STK_OBJ_ID : Nat := 0xa
/-- STK_STAGE_STATE (R368). -/
abbrev STK_STAGE_STATE : Nat := 0x1
/-- STK_STAGE_WINDOW_LO (R368). -/
abbrev STK_STAGE_WINDOW_LO : Nat := 0x2
/-- STK_STAGE_WINDOW_HI (R368). -/
abbrev STK_STAGE_WINDOW_HI : Nat := 0x3
/-- STK_STAGE_BYTES_LEFT (R368). -/
abbrev STK_STAGE_BYTES_LEFT : Nat := 0x4
/-- STK_STAGE_RATE (R368). -/
abbrev STK_STAGE_RATE : Nat := 0x5
/-- STK_STAGE_LAYER_MS (R368). -/
abbrev STK_STAGE_LAYER_MS : Nat := 0x6
/-- STK_STAGE_WAITS (R368). -/
abbrev STK_STAGE_WAITS : Nat := 0x7
/-- STK_NF_TARGETS (R369). -/
abbrev STK_NF_TARGETS : Nat := 0x1
/-- STK_NF_PAGE_BYTES (R369). -/
abbrev STK_NF_PAGE_BYTES : Nat := 0x2
/-- STK_NF_PAGES (R369). -/
abbrev STK_NF_PAGES : Nat := 0x3
/-- STK_NF_BLOCKS (R369). -/
abbrev STK_NF_BLOCKS : Nat := 0x4
/-- STK_NF_GOOD (R369). -/
abbrev STK_NF_GOOD : Nat := 0x5
/-- STK_NF_BAD_FACTORY (R369). -/
abbrev STK_NF_BAD_FACTORY : Nat := 0x6
/-- STK_NF_BAD_GROWN (R369). -/
abbrev STK_NF_BAD_GROWN : Nat := 0x7
/-- STK_NF_ERASE_MAX (R369). -/
abbrev STK_NF_ERASE_MAX : Nat := 0x8
/-- STK_NF_ERASE_MEAN (R369). -/
abbrev STK_NF_ERASE_MEAN : Nat := 0x9
/-- STK_NF_CORRECTED (R369). -/
abbrev STK_NF_CORRECTED : Nat := 0xa
/-- STK_NF_RETRIES (R369). -/
abbrev STK_NF_RETRIES : Nat := 0xb
/-- STK_NF_UNCORR (R369). -/
abbrev STK_NF_UNCORR : Nat := 0xc
/-- STK_NF_TEMP (R369). -/
abbrev STK_NF_TEMP : Nat := 0xd
/-- STK_NF_MODE (R369). -/
abbrev STK_NF_MODE : Nat := 0xe
/-- AX_CTRL (R399). -/
abbrev AX_CTRL : Nat := 0x1
/-- AX_CMD (R399). -/
abbrev AX_CMD : Nat := 0x2
/-- AX_TARGET (R399). -/
abbrev AX_TARGET : Nat := 0x3
/-- AX_SPEED (R399). -/
abbrev AX_SPEED : Nat := 0x4
/-- AX_ACCEL (R399). -/
abbrev AX_ACCEL : Nat := 0x5
/-- AX_DECEL (R399). -/
abbrev AX_DECEL : Nat := 0x6
/-- AX_DECEL_MAX (R399). -/
abbrev AX_DECEL_MAX : Nat := 0x7
/-- AX_JOG_SPEED (R399). -/
abbrev AX_JOG_SPEED : Nat := 0x8
/-- AX_STEP_WIDTH (R399). -/
abbrev AX_STEP_WIDTH : Nat := 0x9
/-- AX_DIR_SETUP (R399). -/
abbrev AX_DIR_SETUP : Nat := 0xa
/-- AX_STANDSTILL_DELAY (R399). -/
abbrev AX_STANDSTILL_DELAY : Nat := 0xb
/-- AX_WAKE_DELAY (R399). -/
abbrev AX_WAKE_DELAY : Nat := 0xc
/-- AX_DEBOUNCE (R399). -/
abbrev AX_DEBOUNCE : Nat := 0xd
/-- AX_HOLDOFF (R399). -/
abbrev AX_HOLDOFF : Nat := 0xe
/-- AX_HOME_SPEED (R399). -/
abbrev AX_HOME_SPEED : Nat := 0xf
/-- AX_HOME_BACKOFF (R399). -/
abbrev AX_HOME_BACKOFF : Nat := 0x10
/-- AX_HOME_OFFSET (R399). -/
abbrev AX_HOME_OFFSET : Nat := 0x11
/-- AX_HOME_RANGE (R399). -/
abbrev AX_HOME_RANGE : Nat := 0x12
/-- AX_POSITION (R399). -/
abbrev AX_POSITION : Nat := 0x13
/-- AX_SPEED_NOW (R399). -/
abbrev AX_SPEED_NOW : Nat := 0x14
/-- AX_STATE (R399). -/
abbrev AX_STATE : Nat := 0x15
/-- AX_FLAGS (R399). -/
abbrev AX_FLAGS : Nat := 0x16
/-- AX_LIVE (R399). -/
abbrev AX_LIVE : Nat := 0x17
/-- AX_CHATTER (R399). -/
abbrev AX_CHATTER : Nat := 0x18
/-- AX_MOVES (R399). -/
abbrev AX_MOVES : Nat := 0x19
/-- AX_STEPS (R399). -/
abbrev AX_STEPS : Nat := 0x1a
/-- ENC_CTRL (R401). -/
abbrev ENC_CTRL : Nat := 0x1
/-- ENC_FILTER (R401). -/
abbrev ENC_FILTER : Nat := 0x2
/-- ENC_COUNT (R401). -/
abbrev ENC_COUNT : Nat := 0x3
/-- ENC_SPEED (R401). -/
abbrev ENC_SPEED : Nat := 0x4
/-- ENC_SPEED_TIMEOUT (R401). -/
abbrev ENC_SPEED_TIMEOUT : Nat := 0x5
/-- ENC_COUNTS_PER_INDEX (R401). -/
abbrev ENC_COUNTS_PER_INDEX : Nat := 0x6
/-- ENC_INDEX_TOL (R401). -/
abbrev ENC_INDEX_TOL : Nat := 0x7
/-- ENC_INDEX_LATCH (R401). -/
abbrev ENC_INDEX_LATCH : Nat := 0x8
/-- ENC_INDEX_TICK (R401). -/
abbrev ENC_INDEX_TICK : Nat := 0x9
/-- ENC_TEETH (R401). -/
abbrev ENC_TEETH : Nat := 0xa
/-- ENC_MISSING (R401). -/
abbrev ENC_MISSING : Nat := 0xb
/-- ENC_GAP_RATIO (R401). -/
abbrev ENC_GAP_RATIO : Nat := 0xc
/-- ENC_FLAGS (R401). -/
abbrev ENC_FLAGS : Nat := 0xd
/-- ENC_LIVE (R401). -/
abbrev ENC_LIVE : Nat := 0xe
/-- ENC_ILLEGALS (R401). -/
abbrev ENC_ILLEGALS : Nat := 0xf
/-- ENC_DIR_CHANGES (R401). -/
abbrev ENC_DIR_CHANGES : Nat := 0x10
/-- ENC_INDEXES (R401). -/
abbrev ENC_INDEXES : Nat := 0x11
/-- ENC_STATE (R401). -/
abbrev ENC_STATE : Nat := 0x12
/-- CMP_MODE (R402). -/
abbrev CMP_MODE : Nat := 0x1
/-- CMP_CMD (R402). -/
abbrev CMP_CMD : Nat := 0x2
/-- CMP_POSITION (R402). -/
abbrev CMP_POSITION : Nat := 0x3
/-- CMP_PITCH (R402). -/
abbrev CMP_PITCH : Nat := 0x4
/-- CMP_COUNT (R402). -/
abbrev CMP_COUNT : Nat := 0x5
/-- CMP_WIDTH (R402). -/
abbrev CMP_WIDTH : Nat := 0x6
/-- CMP_STATE (R402). -/
abbrev CMP_STATE : Nat := 0x7
/-- CMP_FLAGS (R402). -/
abbrev CMP_FLAGS : Nat := 0x8
/-- CMP_FIRES (R402). -/
abbrev CMP_FIRES : Nat := 0x9
/-- CMP_LAST_TICK (R402). -/
abbrev CMP_LAST_TICK : Nat := 0xa
/-- CMP_LAST_POS (R402). -/
abbrev CMP_LAST_POS : Nat := 0xb
/-- NET_PORT_CTRL (R416). -/
abbrev NET_PORT_CTRL : Nat := 0x1
/-- NET_PORT_MAC (R416). -/
abbrev NET_PORT_MAC : Nat := 0x2
/-- NET_PORT_IP (R416). -/
abbrev NET_PORT_IP : Nat := 0x3
/-- NET_PORT_NETMASK (R416). -/
abbrev NET_PORT_NETMASK : Nat := 0x4
/-- NET_PORT_GATEWAY (R416). -/
abbrev NET_PORT_GATEWAY : Nat := 0x5
/-- NET_PORT_EXT_TX_CORR (R416). -/
abbrev NET_PORT_EXT_TX_CORR : Nat := 0x6
/-- NET_PORT_EXT_RX_CORR (R416). -/
abbrev NET_PORT_EXT_RX_CORR : Nat := 0x7
/-- NET_PORT_LINK (R416). -/
abbrev NET_PORT_LINK : Nat := 0x8
/-- NET_PORT_RX_FRAMES (R416). -/
abbrev NET_PORT_RX_FRAMES : Nat := 0x9
/-- NET_PORT_RX_DROPPED (R416). -/
abbrev NET_PORT_RX_DROPPED : Nat := 0xa
/-- NET_PORT_RX_ERRORS (R416). -/
abbrev NET_PORT_RX_ERRORS : Nat := 0xb
/-- NET_PORT_TX_FRAMES (R416). -/
abbrev NET_PORT_TX_FRAMES : Nat := 0xc
/-- NET_PORT_LATE_DROPS (R416). -/
abbrev NET_PORT_LATE_DROPS : Nat := 0xd
/-- NET_PORT_LATE_SENT (R416). -/
abbrev NET_PORT_LATE_SENT : Nat := 0xe
/-- NET_CLK_NETCLK (R417). -/
abbrev NET_CLK_NETCLK : Nat := 0x1
/-- NET_CLK_INCR (R417). -/
abbrev NET_CLK_INCR : Nat := 0x2
/-- NET_CLK_INCR_NOM (R417). -/
abbrev NET_CLK_INCR_NOM : Nat := 0x3
/-- NET_CLK_OFFSET (R417). -/
abbrev NET_CLK_OFFSET : Nat := 0x4
/-- NET_CLK_STEP_THRESH (R417). -/
abbrev NET_CLK_STEP_THRESH : Nat := 0x5
/-- NET_CLK_KP (R417). -/
abbrev NET_CLK_KP : Nat := 0x6
/-- NET_CLK_KI (R417). -/
abbrev NET_CLK_KI : Nat := 0x7
/-- NET_CLK_ADJ_MAX (R417). -/
abbrev NET_CLK_ADJ_MAX : Nat := 0x8
/-- NET_CLK_ADJ (R417). -/
abbrev NET_CLK_ADJ : Nat := 0x9
/-- NET_CLK_INTEGRAL (R417). -/
abbrev NET_CLK_INTEGRAL : Nat := 0xa
/-- NET_CLK_STEPS (R417). -/
abbrev NET_CLK_STEPS : Nat := 0xb
/-- NET_CLK_LAST_STEP (R417). -/
abbrev NET_CLK_LAST_STEP : Nat := 0xc
/-- NET_TSYNC_CTRL (R418). -/
abbrev NET_TSYNC_CTRL : Nat := 0x1
/-- NET_TSYNC_REF_TICK (R418). -/
abbrev NET_TSYNC_REF_TICK : Nat := 0x2
/-- NET_TSYNC_REF_NETCLK (R418). -/
abbrev NET_TSYNC_REF_NETCLK : Nat := 0x3
/-- NET_TSYNC_KP (R418). -/
abbrev NET_TSYNC_KP : Nat := 0x4
/-- NET_TSYNC_KI (R418). -/
abbrev NET_TSYNC_KI : Nat := 0x5
/-- NET_TSYNC_STATE (R418). -/
abbrev NET_TSYNC_STATE : Nat := 0x6
/-- NET_TSYNC_PHASE (R418). -/
abbrev NET_TSYNC_PHASE : Nat := 0x7
/-- NET_TSYNC_TUNE (R418). -/
abbrev NET_TSYNC_TUNE : Nat := 0x8
/-- NET_TSYNC_LOCK_WINDOW (R418). -/
abbrev NET_TSYNC_LOCK_WINDOW : Nat := 0x9
/-- NET_TSYNC_UNLOCKS (R418). -/
abbrev NET_TSYNC_UNLOCKS : Nat := 0xa
/-- NET_TX_FLAGS (R419). -/
abbrev NET_TX_FLAGS : Nat := 0x1
/-- NET_TX_LAUNCH (R419). -/
abbrev NET_TX_LAUNCH : Nat := 0x2
/-- NET_TX_TAG (R419). -/
abbrev NET_TX_TAG : Nat := 0x3
/-- NET_TX_FRAME (R419). -/
abbrev NET_TX_FRAME : Nat := 0x4
/-- NET_TX_DONE (R419). -/
abbrev NET_TX_DONE : Nat := 0x5
/-- NET_TX_DONE_POS (R419). -/
abbrev NET_TX_DONE_POS : Nat := 0x6
/-- NET_RX_RING (R420). -/
abbrev NET_RX_RING : Nat := 0x1
/-- NET_RX_POS (R420). -/
abbrev NET_RX_POS : Nat := 0x2
/-- NET_RX_RD (R420). -/
abbrev NET_RX_RD : Nat := 0x3
/-- NET_RX_LOST (R420). -/
abbrev NET_RX_LOST : Nat := 0x4
/-- FLT_CTRL_WINDOW (R439). -/
abbrev FLT_CTRL_WINDOW : Nat := 0x1
/-- FLT_CTRL_QUIET (R439). -/
abbrev FLT_CTRL_QUIET : Nat := 0x2
/-- FLT_CTRL_CMD (R439). -/
abbrev FLT_CTRL_CMD : Nat := 0x3
/-- FLT_CTRL_ACTIVE (R439). -/
abbrev FLT_CTRL_ACTIVE : Nat := 0x4
/-- FLT_CTRL_OPEN (R439). -/
abbrev FLT_CTRL_OPEN : Nat := 0x5
/-- FLT_CTRL_SUMMARY (R439). -/
abbrev FLT_CTRL_SUMMARY : Nat := 0x6
/-- FLT_CTRL_FENCED (R439). -/
abbrev FLT_CTRL_FENCED : Nat := 0x7
/-- FLT_CTRL_LOG (R439). -/
abbrev FLT_CTRL_LOG : Nat := 0x8
/-- FLT_CTRL_LOG_POS (R439). -/
abbrev FLT_CTRL_LOG_POS : Nat := 0x9
/-- FLT_CTRL_NOTICES (R439). -/
abbrev FLT_CTRL_NOTICES : Nat := 0xa
/-- FLT_CTRL_ERRORS (R439). -/
abbrev FLT_CTRL_ERRORS : Nat := 0xb
/-- FLT_CTRL_CRITICALS (R439). -/
abbrev FLT_CTRL_CRITICALS : Nat := 0xc
/-- FLT_CTRL_FATALS (R439). -/
abbrev FLT_CTRL_FATALS : Nat := 0xd
/-- FLT_CTRL_ESCALATIONS (R439). -/
abbrev FLT_CTRL_ESCALATIONS : Nat := 0xe
/-- FLT_CTRL_RECOVERIES (R439). -/
abbrev FLT_CTRL_RECOVERIES : Nat := 0xf
/-- FLT_CTRL_ACK_IGNORED (R439). -/
abbrev FLT_CTRL_ACK_IGNORED : Nat := 0x10
/-- FLT_FIRST_VALID (R440). -/
abbrev FLT_FIRST_VALID : Nat := 0x1
/-- FLT_FIRST_MSG (R440). -/
abbrev FLT_FIRST_MSG : Nat := 0x2
/-- FLT_FIRST_TICK (R440). -/
abbrev FLT_FIRST_TICK : Nat := 0x3
/-- FLT_FIRST_BTICK (R440). -/
abbrev FLT_FIRST_BTICK : Nat := 0x4
/-- FLT_FIRST_STATE (R440). -/
abbrev FLT_FIRST_STATE : Nat := 0x5
/-- FLT_FIRST_LAYER (R440). -/
abbrev FLT_FIRST_LAYER : Nat := 0x6
/-- FLT_FIRST_OVERFLOW (R440). -/
abbrev FLT_FIRST_OVERFLOW : Nat := 0x7
/-- FLT_FIRST_LATER (R440). -/
abbrev FLT_FIRST_LATER : Nat := 0x8
/-- FLT_FIRST_SAME_CYCLE (R440). -/
abbrev FLT_FIRST_SAME_CYCLE : Nat := 0x9
/-- FLT_PIN_LEVEL (R441). -/
abbrev FLT_PIN_LEVEL : Nat := 0x1
/-- FLT_PIN_CTRL (R441). -/
abbrev FLT_PIN_CTRL : Nat := 0x2
/-- FLT_PIN_PIN (R441). -/
abbrev FLT_PIN_PIN : Nat := 0x3
/-- FLT_PIN_ASSERTIONS (R441). -/
abbrev FLT_PIN_ASSERTIONS : Nat := 0x4
/-- FLT_SRC_SELECT (R442). -/
abbrev FLT_SRC_SELECT : Nat := 0x1
/-- FLT_SRC_STATUS (R442). -/
abbrev FLT_SRC_STATUS : Nat := 0x2
/-- FLT_SRC_CMD (R442). -/
abbrev FLT_SRC_CMD : Nat := 0x3
/-- FLT_SRC_LAST_MSG (R442). -/
abbrev FLT_SRC_LAST_MSG : Nat := 0x4
/-- FLT_SRC_LAST_TICK (R442). -/
abbrev FLT_SRC_LAST_TICK : Nat := 0x5
/-- FLT_SRC_MESSAGES (R442). -/
abbrev FLT_SRC_MESSAGES : Nat := 0x6
/-- FLT_SRC_RECOVERIES (R442). -/
abbrev FLT_SRC_RECOVERIES : Nat := 0x7
/-- FLT_SRC_WINDOW_LEFT (R442). -/
abbrev FLT_SRC_WINDOW_LEFT : Nat := 0x8
/-- FLT_SRC_ESCALATIONS (R442). -/
abbrev FLT_SRC_ESCALATIONS : Nat := 0x9
/-- LDG_CTRL_CMD (R456). -/
abbrev LDG_CTRL_CMD : Nat := 0x1
/-- LDG_CTRL_MIN_SEV (R456). -/
abbrev LDG_CTRL_MIN_SEV : Nat := 0x2
/-- LDG_CTRL_FREEZE_MAX (R456). -/
abbrev LDG_CTRL_FREEZE_MAX : Nat := 0x3
/-- LDG_CTRL_MARK_VALUE (R456). -/
abbrev LDG_CTRL_MARK_VALUE : Nat := 0x4
/-- LDG_CTRL_IMAGE (R456). -/
abbrev LDG_CTRL_IMAGE : Nat := 0x5
/-- LDG_STATUS_FLAGS (R457). -/
abbrev LDG_STATUS_FLAGS : Nat := 0x1
/-- LDG_STATUS_OP_TIME (R457). -/
abbrev LDG_STATUS_OP_TIME : Nat := 0x2
/-- LDG_STATUS_POWER_CYCLES (R457). -/
abbrev LDG_STATUS_POWER_CYCLES : Nat := 0x3
/-- LDG_STATUS_LAST_SEQ (R457). -/
abbrev LDG_STATUS_LAST_SEQ : Nat := 0x4
/-- LDG_STATUS_PINNED_USED (R457). -/
abbrev LDG_STATUS_PINNED_USED : Nat := 0x5
/-- LDG_STATUS_SPARE_USED (R457). -/
abbrev LDG_STATUS_SPARE_USED : Nat := 0x6
/-- LDG_STATUS_STAGED (R457). -/
abbrev LDG_STATUS_STAGED : Nat := 0x7
/-- LDG_STATUS_STAGE_LOST (R457). -/
abbrev LDG_STATUS_STAGE_LOST : Nat := 0x8
/-- LDG_STATUS_SHADOW_LOST (R457). -/
abbrev LDG_STATUS_SHADOW_LOST : Nat := 0x9
/-- LDG_STATUS_BAD_RECORDS (R457). -/
abbrev LDG_STATUS_BAD_RECORDS : Nat := 0xa
/-- LDG_STATUS_MERGES (R457). -/
abbrev LDG_STATUS_MERGES : Nat := 0xb
/-- LDG_STATUS_SHADOW (R457). -/
abbrev LDG_STATUS_SHADOW : Nat := 0xc
/-- TMP_JUNCTION (R472). -/
abbrev TMP_JUNCTION : Nat := 0x1
/-- TMP_MODULE (R472). -/
abbrev TMP_MODULE : Nat := 0x2
/-- TMP_STATUS (R472). -/
abbrev TMP_STATUS : Nat := 0x3
/-- TMP_EXCLUDE (R472). -/
abbrev TMP_EXCLUDE : Nat := 0x4
/-- TMP_CMD (R472). -/
abbrev TMP_CMD : Nat := 0x5
/-- TMP_RATE (R472). -/
abbrev TMP_RATE : Nat := 0x6
/-- TMP_MAX_SEEN (R472). -/
abbrev TMP_MAX_SEEN : Nat := 0x7
/-- TMP_SHUTDOWN_SEQ (R472). -/
abbrev TMP_SHUTDOWN_SEQ : Nat := 0x8
/-- TMP_EVENTS (R472). -/
abbrev TMP_EVENTS : Nat := 0x9
/-- TMP_TEMP (R472). -/
abbrev TMP_TEMP : Nat := 0xa
/-- CAL_AT_POWERUP (R473). -/
abbrev CAL_AT_POWERUP : Nat := 0x1
/-- CAL_AUTO (R473). -/
abbrev CAL_AUTO : Nat := 0x2
/-- CAL_DELTA_T (R473). -/
abbrev CAL_DELTA_T : Nat := 0x3
/-- CAL_TIMEOUT (R473). -/
abbrev CAL_TIMEOUT : Nat := 0x4
/-- CAL_CMD (R473). -/
abbrev CAL_CMD : Nat := 0x5
/-- CAL_VALUES (R473). -/
abbrev CAL_VALUES : Nat := 0x6
/-- CAL_MEASURED (R473). -/
abbrev CAL_MEASURED : Nat := 0x7
/-- CAL_FAIL_A (R473). -/
abbrev CAL_FAIL_A : Nat := 0x8
/-- CAL_FAIL_B (R473). -/
abbrev CAL_FAIL_B : Nat := 0x9
/-- CAL_COUNT (R473). -/
abbrev CAL_COUNT : Nat := 0xa
/-- CAL_LAST_OP_TIME (R473). -/
abbrev CAL_LAST_OP_TIME : Nat := 0xb
/-- CAL_LAST_NETCLK (R473). -/
abbrev CAL_LAST_NETCLK : Nat := 0xc
/-- CAL_LAST_TEMP (R473). -/
abbrev CAL_LAST_TEMP : Nat := 0xd
/-- PWR_STATUS_VIN (R507). -/
abbrev PWR_STATUS_VIN : Nat := 0x1
/-- PWR_STATUS_IIN (R507). -/
abbrev PWR_STATUS_IIN : Nat := 0x2
/-- PWR_STATUS_PIN (R507). -/
abbrev PWR_STATUS_PIN : Nat := 0x3
/-- PWR_STATUS_PIN_MAX (R507). -/
abbrev PWR_STATUS_PIN_MAX : Nat := 0x4
/-- PWR_STATUS_FLAGS (R507). -/
abbrev PWR_STATUS_FLAGS : Nat := 0x5
/-- PWR_STATUS_LAST_START (R507). -/
abbrev PWR_STATUS_LAST_START : Nat := 0x6
/-- PWR_STATUS_LAST_STOP (R507). -/
abbrev PWR_STATUS_LAST_STOP : Nat := 0x7
/-- PWR_STATUS_ENABLE_GLITCHES (R507). -/
abbrev PWR_STATUS_ENABLE_GLITCHES : Nat := 0x8
/-- PWR_STATUS_INPUT_LOSSES (R507). -/
abbrev PWR_STATUS_INPUT_LOSSES : Nat := 0x9
/-- PWR_STATUS_EJECT_MS (R507). -/
abbrev PWR_STATUS_EJECT_MS : Nat := 0xa
/-- PWR_STATUS_STANDBY_MS (R507). -/
abbrev PWR_STATUS_STANDBY_MS : Nat := 0xb
/-- PWR_START_RAILS (R508). -/
abbrev PWR_START_RAILS : Nat := 0x1
/-- PWR_START_FIRMWARE (R508). -/
abbrev PWR_START_FIRMWARE : Nat := 0x2
/-- PWR_START_CONFIG (R508). -/
abbrev PWR_START_CONFIG : Nat := 0x3
/-- PWR_START_PLL (R508). -/
abbrev PWR_START_PLL : Nat := 0x4
/-- PWR_START_DRAM (R508). -/
abbrev PWR_START_DRAM : Nat := 0x5
/-- PWR_START_CAL (R508). -/
abbrev PWR_START_CAL : Nat := 0x6
/-- PWR_START_TOTAL (R508). -/
abbrev PWR_START_TOTAL : Nat := 0x7
/-- PWR_CFG_UV_WARN (R509). -/
abbrev PWR_CFG_UV_WARN : Nat := 0x1
/-- PWR_CFG_P_WARN (R509). -/
abbrev PWR_CFG_P_WARN : Nat := 0x2
/-- CLK_STATUS_LOCKED (R510). -/
abbrev CLK_STATUS_LOCKED : Nat := 0x1
/-- CLK_STATUS_REFCLK_PPB (R510). -/
abbrev CLK_STATUS_REFCLK_PPB : Nat := 0x2
/-- CLK_STATUS_LOCK_US (R510). -/
abbrev CLK_STATUS_LOCK_US : Nat := 0x3
/-- CLK_STATUS_UNLOCKS (R510). -/
abbrev CLK_STATUS_UNLOCKS : Nat := 0x4
/-- TXN_TIMEOUT (R64). -/
abbrev TXN_TIMEOUT : Nat := 0x1
/-- REG_A (R171). -/
abbrev REG_A : Nat := 0x1
/-- REG_B (R171). -/
abbrev REG_B : Nat := 0x2
/-- REG_C (R171). -/
abbrev REG_C : Nat := 0x3
/-- REG_D (R171). -/
abbrev REG_D : Nat := 0x4
/-- REG_E (R171). -/
abbrev REG_E : Nat := 0x5
/-- REG_F (R171). -/
abbrev REG_F : Nat := 0x6
/-- REG_G (R171). -/
abbrev REG_G : Nat := 0x7
/-- REG_H (R171). -/
abbrev REG_H : Nat := 0x8
/-- GEAR_CTRL (R400). -/
abbrev GEAR_CTRL : Nat := 0x1
/-- GEAR_NUM (R400). -/
abbrev GEAR_NUM : Nat := 0x2
/-- GEAR_DEN (R400). -/
abbrev GEAR_DEN : Nat := 0x3
/-- GEAR_NEXT_NUM (R400). -/
abbrev GEAR_NEXT_NUM : Nat := 0x4
/-- GEAR_NEXT_DEN (R400). -/
abbrev GEAR_NEXT_DEN : Nat := 0x5
/-- GEAR_SWITCH_POS (R400). -/
abbrev GEAR_SWITCH_POS : Nat := 0x6
/-- GEAR_LAG_MAX (R400). -/
abbrev GEAR_LAG_MAX : Nat := 0x7
/-- GEAR_STATUS (R400). -/
abbrev GEAR_STATUS : Nat := 0x8
/-- LDG_SNAP_SEL (R458). -/
abbrev LDG_SNAP_SEL : Nat := 0x1

end Sys2Proof.Machine.D
end

