-- ==== Sys2Proof/Machine/Num.lean ====
section
/-!
DEFINITION. The arithmetic the chapters share: bit fields, two's complement, byte order, exact rounding, integer square
root, the three CRCs (R31, R45, R73) and IEEE 754 binary32 rounding (R33, R305).
-/
namespace Sys2Proof.Arith

/-- Bits `hi` down to `lo` of a number. -/
def bits (v hi lo : Nat) : Nat := v / 2 ^ lo % 2 ^ (hi + 1 - lo)

/-- One bit of a number. -/
def bit (v i : Nat) : Bool := v / 2 ^ i % 2 == 1

/-- `v` with bit `i` set to `b`. -/
def setBit (v i : Nat) (b : Bool) : Nat :=
  if bit v i == b then v else if b then v + 2 ^ i else v - 2 ^ i

/-- The two's-complement reading of the low `n` bits of `v` (R33). -/
def toSigned (n v : Nat) : Int :=
  let m := v % 2 ^ n
  if m < 2 ^ (n - 1) then (m : Int) else (m : Int) - ((2 ^ n : Nat) : Int)

/-- The low `n` bits of an integer, as the unsigned word that carries it. -/
def toUnsigned (n : Nat) (v : Int) : Nat := (v % ((2 ^ n : Nat) : Int)).toNat

/-- The number that little-endian bytes spell (R7). -/
def leNat : List Byte → Nat
  | [] => 0
  | b :: bs => b.toNat + 256 * leNat bs

/-- The `n` little-endian bytes of a number (R7). -/
def natLe : Nat → Nat → List Byte
  | 0, _ => []
  | n + 1, v => BitVec.ofNat 8 v :: natLe n (v / 256)

/-- The `n` little-endian bytes of a signed number. -/
def intLe (n : Nat) (v : Int) : List Byte := natLe n (toUnsigned (8 * n) v)

/-- Bytes `o` to `o + n − 1` of a list, read little-endian. -/
def leAt (bs : List Byte) (o n : Nat) : Nat := leNat ((bs.drop o).take n)

/-- The same bytes as a two's-complement number. -/
def leIntAt (bs : List Byte) (o n : Nat) : Int := toSigned (8 * n) (leAt bs o n)

/-- Whether bytes `o` to `o + n − 1` are all 0 (a reserved field, R8). -/
def zeroAt (bs : List Byte) (o n : Nat) : Bool := ((bs.drop o).take n).all (· == 0)

/-- `v` held within `lo` to `hi`. -/
def clamp (lo hi v : Int) : Int := if v < lo then lo else if hi < v then hi else v

/-- Saturating addition to an unsigned counter of `n` bits (R9). -/
def satAdd (n : Nat) (v d : Int) : Int := clamp 0 (((2 ^ n - 1 : Nat)) : Int) (v + d)

/-- Division rounded to nearest, ties away from zero (R147). -/
def divRound (a : Int) (b : Nat) : Int :=
  if b = 0 then 0 else
    if 0 ≤ a then (((2 * a.toNat + b) / (2 * b) : Nat) : Int) else -(((2 * (-a).toNat + b) / (2 * b) : Nat) : Int)

/-- Division rounded down (an arithmetic right shift when `b` is a power of two). -/
def divFloor (a : Int) (b : Nat) : Int := if b = 0 then 0 else Int.fdiv a b

/-- A rational rounded to the nearest integer, ties away from zero (R147). -/
def ratRound (q : Rat) : Int := divRound q.num q.den

/-- A rational rounded up. -/
def ratCeil (q : Rat) : Int := -(Int.fdiv (-q.num) q.den)

/-- A rational rounded down. -/
def ratFloor (q : Rat) : Int := Int.fdiv q.num q.den

/-- One binary digit of the integer square root, by fuel. -/
def isqrtGo : Nat → Nat → Nat → Nat
  | 0, _, r => r
  | k + 1, n, r => let r' := r + 2 ^ k; if r' * r' ≤ n then isqrtGo k n r' else isqrtGo k n r

/-- The integer square root, rounded down. -/
def isqrt (n : Nat) : Nat := isqrtGo (n.log2 / 2 + 1) n 0

/-- `√q` rounded to the nearest multiple of `1 / scale`, ties away from zero. -/
def ratSqrt (scale : Nat) (q : Rat) : Rat :=
  if q ≤ 0 then 0 else
    mkRat ((isqrt (4 * scale * scale * q.num.toNat / q.den) + 1) / 2 : Nat) scale

/-- `n` bit steps of a reflected CRC. -/
def crcReflGo : Nat → Nat → Nat → Nat
  | 0, _, c => c
  | k + 1, poly, c => crcReflGo k poly (if c % 2 = 1 then Nat.xor (c / 2) poly else c / 2)

/-- One byte into the running CRC-32 of R45 (polynomial 0x04C11DB7, reflected). -/
def crc32Step (c : Nat) (b : Byte) : Nat := crcReflGo 8 0xEDB88320 (Nat.xor c b.toNat)

/-- A running CRC-32 over bytes, before the final XOR. -/
def crc32Run (c : Nat) (bs : List Byte) : Nat := bs.foldl crc32Step c

/-- The initial value of a CRC-32. -/
def crc32Init : Nat := 0xFFFFFFFF

/-- The value of a running CRC-32, with the final XOR. -/
def crc32End (c : Nat) : Nat := Nat.xor c 0xFFFFFFFF

/-- CRC-32 (R45). -/
def crc32 (bs : List Byte) : Nat := crc32End (crc32Run crc32Init bs)

/-- `n` bit steps of a CRC of `w` bits that is not reflected. -/
def crcFwdGo : Nat → Nat → Nat → Nat → Nat
  | 0, _, _, c => c
  | k + 1, w, poly, c =>
    let d := c * 2 % 2 ^ w
    crcFwdGo k w poly (if c / 2 ^ (w - 1) % 2 = 1 then Nat.xor d poly else d)

/-- CRC-8 of an item (R73): polynomial 0x07, initial value 0. -/
def crc8 (bs : List Byte) : Nat := bs.foldl (fun c b => crcFwdGo 8 8 0x07 (Nat.xor c b.toNat)) 0

/-- One byte into the CRC-64 of R31. -/
def crc64Step (c : Nat) (b : Byte) : Nat := crcFwdGo 8 64 0x42F0E1EBA9EA3693 (Nat.xor c (b.toNat * 2 ^ 56))

/-- CRC-64 (R31) continued over bytes. -/
def crc64Run (c : Nat) (bs : List Byte) : Nat := bs.foldl crc64Step c

/-- The largest exponent `e` with `2 ^ e ≤ n / d`, for a positive rational. -/
def ratLog2 (n d : Nat) : Int :=
  let e : Int := (n.log2 : Int) - (d.log2 : Int)
  let le : Bool := if 0 ≤ e then decide (d * 2 ^ e.toNat ≤ n) else decide (d ≤ n * 2 ^ (-e).toNat)
  if le then e else e - 1

/-- A rational times a power of two. -/
def ratScale (q : Rat) (e : Int) : Rat := if 0 ≤ e then q * ((2 ^ e.toNat : Nat) : Rat) else q / ((2 ^ (-e).toNat : Nat) : Rat)

/-- A non-negative rational rounded to an integer, ties to even. -/
def ratRoundEven (q : Rat) : Nat :=
  let n := q.num.toNat
  let f := n / q.den
  let r := n % q.den
  if 2 * r < q.den then f else if 2 * r > q.den then f + 1 else if f % 2 = 0 then f else f + 1

/-- A rational rounded to IEEE 754 binary32, ties to even (R305); overflow saturates at the largest finite number. -/
def f32Round (q : Rat) : Rat :=
  if q = 0 then 0 else
    let a := if q < 0 then -q else q
    let e := ratLog2 a.num.toNat a.den
    let u : Int := if e < -126 then -149 else e - 23
    let r := ratScale ((ratRoundEven (ratScale a (-u)) : Nat) : Rat) u
    let top : Rat := ratScale (((2 ^ 24 - 1 : Nat)) : Rat) 104
    let r := if top < r then top else r
    if q < 0 then -r else r

/-- The number a binary32 bit pattern stands for; `none` for NaN and infinities. -/
def f32OfBits (w : Nat) : Option Rat :=
  let s := bit w 31
  let e := bits w 30 23
  let m := bits w 22 0
  if e = 255 then none else
    let a : Rat := if e = 0 then ratScale (m : Rat) (-149) else ratScale (((2 ^ 23 + m : Nat)) : Rat) ((e : Int) - 150)
    some (if s then -a else a)

/-- The integers `a, a + 1, …` below `a + n`. -/
def rangeFrom (a n : Nat) : List Nat := (List.range n).map (a + ·)

/-- Replace the elements of a list that satisfy `p`. -/
def updWhere {α : Type} (p : α → Bool) (f : α → α) (l : List α) : List α := l.map fun x => if p x then f x else x

/-- The least element under a key, the first of equals. -/
def argMin {α : Type} (key : α → Nat) : List α → Option α
  | [] => none
  | x :: xs =>
    match argMin key xs with
    | none => some x
    | some y => if key x ≤ key y then some x else some y

end Sys2Proof.Arith
end

