-- ==== Sys2Proof/Machine/DictTable.lean ====
section
/-!
DEFINITION. The object dictionary as a table: one row per entry of the records of the chapters (02_dictionary.md R32 to R34), with its
type (R33), access code (R9), default and the limits of a written value. Rows of records repeated per unit carry the count of
units; rows of entries repeated inside a record carry the count and the step of their subindices.
-/
namespace Sys2Proof.Machine.Dict

/-- The types of R33. -/
inductive Ty where
  | bool | u8 | u16 | u32 | u64 | i16 | i32 | i64 | f32 | str | blob
deriving DecidableEq, Repr

/-- The access codes of R9. -/
inductive Acc where
  | ro | rw | rc | wo | rwt | rws
deriving DecidableEq, Repr

/-- The default of an entry: a constant, the number of its unit, the number of its field in a record of all units, or the member set
of R99. -/
inductive Dflt where
  | c (v : Int) | byIdx | bySub | members
deriving DecidableEq, Repr

/-- The limits of a written value (R33): none beyond the type, a range, a range or one further value, a range of multiples, powers
of two in a range, or bit fields (high bit, low bit, least, greatest) with every other bit 0. -/
inductive Chk where
  | any
  | rng (lo hi : Int)
  | rngOr (lo hi other : Int)
  | mul (lo hi m : Int)
  | pow2 (lo hi : Int)
  | fields (fs : List (Nat × Nat × Nat × Nat))
deriving DecidableEq, Repr

/-- One row: `count` records from `idx`, `nsub` subindices from `sub` in steps of `step`. -/
structure Row where
  idx : Nat
  count : Nat
  sub : Nat
  nsub : Nat
  step : Nat
  ty : Ty
  acc : Acc
  dflt : Dflt
  chk : Chk
deriving DecidableEq, Repr

/-- Rows of the dev block, part 1. -/
def devRows1 : List Row := [
  ⟨0x1010, 1, 0x0, 1, 1, .u8, .ro, .c 7, .any⟩,
  ⟨0x1010, 1, 0x1, 1, 1, .u8, .ro, .c 0, .any⟩,
  ⟨0x1010, 1, 0x2, 1, 1, .u8, .ro, .c 0, .any⟩,
  ⟨0x1010, 1, 0x3, 1, 1, .u8, .wo, .c 0, .any⟩,
  ⟨0x1010, 1, 0x4, 1, 1, .u8, .ro, .c 0, .any⟩,
  ⟨0x1010, 1, 0x5, 1, 1, .u8, .rc, .c 0, .any⟩,
  ⟨0x1010, 1, 0x6, 1, 1, .u64, .ro, .c 0, .any⟩,
  ⟨0x1010, 1, 0x7, 1, 1, .u64, .ro, .c 0, .any⟩,
  ⟨0x1018, 1, 0x0, 1, 1, .u8, .ro, .c 7, .any⟩,
  ⟨0x1018, 1, 0x1, 1, 1, .u32, .ro, .c 4294967295, .any⟩,
  ⟨0x1018, 1, 0x2, 1, 1, .bool, .ro, .c 0, .any⟩,
  ⟨0x1018, 1, 0x3, 1, 1, .u16, .ro, .c 0, .any⟩,
  ⟨0x1018, 1, 0x4, 1, 1, .u64, .ro, .c 0, .any⟩,
  ⟨0x1018, 1, 0x5, 1, 1, .u64, .ro, .c 0, .any⟩,
  ⟨0x1018, 1, 0x6, 1, 1, .u64, .ro, .c 0, .any⟩,
  ⟨0x1018, 1, 0x7, 1, 1, .u16, .ro, .c 0, .any⟩,
  ⟨0x1000, 1, 0x0, 1, 1, .u8, .ro, .c 7, .any⟩,
  ⟨0x1000, 1, 0x1, 1, 1, .u32, .ro, .c 4411977, .any⟩,
  ⟨0x1000, 1, 0x2, 1, 1, .u32, .ro, .c 9288, .any⟩,
  ⟨0x1000, 1, 0x3, 1, 1, .str, .ro, .c 0, .any⟩,
  ⟨0x1000, 1, 0x4, 1, 1, .str, .ro, .c 0, .any⟩,
  ⟨0x1000, 1, 0x5, 1, 1, .u32, .ro, .c 0, .any⟩,
  ⟨0x1000, 1, 0x6, 1, 1, .u16, .ro, .c 256, .any⟩,
  ⟨0x1000, 1, 0x7, 1, 1, .str, .rw, .c 0, .any⟩,
  ⟨0x1002, 1, 0x0, 1, 1, .u8, .ro, .c 2, .any⟩,
  ⟨0x1002, 1, 0x1, 1, 1, .blob, .rws, .c 0, .any⟩,
  ⟨0x1002, 1, 0x2, 1, 1, .u8, .ro, .c 0, .any⟩,
  ⟨0x1005, 1, 0x0, 1, 1, .u8, .ro, .c 4, .any⟩,
  ⟨0x1005, 1, 0x1, 1, 1, .u8, .wo, .c 0, .rng 1 2⟩,
  ⟨0x1005, 1, 0x2, 1, 1, .u32, .ro, .c 0, .any⟩,
  ⟨0x1005, 1, 0x3, 1, 1, .u32, .ro, .c 0, .any⟩,
  ⟨0x1005, 1, 0x4, 1, 1, .u8, .ro, .c 0, .any⟩]

/-- The rows of the dev block: DEV_STATE, DEV_DET, DEV_IDENT, DEV_FW, DEV_CFG. -/
def devRows : List Row := devRows1

/-- Rows of the txn block, part 1. -/
def txnRows1 : List Row := [
  ⟨0x1100, 1, 0x0, 1, 1, .u8, .ro, .c 6, .any⟩,
  ⟨0x1100, 1, 0x1, 1, 1, .u8, .wo, .c 0, .rng 1 3⟩,
  ⟨0x1100, 1, 0x2, 1, 1, .u8, .ro, .c 0, .any⟩,
  ⟨0x1100, 1, 0x3, 1, 1, .u16, .ro, .c 0, .any⟩,
  ⟨0x1100, 1, 0x4, 1, 1, .u32, .ro, .c 0, .any⟩,
  ⟨0x1100, 1, 0x5, 1, 1, .u8, .ro, .c 0, .any⟩,
  ⟨0x1100, 1, 0x6, 1, 1, .u8, .ro, .c 0, .any⟩,
  ⟨0x1108, 1, 0x0, 1, 1, .u8, .ro, .c 5, .any⟩,
  ⟨0x1108, 1, 0x1, 1, 1, .u8, .ro, .c 0, .any⟩,
  ⟨0x1108, 1, 0x2, 1, 1, .u32, .ro, .c 0, .any⟩,
  ⟨0x1108, 1, 0x3, 1, 1, .u32, .ro, .c 0, .any⟩,
  ⟨0x1108, 1, 0x4, 1, 1, .u64, .ro, .c 0, .any⟩,
  ⟨0x1108, 1, 0x5, 1, 1, .u8, .ro, .c 0, .any⟩,
  ⟨0x1110, 5, 0x0, 1, 1, .u8, .ro, .c 7, .any⟩,
  ⟨0x1110, 5, 0x1, 1, 1, .u8, .ro, .c 0, .any⟩,
  ⟨0x1110, 5, 0x2, 1, 1, .u32, .ro, .c 0, .any⟩,
  ⟨0x1110, 5, 0x3, 1, 1, .u16, .ro, .c 0, .any⟩,
  ⟨0x1110, 5, 0x4, 1, 1, .u32, .ro, .c 0, .any⟩,
  ⟨0x1110, 5, 0x5, 1, 1, .u32, .ro, .c 0, .any⟩,
  ⟨0x1110, 5, 0x6, 1, 1, .u16, .ro, .c 0, .any⟩,
  ⟨0x1110, 5, 0x7, 1, 1, .u16, .rc, .c 0, .any⟩,
  ⟨0x1120, 1, 0x0, 1, 1, .u8, .ro, .c 4, .any⟩,
  ⟨0x1120, 1, 0x1, 1, 1, .u32, .rc, .c 0, .any⟩,
  ⟨0x1120, 1, 0x2, 1, 1, .u32, .rc, .c 0, .any⟩,
  ⟨0x1120, 1, 0x3, 1, 1, .u32, .rc, .c 0, .any⟩,
  ⟨0x1120, 1, 0x4, 1, 1, .u32, .rc, .c 0, .any⟩,
  ⟨0x1101, 1, 0x0, 1, 1, .u8, .ro, .c 1, .any⟩,
  ⟨0x1101, 1, 0x1, 1, 1, .u32, .rw, .c 10000, .rng (100) 600000⟩]

/-- The rows of the txn block: TXN_CTRL, TXN_TIMEOUT, TXN_PENDING, TXN_PATH, TXN_STATS. -/
def txnRows : List Row := txnRows1

/-- Rows of the pwr block, part 1. -/
def pwrRows1 : List Row := [
  ⟨0x1300, 1, 0x0, 1, 1, .u8, .ro, .c 11, .any⟩,
  ⟨0x1300, 1, 0x1, 1, 1, .u32, .ro, .c 0, .any⟩,
  ⟨0x1300, 1, 0x2, 1, 1, .u32, .ro, .c 0, .any⟩,
  ⟨0x1300, 1, 0x3, 1, 1, .u32, .ro, .c 0, .any⟩,
  ⟨0x1300, 1, 0x4, 1, 1, .u32, .rc, .c 0, .any⟩,
  ⟨0x1300, 1, 0x5, 1, 1, .u16, .ro, .c 0, .any⟩,
  ⟨0x1300, 1, 0x6, 1, 1, .u8, .ro, .c 0, .any⟩,
  ⟨0x1300, 1, 0x7, 1, 1, .u8, .ro, .c 0, .any⟩,
  ⟨0x1300, 1, 0x8, 1, 1, .u32, .rc, .c 0, .any⟩,
  ⟨0x1300, 1, 0x9, 1, 1, .u32, .ro, .c 0, .any⟩,
  ⟨0x1300, 1, 0xa, 1, 1, .u16, .ro, .c 0, .any⟩,
  ⟨0x1300, 1, 0xb, 1, 1, .u64, .ro, .c 0, .any⟩,
  ⟨0x1301, 1, 0x0, 1, 1, .u8, .ro, .c 7, .any⟩,
  ⟨0x1301, 1, 0x1, 1, 1, .u32, .ro, .c 0, .any⟩,
  ⟨0x1301, 1, 0x2, 1, 1, .u32, .ro, .c 0, .any⟩,
  ⟨0x1301, 1, 0x3, 1, 1, .u32, .ro, .c 0, .any⟩,
  ⟨0x1301, 1, 0x4, 1, 1, .u32, .ro, .c 0, .any⟩,
  ⟨0x1301, 1, 0x5, 1, 1, .u32, .ro, .c 0, .any⟩,
  ⟨0x1301, 1, 0x6, 1, 1, .u32, .ro, .c 0, .any⟩,
  ⟨0x1301, 1, 0x7, 1, 1, .u32, .ro, .c 0, .any⟩,
  ⟨0x1302, 1, 0x0, 1, 1, .u8, .ro, .c 2, .any⟩,
  ⟨0x1302, 1, 0x1, 1, 1, .u32, .rw, .c 42000, .rng (38500) 56000⟩,
  ⟨0x1302, 1, 0x2, 1, 1, .u32, .rw, .c 150000, .rng (10000) 150000⟩,
  ⟨0x1200, 1, 0x0, 1, 1, .u8, .ro, .c 4, .any⟩,
  ⟨0x1200, 1, 0x1, 1, 1, .bool, .ro, .c 0, .any⟩,
  ⟨0x1200, 1, 0x2, 1, 1, .i32, .ro, .c 0, .any⟩,
  ⟨0x1200, 1, 0x3, 1, 1, .u32, .ro, .c 0, .any⟩,
  ⟨0x1200, 1, 0x4, 1, 1, .u32, .ro, .c 0, .any⟩]

/-- The rows of the pwr block: PWR_STATUS, PWR_START, PWR_CFG, CLK_STATUS. -/
def pwrRows : List Row := pwrRows1

/-- Rows of the ctx block, part 1. -/
def ctxRows1 : List Row := [
  ⟨0x2000, 96, 0x0, 1, 1, .u8, .ro, .c 24, .any⟩,
  ⟨0x2000, 96, 0x1, 1, 1, .u16, .rw, .c 0, .fields [(0, 0, 0, 1), (1, 1, 0, 1), (3, 2, 0, 2)]⟩,
  ⟨0x2000, 96, 0x2, 1, 1, .u8, .wo, .c 0, .rng 1 1⟩,
  ⟨0x2000, 96, 0x3, 1, 1, .u32, .rw, .members, .any⟩,
  ⟨0x2000, 96, 0x4, 1, 1, .u32, .ro, .members, .any⟩,
  ⟨0x2000, 96, 0x5, 1, 1, .u16, .rw, .c 64, .pow2 1 1024⟩,
  ⟨0x2000, 96, 0x6, 1, 1, .u8, .ro, .c 0, .any⟩,
  ⟨0x2000, 96, 0x7, 1, 1, .u16, .rc, .c 0, .any⟩,
  ⟨0x2000, 96, 0x8, 1, 1, .u16, .ro, .c 0, .any⟩,
  ⟨0x2000, 96, 0x9, 1, 1, .u32, .ro, .c 67108864, .any⟩,
  ⟨0x2000, 96, 0xa, 1, 1, .u64, .ro, .c 0, .any⟩,
  ⟨0x2000, 96, 0xb, 1, 1, .u64, .ro, .c 0, .any⟩,
  ⟨0x2000, 96, 0xc, 1, 1, .u64, .ro, .c 0, .any⟩,
  ⟨0x2000, 96, 0xd, 1, 1, .u64, .ro, .c 0, .any⟩,
  ⟨0x2000, 96, 0xe, 1, 1, .u64, .ro, .c 0, .any⟩,
  ⟨0x2000, 96, 0xf, 1, 1, .u64, .ro, .c 0, .any⟩,
  ⟨0x2000, 96, 0x10, 1, 1, .u64, .ro, .c 0, .any⟩,
  ⟨0x2000, 96, 0x11, 1, 1, .u64, .ro, .c 0, .any⟩,
  ⟨0x2000, 96, 0x12, 1, 1, .u16, .rw, .c 100, .rng (0) 10000⟩,
  ⟨0x2000, 96, 0x13, 1, 1, .u64, .rw, .c 0, .mul 0 18446744073709551552 64⟩,
  ⟨0x2000, 96, 0x14, 1, 1, .u16, .rw, .c 256, .pow2 16 4096⟩,
  ⟨0x2000, 96, 0x15, 1, 1, .u16, .ro, .c 0, .any⟩,
  ⟨0x2000, 96, 0x16, 1, 1, .u32, .rc, .c 0, .any⟩,
  ⟨0x2000, 96, 0x17, 1, 1, .u32, .rc, .c 0, .any⟩,
  ⟨0x2000, 96, 0x18, 1, 1, .u32, .ro, .c 4294967295, .any⟩]

/-- The rows of the ctx block: CTX. -/
def ctxRows : List Row := ctxRows1

/-- Rows of the cat block, part 1. -/
def catRows1 : List Row := [
  ⟨0x2300, 1, 0x0, 1, 1, .u8, .ro, .c 6, .any⟩,
  ⟨0x2300, 1, 0x1, 1, 1, .blob, .rws, .c 0, .any⟩,
  ⟨0x2300, 1, 0x2, 1, 1, .u16, .ro, .c 0, .any⟩,
  ⟨0x2300, 1, 0x3, 1, 1, .u32, .ro, .c 0, .any⟩,
  ⟨0x2300, 1, 0x4, 1, 1, .u32, .rw, .c 0, .rng (0) 4294967294⟩,
  ⟨0x2300, 1, 0x5, 1, 1, .u32, .rw, .c 4294967295, .any⟩,
  ⟨0x2300, 1, 0x6, 1, 1, .u8, .rwt, .c 0, .fields [(3, 0, 0, 15)]⟩,
  ⟨0x2301, 1, 0x0, 1, 1, .u8, .ro, .c 11, .any⟩,
  ⟨0x2301, 1, 0x1, 1, 1, .u8, .ro, .c 0, .any⟩,
  ⟨0x2301, 1, 0x2, 1, 1, .u16, .ro, .c 0, .any⟩,
  ⟨0x2301, 1, 0x3, 1, 1, .u64, .ro, .c 0, .any⟩,
  ⟨0x2301, 1, 0x4, 1, 1, .u32, .ro, .c 0, .any⟩,
  ⟨0x2301, 1, 0x5, 1, 1, .bool, .ro, .c 0, .any⟩,
  ⟨0x2301, 1, 0x6, 1, 1, .u32, .ro, .c 0, .any⟩,
  ⟨0x2301, 1, 0x7, 1, 1, .u32, .ro, .c 0, .any⟩,
  ⟨0x2301, 1, 0x8, 1, 1, .u32, .rc, .c 0, .any⟩,
  ⟨0x2301, 1, 0x9, 1, 1, .u8, .ro, .c 0, .any⟩,
  ⟨0x2301, 1, 0xa, 1, 1, .u64, .ro, .c 0, .any⟩,
  ⟨0x2301, 1, 0xb, 1, 1, .u32, .ro, .c 0, .any⟩,
  ⟨0x2200, 24, 0x0, 1, 1, .u8, .ro, .c 7, .any⟩,
  ⟨0x2200, 24, 0x1, 1, 1, .bool, .rw, .c 0, .rng 0 1⟩,
  ⟨0x2200, 24, 0x2, 1, 1, .u8, .ro, .c 0, .any⟩,
  ⟨0x2200, 24, 0x3, 1, 1, .u32, .ro, .c 4294967295, .any⟩,
  ⟨0x2200, 24, 0x4, 1, 1, .u64, .ro, .c 0, .any⟩,
  ⟨0x2200, 24, 0x5, 1, 1, .u64, .ro, .c 0, .any⟩,
  ⟨0x2200, 24, 0x6, 1, 1, .u32, .ro, .c 0, .any⟩,
  ⟨0x2200, 24, 0x7, 1, 1, .u16, .rc, .c 0, .any⟩]

/-- The rows of the cat block: CAT_CTRL, CAT_STATUS, CHS. -/
def catRows : List Row := catRows1

/-- Rows of the trj block, part 1. -/
def trjRows1 : List Row := [
  ⟨0x2900, 256, 0x0, 1, 1, .u8, .ro, .c 15, .any⟩,
  ⟨0x2900, 256, 0x1, 1, 1, .u32, .rw, .c 1000000, .rng (1000) 20000000⟩,
  ⟨0x2900, 256, 0x2, 1, 1, .u32, .rw, .c 5000000, .rng (1000) 30000000⟩,
  ⟨0x2900, 256, 0x3, 1, 1, .u32, .rw, .c 50000, .rng (100) 2000000⟩,
  ⟨0x2900, 256, 0x4, 1, 1, .u32, .rw, .c 100000, .rng (100) 2000000⟩,
  ⟨0x2900, 256, 0x5, 1, 1, .u16, .rw, .c 32768, .any⟩,
  ⟨0x2900, 256, 0x6, 1, 1, .u16, .rw, .c 0, .any⟩,
  ⟨0x2900, 256, 0x7, 1, 1, .u16, .rw, .c 0, .any⟩,
  ⟨0x2900, 256, 0x8, 1, 1, .i32, .rw, .c 0, .mul (-100000) 100000 4⟩,
  ⟨0x2900, 256, 0x9, 1, 1, .i32, .rw, .c 0, .mul (-100000) 100000 4⟩,
  ⟨0x2900, 256, 0xa, 1, 1, .u16, .rw, .c 200, .rng (0) 20000⟩,
  ⟨0x2900, 256, 0xb, 1, 1, .u16, .rw, .c 400, .rng (0) 20000⟩,
  ⟨0x2900, 256, 0xc, 1, 1, .u16, .rw, .c 20, .rng (0) 20000⟩,
  ⟨0x2900, 256, 0xd, 1, 1, .u8, .rw, .c 0, .rng (0) 63⟩,
  ⟨0x2900, 256, 0xe, 1, 1, .u8, .rw, .c 0, .rng (0) 31⟩,
  ⟨0x2900, 256, 0xf, 1, 1, .u8, .rw, .c 0, .rng (0) 15⟩,
  ⟨0x2400, 24, 0x0, 1, 1, .u8, .ro, .c 18, .any⟩,
  ⟨0x2400, 24, 0x1, 1, 1, .u32, .rw, .c 67108864, .rng (1048576) 1073741824⟩,
  ⟨0x2400, 24, 0x2, 1, 1, .u32, .rw, .c 2621440, .rng (65536) 268435456⟩,
  ⟨0x2400, 24, 0x3, 1, 1, .u32, .rw, .c 30000000, .rng (1000) 30000000⟩,
  ⟨0x2400, 24, 0x4, 1, 1, .u32, .rw, .c 2000000, .rng (100) 2000000⟩,
  ⟨0x2400, 24, 0x5, 1, 1, .i32, .rw, .c 0, .mul (-20000) 20000 4⟩,
  ⟨0x2400, 24, 0x6, 1, 1, .i32, .rw, .c 0, .mul (-20000) 20000 4⟩,
  ⟨0x2400, 24, 0x7, 1, 1, .u32, .rw, .c 3200, .rng (1) 8388607⟩,
  ⟨0x2400, 24, 0x8, 1, 1, .u32, .rw, .c 64000, .rng (1) 8388607⟩,
  ⟨0x2400, 24, 0x9, 1, 1, .u8, .rw, .c 4, .rng (1) 64⟩,
  ⟨0x2400, 24, 0xa, 1, 1, .u8, .rw, .c 255, .rngOr 0 63 255⟩,
  ⟨0x2400, 24, 0xb, 1, 1, .u16, .ro, .c 0, .any⟩,
  ⟨0x2400, 24, 0xc, 1, 1, .u16, .rc, .c 0, .any⟩,
  ⟨0x2400, 24, 0xd, 1, 1, .i32, .ro, .c 0, .any⟩,
  ⟨0x2400, 24, 0xe, 1, 1, .i32, .ro, .c 0, .any⟩,
  ⟨0x2400, 24, 0xf, 1, 1, .u64, .ro, .c 0, .any⟩,
  ⟨0x2400, 24, 0x10, 1, 1, .u32, .rc, .c 0, .any⟩,
  ⟨0x2400, 24, 0x11, 1, 1, .u32, .rc, .c 0, .any⟩,
  ⟨0x2400, 24, 0x12, 1, 1, .i16, .ro, .c 0, .any⟩,
  ⟨0x2500, 24, 0x0, 1, 1, .u8, .ro, .c 11, .any⟩,
  ⟨0x2500, 24, 0x1, 1, 1, .blob, .rw, .c 0, .any⟩,
  ⟨0x2500, 24, 0x2, 1, 1, .u32, .rw, .c 52428800, .rng (1048576) 536870912⟩,
  ⟨0x2500, 24, 0x3, 1, 1, .bool, .rw, .c 0, .rng 0 1⟩,
  ⟨0x2500, 24, 0x4, 1, 1, .u32, .ro, .c 2937875829, .any⟩]

/-- Rows of the trj block, part 2. -/
def trjRows2 : List Row := [
  ⟨0x2500, 24, 0x5, 1, 1, .i16, .rw, .c 480, .any⟩,
  ⟨0x2500, 24, 0x6, 1, 1, .i32, .rw, .c 0, .rng (-1000000) 1000000⟩,
  ⟨0x2500, 24, 0x7, 1, 1, .i32, .rw, .c 0, .rng (-1000000) 1000000⟩,
  ⟨0x2500, 24, 0x8, 1, 1, .i32, .rw, .c 0, .rng (-1000000) 1000000⟩,
  ⟨0x2500, 24, 0x9, 1, 1, .i32, .rw, .c 0, .rng (-1000000) 1000000⟩,
  ⟨0x2500, 24, 0xa, 1, 1, .i32, .rw, .c 0, .rng (-1000000) 1000000⟩,
  ⟨0x2500, 24, 0xb, 1, 1, .u32, .ro, .c 0, .any⟩,
  ⟨0x2520, 1, 0x0, 1, 1, .u8, .ro, .c 192, .any⟩,
  ⟨0x2520, 1, 0x1, 24, 8, .i32, .rw, .c 1073741824, .any⟩,
  ⟨0x2520, 1, 0x2, 24, 8, .i32, .rw, .c 0, .any⟩,
  ⟨0x2520, 1, 0x3, 24, 8, .i32, .rw, .c 0, .any⟩,
  ⟨0x2520, 1, 0x4, 24, 8, .i32, .rw, .c 0, .any⟩,
  ⟨0x2520, 1, 0x5, 24, 8, .i32, .rw, .c 1073741824, .any⟩,
  ⟨0x2520, 1, 0x6, 24, 8, .i32, .rw, .c 0, .any⟩,
  ⟨0x2520, 1, 0x7, 24, 8, .i32, .rw, .c 0, .any⟩,
  ⟨0x2520, 1, 0x8, 24, 8, .i32, .rw, .c 0, .any⟩]

/-- The rows of the trj block: TRJ, COR, REG, PS. -/
def trjRows : List Row := trjRows1 ++ trjRows2

/-- Rows of the lnd block, part 1. -/
def lndRows1 : List Row := [
  ⟨0x2600, 1, 0x0, 1, 1, .u8, .ro, .c 103, .any⟩,
  ⟨0x2600, 1, 0x1, 1, 1, .u8, .rw, .c 0, .rng 0 1⟩,
  ⟨0x2600, 1, 0x2, 1, 1, .u32, .rw, .c 1280000, .rng (0) 25600000⟩,
  ⟨0x2600, 1, 0x3, 1, 1, .blob, .ro, .c 0, .any⟩,
  ⟨0x2600, 1, 0x4, 1, 1, .u8, .ro, .c 0, .any⟩,
  ⟨0x2600, 1, 0x5, 1, 1, .u32, .rc, .c 0, .any⟩,
  ⟨0x2600, 1, 0x6, 1, 1, .u16, .ro, .c 0, .any⟩,
  ⟨0x2600, 1, 0x7, 1, 1, .u32, .rc, .c 0, .any⟩,
  ⟨0x2600, 1, 0x8, 1, 1, .u8, .ro, .c 0, .any⟩,
  ⟨0x2600, 1, 0x9, 1, 1, .u8, .ro, .c 0, .any⟩,
  ⟨0x2600, 1, 0x20, 72, 1, .u8, .rw, .c 1, .rng 1 255⟩,
  ⟨0x2610, 24, 0x0, 1, 1, .u8, .ro, .c 14, .any⟩,
  ⟨0x2610, 24, 0x1, 1, 1, .u8, .rw, .c 1, .rng (1) 255⟩,
  ⟨0x2610, 24, 0x2, 1, 1, .bool, .rw, .c 1, .rng 0 1⟩,
  ⟨0x2610, 24, 0x3, 1, 1, .u32, .ro, .c 0, .any⟩,
  ⟨0x2610, 24, 0x4, 1, 1, .u8, .ro, .byIdx, .any⟩,
  ⟨0x2610, 24, 0x5, 1, 1, .u32, .ro, .c 0, .any⟩,
  ⟨0x2610, 24, 0x6, 1, 1, .u32, .ro, .c 0, .any⟩,
  ⟨0x2610, 24, 0x7, 1, 1, .u32, .ro, .c 0, .any⟩,
  ⟨0x2610, 24, 0x8, 1, 1, .u32, .ro, .c 0, .any⟩,
  ⟨0x2610, 24, 0x9, 1, 1, .u32, .ro, .c 0, .any⟩,
  ⟨0x2610, 24, 0xa, 1, 1, .u32, .ro, .c 0, .any⟩,
  ⟨0x2610, 24, 0xb, 1, 1, .u32, .ro, .c 0, .any⟩,
  ⟨0x2610, 24, 0xc, 1, 1, .u32, .ro, .c 0, .any⟩,
  ⟨0x2610, 24, 0xd, 1, 1, .u32, .ro, .c 0, .any⟩,
  ⟨0x2610, 24, 0xe, 1, 1, .u32, .ro, .c 0, .any⟩,
  ⟨0x2640, 1, 0x0, 1, 1, .u8, .ro, .c 11, .any⟩,
  ⟨0x2640, 1, 0x1, 1, 1, .bool, .rw, .c 1, .rng 0 1⟩,
  ⟨0x2640, 1, 0x2, 1, 1, .u32, .rw, .c 1280000, .rng (0) 25600000⟩,
  ⟨0x2640, 1, 0x3, 1, 1, .u16, .rw, .c 18000, .rng (0) 35999⟩,
  ⟨0x2640, 1, 0x4, 1, 1, .u32, .rw, .c 5120000, .rng (0) 51200000⟩,
  ⟨0x2640, 1, 0x5, 1, 1, .u32, .rw, .c 1024000, .rng (0) 25600000⟩,
  ⟨0x2640, 1, 0x6, 1, 1, .u32, .rw, .c 200000, .rng (1) 2000000000⟩,
  ⟨0x2640, 1, 0x7, 1, 1, .u32, .rc, .c 0, .any⟩,
  ⟨0x2640, 1, 0x8, 1, 1, .u64, .rc, .c 0, .any⟩,
  ⟨0x2640, 1, 0x9, 1, 1, .u32, .rc, .c 0, .any⟩,
  ⟨0x2640, 1, 0xa, 1, 1, .i32, .ro, .c (-1073741824), .any⟩,
  ⟨0x2640, 1, 0xb, 1, 1, .i32, .ro, .c 0, .any⟩]

/-- The rows of the lnd block: LND, LNDC, PLM. -/
def lndRows : List Row := lndRows1

/-- Rows of the mpl block, part 1. -/
def mplRows1 : List Row := [
  ⟨0x2700, 24, 0x0, 1, 1, .u8, .ro, .c 20, .any⟩,
  ⟨0x2700, 24, 0x1, 1, 1, .u16, .rw, .c 96, .fields [(1, 0, 0, 2), (3, 2, 0, 2), (4, 4, 0, 1), (5, 5, 0, 1), (6, 6, 0, 1)]⟩,
  ⟨0x2700, 24, 0x2, 1, 1, .u8, .wo, .c 0, .rng 1 2⟩,
  ⟨0x2700, 24, 0x3, 1, 1, .u16, .rw, .c 8, .rng (0) 2000⟩,
  ⟨0x2700, 24, 0x4, 1, 1, .u8, .ro, .c 0, .any⟩,
  ⟨0x2700, 24, 0x5, 1, 1, .u16, .ro, .c 32768, .any⟩,
  ⟨0x2700, 24, 0x6, 1, 1, .i32, .ro, .c 0, .any⟩,
  ⟨0x2700, 24, 0x7, 1, 1, .u8, .ro, .c 0, .any⟩,
  ⟨0x2700, 24, 0x8, 1, 1, .u8, .ro, .c 0, .any⟩,
  ⟨0x2700, 24, 0x9, 1, 1, .u16, .ro, .c 0, .any⟩,
  ⟨0x2700, 24, 0xa, 1, 1, .i32, .ro, .c 0, .any⟩,
  ⟨0x2700, 24, 0xb, 1, 1, .u16, .ro, .c 0, .any⟩,
  ⟨0x2700, 24, 0xc, 1, 1, .u32, .rc, .c 0, .any⟩,
  ⟨0x2700, 24, 0xd, 1, 1, .u8, .ro, .c 0, .any⟩,
  ⟨0x2700, 24, 0xe, 1, 1, .u16, .ro, .c 0, .any⟩,
  ⟨0x2700, 24, 0xf, 1, 1, .u16, .rc, .c 0, .any⟩,
  ⟨0x2700, 24, 0x10, 1, 1, .u32, .rc, .c 0, .any⟩,
  ⟨0x2700, 24, 0x11, 1, 1, .u32, .rc, .c 0, .any⟩,
  ⟨0x2700, 24, 0x12, 1, 1, .u32, .rc, .c 0, .any⟩,
  ⟨0x2700, 24, 0x13, 1, 1, .u32, .rc, .c 0, .any⟩,
  ⟨0x2700, 24, 0x14, 1, 1, .u16, .rc, .c 0, .any⟩,
  ⟨0x2720, 32, 0x0, 1, 1, .u8, .ro, .c 7, .any⟩,
  ⟨0x2720, 32, 0x1, 1, 1, .u16, .rw, .c 1024, .rng (0) 65535⟩,
  ⟨0x2720, 32, 0x2, 1, 1, .u16, .rw, .c 655, .rng (0) 16384⟩,
  ⟨0x2720, 32, 0x3, 1, 1, .i32, .rw, .c 0, .rng (-16777216) 16777216⟩,
  ⟨0x2720, 32, 0x4, 1, 1, .u32, .rw, .c 67108864, .rng (0) 536870912⟩,
  ⟨0x2720, 32, 0x5, 1, 1, .u16, .rw, .c 65535, .any⟩,
  ⟨0x2720, 32, 0x6, 1, 1, .u16, .rw, .c 64, .rng (1) 65535⟩,
  ⟨0x2720, 32, 0x7, 1, 1, .u8, .rw, .c 3, .rng (1) 63⟩]

/-- The rows of the mpl block: MPL, MPLC. -/
def mplRows : List Row := mplRows1

/-- Rows of the grd block, part 1. -/
def grdRows1 : List Row := [
  ⟨0x2800, 1, 0x0, 1, 1, .u8, .ro, .c 38, .any⟩,
  ⟨0x2800, 1, 0x1, 1, 1, .u16, .rw, .c 3, .fields [(0, 0, 0, 1), (1, 1, 0, 1), (2, 2, 0, 1)]⟩,
  ⟨0x2800, 1, 0x2, 1, 1, .u8, .wo, .c 0, .rng 1 4⟩,
  ⟨0x2800, 1, 0x3, 1, 1, .u16, .rw, .c 4096, .mul (64) 8192 64⟩,
  ⟨0x2800, 1, 0x4, 1, 1, .u16, .rw, .c 4096, .mul (64) 8192 64⟩,
  ⟨0x2800, 1, 0x5, 1, 1, .u16, .rw, .c 100, .rng (50) 400⟩,
  ⟨0x2800, 1, 0x6, 1, 1, .i32, .rw, .c (-52428800), .any⟩,
  ⟨0x2800, 1, 0x7, 1, 1, .i32, .rw, .c (-52428800), .any⟩,
  ⟨0x2800, 1, 0x8, 1, 1, .u16, .rw, .c 9541, .any⟩,
  ⟨0x2800, 1, 0x9, 1, 1, .u32, .rw, .c 1000, .rng (100) 1000000⟩,
  ⟨0x2800, 1, 0xa, 1, 1, .u8, .ro, .c 0, .any⟩,
  ⟨0x2800, 1, 0xb, 1, 1, .blob, .ro, .c 0, .any⟩,
  ⟨0x2800, 1, 0xc, 1, 1, .u64, .ro, .c 0, .any⟩,
  ⟨0x2800, 1, 0xd, 1, 1, .u64, .ro, .c 0, .any⟩,
  ⟨0x2800, 1, 0xe, 1, 1, .u32, .rc, .c 0, .any⟩,
  ⟨0x2800, 1, 0xf, 24, 1, .u16, .rw, .c 1000, .rng (1) 65535⟩,
  ⟨0x2810, 1, 0x0, 1, 1, .u8, .ro, .c 16, .any⟩,
  ⟨0x2810, 1, 0x1, 1, 1, .u32, .rw, .c 40000, .rng (20000) 400000⟩,
  ⟨0x2810, 1, 0x2, 1, 1, .u16, .rw, .c 0, .any⟩,
  ⟨0x2810, 1, 0x3, 1, 1, .u16, .rw, .c 0, .rng (0) 16384⟩,
  ⟨0x2810, 1, 0x4, 1, 1, .u32, .rw, .c 65536, .rng (0) 16777216⟩,
  ⟨0x2810, 1, 0x5, 1, 1, .u8, .ro, .c 0, .any⟩,
  ⟨0x2810, 1, 0x6, 1, 1, .u64, .ro, .c 18446744073709551615, .any⟩,
  ⟨0x2810, 1, 0x7, 1, 1, .u64, .ro, .c 0, .any⟩,
  ⟨0x2810, 1, 0x8, 1, 1, .u64, .ro, .c 0, .any⟩,
  ⟨0x2810, 1, 0x9, 1, 1, .u64, .ro, .c 0, .any⟩,
  ⟨0x2810, 1, 0xa, 1, 1, .u16, .ro, .c 0, .any⟩,
  ⟨0x2810, 1, 0xb, 1, 1, .u32, .ro, .c 0, .any⟩,
  ⟨0x2810, 1, 0xc, 1, 1, .u32, .rc, .c 0, .any⟩,
  ⟨0x2810, 1, 0xd, 1, 1, .u32, .rc, .c 0, .any⟩,
  ⟨0x2810, 1, 0xe, 1, 1, .u32, .rc, .c 0, .any⟩,
  ⟨0x2810, 1, 0xf, 1, 1, .u32, .rc, .c 0, .any⟩,
  ⟨0x2810, 1, 0x10, 1, 1, .u32, .rc, .c 0, .any⟩,
  ⟨0x2820, 64, 0x0, 1, 1, .u8, .ro, .c 2, .any⟩,
  ⟨0x2820, 64, 0x1, 1, 1, .blob, .rw, .c 0, .any⟩,
  ⟨0x2820, 64, 0x2, 1, 1, .u32, .ro, .c 1507974855, .any⟩,
  ⟨0x2860, 16, 0x0, 1, 1, .u8, .ro, .c 2, .any⟩,
  ⟨0x2860, 16, 0x1, 1, 1, .blob, .rw, .c 0, .any⟩,
  ⟨0x2860, 16, 0x2, 1, 1, .u32, .ro, .c 657829357, .any⟩]

/-- The rows of the grd block: GRD_CFG, GRD_SWEEP, GRD_CURVE, GRD_MODEL. -/
def grdRows : List Row := grdRows1

/-- Rows of the lnk block, part 1. -/
def lnkRows1 : List Row := [
  ⟨0x3000, 48, 0x0, 1, 1, .u8, .ro, .c 22, .any⟩,
  ⟨0x3000, 48, 0x1, 1, 1, .u16, .rw, .c 15, .fields [(0, 0, 0, 1), (2, 1, 0, 3), (3, 3, 0, 1)]⟩,
  ⟨0x3000, 48, 0x2, 1, 1, .u8, .wo, .c 0, .rng 1 2⟩,
  ⟨0x3000, 48, 0x3, 1, 1, .u8, .ro, .c 0, .any⟩,
  ⟨0x3000, 48, 0x4, 1, 1, .u8, .ro, .c 255, .any⟩,
  ⟨0x3000, 48, 0x5, 1, 1, .u8, .ro, .c 255, .any⟩,
  ⟨0x3000, 48, 0x6, 1, 1, .u8, .ro, .c 0, .any⟩,
  ⟨0x3000, 48, 0x7, 1, 1, .u64, .ro, .c 0, .any⟩,
  ⟨0x3000, 48, 0x8, 1, 1, .u64, .ro, .c 0, .any⟩,
  ⟨0x3000, 48, 0x9, 1, 1, .u32, .rw, .c 0, .rng (0) 1000⟩,
  ⟨0x3000, 48, 0xa, 1, 1, .u32, .rw, .c 4000, .rng (1000) 200000⟩,
  ⟨0x3000, 48, 0xb, 1, 1, .u16, .rw, .c 3075, .fields [(7, 0, 1, 31), (15, 8, 1, 127)]⟩,
  ⟨0x3000, 48, 0xc, 1, 1, .u32, .rw, .c 2000000, .rng (20000) 200000000⟩,
  ⟨0x3000, 48, 0xd, 1, 1, .u32, .ro, .c 0, .any⟩,
  ⟨0x3000, 48, 0xe, 1, 1, .u32, .ro, .c 0, .any⟩,
  ⟨0x3000, 48, 0xf, 1, 1, .u8, .ro, .c 0, .any⟩,
  ⟨0x3000, 48, 0x10, 1, 1, .u32, .rc, .c 0, .any⟩,
  ⟨0x3000, 48, 0x11, 1, 1, .u16, .rc, .c 0, .any⟩,
  ⟨0x3000, 48, 0x12, 1, 1, .u16, .rc, .c 0, .any⟩,
  ⟨0x3000, 48, 0x13, 1, 1, .u16, .rc, .c 0, .any⟩,
  ⟨0x3000, 48, 0x14, 1, 1, .u32, .rc, .c 0, .any⟩,
  ⟨0x3000, 48, 0x15, 1, 1, .u64, .ro, .c 0, .any⟩,
  ⟨0x3000, 48, 0x16, 1, 1, .u32, .rc, .c 0, .any⟩]

/-- The rows of the lnk block: LNK. -/
def lnkRows : List Row := lnkRows1

/-- Rows of the att block, part 1. -/
def attRows1 : List Row := [
  ⟨0x3100, 24, 0x0, 1, 1, .u8, .ro, .c 10, .any⟩,
  ⟨0x3100, 24, 0x1, 1, 1, .u8, .ro, .c 0, .any⟩,
  ⟨0x3100, 24, 0x2, 1, 1, .u8, .ro, .c 0, .any⟩,
  ⟨0x3100, 24, 0x3, 1, 1, .u16, .ro, .c 0, .any⟩,
  ⟨0x3100, 24, 0x4, 1, 1, .u8, .ro, .c 0, .any⟩,
  ⟨0x3100, 24, 0x5, 1, 1, .u16, .ro, .c 0, .any⟩,
  ⟨0x3100, 24, 0x6, 1, 1, .u32, .rc, .c 0, .any⟩,
  ⟨0x3100, 24, 0x7, 1, 1, .u32, .rc, .c 0, .any⟩,
  ⟨0x3100, 24, 0x8, 1, 1, .u32, .rc, .c 0, .any⟩,
  ⟨0x3100, 24, 0x9, 1, 1, .u32, .rc, .c 0, .any⟩,
  ⟨0x3100, 24, 0xa, 1, 1, .u32, .rc, .c 0, .any⟩,
  ⟨0x3120, 24, 0x0, 1, 1, .u8, .ro, .c 14, .any⟩,
  ⟨0x3120, 24, 0x1, 1, 1, .u8, .rw, .c 0, .rng 0 1⟩,
  ⟨0x3120, 24, 0x2, 1, 1, .u8, .rw, .c 0, .fields [(0, 0, 0, 1)]⟩,
  ⟨0x3120, 24, 0x3, 1, 1, .u8, .rw, .c 3, .rng (1) 63⟩,
  ⟨0x3120, 24, 0x4, 1, 1, .u8, .rw, .c 4, .rng (0) 63⟩,
  ⟨0x3120, 24, 0x5, 1, 1, .u16, .rw, .c 4096, .any⟩,
  ⟨0x3120, 24, 0x6, 1, 1, .u16, .rw, .c 200, .rng (1) 65535⟩,
  ⟨0x3120, 24, 0x7, 1, 1, .u8, .ro, .c 0, .any⟩,
  ⟨0x3120, 24, 0x8, 1, 1, .u16, .ro, .c 0, .any⟩,
  ⟨0x3120, 24, 0x9, 1, 1, .u16, .ro, .c 0, .any⟩,
  ⟨0x3120, 24, 0xa, 1, 1, .i16, .ro, .c 0, .any⟩,
  ⟨0x3120, 24, 0xb, 1, 1, .u16, .ro, .c 0, .any⟩,
  ⟨0x3120, 24, 0xc, 1, 1, .u32, .rc, .c 0, .any⟩,
  ⟨0x3120, 24, 0xd, 1, 1, .u32, .rc, .c 0, .any⟩,
  ⟨0x3120, 24, 0xe, 1, 1, .u16, .rc, .c 0, .any⟩,
  ⟨0x3140, 8, 0x0, 1, 1, .u8, .ro, .c 7, .any⟩,
  ⟨0x3140, 8, 0x1, 1, 1, .bool, .rw, .c 0, .rng 0 1⟩,
  ⟨0x3140, 8, 0x2, 1, 1, .u16, .rw, .c 0, .any⟩,
  ⟨0x3140, 8, 0x3, 1, 1, .u16, .rw, .c 0, .any⟩,
  ⟨0x3140, 8, 0x4, 1, 1, .u8, .rw, .c 10, .rng (1) 255⟩,
  ⟨0x3140, 8, 0x5, 1, 1, .u16, .ro, .c 0, .any⟩,
  ⟨0x3140, 8, 0x6, 1, 1, .u32, .rc, .c 0, .any⟩,
  ⟨0x3140, 8, 0x7, 1, 1, .u32, .ro, .c 0, .any⟩,
  ⟨0x3150, 24, 0x0, 1, 1, .u8, .ro, .c 8, .any⟩,
  ⟨0x3150, 24, 0x1, 1, 1, .u8, .rw, .c 0, .fields [(0, 0, 0, 1), (1, 1, 0, 1)]⟩,
  ⟨0x3150, 24, 0x2, 1, 1, .u8, .rw, .byIdx, .rng (0) 23⟩,
  ⟨0x3150, 24, 0x3, 1, 1, .u16, .rw, .c 0, .any⟩,
  ⟨0x3150, 24, 0x4, 1, 1, .u16, .rw, .c 65535, .any⟩,
  ⟨0x3150, 24, 0x5, 1, 1, .u16, .rw, .c 40, .rng (1) 2000⟩]

/-- Rows of the att block, part 2. -/
def attRows2 : List Row := [
  ⟨0x3150, 24, 0x6, 1, 1, .u16, .ro, .c 0, .any⟩,
  ⟨0x3150, 24, 0x7, 1, 1, .u16, .ro, .c 0, .any⟩,
  ⟨0x3150, 24, 0x8, 1, 1, .u32, .rc, .c 0, .any⟩]

/-- The rows of the att block: HDP, SRC, XY, AIO. -/
def attRows : List Row := attRows1 ++ attRows2

/-- Rows of the img block, part 1. -/
def imgRows1 : List Row := [
  ⟨0x3200, 4, 0x0, 1, 1, .u8, .ro, .c 20, .any⟩,
  ⟨0x3200, 4, 0x1, 1, 1, .u16, .rw, .c 7944, .fields [(0, 0, 0, 1), (1, 1, 0, 1), (4, 2, 0, 4), (12, 8, 0, 31)]⟩,
  ⟨0x3200, 4, 0x2, 1, 1, .u16, .rw, .c 4096, .mul 64 8192 2⟩,
  ⟨0x3200, 4, 0x3, 1, 1, .u16, .rw, .c 3000, .rng (1) 8192⟩,
  ⟨0x3200, 4, 0x4, 1, 1, .u16, .rw, .c 20, .rng (1) 2000⟩,
  ⟨0x3200, 4, 0x5, 1, 1, .u32, .rw, .c 200000, .rng (1000) 20000000⟩,
  ⟨0x3200, 4, 0x6, 1, 1, .u16, .rw, .c 0, .any⟩,
  ⟨0x3200, 4, 0x7, 1, 1, .blob, .rw, .c 0, .any⟩,
  ⟨0x3200, 4, 0x8, 1, 1, .blob, .rw, .c 0, .any⟩,
  ⟨0x3200, 4, 0x9, 1, 1, .blob, .rw, .c 0, .any⟩,
  ⟨0x3200, 4, 0xa, 1, 1, .u8, .ro, .c 0, .any⟩,
  ⟨0x3200, 4, 0xb, 1, 1, .u32, .ro, .c 0, .any⟩,
  ⟨0x3200, 4, 0xc, 1, 1, .u16, .ro, .c 0, .any⟩,
  ⟨0x3200, 4, 0xd, 1, 1, .u8, .ro, .c 2, .any⟩,
  ⟨0x3200, 4, 0xe, 1, 1, .u32, .ro, .c 0, .any⟩,
  ⟨0x3200, 4, 0xf, 1, 1, .u32, .rc, .c 0, .any⟩,
  ⟨0x3200, 4, 0x10, 1, 1, .u32, .rc, .c 0, .any⟩,
  ⟨0x3200, 4, 0x11, 1, 1, .u32, .rc, .c 0, .any⟩,
  ⟨0x3200, 4, 0x12, 1, 1, .u32, .rc, .c 0, .any⟩,
  ⟨0x3200, 4, 0x13, 1, 1, .blob, .ro, .c 0, .any⟩,
  ⟨0x3200, 4, 0x14, 1, 1, .u64, .ro, .c 0, .any⟩,
  ⟨0x3210, 1, 0x0, 1, 1, .u8, .ro, .c 10, .any⟩,
  ⟨0x3210, 1, 0x1, 1, 1, .u8, .rw, .c 0, .rng (0) 3⟩,
  ⟨0x3210, 1, 0x2, 1, 1, .bool, .rw, .c 1, .rng 0 1⟩,
  ⟨0x3210, 1, 0x3, 1, 1, .u16, .rw, .c 6016, .rng (64) 8192⟩,
  ⟨0x3210, 1, 0x4, 1, 1, .u16, .rw, .c 6016, .rng (64) 8192⟩,
  ⟨0x3210, 1, 0x5, 1, 1, .u16, .rw, .c 100, .rng (10) 1000⟩,
  ⟨0x3210, 1, 0x6, 1, 1, .i32, .rw, .c (-77004800), .any⟩,
  ⟨0x3210, 1, 0x7, 1, 1, .i32, .rw, .c (-77004800), .any⟩,
  ⟨0x3210, 1, 0x8, 1, 1, .u8, .ro, .c 0, .any⟩,
  ⟨0x3210, 1, 0x9, 1, 1, .u32, .rc, .c 0, .any⟩,
  ⟨0x3210, 1, 0xa, 1, 1, .u32, .rc, .c 0, .any⟩,
  ⟨0x3220, 24, 0x0, 1, 1, .u8, .ro, .c 17, .any⟩,
  ⟨0x3220, 24, 0x1, 1, 1, .u8, .rw, .c 64, .fields [(0, 0, 0, 1), (1, 1, 0, 1), (7, 6, 0, 2)]⟩,
  ⟨0x3220, 24, 0x2, 1, 1, .u16, .rw, .c 50, .rng (50) 65535⟩,
  ⟨0x3220, 24, 0x3, 1, 1, .u16, .rw, .c 0, .any⟩,
  ⟨0x3220, 24, 0x4, 1, 1, .u16, .rw, .c 20, .rng (1) 65535⟩,
  ⟨0x3220, 24, 0x5, 1, 1, .u8, .rw, .c 40, .rng (1) 62⟩,
  ⟨0x3220, 24, 0x6, 1, 1, .u16, .rw, .c 32768, .any⟩,
  ⟨0x3220, 24, 0x7, 1, 1, .u64, .ro, .c 0, .any⟩]

/-- Rows of the img block, part 2. -/
def imgRows2 : List Row := [
  ⟨0x3220, 24, 0x8, 1, 1, .u16, .ro, .c 0, .any⟩,
  ⟨0x3220, 24, 0x9, 1, 1, .u8, .ro, .c 0, .any⟩,
  ⟨0x3220, 24, 0xa, 1, 1, .u8, .ro, .c 0, .any⟩,
  ⟨0x3220, 24, 0xb, 1, 1, .u16, .ro, .c 0, .any⟩,
  ⟨0x3220, 24, 0xc, 1, 1, .u32, .ro, .c 0, .any⟩,
  ⟨0x3220, 24, 0xd, 1, 1, .u32, .rc, .c 0, .any⟩,
  ⟨0x3220, 24, 0xe, 1, 1, .u32, .rc, .c 0, .any⟩,
  ⟨0x3220, 24, 0xf, 1, 1, .u32, .rc, .c 0, .any⟩,
  ⟨0x3220, 24, 0x10, 1, 1, .blob, .ro, .c 0, .any⟩,
  ⟨0x3220, 24, 0x11, 1, 1, .u64, .ro, .c 0, .any⟩]

/-- The rows of the img block: CAM, IMG, MPF. -/
def imgRows : List Row := imgRows1 ++ imgRows2

/-- Rows of the ilm block, part 1. -/
def ilmRows1 : List Row := [
  ⟨0x3300, 16, 0x0, 1, 1, .u8, .ro, .c 14, .any⟩,
  ⟨0x3300, 16, 0x1, 1, 1, .bool, .rw, .c 0, .rng 0 1⟩,
  ⟨0x3300, 16, 0x2, 1, 1, .u16, .rw, .c 0, .rng (0) 4095⟩,
  ⟨0x3300, 16, 0x3, 1, 1, .u16, .rw, .c 2000, .rng (2) 20000⟩,
  ⟨0x3300, 16, 0x4, 1, 1, .u16, .rw, .c 32768, .rng (24576) 40960⟩,
  ⟨0x3300, 16, 0x5, 1, 1, .u16, .rw, .c 0, .any⟩,
  ⟨0x3300, 16, 0x6, 1, 1, .u16, .rw, .c 0, .any⟩,
  ⟨0x3300, 16, 0x7, 1, 1, .u16, .rw, .c 0, .any⟩,
  ⟨0x3300, 16, 0x8, 1, 1, .u8, .ro, .c 0, .any⟩,
  ⟨0x3300, 16, 0x9, 1, 1, .u16, .ro, .c 0, .any⟩,
  ⟨0x3300, 16, 0xa, 1, 1, .u16, .ro, .c 0, .any⟩,
  ⟨0x3300, 16, 0xb, 1, 1, .u8, .ro, .c 255, .any⟩,
  ⟨0x3300, 16, 0xc, 1, 1, .u32, .rc, .c 0, .any⟩,
  ⟨0x3300, 16, 0xd, 1, 1, .u32, .rc, .c 0, .any⟩,
  ⟨0x3300, 16, 0xe, 1, 1, .u32, .rc, .c 0, .any⟩,
  ⟨0x3310, 1, 0x0, 1, 1, .u8, .ro, .c 9, .any⟩,
  ⟨0x3310, 1, 0x1, 1, 1, .u8, .rw, .c 255, .any⟩,
  ⟨0x3310, 1, 0x2, 1, 1, .u8, .wo, .c 0, .rng 1 2⟩,
  ⟨0x3310, 1, 0x3, 1, 1, .u16, .rw, .c 16, .rng (1) 65535⟩,
  ⟨0x3310, 1, 0x4, 1, 1, .u16, .rw, .c 8000, .rng (2000) 40000⟩,
  ⟨0x3310, 1, 0x5, 1, 1, .u16, .rw, .c 12000, .rng (0) 12000⟩,
  ⟨0x3310, 1, 0x6, 1, 1, .u16, .rw, .c 0, .any⟩,
  ⟨0x3310, 1, 0x7, 1, 1, .bool, .ro, .c 0, .any⟩,
  ⟨0x3310, 1, 0x8, 1, 1, .u32, .ro, .c 0, .any⟩,
  ⟨0x3310, 1, 0x9, 1, 1, .u32, .rc, .c 0, .any⟩]

/-- The rows of the ilm block: ILM, ILMG. -/
def ilmRows : List Row := ilmRows1

/-- Rows of the fol block, part 1. -/
def folRows1 : List Row := [
  ⟨0x3400, 1, 0x0, 1, 1, .u8, .ro, .c 14, .any⟩,
  ⟨0x3400, 1, 0x1, 1, 1, .bool, .rw, .c 1, .rng 0 1⟩,
  ⟨0x3400, 1, 0x2, 1, 1, .u32, .rw, .c 1000, .rng (0) 1000000⟩,
  ⟨0x3400, 1, 0x3, 1, 1, .u16, .rw, .c 64, .any⟩,
  ⟨0x3400, 1, 0x4, 1, 1, .u32, .rw, .c 1048576, .pow2 65536 16777216⟩,
  ⟨0x3400, 1, 0x5, 1, 1, .u16, .rw, .c 256, .rng (1) 8192⟩,
  ⟨0x3400, 1, 0x6, 1, 1, .u16, .ro, .c 256, .any⟩,
  ⟨0x3400, 1, 0x7, 1, 1, .u8, .ro, .c 1, .any⟩,
  ⟨0x3400, 1, 0x8, 1, 1, .u8, .ro, .c 0, .any⟩,
  ⟨0x3400, 1, 0x9, 1, 1, .u32, .rc, .c 0, .any⟩,
  ⟨0x3400, 1, 0xa, 1, 1, .u32, .rc, .c 0, .any⟩,
  ⟨0x3400, 1, 0xb, 1, 1, .u32, .rc, .c 0, .any⟩,
  ⟨0x3400, 1, 0xc, 1, 1, .u32, .rc, .c 0, .any⟩,
  ⟨0x3400, 1, 0xd, 1, 1, .u64, .ro, .c 0, .any⟩,
  ⟨0x3400, 1, 0xe, 1, 1, .u64, .ro, .c 0, .any⟩,
  ⟨0x3410, 4, 0x0, 1, 1, .u8, .ro, .c 13, .any⟩,
  ⟨0x3410, 4, 0x1, 1, 1, .u8, .wo, .c 0, .rng 1 3⟩,
  ⟨0x3410, 4, 0x2, 1, 1, .u8, .rw, .c 0, .rng 0 1⟩,
  ⟨0x3410, 4, 0x3, 1, 1, .u8, .rw, .c 16, .rng (8) 16⟩,
  ⟨0x3410, 4, 0x4, 1, 1, .u16, .rw, .c 4096, .rng (1) 8192⟩,
  ⟨0x3410, 4, 0x5, 1, 1, .u16, .rw, .c 4096, .rng (1) 8192⟩,
  ⟨0x3410, 4, 0x6, 1, 1, .blob, .rw, .c 0, .any⟩,
  ⟨0x3410, 4, 0x7, 1, 1, .blob, .ro, .c 0, .any⟩,
  ⟨0x3410, 4, 0x8, 1, 1, .u32, .rw, .c 134217728, .rng (1) 268435456⟩,
  ⟨0x3410, 4, 0x9, 1, 1, .u8, .ro, .c 0, .any⟩,
  ⟨0x3410, 4, 0xa, 1, 1, .u8, .ro, .c 0, .any⟩,
  ⟨0x3410, 4, 0xb, 1, 1, .u16, .ro, .c 0, .any⟩,
  ⟨0x3410, 4, 0xc, 1, 1, .u32, .ro, .c 0, .any⟩,
  ⟨0x3410, 4, 0xd, 1, 1, .u32, .ro, .c 0, .any⟩]

/-- The rows of the fol block: FOL, FOLJ. -/
def folRows : List Row := folRows1

/-- Rows of the stk block, part 1. -/
def stkRows1 : List Row := [
  ⟨0x3500, 1, 0x0, 1, 1, .u8, .ro, .c 9, .any⟩,
  ⟨0x3500, 1, 0x1, 1, 1, .u8, .wo, .c 0, .rng 1 4⟩,
  ⟨0x3500, 1, 0x2, 1, 1, .u32, .rw, .c 0, .any⟩,
  ⟨0x3500, 1, 0x3, 1, 1, .u8, .rw, .c 1, .rng (1) 4⟩,
  ⟨0x3500, 1, 0x4, 1, 1, .u8, .rw, .c 25, .rng (0) 50⟩,
  ⟨0x3500, 1, 0x5, 1, 1, .u16, .rw, .c 2000, .rng (100) 50000⟩,
  ⟨0x3500, 1, 0x6, 1, 1, .u32, .rw, .c 8760, .rng (24) 87600⟩,
  ⟨0x3500, 1, 0x7, 1, 1, .u32, .rw, .c 100000, .rng (1000) 10000000⟩,
  ⟨0x3500, 1, 0x8, 1, 1, .u8, .rw, .c 10, .rng (2) 40⟩,
  ⟨0x3500, 1, 0x9, 1, 1, .bool, .rw, .c 1, .rng 0 1⟩,
  ⟨0x3501, 1, 0x0, 1, 1, .u8, .ro, .c 11, .any⟩,
  ⟨0x3501, 1, 0x1, 1, 1, .u8, .ro, .c 0, .any⟩,
  ⟨0x3501, 1, 0x2, 1, 1, .u64, .ro, .c 0, .any⟩,
  ⟨0x3501, 1, 0x3, 1, 1, .u64, .ro, .c 0, .any⟩,
  ⟨0x3501, 1, 0x4, 1, 1, .u64, .ro, .c 0, .any⟩,
  ⟨0x3501, 1, 0x5, 1, 1, .u64, .ro, .c 0, .any⟩,
  ⟨0x3501, 1, 0x6, 1, 1, .u32, .ro, .c 0, .any⟩,
  ⟨0x3501, 1, 0x7, 1, 1, .u16, .ro, .c 0, .any⟩,
  ⟨0x3501, 1, 0x8, 1, 1, .u8, .ro, .c 0, .any⟩,
  ⟨0x3501, 1, 0x9, 1, 1, .u32, .ro, .c 0, .any⟩,
  ⟨0x3501, 1, 0xa, 1, 1, .u32, .ro, .c 0, .any⟩,
  ⟨0x3501, 1, 0xb, 1, 1, .blob, .ro, .c 0, .any⟩,
  ⟨0x3502, 1, 0x0, 1, 1, .u8, .ro, .c 10, .any⟩,
  ⟨0x3502, 1, 0x1, 1, 1, .u8, .rw, .c 17, .any⟩,
  ⟨0x3502, 1, 0x2, 1, 1, .u32, .rw, .c 0, .any⟩,
  ⟨0x3502, 1, 0x3, 1, 1, .u32, .rw, .c 0, .any⟩,
  ⟨0x3502, 1, 0x4, 1, 1, .u8, .rw, .c 0, .any⟩,
  ⟨0x3502, 1, 0x5, 1, 1, .u16, .rw, .c 0, .any⟩,
  ⟨0x3502, 1, 0x6, 1, 1, .blob, .rw, .c 0, .any⟩,
  ⟨0x3502, 1, 0x7, 1, 1, .bool, .ro, .c 0, .any⟩,
  ⟨0x3502, 1, 0x8, 1, 1, .u32, .ro, .c 0, .any⟩,
  ⟨0x3502, 1, 0x9, 1, 1, .u32, .ro, .c 0, .any⟩,
  ⟨0x3502, 1, 0xa, 1, 1, .u32, .ro, .c 0, .any⟩,
  ⟨0x3504, 1, 0x0, 1, 1, .u8, .ro, .c 7, .any⟩,
  ⟨0x3504, 1, 0x1, 1, 1, .u8, .ro, .c 0, .any⟩,
  ⟨0x3504, 1, 0x2, 1, 1, .u32, .ro, .c 0, .any⟩,
  ⟨0x3504, 1, 0x3, 1, 1, .u32, .ro, .c 0, .any⟩,
  ⟨0x3504, 1, 0x4, 1, 1, .u64, .ro, .c 0, .any⟩,
  ⟨0x3504, 1, 0x5, 1, 1, .u32, .ro, .c 0, .any⟩,
  ⟨0x3504, 1, 0x6, 1, 1, .u32, .ro, .c 0, .any⟩]

/-- Rows of the stk block, part 2. -/
def stkRows2 : List Row := [
  ⟨0x3504, 1, 0x7, 1, 1, .u32, .rc, .c 0, .any⟩,
  ⟨0x3508, 8, 0x0, 1, 1, .u8, .ro, .c 14, .any⟩,
  ⟨0x3508, 8, 0x1, 1, 1, .u8, .ro, .c 0, .any⟩,
  ⟨0x3508, 8, 0x2, 1, 1, .u32, .ro, .c 0, .any⟩,
  ⟨0x3508, 8, 0x3, 1, 1, .u16, .ro, .c 0, .any⟩,
  ⟨0x3508, 8, 0x4, 1, 1, .u32, .ro, .c 0, .any⟩,
  ⟨0x3508, 8, 0x5, 1, 1, .u32, .ro, .c 0, .any⟩,
  ⟨0x3508, 8, 0x6, 1, 1, .u32, .ro, .c 0, .any⟩,
  ⟨0x3508, 8, 0x7, 1, 1, .u32, .ro, .c 0, .any⟩,
  ⟨0x3508, 8, 0x8, 1, 1, .u32, .ro, .c 0, .any⟩,
  ⟨0x3508, 8, 0x9, 1, 1, .u32, .ro, .c 0, .any⟩,
  ⟨0x3508, 8, 0xa, 1, 1, .u64, .rc, .c 0, .any⟩,
  ⟨0x3508, 8, 0xb, 1, 1, .u32, .rc, .c 0, .any⟩,
  ⟨0x3508, 8, 0xc, 1, 1, .u32, .rc, .c 0, .any⟩,
  ⟨0x3508, 8, 0xd, 1, 1, .i16, .ro, .c 0, .any⟩,
  ⟨0x3508, 8, 0xe, 1, 1, .u8, .ro, .c 0, .any⟩]

/-- The rows of the stk block: STK_CTRL, STK_STATUS, STK_OBJ, STK_STAGE, STK_NF. -/
def stkRows : List Row := stkRows1 ++ stkRows2

/-- Rows of the ax block, part 1. -/
def axRows1 : List Row := [
  ⟨0x3600, 8, 0x0, 1, 1, .u8, .ro, .c 26, .any⟩,
  ⟨0x3600, 8, 0x1, 1, 1, .u16, .rw, .c 8, .fields [(0, 0, 0, 1), (1, 1, 0, 1), (2, 2, 0, 1), (3, 3, 0, 1), (4, 4, 0, 1), (6, 5, 0, 1), (7, 7, 0, 1)]⟩,
  ⟨0x3600, 8, 0x2, 1, 1, .u8, .wo, .c 0, .rng 1 8⟩,
  ⟨0x3600, 8, 0x3, 1, 1, .i32, .rw, .c 0, .any⟩,
  ⟨0x3600, 8, 0x4, 1, 1, .u32, .rw, .c 100000, .rng (1) 4000000⟩,
  ⟨0x3600, 8, 0x5, 1, 1, .u32, .rw, .c 1000000, .rng (1000) 4000000000⟩,
  ⟨0x3600, 8, 0x6, 1, 1, .u32, .rw, .c 1000000, .rng 1000 4000000000⟩,
  ⟨0x3600, 8, 0x7, 1, 1, .u32, .rw, .c 10000000, .rng 1000 4000000000⟩,
  ⟨0x3600, 8, 0x8, 1, 1, .i32, .rw, .c 0, .rng (-4000000) 4000000⟩,
  ⟨0x3600, 8, 0x9, 1, 1, .u16, .rw, .c 100, .mul (40) 2000 4⟩,
  ⟨0x3600, 8, 0xa, 1, 1, .u16, .rw, .c 200, .mul (0) 10000 4⟩,
  ⟨0x3600, 8, 0xb, 1, 1, .u32, .rw, .c 500, .rng (0) 600000⟩,
  ⟨0x3600, 8, 0xc, 1, 1, .u16, .rw, .c 100, .rng (0) 50000⟩,
  ⟨0x3600, 8, 0xd, 1, 1, .u16, .rw, .c 200, .rng (0) 10000⟩,
  ⟨0x3600, 8, 0xe, 1, 1, .u16, .rw, .c 50, .rng (0) 10000⟩,
  ⟨0x3600, 8, 0xf, 1, 1, .u32, .rw, .c 20000, .rng (1) 4000000⟩,
  ⟨0x3600, 8, 0x10, 1, 1, .u32, .rw, .c 2000, .rng (1) 4000000⟩,
  ⟨0x3600, 8, 0x11, 1, 1, .i32, .rw, .c 0, .any⟩,
  ⟨0x3600, 8, 0x12, 1, 1, .u32, .rw, .c 2147483647, .rng (1) 2147483647⟩,
  ⟨0x3600, 8, 0x13, 1, 1, .i32, .rw, .c 0, .any⟩,
  ⟨0x3600, 8, 0x14, 1, 1, .i32, .ro, .c 0, .any⟩,
  ⟨0x3600, 8, 0x15, 1, 1, .u8, .ro, .c 0, .any⟩,
  ⟨0x3600, 8, 0x16, 1, 1, .u16, .rc, .c 0, .any⟩,
  ⟨0x3600, 8, 0x17, 1, 1, .u8, .ro, .c 0, .any⟩,
  ⟨0x3600, 8, 0x18, 1, 1, .u32, .rc, .c 0, .any⟩,
  ⟨0x3600, 8, 0x19, 1, 1, .u32, .ro, .c 0, .any⟩,
  ⟨0x3600, 8, 0x1a, 1, 1, .u64, .ro, .c 0, .any⟩,
  ⟨0x3610, 8, 0x0, 1, 1, .u8, .ro, .c 18, .any⟩,
  ⟨0x3610, 8, 0x1, 1, 1, .u16, .rw, .c 0, .fields [(0, 0, 0, 1), (1, 1, 0, 1), (3, 2, 0, 2), (4, 4, 0, 1)]⟩,
  ⟨0x3610, 8, 0x2, 1, 1, .u8, .rw, .c 10, .rng (0) 255⟩,
  ⟨0x3610, 8, 0x3, 1, 1, .i32, .rw, .c 0, .any⟩,
  ⟨0x3610, 8, 0x4, 1, 1, .i32, .ro, .c 0, .any⟩,
  ⟨0x3610, 8, 0x5, 1, 1, .u32, .rw, .c 100000, .rng (100) 1000000⟩,
  ⟨0x3610, 8, 0x6, 1, 1, .u32, .rw, .c 0, .any⟩,
  ⟨0x3610, 8, 0x7, 1, 1, .u16, .rw, .c 2, .rng (0) 1000⟩,
  ⟨0x3610, 8, 0x8, 1, 1, .i32, .ro, .c 0, .any⟩,
  ⟨0x3610, 8, 0x9, 1, 1, .u64, .ro, .c 0, .any⟩,
  ⟨0x3610, 8, 0xa, 1, 1, .u16, .rw, .c 60, .rng (3) 1024⟩,
  ⟨0x3610, 8, 0xb, 1, 1, .u8, .rw, .c 2, .rng (1) 2⟩,
  ⟨0x3610, 8, 0xc, 1, 1, .u16, .rw, .c 384, .rng (288) 1024⟩]

/-- Rows of the ax block, part 2. -/
def axRows2 : List Row := [
  ⟨0x3610, 8, 0xd, 1, 1, .u8, .rc, .c 0, .any⟩,
  ⟨0x3610, 8, 0xe, 1, 1, .u8, .ro, .c 0, .any⟩,
  ⟨0x3610, 8, 0xf, 1, 1, .u32, .rc, .c 0, .any⟩,
  ⟨0x3610, 8, 0x10, 1, 1, .u32, .rc, .c 0, .any⟩,
  ⟨0x3610, 8, 0x11, 1, 1, .u32, .ro, .c 0, .any⟩,
  ⟨0x3610, 8, 0x12, 1, 1, .u8, .ro, .c 0, .any⟩,
  ⟨0x3630, 16, 0x0, 1, 1, .u8, .ro, .c 11, .any⟩,
  ⟨0x3630, 16, 0x1, 1, 1, .u16, .rw, .c 0, .fields [(3, 0, 0, 15), (6, 5, 0, 2), (7, 7, 0, 1), (8, 8, 0, 1), (9, 9, 0, 1)]⟩,
  ⟨0x3630, 16, 0x2, 1, 1, .u8, .wo, .c 0, .rng 1 2⟩,
  ⟨0x3630, 16, 0x3, 1, 1, .i32, .rw, .c 0, .any⟩,
  ⟨0x3630, 16, 0x4, 1, 1, .i32, .rw, .c 1, .rng (1) 1073741824⟩,
  ⟨0x3630, 16, 0x5, 1, 1, .u16, .rw, .c 1, .rng (1) 65535⟩,
  ⟨0x3630, 16, 0x6, 1, 1, .u16, .rw, .c 1000, .mul (40) 65532 4⟩,
  ⟨0x3630, 16, 0x7, 1, 1, .u8, .ro, .c 0, .any⟩,
  ⟨0x3630, 16, 0x8, 1, 1, .u8, .rc, .c 0, .any⟩,
  ⟨0x3630, 16, 0x9, 1, 1, .u32, .ro, .c 0, .any⟩,
  ⟨0x3630, 16, 0xa, 1, 1, .u64, .ro, .c 0, .any⟩,
  ⟨0x3630, 16, 0xb, 1, 1, .i32, .ro, .c 0, .any⟩,
  ⟨0x3620, 1, 0x0, 1, 1, .u8, .ro, .c 64, .any⟩,
  ⟨0x3620, 1, 0x1, 8, 8, .u16, .rw, .bySub, .fields [(2, 0, 0, 7)]⟩,
  ⟨0x3620, 1, 0x2, 8, 8, .i32, .rw, .c 1, .any⟩,
  ⟨0x3620, 1, 0x3, 8, 8, .u32, .rw, .c 1, .rng (1) 4294967295⟩,
  ⟨0x3620, 1, 0x4, 8, 8, .i32, .rw, .c 1, .any⟩,
  ⟨0x3620, 1, 0x5, 8, 8, .u32, .rw, .c 1, .rng (1) 4294967295⟩,
  ⟨0x3620, 1, 0x6, 8, 8, .i32, .rw, .c 0, .any⟩,
  ⟨0x3620, 1, 0x7, 8, 8, .u32, .rw, .c 1000, .rng (1) 2147483647⟩,
  ⟨0x3620, 1, 0x8, 8, 8, .u32, .ro, .c 0, .any⟩]

/-- The rows of the ax block: AX, GEAR, ENC, CMP. -/
def axRows : List Row := axRows1 ++ axRows2

/-- Rows of the net block, part 1. -/
def netRows1 : List Row := [
  ⟨0x3700, 2, 0x0, 1, 1, .u8, .ro, .c 14, .any⟩,
  ⟨0x3700, 2, 0x1, 1, 1, .u16, .rw, .c 7, .fields [(0, 0, 0, 1), (1, 1, 0, 1), (2, 2, 0, 1), (3, 3, 0, 1)]⟩,
  ⟨0x3700, 2, 0x2, 1, 1, .u64, .ro, .c 0, .any⟩,
  ⟨0x3700, 2, 0x3, 1, 1, .u32, .rw, .c 0, .any⟩,
  ⟨0x3700, 2, 0x4, 1, 1, .u32, .rw, .c 4294967040, .any⟩,
  ⟨0x3700, 2, 0x5, 1, 1, .u32, .rw, .c 0, .any⟩,
  ⟨0x3700, 2, 0x6, 1, 1, .i32, .rw, .c 0, .rng (-100000) 100000⟩,
  ⟨0x3700, 2, 0x7, 1, 1, .i32, .rw, .c 0, .rng (-100000) 100000⟩,
  ⟨0x3700, 2, 0x8, 1, 1, .u8, .ro, .c 0, .any⟩,
  ⟨0x3700, 2, 0x9, 1, 1, .u32, .rc, .c 0, .any⟩,
  ⟨0x3700, 2, 0xa, 1, 1, .u32, .rc, .c 0, .any⟩,
  ⟨0x3700, 2, 0xb, 1, 1, .u32, .rc, .c 0, .any⟩,
  ⟨0x3700, 2, 0xc, 1, 1, .u32, .rc, .c 0, .any⟩,
  ⟨0x3700, 2, 0xd, 1, 1, .u32, .rc, .c 0, .any⟩,
  ⟨0x3700, 2, 0xe, 1, 1, .u32, .rc, .c 0, .any⟩,
  ⟨0x3702, 1, 0x0, 1, 1, .u8, .ro, .c 12, .any⟩,
  ⟨0x3702, 1, 0x1, 1, 1, .u64, .rw, .c 0, .any⟩,
  ⟨0x3702, 1, 0x2, 1, 1, .u64, .ro, .c 17179869184, .any⟩,
  ⟨0x3702, 1, 0x3, 1, 1, .u64, .rw, .c 17179869184, .rng 16750372455 17609365913⟩,
  ⟨0x3702, 1, 0x4, 1, 1, .i64, .wo, .c 0, .any⟩,
  ⟨0x3702, 1, 0x5, 1, 1, .u32, .rw, .c 100000, .rng (1000) 1000000000⟩,
  ⟨0x3702, 1, 0x6, 1, 1, .u32, .rw, .c 45875, .any⟩,
  ⟨0x3702, 1, 0x7, 1, 1, .u32, .rw, .c 19661, .any⟩,
  ⟨0x3702, 1, 0x8, 1, 1, .u32, .rw, .c 100000, .rng (0) 500000⟩,
  ⟨0x3702, 1, 0x9, 1, 1, .i32, .ro, .c 0, .any⟩,
  ⟨0x3702, 1, 0xa, 1, 1, .i32, .ro, .c 0, .any⟩,
  ⟨0x3702, 1, 0xb, 1, 1, .u32, .rc, .c 0, .any⟩,
  ⟨0x3702, 1, 0xc, 1, 1, .i64, .ro, .c 0, .any⟩,
  ⟨0x3703, 1, 0x0, 1, 1, .u8, .ro, .c 10, .any⟩,
  ⟨0x3703, 1, 0x1, 1, 1, .u8, .rw, .c 0, .fields [(0, 0, 0, 1)]⟩,
  ⟨0x3703, 1, 0x2, 1, 1, .u64, .rw, .c 0, .any⟩,
  ⟨0x3703, 1, 0x3, 1, 1, .u32, .rw, .c 0, .any⟩,
  ⟨0x3703, 1, 0x4, 1, 1, .u16, .rw, .c 256, .any⟩,
  ⟨0x3703, 1, 0x5, 1, 1, .u16, .rw, .c 16, .any⟩,
  ⟨0x3703, 1, 0x6, 1, 1, .u8, .ro, .c 0, .any⟩,
  ⟨0x3703, 1, 0x7, 1, 1, .i32, .ro, .c 0, .any⟩,
  ⟨0x3703, 1, 0x8, 1, 1, .u16, .ro, .c 32768, .any⟩,
  ⟨0x3703, 1, 0x9, 1, 1, .u16, .rw, .c 20, .rng (1) 250⟩,
  ⟨0x3703, 1, 0xa, 1, 1, .u32, .rc, .c 0, .any⟩,
  ⟨0x3708, 1, 0x0, 1, 1, .u8, .ro, .c 6, .any⟩]

/-- Rows of the net block, part 2. -/
def netRows2 : List Row := [
  ⟨0x3708, 1, 0x1, 1, 1, .u8, .rw, .c 0, .fields [(0, 0, 0, 1), (1, 1, 0, 1), (2, 2, 0, 1)]⟩,
  ⟨0x3708, 1, 0x2, 1, 1, .u32, .rw, .c 0, .any⟩,
  ⟨0x3708, 1, 0x3, 1, 1, .u16, .rw, .c 0, .any⟩,
  ⟨0x3708, 1, 0x4, 1, 1, .blob, .wo, .c 0, .any⟩,
  ⟨0x3708, 1, 0x5, 1, 1, .blob, .ro, .c 0, .any⟩,
  ⟨0x3708, 1, 0x6, 1, 1, .u32, .ro, .c 0, .any⟩,
  ⟨0x3709, 1, 0x0, 1, 1, .u8, .ro, .c 4, .any⟩,
  ⟨0x3709, 1, 0x1, 1, 1, .blob, .ro, .c 0, .any⟩,
  ⟨0x3709, 1, 0x2, 1, 1, .u32, .ro, .c 0, .any⟩,
  ⟨0x3709, 1, 0x3, 1, 1, .u32, .rw, .c 0, .any⟩,
  ⟨0x3709, 1, 0x4, 1, 1, .u32, .rc, .c 0, .any⟩]

/-- The rows of the net block: NET_PORT, NET_CLK, NET_TSYNC, NET_TX, NET_RX. -/
def netRows : List Row := netRows1 ++ netRows2

/-- Rows of the flt block, part 1. -/
def fltRows1 : List Row := [
  ⟨0x4000, 1, 0x0, 1, 1, .u8, .ro, .c 16, .any⟩,
  ⟨0x4000, 1, 0x1, 1, 1, .u32, .rw, .c 500, .rng (20) 1000000⟩,
  ⟨0x4000, 1, 0x2, 1, 1, .u32, .rw, .c 100, .rng (1) 60000⟩,
  ⟨0x4000, 1, 0x3, 1, 1, .u8, .wo, .c 0, .rng 1 3⟩,
  ⟨0x4000, 1, 0x4, 1, 1, .u16, .ro, .c 0, .any⟩,
  ⟨0x4000, 1, 0x5, 1, 1, .u16, .ro, .c 0, .any⟩,
  ⟨0x4000, 1, 0x6, 1, 1, .blob, .ro, .c 0, .any⟩,
  ⟨0x4000, 1, 0x7, 1, 1, .blob, .ro, .c 0, .any⟩,
  ⟨0x4000, 1, 0x8, 1, 1, .blob, .ro, .c 0, .any⟩,
  ⟨0x4000, 1, 0x9, 1, 1, .u32, .ro, .c 0, .any⟩,
  ⟨0x4000, 1, 0xa, 1, 1, .u32, .rc, .c 0, .any⟩,
  ⟨0x4000, 1, 0xb, 1, 1, .u32, .rc, .c 0, .any⟩,
  ⟨0x4000, 1, 0xc, 1, 1, .u32, .rc, .c 0, .any⟩,
  ⟨0x4000, 1, 0xd, 1, 1, .u32, .rc, .c 0, .any⟩,
  ⟨0x4000, 1, 0xe, 1, 1, .u32, .rc, .c 0, .any⟩,
  ⟨0x4000, 1, 0xf, 1, 1, .u32, .rc, .c 0, .any⟩,
  ⟨0x4000, 1, 0x10, 1, 1, .u32, .rc, .c 0, .any⟩,
  ⟨0x4001, 1, 0x0, 1, 1, .u8, .ro, .c 9, .any⟩,
  ⟨0x4001, 1, 0x1, 1, 1, .bool, .ro, .c 0, .any⟩,
  ⟨0x4001, 1, 0x2, 1, 1, .u64, .ro, .c 0, .any⟩,
  ⟨0x4001, 1, 0x3, 1, 1, .u64, .ro, .c 0, .any⟩,
  ⟨0x4001, 1, 0x4, 1, 1, .u64, .ro, .c 0, .any⟩,
  ⟨0x4001, 1, 0x5, 1, 1, .u8, .ro, .c 0, .any⟩,
  ⟨0x4001, 1, 0x6, 1, 1, .u32, .ro, .c 4294967295, .any⟩,
  ⟨0x4001, 1, 0x7, 1, 1, .bool, .ro, .c 0, .any⟩,
  ⟨0x4001, 1, 0x8, 1, 1, .u32, .ro, .c 0, .any⟩,
  ⟨0x4001, 1, 0x9, 1, 1, .u16, .ro, .c 0, .any⟩,
  ⟨0x4002, 1, 0x0, 1, 1, .u8, .ro, .c 4, .any⟩,
  ⟨0x4002, 1, 0x1, 1, 1, .bool, .rw, .c 0, .rng 0 1⟩,
  ⟨0x4002, 1, 0x2, 1, 1, .u8, .rw, .c 1, .fields [(0, 0, 0, 1)]⟩,
  ⟨0x4002, 1, 0x3, 1, 1, .bool, .ro, .c 1, .any⟩,
  ⟨0x4002, 1, 0x4, 1, 1, .u32, .rc, .c 0, .any⟩,
  ⟨0x4010, 1, 0x0, 1, 1, .u8, .ro, .c 9, .any⟩,
  ⟨0x4010, 1, 0x1, 1, 1, .u16, .rw, .c 0, .any⟩,
  ⟨0x4010, 1, 0x2, 1, 1, .u8, .ro, .c 0, .any⟩,
  ⟨0x4010, 1, 0x3, 1, 1, .u8, .wo, .c 0, .rng 1 2⟩,
  ⟨0x4010, 1, 0x4, 1, 1, .u64, .ro, .c 0, .any⟩,
  ⟨0x4010, 1, 0x5, 1, 1, .u64, .ro, .c 0, .any⟩,
  ⟨0x4010, 1, 0x6, 1, 1, .u32, .rc, .c 0, .any⟩,
  ⟨0x4010, 1, 0x7, 1, 1, .u16, .ro, .c 0, .any⟩]

/-- Rows of the flt block, part 2. -/
def fltRows2 : List Row := [
  ⟨0x4010, 1, 0x8, 1, 1, .u32, .ro, .c 0, .any⟩,
  ⟨0x4010, 1, 0x9, 1, 1, .u16, .ro, .c 0, .any⟩]

/-- The rows of the flt block: FLT_CTRL, FLT_FIRST, FLT_PIN, FLT_SRC. -/
def fltRows : List Row := fltRows1 ++ fltRows2

/-- Rows of the ldg block, part 1. -/
def ldgRows1 : List Row := [
  ⟨0x4100, 1, 0x0, 1, 1, .u8, .ro, .c 5, .any⟩,
  ⟨0x4100, 1, 0x1, 1, 1, .u8, .wo, .c 0, .rng 1 3⟩,
  ⟨0x4100, 1, 0x2, 1, 1, .u8, .rw, .c 1, .rng (0) 3⟩,
  ⟨0x4100, 1, 0x3, 1, 1, .u32, .rw, .c 10000, .rng (100) 600000⟩,
  ⟨0x4100, 1, 0x4, 1, 1, .u32, .rw, .c 0, .any⟩,
  ⟨0x4100, 1, 0x5, 1, 1, .blob, .ro, .c 0, .any⟩,
  ⟨0x4101, 1, 0x0, 1, 1, .u8, .ro, .c 12, .any⟩,
  ⟨0x4101, 1, 0x1, 1, 1, .u8, .ro, .c 0, .any⟩,
  ⟨0x4101, 1, 0x2, 1, 1, .u64, .ro, .c 0, .any⟩,
  ⟨0x4101, 1, 0x3, 1, 1, .u32, .ro, .c 0, .any⟩,
  ⟨0x4101, 1, 0x4, 1, 1, .u32, .ro, .c 0, .any⟩,
  ⟨0x4101, 1, 0x5, 1, 1, .u16, .ro, .c 0, .any⟩,
  ⟨0x4101, 1, 0x6, 1, 1, .u16, .ro, .c 0, .any⟩,
  ⟨0x4101, 1, 0x7, 1, 1, .u8, .ro, .c 0, .any⟩,
  ⟨0x4101, 1, 0x8, 1, 1, .u32, .rc, .c 0, .any⟩,
  ⟨0x4101, 1, 0x9, 1, 1, .u32, .rc, .c 0, .any⟩,
  ⟨0x4101, 1, 0xa, 1, 1, .u32, .ro, .c 0, .any⟩,
  ⟨0x4101, 1, 0xb, 1, 1, .u32, .rc, .c 0, .any⟩,
  ⟨0x4101, 1, 0xc, 1, 1, .blob, .ro, .c 0, .any⟩,
  ⟨0x4102, 1, 0x0, 1, 1, .u8, .ro, .c 24, .any⟩,
  ⟨0x4102, 1, 0x1, 24, 1, .u32, .rw, .c 0, .fields [(31, 8, 0, 16777215)]⟩]

/-- The rows of the ldg block: LDG_CTRL, LDG_STATUS, LDG_SNAP_SEL. -/
def ldgRows : List Row := ldgRows1

/-- Rows of the tmp block, part 1. -/
def tmpRows1 : List Row := [
  ⟨0x3800, 1, 0x0, 1, 1, .u8, .ro, .c 49, .any⟩,
  ⟨0x3800, 1, 0x1, 1, 1, .i16, .ro, .c 0, .any⟩,
  ⟨0x3800, 1, 0x2, 1, 1, .i16, .ro, .c 0, .any⟩,
  ⟨0x3800, 1, 0x3, 1, 1, .u16, .ro, .c 0, .any⟩,
  ⟨0x3800, 1, 0x4, 1, 1, .u64, .rws, .c 0, .fields [(39, 0, 0, 1099511627775)]⟩,
  ⟨0x3800, 1, 0x5, 1, 1, .u8, .wo, .c 0, .rng 1 1⟩,
  ⟨0x3800, 1, 0x6, 1, 1, .i16, .ro, .c 0, .any⟩,
  ⟨0x3800, 1, 0x7, 1, 1, .i16, .rc, .c 0, .any⟩,
  ⟨0x3800, 1, 0x8, 1, 1, .u32, .ro, .c 0, .any⟩,
  ⟨0x3800, 1, 0x9, 1, 1, .u32, .rc, .c 0, .any⟩,
  ⟨0x3800, 1, 0xa, 40, 1, .i16, .ro, .c 0, .any⟩,
  ⟨0x3900, 1, 0x0, 1, 1, .u8, .ro, .c 13, .any⟩,
  ⟨0x3900, 1, 0x1, 1, 1, .bool, .rw, .c 1, .rng 0 1⟩,
  ⟨0x3900, 1, 0x2, 1, 1, .bool, .rw, .c 1, .rng 0 1⟩,
  ⟨0x3900, 1, 0x3, 1, 1, .u16, .rw, .c 128, .rng (16) 800⟩,
  ⟨0x3900, 1, 0x4, 1, 1, .u16, .rw, .c 5000, .rng (500) 50000⟩,
  ⟨0x3900, 1, 0x5, 1, 1, .u8, .wo, .c 0, .rng 1 1⟩,
  ⟨0x3900, 1, 0x6, 1, 1, .blob, .rws, .c 0, .any⟩,
  ⟨0x3900, 1, 0x7, 1, 1, .blob, .ro, .c 0, .any⟩,
  ⟨0x3900, 1, 0x8, 1, 1, .u64, .ro, .c 0, .any⟩,
  ⟨0x3900, 1, 0x9, 1, 1, .u64, .ro, .c 0, .any⟩,
  ⟨0x3900, 1, 0xa, 1, 1, .u32, .ro, .c 0, .any⟩,
  ⟨0x3900, 1, 0xb, 1, 1, .u64, .ro, .c 0, .any⟩,
  ⟨0x3900, 1, 0xc, 1, 1, .u32, .ro, .c 0, .any⟩,
  ⟨0x3900, 1, 0xd, 1, 1, .i16, .ro, .c 0, .any⟩]

/-- The rows of the tmp block: TMP, CAL. -/
def tmpRows : List Row := tmpRows1

end Sys2Proof.Machine.Dict
end

