-- ==== Sys2Proof/Machine/State.lean ====
section
/-!
DEFINITION. The state of the module as plain data: the register files of the object dictionary, the state the chapters give each block
beyond its entries, and the queue of waiting commands.
-/
namespace Sys2Proof.Machine


/-- A table with few listed keys: strictly rising keys, and no entry equal to what an unlisted key reads as. -/
abbrev Tab (α : Type) := List (Nat × α)

/-- A register file: the values that differ from the defaults of the dictionary, by key (`Tab.key`). -/
abbrev Regs := Tab Int

/-- A BLOB, a STR or a buffer: its length and its bytes that are not 0, by offset. -/
structure Blob where
  len : Nat
  cells : List Host.Cell
deriving DecidableEq, Repr

/-- A fault message on its way to the collector: source, kind and address (18_faults.md R424). -/
structure Msg where
  src : Nat
  kind : Nat
  addr : Nat
deriving DecidableEq, Repr

/-- The device states of R21. -/
inductive Mode where
  | boot | service | ready | building | paused | safe | thermalOff
deriving DecidableEq, Repr

/-- A plate point with its focus offset, each in 1/256 pu (R147). -/
structure Pt where
  x : Int
  y : Int
  z : Int
deriving DecidableEq, Repr

/-- A set-point in head units (R166). -/
structure Hu where
  x : Int
  y : Int
  z : Int
deriving DecidableEq, Repr

/-- The boot store's copy of the saved set (R53): the entries that differ from their defaults, and the check over them. -/
structure SavedSet where
  valid : Bool
  regs : Regs
  blobs : Tab Blob
  crc : Nat
deriving DecidableEq, Repr

/-- A firmware image in the boot store (R52, R500): its version word, whether its signature is valid, its bytes (none: those the module
left the factory with, which no rule gives). -/
structure FwImage where
  version : Nat
  valid : Bool
  bytes : Option Blob
deriving DecidableEq, Repr

/-- Identity, device state, envelope and saved configuration (01_architecture.md, 02_dictionary.md R51 to R53). -/
structure DevSt where
  regs : Regs
  blobs : Tab Blob
  mode : Mode
  prev : Mode
  /-- A layer's span is open (R31); the digest runs. -/
  spanOpen : Bool
  /-- The running CRC-64 of the span (R31). -/
  digest : Nat
  /-- BTICK of the first break of the running layer (R30). -/
  liveFirst : Nat
  /-- The layer whose span ended last and whose grid digest is still due (R31). -/
  gridDigestDue : Option Nat
  /-- The two copies of the saved set (R53), the newer first. -/
  savedA : SavedSet
  savedB : SavedSet
  /-- The set that a SAVE in progress writes, and the path that asked for it. -/
  saving : Option SavedSet
  savePath : Nat
  /-- The firmware images of the boot store (R500), the newer first, the one that runs, and one being stored (R52). -/
  fwNewer : FwImage
  fwOlder : FwImage
  fwRunning : FwImage
  fwStoring : Option FwImage
  /-- The path that wrote it. -/
  fwPath : Nat
  /-- The root PLL is locked (R20, R510). -/
  pllLocked : Bool
  /-- The times a message vector was raised (MSI-X), by vector. -/
  msix : Tab Nat
deriving DecidableEq, Repr

/-- A value of an entry: a number (R33), or the bytes of a STR or a BLOB. -/
inductive Val where
  | num (v : Int)
  | bytes (b : Blob)
deriving DecidableEq, Repr

/-- One staged write (R57): the entry and its value. -/
structure Staged where
  idx : Nat
  sub : Nat
  val : Val
deriving DecidableEq, Repr

/-- A transaction (R55): its identity, its path, its staged writes in order. -/
structure Txn where
  id : Nat
  path : Nat
  writes : List Staged
deriving DecidableEq, Repr

/-- A BLOB being written over a path (R45): the entry and the image so far. -/
structure Upload where
  idx : Nat
  sub : Nat
  data : List Byte
deriving DecidableEq, Repr

/-- One access path (R35): the mailbox (path 0) or a DDP session. -/
structure Path where
  isOpen : Bool
  /-- The last executed SEQ and its stored response (R40). -/
  lastSeq : Option Nat
  lastResp : List Byte
  ip : Nat
  port : Nat
  /-- The keep-alive of the session in ms and the TICK of its last valid request (R42). -/
  keepAlive : Nat
  lastValid : Nat
  /-- The OPEN that made the session: address, port, SEQ and TICK (R41). -/
  openIp : Nat
  openPort : Nat
  openSeq : Nat
  openTick : Nat
  txn : Option Txn
  /-- The TICK of the last transaction access (R64). -/
  lastTxn : Nat
  /-- TXN_EXPIRED is owed once (R64). -/
  expired : Bool
  /-- The path copies a commit that holds large BLOBs and answers BUSY (R59). -/
  copying : Bool
  upload : Option Upload
deriving DecidableEq, Repr

/-- A frame sent in answer (R39): the address and the UDP port it goes to, the Ethernet port it leaves by, its bytes. -/
structure Sent where
  ip : Nat
  port : Nat
  eth : Nat
  bytes : List Byte
deriving DecidableEq, Repr

/-- Access paths and transactions (02_dictionary.md R35 to R69). -/
structure TxnSt where
  regs : Regs
  paths : Tab Path
  /-- Committed transactions not yet fully applied, in TXN_ID order (R60, R62). -/
  queue : List Txn
  /-- The next TXN_ID (R55). -/
  nextId : Nat
  /-- BAR0 mailbox: request and response buffers (R47). -/
  req : List Host.Cell
  resp : List Byte
  busy : Bool
  done : Bool
  overrun : Bool
  /-- The dictionary engine is fenced (R68, R69). -/
  fenced : Bool
  /-- BAR0 registers that are not dictionary entries, by offset (R47, R117, R438). -/
  bar0 : Regs
  /-- Frames the device has sent in answer over the network, the newest last (R39). -/
  sent : List Sent
deriving DecidableEq, Repr

/-- The decoded items of R74. -/
inductive Item where
  | mark (x y z : Int) (power : Nat) (poly : Bool) (speed : Nat)
  | jump (x y z : Int) (speed : Nat)
  | markExt (x y z : Int) (power : Nat) (poly : Bool) (speed powerEnd speedEnd : Nat)
  | stripeBegin (i j id ps : Nat) (x y z : Int)
  | stripeEnd (id segs check : Nat)
  | tileBegin (i j stripes : Nat)
  | tileEnd (i j stripes : Nat)
  | layerBegin (layer thickness units tiles stripes job : Nat) (x0 y0 x1 y1 : Int)
  | layerEnd (layer stripes check : Nat)
  | paramSelect (ps : Nat)
  | waitTicks (count : Nat)
  | hostMarker (value : Nat)
  | pad
deriving DecidableEq, Repr

/-- A stored item: its byte position in the stream, its length in units, the item. -/
structure QItem where
  pos : Nat
  units : Nat
  item : Item
deriving DecidableEq, Repr

/-- The layer open on the write side (R86, R87, R95). -/
structure WLayer where
  layer : Nat
  x0 : Int
  y0 : Int
  x1 : Int
  y1 : Int
  units : Nat
  stripes : Nat
  /-- Units and stripes counted so far, and the running CRC-32 of the body. -/
  nUnits : Nat
  nStripes : Nat
  crc : Nat
  lastStripe : Option Nat
  /-- An item of it was rejected; the layer is DAMAGED by that or by step 13 at one of its tiles. -/
  rejected : Bool
  damaged : Bool
deriving DecidableEq, Repr

/-- The tile open on the write side (R85). -/
structure WTile where
  i : Nat
  j : Nat
  stripes : Nat
  nStripes : Nat
  rejected : Bool
deriving DecidableEq, Repr

/-- The stripe open on the write side (R80 to R82). -/
structure WStripe where
  id : Nat
  start : Nat
  units : Nat
  segs : Nat
  items : Nat
  crc : Nat
deriving DecidableEq, Repr

/-- What the write side does with arriving units: accept; discard under R95; discard a rejected tile under R95; swallow under R120. -/
inductive WMode where
  | normal | resync | cover | swallow
deriving DecidableEq, Repr

/-- The context states of R122. -/
inductive CtxMode where
  | disabled | enabled | disabling | parked
deriving DecidableEq, Repr

/-- A stripe in flight (R106): its bytes, the channel that runs it, its read cursor (R104), and its acknowledgement. -/
structure Flight where
  start : Nat
  stop : Nat
  id : Nat
  ch : Nat
  /-- The read cursor, and its second copy (R104, R105). -/
  cursor : Nat
  cursor2 : Nat
  acked : Bool
  /-- No member runs it at present: it waits as a replay entry or as a parked stripe (R194, R197). -/
  waiting : Bool
deriving DecidableEq, Repr

/-- A stripe to resume (R194, R197): where it stands, the resume segment (index of its item), P_r of an interrupted mark, the ticks of a
wait not yet spent, and its place in the order of R194. -/
structure Resume where
  start : Nat
  id : Nat
  item : Nat
  pr : Option Pt
  waitLeft : Nat
  tick : Nat
  second : Bool
  /-- How many of its items are consumed already (R90). -/
  taken : Nat
  /-- A gate-on edge of it has fired (R191). -/
  fired : Bool
  /-- The channel that ran it, the number it had there, and the items whose chains are committed still (R184). -/
  ch : Nat
  serial : Nat
  cleared : List Nat
deriving DecidableEq, Repr

/-- One stream context (04_stream_contexts.md). -/
structure Ctx where
  mode : CtxMode
  /-- Stored items from the rewind mark on. -/
  items : List QItem
  /-- Bytes accepted and not yet part of a complete item (the partial item in the tail buffer, R101). -/
  tail : List Byte
  /-- Window bytes written ahead of PROD_POS, by position (R111). -/
  ahead : Tab (Option Byte)
  wmode : WMode
  wlayer : Option WLayer
  wtile : Option WTile
  wstripe : Option WStripe
  lastLayer : Option Nat
  /-- Index of the next item on the write side since the last reset (R97). -/
  wIndex : Nat
  /-- Tiles claimed (R85): layer, i, j. -/
  claims : List (Nat × Nat × Nat)
  /-- Layers Stacks has declared empty and layers stored whole (R88, R114, R115), not yet consumed. -/
  declared : List Nat
  whole : List Nat
  flights : List Flight
  replays : List Resume
  /-- The layer part-way through which a STOP, SAFE, disable or fence left a private context (R130, R144, R197). -/
  parkedLayer : Option Nat
  /-- The layer whose LAYER_BEGIN was consumed last and whose LAYER_END is still to come. -/
  readLayer : Option Nat
  /-- The layer whose LAYER_END was consumed last (R88). -/
  doneLayer : Option Nat
  rewindInvalid : Bool
  /-- DMA (R112, R113): index after the last posted descriptor, bytes of the descriptor at DMA_HEAD already appended, stopped. -/
  dmaTail : Nat
  dmaDone : Nat
  dmaStopped : Bool
  /-- TICK of the last ITEMS notice, and whether one is owed (R118). -/
  noticeTick : Option Nat
  noticeOwed : Bool
  /-- The second copy of PROD_POS, WP, VP, RP and RM (R105). -/
  copy : List Int
  /-- Kinds whose episode is open (R123), and the TICK at which the last late unit has arrived (R102). -/
  episodes : List Nat
  headUntil : Nat
  /-- The context is fenced by an escalation (R123), and the source whose escalation it was. -/
  fenced : Bool
  fencedBy : Nat
deriving DecidableEq, Repr

/-- The stream contexts and the notice ring (04_stream_contexts.md). -/
structure CtxSt where
  regs : Regs
  tab : Tab Ctx
  /-- Entries written to the notice ring in host memory, by index (R117), and notices waiting on chip (R118). -/
  ring : Tab (List Byte)
  waiting : List (List Byte)
  /-- The phase of the pass through the ring (R118). -/
  phase : Bool
deriving DecidableEq, Repr

/-- The values of a parameter set that one segment uses, read at the start of its item (R91, R93). -/
structure Par where
  num : Nat
  markSpeed : Nat
  jumpSpeed : Nat
  markAccel : Nat
  jumpAccel : Nat
  setpoint : Nat
  pMin : Nat
  pMax : Nat
  onDelay : Int
  offDelay : Int
  markDelay : Nat
  jumpDelay : Nat
  cornerDelay : Nat
  curve : Nat
  coef : Nat
  model : Nat
deriving DecidableEq, Repr

/-- The phases of R146, the stop of R156 and the hold of R158. -/
inductive PhaseKind where
  | jump | jumpSettle | runUp | mark | corner | runOut | markSettle | wait | stop | hold
deriving DecidableEq, Repr

/-- Distance along a phase as a function of its time, in pu and ticks: at rest; trapezoid or triangle of speed `v` and acceleration `a`;
from rest at `a`; constant speed; speed linear in path length; from `v` to rest at `a`. -/
inductive Profile where
  | still
  | trap (v a : Rat)
  | accel (a : Rat)
  | const (v : Rat)
  | ramp (v0 v1 : Rat)
  | decel (v a : Rat)
deriving DecidableEq, Repr

/-- One phase of a committed path (R146): its instant of start and its length in ticks, its straight line, its profile, the power at its
ends, the item and the stripe it belongs to, and the parameter set in force. -/
structure Phase where
  kind : PhaseKind
  start : Rat
  dur : Rat
  p0 : Pt
  p1 : Pt
  len : Rat
  prof : Profile
  pow0 : Rat
  pow1 : Rat
  /-- The powers hold at these distances from `p0`: a resumed mark starts part-way (R157). -/
  item : Nat
  serial : Nat
  par : Par
deriving DecidableEq, Repr

/-- One set-point of the commit pipeline (R16): the tick it is for, the plate position, the head units, and what later stages add. -/
structure Slot where
  k : Nat
  pos : Pt
  hu : Hu
  kind : PhaseKind
  pseg : Nat
  par : Par
  item : Nat
  serial : Nat
  ctx : Nat
  ff : Nat
  tpred : Nat
  /-- The power command composed for the tick (R202). -/
  power : Option Nat
  mp : Nat
  late : Bool
  plume : Bool
  /-- 1: the command was clamped low, 2: clamped high (R202). -/
  clamp : Nat
  /-- The set-point repeats the one before it (R158, R159, R277). -/
  rep : Bool
deriving DecidableEq, Repr

/-- What a channel did in a tick that is over, kept for the samples tagged with it (R16): the tick, the tick its loop and feedback samples are
consumed (R160, R205), the set-point applied and whether it lay in a run-up, mark, corner or run-out, the command, the on-time facts of the gate,
and what the loop reads of the tick. -/
structure Past where
  k : Nat
  /-- BTICK of the tick (R13, R222). -/
  bt : Nat
  due : Nat
  hu : Hu
  fast : Bool
  power : Nat
  gateAll : Bool
  active : Bool
  clamp : Nat
  setpoint : Nat
  model : Nat
  tpred : Nat
  /-- The tick is a tag tick of the frame schedule of the channel's feature unit (R203, R313). -/
  tag : Bool
  fbDone : Bool
  loopDone : Bool
  statusDone : Bool
deriving DecidableEq, Repr

/-- A gate edge on the 4 ns grid (R151): its point counted from TICK 0, on or off, the stripe and item it belongs to. -/
structure Edge where
  at4 : Nat
  on : Bool
  serial : Nat
  item : Nat
deriving DecidableEq, Repr

/-- A committed mark (R184): its line, its instants of start and end, its stripe and item. -/
structure CMark where
  p0 : Pt
  p1 : Pt
  t1 : Rat
  t2 : Rat
  serial : Nat
  item : Nat
deriving DecidableEq, Repr

/-- A stripe a channel holds (R106, R191). -/
structure StripeRun where
  serial : Nat
  ctx : Nat
  start : Nat
  stop : Nat
  id : Nat
  units : Nat
  items : List Item
  ps : Nat
  origin : Pt
  decided : Nat
  /-- Resume segment, P_r and wait left of a replay or a parked stripe (R157, R194). -/
  fromItem : Nat
  pr : Option Pt
  waitLeft : Nat
  replay : Bool
  layer : Nat
  /-- The tick of the first and the last set-point, once planned (R106). -/
  kFirst : Option Nat
  kLast : Option Nat
  /-- Items of chains already committed (R184): a resumption runs no new check. -/
  cleared : List Nat
  /-- How many of its items are consumed already (R90). -/
  taken : Nat
  /-- A gate-on edge of it has fired (R191). -/
  fired : Bool
  /-- HOST_MARKERs among its items below this one raise no notice: they lie before the resume segment of a replay (R194). -/
  quiet : Nat
deriving DecidableEq, Repr

/-- Where the planner stands in the stripe it plans (R146): the next item, the end point of the previous segment item, the parameter set in
force, whether a jump already led to the run-up start, and markers consumed with the next phase (R90). -/
structure Plan where
  serial : Nat
  item : Nat
  cur : Pt
  ps : Nat
  atRunUp : Bool
  markers : List Nat
  prLeft : Option Pt
  waitLeft : Nat
deriving DecidableEq, Repr

/-- The engine states of R168. -/
inductive Motion where
  | rest | move | hold | stop
deriving DecidableEq, Repr

/-- Why an engine holds (R158, R168, R526). -/
inductive HoldWhy where
  | none | plume | underrun | mismatch | late | headLate | fault | pause | interlock | freeze | field
deriving DecidableEq, Repr

/-- A stop along the path in progress (R156): the tick of the next stop set-point, the path time reached, the profile speed, and the sent tick
it started from. -/
structure StopRun where
  k : Nat
  kappa : Rat
  v : Rat
  a : Rat
deriving DecidableEq, Repr

/-- One exposure engine (06_trajectory_correction.md). -/
structure Engine where
  stripes : List StripeRun
  serial : Nat
  plan : Option Plan
  timeline : List Phase
  slots : List Slot
  edges : List Edge
  cmarks : List CMark
  pos : Pt
  posSet : Bool
  /-- The last set-point sent (R158, R159). -/
  hu : Hu
  /-- The tick at which a stop comes to rest (R156). -/
  restAt : Nat
  /-- Items to be consumed (R90): the tick, the context, how many, the values of host markers among them, and their stripe. -/
  due : List (Nat × Nat × Nat × List Nat × Nat)
  motion : Motion
  why : HoldWhy
  stopRun : Option StopRun
  /-- The resume segment of a stop on the same channel (R157). -/
  resume : Option (Nat × Nat × Option Pt × Nat)
  /-- The gate is on at the end of the last tick, and a force-off is in force (R152). -/
  gate : Bool
  force : Bool
  /-- No gate edge fires before this 4 ns point: the gate-off instant of a stop (R156). -/
  blockFrom : Option Nat
  /-- Drift (R165): Δθ in 1/16 K, absent updates in a row. -/
  dtheta : Int
  driftAbsent : Nat
  /-- Following error (R160, R161): samples beyond the limit in a row on X and on Y, absent in a row. -/
  feRun : Nat
  feRunY : Nat
  feAbsent : Nat
  /-- The phases of a path dropped by a stop, up to the last set-point sent (R211, R228). -/
  trail : List Phase
  /-- SPEED_LIMIT, ACCEL_LIMIT and OFF_DELAY that the path was laid out with (R167). -/
  limits : Nat × Nat × Int
  /-- The resume point of a stop, the tick of the gate-off, in which it is recorded, and that tick's BTICK (R156, R192). -/
  stopDue : Option (Pt × Nat × Nat)
  /-- The tick in which FREEZE_TICKS last counted (R199). -/
  frozeAt : Option Nat
  /-- Runs of late ticks (R159, R160), first and last tick of each, the newest last. -/
  lateRuns : List (Nat × Nat)
  /-- Plume hold (R186, R188): ticks held by the candidate. -/
  plumeTicks : Nat
  plumeHeld : Bool
  /-- The channel that blocks the candidate (R188), and whether PLUME_HOLD_LONG was raised for it. -/
  plumeBy : Nat
  plumeSaid : Bool
  /-- PACE (R183): ticks per unit of the last stripes, Q16.16. -/
  paces : List Nat
  underrun : Bool
  mismatch : Bool
  /-- The newest ticks that are over. -/
  past : List Past
  /-- A temperature sample has arrived in this build (R169), and BTICK of the last drift update. -/
  driftValid : Bool
  driftDone : Option Nat
  /-- TICK of the last gate-on edge (R207). -/
  lastOn : Nat
  /-- A late hold lasts at least to this TICK (R102, R159). -/
  waitUntil : Nat
deriving DecidableEq, Repr

/-- Exposure engines, correction, registration, parameter sets (03_job_model.md R91, 06_trajectory_correction.md). -/
structure TrjSt where
  regs : Regs
  blobs : Tab Blob
  tab : Tab Engine
deriving DecidableEq, Repr

/-- A re-plan (R190 to R196, R527): the channel, tick F, whether a fence or a disable began it. -/
structure Replan where
  ch : Nat
  tick : Nat
  fence : Bool
deriving DecidableEq, Repr

/-- Lending and the plume interlock (07_lending_overlap.md). -/
structure LndSt where
  regs : Regs
  /-- The reach map (R173, R174): channels of each tile that any reaches, by tile number. -/
  reach : Tab (List Nat)
  /-- A computation of the reach map is running. -/
  computing : Bool
  active : Option Replan
  queued : List Replan
  /-- Fences raised and not yet taken in (R178). -/
  fences : List Nat
  /-- Stripe counters s(c) of R179 in the present layer, by 96·channel + context. -/
  counters : Tab Nat
  /-- Channels kept out of LIVE_MEMBERS until the next layer boundary (R197). -/
  barred : List Nat
  /-- Replay entries of shared contexts stand in the contexts; the tile of a lost stripe stays incomplete (R195): layer, i, j. -/
  incomplete : List (Nat × Nat × Nat)
deriving DecidableEq, Repr

/-- The Catalogue states of R139. -/
inductive CatMode where
  | idle | issue | wait | held
deriving DecidableEq, Repr

/-- The channel states of R143. -/
inductive ChMode where
  | disabled | idle | started | done | fenced
deriving DecidableEq, Repr

/-- One Catalogue entry (R124, R125). -/
structure CatEntry where
  op : Nat
  a : Nat
  b : Nat
  c : Nat
  d : Nat
  e : Nat
deriving DecidableEq, Repr

/-- One level of LOOP (R128). -/
structure LoopLvl where
  active : Bool
  count : Nat
  owner : Nat
deriving DecidableEq, Repr

/-- The Catalogue and the channel states (05_catalogue_sequencer.md). -/
structure CatSt where
  regs : Regs
  blobs : Tab Blob
  image : List CatEntry
  mode : CatMode
  /-- The entry issued next (R127). -/
  next : Nat
  /-- The step that waits, its issue TICK and whether its outside event has come (R134, R136, R137). -/
  waiting : Option CatEntry
  issued : Nat
  event : Bool
  loops : Tab LoopLvl
  chMode : Tab ChMode
  /-- Issue is held for a calibration run (R470). -/
  calHold : Bool
  /-- STAGE_LATE was raised by the waiting START_EXPOSURE (R116). -/
  stageLate : Bool
  /-- Levels of SEQ_IN0 to SEQ_IN3 as last sampled (R134). -/
  seqIn : Tab Bool
  /-- Channels fenced since the last action (R127 step 2). -/
  newFences : List Nat
  /-- The STOP of R525 is finishing stripes on these channels. -/
  stopping : List Nat
  /-- The channels started in the open layer (R30, R31). -/
  inLayer : List Nat
  /-- The TICK in which the boundary of the open layer falls, once its started set is empty (R131), and the TICK of the last Catalogue action (R127). -/
  boundaryAt : Option Nat
  acted : Option Nat
deriving DecidableEq, Repr

/-- One cell (R225). -/
structure Cell where
  temp : Nat
  energy : Nat
  stamp : Nat
deriving DecidableEq, Repr

/-- The grid states of R232. -/
inductive GrdMode where
  | idle | running | paused | fenced
deriving DecidableEq, Repr

/-- A pending deposit (R229): the cell, the tick k, whole E_Q. -/
structure Dep where
  cell : Nat
  k : Nat
  amount : Nat
deriving DecidableEq, Repr

/-- What a sweep uses, as applied at its start (R230, R231). -/
structure SweepPar where
  period : Nat
  decay : Int
  diffuse : Int
  gain : Int
  tamb : Nat
  insulated : Bool
deriving DecidableEq, Repr

/-- One bank of cells: the cell an unlisted number reads as, and the listed ones (R240). -/
structure Bank where
  base : Cell
  cells : Tab Cell
deriving DecidableEq, Repr

/-- The snapshot states of R238. -/
inductive SnapMode where
  | idle | armed | capturing | compressing | ready | storing
deriving DecidableEq, Repr

/-- A captured grid (R238, R239): what the header holds, the cells, and the Folio planes when they were compressed. -/
structure Snap where
  sweep : Nat
  endBtick : Nat
  layer : Nat
  sizeX : Nat
  sizeY : Nat
  pitch : Nat
  ox : Int
  oy : Int
  tamb : Nat
  eq : Nat
  folio : Bool
  late : Bool
  truncated : Bool
  early : Bool
  bank : Bank
  planes : List (List Byte)
deriving DecidableEq, Repr

/-- The thermal grid and the feed-forward tables (09_thermal_grid.md). -/
structure GrdSt where
  regs : Regs
  blobs : Tab Blob
  mode : GrdMode
  /-- The state after the last completed sweep, the bank the present sweep writes, and the bank before the last completed sweep (R240). -/
  done : Bank
  next : Bank
  prev : Bank
  /-- Tiles written late, with the bank their readers still see (R231, R234). -/
  lateTiles : Tab Bank
  pend : List Dep
  /-- Channel residues acc(n) (R227). -/
  resid : Tab Nat
  /-- The present sweep, its start, its parameters, the next tile whose slot has not started, and what the last tile took. -/
  sweep : Nat
  start : Nat
  par : SweepPar
  nextTile : Nat
  /-- The tile of the slot in progress is not yet written (R231). -/
  opened : Bool
  taken : Tab Nat
  /-- The sweep index the last completed sweep had, the start of the next one, its T_AMB, and whether GRID_LATE fell in it (R239). -/
  lastSweep : Option Nat
  lastEnd : Nat
  /-- The present layer number at the end of that sweep (R239). -/
  lastLayer : Nat
  lastTamb : Nat
  lastLate : Bool
  /-- Running totals of the present sweep (R242): energy, whether late, least margin in ns. -/
  eSum : Nat
  lateNow : Bool
  snapMode : SnapMode
  /-- BTICK of the request that armed the buffer (R137). -/
  snapAt : Nat
  snapFolio : Bool
  snap : Option Snap
deriving DecidableEq, Repr


/-- The lane states of R267. -/
inductive LaneMode where
  | disabled | seek | cap | step | up | relearn
deriving DecidableEq, Repr

/-- Where a step stands (R259): its echo is awaited, it trains, it runs the error test. -/
inductive StepPhase where
  | echo | training | test
deriving DecidableEq, Repr

/-- What a receiver does with the next line bit (R253): it hunts for a marker, with this many bits left to the end of the next place of one, and
with the payload of the present block behind a marker it missed or not; it takes the marker that follows the previous block; it hunts through the fill for
this many bits more; it takes the payload. -/
inductive RxPhase where
  | hunt (left : Nat) (owed : Bool)
  | marker
  | fill (left : Nat)
  | payload
deriving DecidableEq, Repr

/-- The line side of a receiver (R251, R253): the run of identical bits and their value, line bits since the present group began, the present block's
position in its group where it is known, whether the next marker is 0x0F5A, and the bits taken, newest first. -/
structure RxLine where
  phase : RxPhase
  run : Nat
  last : Bool
  line : Nat
  pos : Option Nat
  odd : Bool
  win : List Bool
deriving DecidableEq, Repr

/-- The block side of a receiver: markers missing (R262) and in place (R259) in a row, the descrambler and whether the first TRAIN block of a training is
awaited (R250), IDLE blocks in a row (R255), blocks out of guard in a row (R256), the SERIAL of the last CAP block, and the error test (R259). -/
structure RxBlocks where
  miss : Nat
  places : Nat
  scram : Option Nat
  await : Bool
  idle : Nat
  guard : Nat
  serial : Option Nat
  tests : Nat
  errors : Nat
  verdict : Option Bool
deriving DecidableEq, Repr

/-- One Akzi-Link lane (10_akzi_lanes.md). -/
structure Lane where
  mode : LaneMode
  rate : Option Nat
  ceiling : Option Nat
  /-- The last error-free CAP block in CAP, and the capability accepted (R259, R261). -/
  lastCap : Option (List Byte)
  cap : Option (List Byte)
  target : Nat
  tryRate : Nat
  phase : StepPhase
  /-- TICK at which both ends switch rate (R259), and the TICK at which the training ends. -/
  switchAt : Option Nat
  trainEnd : Nat
  /-- VENDOR, SERIAL, D_H and FE_LAG held (R264), and new delays that wait for the channel's next enable. -/
  held : Option (Nat × Nat × Nat × Nat)
  fresh : Option (Nat × Nat)
  /-- The channel takes no stripe: identity (R264), delay (R275). -/
  identityBar : Bool
  delayBar : Bool
  /-- A far end was reported since the last UP (R267). -/
  plugged : Bool
  /-- TICK since which the lane carries its protocol (R265). -/
  since : Nat
  /-- TICK at which the lane froze (R257), WAKE blocks of the present burst, and the TICK of its first group. -/
  frozenAt : Nat
  wakeLeft : Nat
  wakeFrom : Nat
  /-- TICK of the last entry to SEEK (R259), and TICK since which only IDLE blocks may have arrived (R255). -/
  seekAt : Nat
  idleFrom : Nat
  /-- The transmitter (R249, R250): TICK from which it sends at the present rate, whether its first marker there was 0x0F5A, and the TICK of the first
  TRAIN group of the latest training, from which its scrambler runs. -/
  txFrom : Nat
  txOdd : Bool
  scramFrom : Option Nat
  /-- Blocks in error in a row (R262). -/
  badRun : Nat
  /-- TICK at which a drift relearn last triggered (R270). -/
  driftAt : Option Nat
  /-- The receiver. -/
  line : RxLine
  blocks : RxBlocks
  /-- A drift relearn waits for the engine to come to rest (R266). -/
  driftWaits : Bool
  /-- Blocks in error of the present episode (R270). -/
  badEpisode : Nat
  /-- A stale frame was reported in the present episode (R274). -/
  staleEpisode : Bool
  /-- MAX_RATE, TRAIN_TICKS and TEST_MAX as taken at the last entry to SEEK or RELEARN (R268). -/
  maxRate : Nat
  trainTicks : Nat
  testMax : Nat
deriving DecidableEq, Repr

/-- The lanes. -/
structure LnkSt where
  regs : Regs
  blobs : Tab Blob
  tab : Tab Lane
deriving DecidableEq, Repr

/-- A feedback frame of a head (R279). -/
structure Feedback where
  status : Nat
  x : Int
  y : Int
  z : Int
  pdA : Nat
  pdB : Nat
  temp : Int
  faultCode : Nat
deriving DecidableEq, Repr

/-- A status frame of a source (R287). -/
structure SrcFrame where
  status : Nat
  emission : Nat
  hbEcho : Nat
  faultCode : Nat
  temp : Int
deriving DecidableEq, Repr

/-- A coaxial tile on its way in (R281, R282): its header fields and the chunks that have arrived. -/
structure TileIn where
  format : Nat
  frameNo : Nat
  tag : Nat
  chunks : Nat
  crc : Nat
  data : Tab (List Byte)
deriving DecidableEq, Repr

/-- How far the resumption after a head, source or port fault has come (R280): nothing held, waiting for the acknowledgement, waiting for a good frame. -/
inductive HoldStage where
  | none | ack | good
deriving DecidableEq, Repr

/-- The attachments of one channel (11_head_source_protocols.md). -/
structure Attach where
  /-- Frames that arrived, by their tick (R274). -/
  fb : Tab Feedback
  st : Tab SrcFrame
  /-- Converted samples of AIN n by their tick (R294). -/
  ain : Tab Nat
  head : HoldStage
  src : HoldStage
  xy : HoldStage
  /-- Kinds of R280 and R288 whose condition stood in the frame consumed last: a condition raises its fault once while it stands. -/
  standing : List Nat
  /-- Frames that still carry CLEAR_FAULT (R280). -/
  headClear : Nat
  srcClear : Nat
  /-- The override block of the source lane (R285): the TICK of its group, and its TAG. -/
  overrideAt : Option (Nat × Nat)
  /-- The override block of the hardware path of the interlock (R285, R489): the TICK and the position of the block it replaces, and its TAG. -/
  overrideHw : Option (Nat × Nat × Nat)
  /-- What the frames of the present tick carry: CLEAR_FAULT to the head and to the source (R280), and HEARTBEAT (R283). -/
  headCmd : Bool
  srcCmd : Bool
  hbNow : Nat
  /-- Heartbeats: the next value, and frames sent on the lane since BOOT, at most 20 counted (R283, R288). -/
  hb : Nat
  hbSent : Nat
  /-- Runs of R288: heartbeat failures and emission mismatches. -/
  hbRun : Nat
  emRun : Nat
  tile : Option TileIn
  /-- Tiles closed and not yet handed over: FRAME_NO, tick of the tag, whether complete, format, pixel bytes. -/
  tilesDone : List (Nat × Nat × Bool × Nat × List Byte)
  tileEpisode : Bool
  /-- XY2-100 runs of invalid and of wrong status frames (R291). -/
  xyBad : Nat
  xyWrong : Nat
  /-- High time of the present PWM period in 4 ns steps (R293). -/
  pwmHigh : Nat
  /-- An AIN_OVERRANGE episode is open (R294). -/
  ainEpisode : Bool
deriving DecidableEq, Repr

/-- Heads, sources, XY2-100 ports and analog pins. -/
structure AttSt where
  regs : Regs
  blobs : Tab Blob
  tab : Tab Attach
deriving DecidableEq, Repr

/-- The loop states of R216. -/
inductive LoopMode where
  | off | openHost | closed | openFallback | fenced
deriving DecidableEq, Repr

/-- One melt-pool loop beside its entries (08_meltpool_loop.md). -/
structure MpLoop where
  mode : LoopMode
  /-- The factor that comes into force at the next tick (R206, R210). -/
  next : Option Nat
  /-- Commands that wait for a LAYER apply point (R218): RECLOSE, RESET_INTEGRAL. -/
  reclose : Bool
  resetI : Bool
  /-- AREA samples by tag tick: the tick from which the value is available, and the value, none while there is none (R203, R314). -/
  area : Tab (Nat × Option Nat)
  /-- IMPLAUSIBLE_OPEN and OPEN_SAMPLES_LOST raised in the present run (R222). -/
  implSaid : Bool
  lostSaid : Bool
  /-- The variable, by its VAR code, that the check at the channel's start found unavailable in the present layer (R204). -/
  unavailable : Option Nat
  /-- Whether the loop stood outside CLOSED at the composition of tick k, by k, while that tick is to come (R219). -/
  opens : Tab Bool
deriving DecidableEq, Repr

/-- The melt-pool loops. -/
structure MplSt where
  regs : Regs
  blobs : Tab Blob
  tab : Tab MpLoop
deriving DecidableEq, Repr


/-- The camera port states of R317. -/
inductive PortMode where
  | disabled | idle | armed | exposing | receiving | processing
deriving DecidableEq, Repr

/-- The parameter set of a frame, copied at its TRIG (R310). -/
structure FramePar where
  width : Nat
  height : Nat
  bits : Nat
  black : Nat
  defects : Blob
  shading : Blob
  homography : Blob
  rectify : Bool
  outW : Nat
  outH : Nat
  pitch : Nat
  ox : Int
  oy : Int
  timeout : Nat
deriving DecidableEq, Repr

/-- A frame from its TRIG to its close (R301 to R307). -/
structure Frame where
  port : Nat
  no : Nat
  trigTick : Nat
  trigBtick : Nat
  layer : Nat
  folio : Bool
  inlinePort : Bool
  par : FramePar
  /-- Sensor pixels by row as received, none where invalid. -/
  pixels : List (List (Option Nat))
  short : Bool
  long : Bool
  truncated : Bool
  overflow : Bool
  /-- Reception is over. -/
  received : Bool
  /-- The frame uses one of the two raw buffers of its port (R306, R309). -/
  raw : Bool
  /-- Stage 6 has begun; the Folio stream and its kept rows when one was asked for. -/
  stage6 : Bool
  stream : Option (List Byte × Nat)
deriving DecidableEq, Repr

/-- One camera port. -/
structure Port where
  mode : PortMode
  /-- The frame being captured asks for Folio (CAPTURE). -/
  folio : Bool
  /-- TICK until which TRIG and STROBE_SYNC are high (R301). -/
  trigUntil : Nat
  syncUntil : Nat
  /-- The event that an armed port waits for has come (R301). -/
  event : Bool
  fenced : Bool
deriving DecidableEq, Repr

/-- A tile whose trigger was sent (R313): its first tick, its exposure, its tag t and its hand-over tick h, all in ticks of TICK; t in BTICK; and FORMAT, THRESH
and LOG_EN as they stood at the trigger (R315). -/
structure TileSlot where
  start : Nat
  exposure : Nat
  tag : Nat
  hand : Nat
  tagBtick : Nat
  format : Nat
  thresh : Nat
  log : Bool
deriving DecidableEq, Repr

/-- One feature unit (R313 to R316). -/
structure Mpf where
  fenced : Bool
  sched : List TileSlot
  /-- Tag ticks of the schedule, whether their trigger was sent or not (R203, R313): the last ones. -/
  tags : List Nat
  /-- Tags whose hand-over has run, the last four. -/
  handed : List Nat
  log : Tab (List Byte)
  invalidEpisode : Bool
  strayEpisode : Bool
deriving DecidableEq, Repr

/-- The last TRIG tick (R324): its TICK, the ports whose frame starts have been applied in it, whether staged lamp values became live in it. -/
structure SyncEdge where
  tick : Nat
  ports : List Nat
  moved : Bool
deriving DecidableEq, Repr

/-- The Reading Room and the feature units. -/
structure ImgSt where
  regs : Regs
  blobs : Tab Blob
  ports : Tab Port
  /-- Frames not yet closed, in order of TRIG (R306). -/
  frames : List Frame
  /-- The last closed frame object of each port (R312). -/
  objects : Tab (List Byte)
  mpf : Tab Mpf
  sync : Option SyncEdge
deriving DecidableEq, Repr

/-- The lamp states of R327. -/
inductive LampMode where
  | disabled | undiagnosed | ok | opened | shorted | fenced
deriving DecidableEq, Repr

/-- A pulse in progress (R323, R326): its start, its end, its current, whether a probe. -/
structure Pulse where
  start : Nat
  stop : Nat
  current : Nat
  probe : Bool
deriving DecidableEq, Repr

/-- One lamp beside its entries (13_illumination.md). -/
structure Lamp where
  mode : LampMode
  /-- The live pulse width (R324). -/
  width : Nat
  pulse : Option Pulse
  armed : Option Nat
  lastPort : Option Nat
  /-- Frames closed since the last diagnosis, whether a probe is due (R326), and the first TICK that may fire it. -/
  count : Nat
  probeDue : Bool
  probeFrom : Nat
  /-- V_SINK of the last diagnosed pulse, in mV (R328). -/
  vPred : Option Nat
deriving DecidableEq, Repr

/-- The lamps. -/
structure IlmSt where
  regs : Regs
  blobs : Tab Blob
  tab : Tab Lamp
  /-- Charges of the last second: TICK, energy in units of 125 fJ (R328). -/
  charges : List (Nat × Nat)
deriving DecidableEq, Repr

/-- A Folio job (R337): client, class, whether it decompresses, its geometry, its samples or its stream, and the plane of a grid job. -/
structure FolJob where
  client : Nat
  cls : Nat
  decode : Bool
  bits : Nat
  width : Nat
  height : Nat
  samples : List Nat
  input : List Byte
  plane : Nat
  /-- Buffers linked so far, and TICK since which it waits for one (R340). -/
  held : Nat
  waitFrom : Option Nat
  /-- FOL_WAIT, EXPAND_MAX and OUT_LIMIT as the job started with (R344). -/
  started : Bool
  waitTicks : Nat
  expandMax : Nat
  outLimit : Nat
deriving DecidableEq, Repr

/-- A host slot (R345). -/
structure FolSlot where
  mode : Nat
  output : List Byte
deriving DecidableEq, Repr

/-- Folio (14_folio_codec.md). -/
structure FolSt where
  regs : Regs
  blobs : Tab Blob
  /-- Jobs in the order the engine serves them; the first one runs. -/
  jobs : List FolJob
  slots : Tab FolSlot
  /-- Buffers held by finished chains, by client (R341). -/
  chains : Tab Nat
deriving DecidableEq, Repr


/-- The axis states of R382. -/
inductive AxMode where
  | disabled | hold | restOff | restShort | waking | moving | jogging | geared | homing | stopping | fenced
deriving DecidableEq, Repr

/-- What an axis drives toward: a target, a signed speed, or rest at a deceleration. -/
inductive AxGoal where
  | target (t : Int)
  | speed (v : Int)
  | stop (dec : Nat)
deriving DecidableEq, Repr

/-- The next event of the step timer (R373): its ideal instant in units of 4 ns, whether it is a step or the arrival at rest, the direction and the
squared speed there, in steps² / s², and the parts of the way to it: time in units of 4 ns, squared speed at the start and at the end. -/
structure AxEvent where
  ideal : Rat
  isStep : Bool
  dir : Int
  v2 : Rat
  parts : List (Rat × Rat × Rat)
deriving DecidableEq, Repr

/-- The phases of homing (R385): back-off from an active reference before the search, its stop, the search, its stop, back-off, its stop. -/
inductive HomePhase where
  | leave | leaveStop | search | searchStop | backOff | backStop
deriving DecidableEq, Repr

/-- A switch input (R383): the debounced level of the pin, active-high; the level taken; the end of a hold-off; whether CHATTER was raised in it; the
TICK of the last change of the level. -/
structure AxSwitch where
  pin : Bool
  level : Bool
  holdUntil : Option Nat
  said : Bool
  changed : Option Nat
deriving DecidableEq, Repr

/-- The gear of an axis in force (R387, R389). -/
structure AxGear where
  enc : Nat
  num : Int
  den : Nat
  c0 : Int
  dm : Int
  /-- The armed switch: numerator, denominator, master position. -/
  armed : Option (Int × Nat × Int)
deriving DecidableEq, Repr

/-- One axis (R372 to R389). -/
structure Axis where
  mode : AxMode
  pos : Int
  goal : AxGoal
  dir : Int
  v2 : Rat
  /-- The squared cruise speed, acceleration and deceleration in force (R376 to R378). -/
  cruise2 : Rat
  acc : Nat
  dec : Nat
  /-- The ideal instant of the last step or of the start of the profile, in units of 4 ns; the event that the timer holds. -/
  lastAt : Rat
  event : Option AxEvent
  /-- The STEP pin is high until this instant, in units of 4 ns. -/
  stepUntil : Nat
  /-- WAKING: the TICK at which it ends, and the state and goal that follow (R375). -/
  wakeUntil : Nat
  after : AxMode
  afterGoal : AxGoal
  /-- The TICK at which HOLD began (R381). -/
  holdFrom : Nat
  /-- The stop ends in DISABLED (R382). -/
  toDisabled : Bool
  phase : HomePhase
  searchFrom : Int
  releasePos : Int
  homed : Bool
  gear : Option AxGear
  limP : AxSwitch
  limN : AxSwitch
  home : AxSwitch
  steps : Nat
deriving DecidableEq, Repr

/-- The encoder states (R401). -/
inductive EncMode where
  | disabled | running | fenced
deriving DecidableEq, Repr

/-- One encoder (R390 to R394). -/
structure Enc where
  mode : EncMode
  count : Int
  a : Bool
  b : Bool
  z : Bool
  /-- The instants, in units of 4 ns, at which A, B and Z changed last (R390). -/
  aAt : Option Nat
  bAt : Option Nat
  zAt : Option Nat
  /-- Direction of the last counted edge; the edge that a period is measured from, in units of 4 ns. -/
  lastDir : Option Int
  lastEdge : Option Nat
  speed : Int
  illegalEpisode : Bool
  latch : Option Int
  /-- Teeth (R393): the last tooth and the interval before it, in units of 4 ns; teeth since the reference. -/
  tooth : Option Nat
  gap : Option Nat
  sinceRef : Nat
deriving DecidableEq, Repr

/-- The compare states (R398). -/
inductive CmpMode where
  | disarmed | armed | behind | done | fenced
deriving DecidableEq, Repr

/-- One compare unit (R395 to R398): its state, firings made since it was armed, and the end of its pulse in units of 4 ns. -/
structure Cmp where
  mode : CmpMode
  made : Nat
  pulseUntil : Nat
deriving DecidableEq, Repr

/-- Axes, encoders and compare units (16_machine_axes.md). -/
structure AxSt where
  regs : Regs
  axes : Tab Axis
  encs : Tab Enc
  cmps : Tab Cmp
  /-- Events of the present tick, which the next one consumes, and those that the present tick consumes (R392, R395): 0 to 15 a compare unit, 16 to 23
  the index of an encoder. -/
  fresh : List Nat
  now : List Nat
deriving DecidableEq, Repr


/-- A Ledger record (R446) but for its CRC, which its bytes carry. -/
structure LdgRec where
  seq : Nat
  opTime : Nat
  cycles : Nat
  netclk : Nat
  trigger : Nat
  source : Nat
  times : Nat
  flags : Nat
  lastOp : Nat
  lastNetclk : Nat
  msg : Nat
  tick : Nat
  layer : Nat
  /-- The snapshot fields: index, subindex, type code, value. -/
  snap : List (Nat × Nat × Nat × Nat)
deriving DecidableEq, Repr

/-- The Ledger (19_ledger.md). -/
structure LdgSt where
  regs : Regs
  /-- The records of the Ledger memory by slot (R444). -/
  slots : Tab LdgRec
  /-- Slots retired, and the spare slot that replaces each (R455); the spare slots used. -/
  moved : Tab Nat
  spareUsed : Nat
  /-- Slots whose cells fail (R455): what the memory is, changed by no command. -/
  bad : List Nat
  pinnedUsed : Nat
  /-- Records written to the ring so far: the next ring slot. -/
  ringNext : Nat
  /-- The newest SEQ; none while no record exists. -/
  lastSeq : Option Nat
  /-- The slot of the last record, when an event may merge into it (R450): it is ordinary, and no BOOT and no NETCLK write came since. -/
  mergeInto : Option Nat
  /-- NETCLK was written or stepped since the last record (R450). -/
  stepped : Bool
  /-- The staging queue, and the TICK at which FREEZE began (R452). -/
  staging : List LdgRec
  frozen : Option Nat
  /-- The volatile shadow (R455), the oldest first. -/
  shadow : List LdgRec
  degraded : Bool
  /-- Of the present BOOT period: a FATAL was recorded; a write failed. -/
  sawFatal : Bool
  sawFail : Bool
  /-- Operating time in ms, the ticks of the millisecond begun, and the power-cycle count (R451). -/
  opTime : Nat
  opTicks : Nat
  cycles : Nat
  /-- The checkpoint slots 256 and 257: operating time, power cycles, SEQ; whether slot 257 holds the newer; and the operating time of the last checkpoint. -/
  checkA : Nat × Nat × Nat
  checkB : Nat × Nat × Nat
  newerB : Bool
  checkAt : Nat
deriving DecidableEq, Repr


/-- A host frame in a port's queue (R409, R410): its path, TAG, launch time, whether it asks for a time-stamp, its bytes, and its verdict at the head
of the queue: late or not; and whether NETCLK was stepped past its LAUNCH while it waited. -/
structure TxFrame where
  path : Nat
  tag : Nat
  launch : Option Nat
  stamp : Bool
  bytes : List Byte
  verdict : Option Bool
  overtaken : Bool
deriving DecidableEq, Repr

/-- Network and time (17_network_time.md). -/
structure NetSt where
  regs : Regs
  /-- NETCLK: ns in the upper, fraction in the lower 32 bits (R407). -/
  clk : Nat
  /-- Frames queued on ETH0 and ETH1. -/
  queue0 : List TxFrame
  queue1 : List TxFrame
  /-- The DONE rings by path × 64 + index (R411), and the entries of the RX ring (R412). -/
  done : Tab (List Byte)
  rx : Tab (List Byte)
  /-- Episodes open: LAUNCH_LATE by port, RX_LOST, TUNE_RANGE. -/
  lateEpisode : List Nat
  lostEpisode : Bool
  tuneEpisode : Bool
  /-- The phase lock (R414, R415): Σ KI·φ in 2^-40 codes, consecutive measurements in the window and at the end of the range, the tick last measured. -/
  sum : Int
  inWindow : Nat
  atEnd : Nat
  measured : Option Nat
  /-- The last answers to ARP and ICMP that left, the newest last: port and frame; and those that wait behind a timed frame (R410). -/
  answers : List (Nat × List Byte)
  waiting : List (Nat × List Byte)
deriving DecidableEq, Repr



/-- The start-up step in progress (R499). -/
inductive BootStep where
  | rails | firmware | config | pll | dram | cal | mount
deriving DecidableEq, Repr

/-- Power, hot-plug, start-up and the external interlock (21_module_connectors.md, 22_power_hotplug_startup.md). -/
structure PwrSt where
  regs : Regs
  /-- 48V_PRE is mated and charges the bulk; the charge took too long; the standby domain runs; the main switch is closed (R495). -/
  precharge : Bool
  prechargeFail : Bool
  standby : Bool
  main : Bool
  /-- The standby and Ledger domain runs from the hold-up store (R504). -/
  holdUp : Bool
  /-- The core rails are on. -/
  rails : Bool
  /-- The level of ENABLE as taken, and a rise held until the module can start (R498). -/
  enable : Bool
  riseHeld : Bool
  /-- The insertion in progress follows an input loss (R505). -/
  returned : Bool
  /-- The latch switch is closed: the lever stands at REQUEST (R490). -/
  latch : Bool
  /-- A removal sequence runs; whether the rails go off when it ends (R502). -/
  removal : Option Bool
  /-- A requested removal has completed and the lever has not returned to CLOSED (R490, R491). -/
  removed : Bool
  /-- Work outstanding when SAFE_TO_REMOVE lit: bits 5 to 3 of FLAGS (R507). -/
  outstanding : Nat
  /-- LASER_INTERLOCK_N is asserted: the hardware path drives the gates off (R489). -/
  interlock : Bool
  /-- The start-up step in progress and the time spent in the steps before it, in µs (R499, R508). -/
  boot : Option BootStep
  spent : Nat
  /-- TICK at which the step in progress began, for the steps that run with the root PLL locked. -/
  stepTick : Nat
  /-- Start-up step 2 has ended since the core rails came on: the dictionary answers (R499, R501). -/
  served : Bool
  /-- The image that runs (R500). -/
  recovery : Bool
  fallback : Bool
  /-- The input power of the last 100 ms, the newest first, in mW (R494); a warning of each kind stands. -/
  powers : List Nat
  powerHigh : Bool
  uvBelow : Bool
deriving DecidableEq, Repr

/-- The store states of R364. -/
inductive StkMode where
  | absent | mounting | mounted | readOnly | unformatted | failed | fenced
deriving DecidableEq, Repr

/-- An object write that is not yet committed (R137, R351, R353): its key but for SEQ, its data once the source is complete, the number of
the frame it waits for, whether the step waits. -/
structure StkWrite where
  kind : Nat
  job : Nat
  layer : Nat
  unit : Nat
  data : Option (List Byte)
  frameNo : Nat
  wait : Bool
  /-- Folio buffers of a chain its owner has given up while Stacks still copies it (R341). -/
  held : Nat
  /-- The SEQ the host gave, for a write of the host; STORE_OBJECT is assigned one at its commit (R351). -/
  seq : Option Nat
deriving DecidableEq, Repr

/-- A store that was mounted (R361 to R363): STORE_ID, the bytes of its journal and checkpoint blocks, the map and the directory, the sequence number of the
next journal record, the bytes of journal since the newest checkpoint, and objects that are gone but still read (R352). -/
structure Store where
  id : Nat
  area : Nat
  dir : Directory
  journalSeq : Nat
  journalLen : Nat
  old : List StkObj
deriving DecidableEq, Repr

/-- Stacks (15_stacks_job_store.md). -/
structure StkSt where
  regs : Regs
  mode : StkMode
  /-- The NAND on the backplane, as far as a mount has shown it, and whether one has since start-up. -/
  medium : Medium
  shown : Bool
  /-- The store the last mount loaded. -/
  store : Option Store
  /-- FORMAT was accepted and its mount has not ended: the NAND is what FORMAT wrote. -/
  formatting : Bool
  writes : List StkWrite
  /-- Layers staged or declared in full, by context; the stream in progress, as layer, object and bytes delivered; the layer stopped (R355, R356). -/
  staged : Tab (List Nat)
  progress : Tab (Option (Nat × Nat × Nat))
  stopped : Tab (Option Nat)
  /-- Layers being staged, with the TICK their staging began and their bytes so far (R368). -/
  timed : Tab (Nat × Nat)
  /-- Targets (4 × channel + target) that timed out once (R370). -/
  timeouts : List Nat
  /-- Suspended targets and the TICK of the last staging read of them (R359). -/
  suspended : Tab Nat
  /-- The temperature each target reported last, and that at its last calibration, in 1/16 °C (R360, R369). -/
  temps : Tab Int
  calibrated : Tab Int
  /-- The object each access path reads (R352). -/
  readers : Tab Nat
  /-- EJECT_REQ stopped new operations (R362). -/
  ejected : Bool
deriving DecidableEq, Repr


/-- One temperature sensor (R460, R464): its reading in 1/16 °C, its last count, how many windows gave it, whether it is broken. -/
structure Sensor where
  reading : Int
  count : Nat
  same : Nat
  broken : Bool
deriving DecidableEq, Repr

/-- A set of calibration values (R471): as shipped, unity, or entries of GAIN and OFFSET. -/
inductive CalSet where
  | factory
  | unity
  | entries (l : List (Int × Int))
deriving DecidableEq, Repr

/-- The kinds of calibration run (R470). -/
inductive CalKind where
  | powerUp | temperature | manual
deriving DecidableEq, Repr

/-- Temperature and calibration (20_temperature_calibration.md). -/
structure TmpSt where
  regs : Regs
  sensors : Tab Sensor
  /-- Conditions present (R462, R463). -/
  warnDie : Bool
  critDie : Bool
  warnMod : Bool
  critMod : Bool
  rateWarn : Bool
  rateCrit : Bool
  /-- Tj at the last rate checks, the newest first, and the checks for which the rate has stayed within each limit (R463). -/
  hist : List Int
  calmWarn : Nat
  calmCrit : Nat
  maxSeen : Int
  /-- The acknowledged SEQ of a thermal shutdown (R468), kept in the boot store. -/
  acked : Option Nat
  /-- VALUES in force and the two copies of the boot store, the newer first; none where a copy is not valid (R471). -/
  values : CalSet
  newer : Option CalSet
  older : Option CalSet
  /-- Results of the last run by entry (R470). -/
  measured : Tab (Int × Int)
  /-- The run in progress and the entries whose points did not settle (R469). -/
  run : Option CalKind
  unsettled : List Nat
  /-- A temperature run waits for a layer boundary, or a trigger fell during a run (R470). -/
  deferred : Bool
  /-- Tj was further from CAL_LAST_TEMP than CAL_DELTA_T at the last reading (R470). -/
  exceeds : Bool
  again : Option CalKind
deriving DecidableEq, Repr


/-- One fault source (R428 to R436): the highest severity since its status last cleared (0 while it holds none), its open window (TICK of opening, TICK of
expiry, the message that opened it), how the last window closed, its fenced unit, and its records. -/
structure FltSrc where
  active : Bool
  sev : Nat
  window : Option (Nat × Nat × Nat)
  acked : Bool
  fenced : Bool
  lastMsg : Nat
  lastTick : Nat
  messages : Nat
  recoveries : Nat
  escalations : Nat
  /-- TICK from which the quiet period runs (R434). -/
  quietFrom : Nat
  /-- The quiet period fixed when it started. -/
  quietTicks : Nat
deriving DecidableEq, Repr

/-- The fault collector (18_faults.md). -/
structure FltSt where
  regs : Regs
  blobs : Tab Blob
  srcs : Tab FltSrc
  /-- The log ring by slot (R426) and the count of entries. -/
  log : Tab (List Byte)
  logPos : Nat
  /-- First-fault capture (R425): messages of the capture's CORE cycle count while this holds. -/
  firstValid : Bool
  /-- ERR_N (R437): asserted for the minimum time until this TICK; whether the pin is asserted; the device has entered SERVICE since ENABLE rose. -/
  minUntil : Option Nat
  pin : Bool
  /-- DEV_STATE transitions since BOOT (R438). -/
  transitions : Nat
  /-- TICK of the last message of each correctable-error source (R443). -/
  corrected : Tab Nat
deriving DecidableEq, Repr


/-- The module. -/
structure State where
  /-- TICK and BTICK (R13, R14). -/
  tick : Nat
  btick : Nat
  dev : DevSt
  txn : TxnSt
  ctx : CtxSt
  trj : TrjSt
  lnd : LndSt
  cat : CatSt
  mpl : MplSt
  grd : GrdSt
  lnk : LnkSt
  att : AttSt
  img : ImgSt
  ilm : IlmSt
  fol : FolSt
  stk : StkSt
  ax : AxSt
  net : NetSt
  flt : FltSt
  ldg : LdgSt
  tmp : TmpSt
  pwr : PwrSt
  /-- Messages of the CORE cycle not yet collected (R424), oldest first. -/
  raised : List Msg
  /-- How many free values the run has drawn (log entry 7): the model's own field. -/
  free : Nat
  /-- The commands that wait, first in, first out. -/
  pending : List Instr
deriving DecidableEq, Repr

/-- Why a run stops. No command of this module ends so: every row of the table has an effect, and an event that cannot arise changes nothing
(log entry 1). Safe. -/
inductive Fault where
  /-- Raised by no meaning. Safe. -/
  | none
deriving DecidableEq, Repr

/-- Why a command is refused. -/
inductive Refusal where
  /-- A command whose meaning is not written: raised by an arm of the dispatch alone. Safe. -/
  | notModelled (mnemonic : String)
deriving DecidableEq, Repr

/-- A Ledger record of the first BOOT (R446, R448): SEQ 1, one power cycle, everything else 0, no layer. -/
def LdgRec.firstBoot : LdgRec :=
  { seq := 1, opTime := 0, cycles := 1, netclk := 0, trigger := 4, source := 0, times := 1, flags := 0, lastOp := 0, lastNetclk := 0, msg := 0, tick := 0,
    layer := 4294967295, snap := List.replicate 24 (0, 0, 0, 0) }

/-- A version word whose MAJOR is 1 or more, as every image but the recovery one reports (R51). -/
def imageVersion (v : Nat) : Nat := let v := v % 2 ^ 32; if v < 2 ^ 24 then v + 2 ^ 24 else v

/-- The module as the first accepted rise of ENABLE after the factory finds it (R23, R498, R499): BOOT, step 1a in progress, every entry at its default,
an empty saved set, one BOOT record in the Ledger (log entry 2). -/
def State.reset : State :=
  { tick := 0, btick := 0
    dev :=
      { regs := [], blobs := [], mode := .boot, prev := .boot, spanOpen := false, digest := 0, liveFirst := 0, gridDigestDue := none
        savedA := ⟨true, [], [], 0⟩, savedB := ⟨false, [], [], 0⟩, saving := none, savePath := 0, fwNewer := ⟨imageVersion Config.fwVersion, true, none⟩
        fwOlder := ⟨0, false, none⟩, fwRunning := ⟨imageVersion Config.fwVersion, true, none⟩, fwStoring := none, fwPath := 0, pllLocked := false, msix := [] }
    txn :=
      { regs := [], paths := [], queue := [], nextId := 1, req := [], resp := [], busy := false, done := false, overrun := false, fenced := false
        bar0 := [], sent := [] }
    ctx := { regs := [], tab := [], ring := [], waiting := [], phase := true }
    trj := { regs := [], blobs := [], tab := [] }
    lnd := { regs := [], reach := [], computing := false, active := none, queued := [], fences := [], counters := [], barred := [], incomplete := [] }
    cat :=
      { regs := [], blobs := [], image := [], mode := .idle, next := 0, waiting := none, issued := 0, event := false, loops := [], chMode := []
        calHold := false, stageLate := false, seqIn := [], newFences := [], stopping := [], inLayer := [], boundaryAt := none, acted := none }
    mpl := { regs := [], blobs := [], tab := [] }
    grd :=
      { regs := [], blobs := [], mode := .idle, done := ⟨⟨9541, 0, 0⟩, []⟩, next := ⟨⟨9541, 0, 0⟩, []⟩, prev := ⟨⟨9541, 0, 0⟩, []⟩, lateTiles := []
        pend := [], resid := [], sweep := 0, start := 0, par := ⟨40000, 0, 0, 65536, 9541, false⟩, nextTile := 0, opened := false, taken := [], lastSweep := none
        lastEnd := 0, lastLayer := 0, lastTamb := 9541, lastLate := false, eSum := 0, lateNow := false, snapMode := .idle, snapAt := 0, snapFolio := false, snap := none }
    lnk := { regs := [], blobs := [], tab := [] }
    att := { regs := [], blobs := [], tab := [] }
    img := { regs := [], blobs := [], ports := [], frames := [], objects := [], mpf := [], sync := none }
    ilm := { regs := [], blobs := [], tab := [], charges := [] }
    fol := { regs := [], blobs := [], jobs := [], slots := [], chains := [] }
    stk :=
      { regs := [], mode := .absent, medium := ⟨[], [], none, none, [], [], [], []⟩, shown := false, store := none, formatting := false, writes := []
        staged := [], progress := [], stopped := [], timed := [], timeouts := [], suspended := [], temps := [], calibrated := [], readers := []
        ejected := false }
    ax := { regs := [], axes := [], encs := [], cmps := [], fresh := [], now := [] }
    net :=
      { regs := [], clk := 0, queue0 := [], queue1 := [], done := [], rx := [], lateEpisode := [], lostEpisode := false, tuneEpisode := false
        sum := 0, inWindow := 0, atEnd := 0, measured := none, answers := [], waiting := [] }
    flt := { regs := [], blobs := [], srcs := [], log := [], logPos := 0, firstValid := false, minUntil := none, pin := true, transitions := 0
             corrected := [] }
    ldg :=
      { regs := [], slots := [(776, LdgRec.firstBoot)], moved := [], spareUsed := 0, bad := [], pinnedUsed := 0, ringNext := 1, lastSeq := some 1
        mergeInto := none, stepped := false, staging := [], frozen := none, shadow := [], degraded := false, sawFatal := false, sawFail := false
        opTime := 0, opTicks := 0, cycles := 1, checkA := (0, 0, 0), checkB := (0, 1, 0), newerB := true, checkAt := 0 }
    tmp :=
      { regs := [], sensors := [], warnDie := false, critDie := false, warnMod := false, critMod := false, rateWarn := false, rateCrit := false
        hist := [], calmWarn := 0, calmCrit := 0, maxSeen := 0, acked := none, values := .factory, newer := some .factory, older := none, measured := []
        run := none, unsettled := [], deferred := false, exceeds := false, again := none }
    pwr :=
      { regs := [(0x130006, 2)], precharge := true, prechargeFail := false, standby := true, main := true, holdUp := false, rails := true
        enable := true, riseHeld := false, returned := false, latch := false, removal := none, removed := false, outstanding := 0, interlock := false
        boot := some .rails, spent := 0, stepTick := 0, served := false, recovery := false, fallback := false, powers := [], powerHigh := false, uvBelow := false }
    raised := [], free := 0, pending := [] }

end Sys2Proof.Machine
end

