-- ==== Sys2Proof/Machine/Tab.lean ====
section
/-!
DEFINITION. Tables in canonical form, register files over the dictionary table, and BLOBs: the operations every chapter's state is read and
written through.
-/
namespace Sys2Proof.Machine

/-- The listed value of a key. -/
def Tab.find {α : Type} : Tab α → Nat → Option α
  | [], _ => none
  | (k, v) :: m, i => if i = k then some v else Tab.find m i

/-- The value of a key, where an unlisted key reads as `d` says. -/
def Tab.get {α : Type} (d : Nat → α) (m : Tab α) (i : Nat) : α :=
  match Tab.find m i with
  | some v => v
  | none => d i

/-- List a value, keeping the keys strictly rising. -/
def Tab.ins {α : Type} : Tab α → Nat → α → Tab α
  | [], i, v => [(i, v)]
  | (k, w) :: m, i, v => if i < k then (i, v) :: (k, w) :: m else if i = k then (i, v) :: m else (k, w) :: Tab.ins m i v

/-- Unlist a key, wherever it stands. -/
def Tab.del {α : Type} : Tab α → Nat → Tab α
  | [], _ => []
  | (k, w) :: m, i => if i = k then Tab.del m i else (k, w) :: Tab.del m i

/-- Set the value of a key: the value an unlisted key reads as is not listed. -/
def Tab.set {α : Type} [DecidableEq α] (d : Nat → α) (m : Tab α) (i : Nat) (v : α) : Tab α :=
  if v = d i then Tab.del m i else Tab.ins m i v

/-- The canonical form: keys strictly rising from `lo`, no entry equal to what an unlisted key reads as. -/
def Tab.wfFrom {α : Type} [DecidableEq α] (d : Nat → α) : Nat → Tab α → Bool
  | _, [] => true
  | lo, (k, v) :: m => decide (lo ≤ k) && decide (v ≠ d k) && Tab.wfFrom d (k + 1) m

/-- The canonical form of a table. -/
def Tab.wf {α : Type} [DecidableEq α] (d : Nat → α) (m : Tab α) : Bool := Tab.wfFrom d 0 m

namespace Dict

/-- The key of an entry of a record: bank (for records kept per access path), index and subindex. -/
def key (bank idx sub : Nat) : Nat := (bank * 65536 + idx) * 256 + sub

/-- Whether a row covers an entry. -/
def covers (r : Row) (idx sub : Nat) : Bool :=
  decide (r.idx ≤ idx) && decide (idx < r.idx + r.count) && decide (r.sub ≤ sub) &&
    decide ((sub - r.sub) % r.step = 0) && decide ((sub - r.sub) / r.step < r.nsub)

/-- The row of an entry. -/
def find : List Row → Nat → Nat → Option Row
  | [], _, _ => none
  | r :: rs, idx, sub => if covers r idx sub then some r else find rs idx sub

/-- The default of an entry (the record tables). -/
def dfltOf (r : Row) (idx sub : Nat) : Int :=
  match r.dflt with
  | .c v => v
  | .byIdx => ((idx - r.idx : Nat) : Int)
  | .bySub => (((sub - r.sub) / r.step : Nat) : Int)
  | .members => if idx - r.idx < 24 then ((0xFFFFFF00 + (idx - r.idx) : Nat) : Int) else 0xFFFFFFFF

/-- The default of a key under a block's rows. -/
def dflt (rows : List Row) (k : Nat) : Int :=
  match find rows (k / 256 % 65536) (k % 256) with
  | some r => dfltOf r (k / 256 % 65536) (k % 256)
  | none => 0

/-- The width of a type in bits (R33); 0 for STR and BLOB. -/
def width : Ty → Nat
  | .bool => 8 | .u8 => 8 | .u16 => 16 | .u32 => 32 | .u64 => 64 | .i16 => 16 | .i32 => 32 | .i64 => 64 | .f32 => 32
  | .str => 0 | .blob => 0

/-- Whether a type is signed. -/
def signed : Ty → Bool
  | .i16 => true | .i32 => true | .i64 => true | _ => false

/-- The least value of a type. -/
def tyMin (t : Ty) : Int := if signed t then -((2 ^ (width t - 1) : Nat) : Int) else 0

/-- The greatest value of a type. -/
def tyMax (t : Ty) : Int :=
  match t with
  | .bool => 1
  | _ => if signed t then ((2 ^ (width t - 1) : Nat) : Int) - 1 else ((2 ^ width t : Nat) : Int) - 1

/-- A number held to what a type can hold: the low bits of its word. -/
def norm (t : Ty) (v : Int) : Int :=
  match t with
  | .bool => if v = 0 then 0 else 1
  | _ => if signed t then Arith.toSigned (width t) (Arith.toUnsigned (width t) v) else (Arith.toUnsigned (width t) v : Nat)

/-- Whether a number lies within the limits of an entry (R33). -/
def chkOk (c : Chk) (v : Int) : Bool :=
  match c with
  | .any => true
  | .rng lo hi => decide (lo ≤ v) && decide (v ≤ hi)
  | .rngOr lo hi o => (decide (lo ≤ v) && decide (v ≤ hi)) || decide (v = o)
  | .mul lo hi m => decide (lo ≤ v) && decide (v ≤ hi) && decide (v % m = 0)
  | .pow2 lo hi => decide (lo ≤ v) && decide (v ≤ hi) && decide (v.toNat = 2 ^ v.toNat.log2)
  | .fields fs =>
    decide (0 ≤ v) &&
      fs.all (fun f => decide (f.2.2.1 ≤ Arith.bits v.toNat f.1 f.2.1) && decide (Arith.bits v.toNat f.1 f.2.1 ≤ f.2.2.2)) &&
      decide ((fs.map fun f => Arith.bits v.toNat f.1 f.2.1 * 2 ^ f.2.1).sum = v.toNat)

end Dict

/-- The value of a register. -/
def Regs.get (rows : List Dict.Row) (m : Regs) (k : Nat) : Int := Tab.get (Dict.dflt rows) m k

/-- Write a register: the value is held to its entry's type, and a key that is no entry is left alone. -/
def Regs.set (rows : List Dict.Row) (m : Regs) (k : Nat) (v : Int) : Regs :=
  match Dict.find rows (k / 256 % 65536) (k % 256) with
  | some r => Tab.set (Dict.dflt rows) m k (Dict.norm r.ty v)
  | none => m

/-- One listed register holds a value of its entry's type. -/
def Regs.inType (rows : List Dict.Row) (c : Nat × Int) : Bool :=
  match Dict.find rows (c.1 / 256 % 65536) (c.1 % 256) with
  | some r => decide (Dict.norm r.ty c.2 = c.2)
  | none => false

/-- The canonical form of a register file: the canonical form of a table, and every listed value one its entry's type can hold. -/
def Regs.wf (rows : List Dict.Row) (m : Regs) : Bool := Tab.wf (Dict.dflt rows) m && m.all (Regs.inType rows)

/-- The BLOB of the given bytes. -/
def Blob.ofList (bs : List Byte) : Blob :=
  ⟨bs.length, (bs.zipIdx.filter fun c => c.1 != 0).map fun c => (c.2, c.1)⟩

/-- The empty BLOB. -/
def Blob.empty : Blob := ⟨0, []⟩

/-- One byte of a BLOB. -/
def Blob.byte (b : Blob) (i : Nat) : Byte := Tab.get (fun _ => 0) b.cells i

/-- `n` bytes of a BLOB from offset `o`, cut at its length. -/
def Blob.slice (b : Blob) (o n : Nat) : List Byte := ((List.range (min n (b.len - o))).map fun i => Blob.byte b (o + i))

/-- All bytes of a BLOB. -/
def Blob.toList (b : Blob) : List Byte := Blob.slice b 0 b.len

/-- The unsigned number of `n` little-endian bytes at offset `o`. -/
def Blob.le (b : Blob) (o n : Nat) : Nat := Arith.leNat ((List.range n).map fun i => Blob.byte b (o + i))

/-- The signed number of `n` little-endian bytes at offset `o`. -/
def Blob.leInt (b : Blob) (o n : Nat) : Int := Arith.toSigned (8 * n) (Blob.le b o n)

end Sys2Proof.Machine
end

