-- ==== Sys2Proof/Machine/Ops.lean ====
section
/-!
DEFINITION. The named operations over the state: register access block by block, the per-unit tables, messages to the fault collector, free
values and the clocks.
-/
namespace Sys2Proof.Machine

/-- Code of a device state (R21). -/
def Mode.code : Mode → Nat
  | .boot => 0 | .service => 1 | .ready => 2 | .building => 3 | .paused => 4 | .safe => 5 | .thermalOff => 6

/-- BUILDING or PAUSED: a build runs (R127). -/
def Mode.inBuild (m : Mode) : Bool := m == .building || m == .paused

/-- Add to a register, held within its type (the saturating counters of R9). -/
def Regs.inc (rows : List Dict.Row) (m : Regs) (k : Nat) (d : Int) : Regs :=
  match Dict.find rows (k / 256 % 65536) (k % 256) with
  | some r => Regs.set rows m k (Arith.clamp (Dict.tyMin r.ty) (Dict.tyMax r.ty) (Regs.get rows m k + d))
  | none => m

/-- A fault source that has reported nothing (R428). -/
def FltSrc.init : FltSrc :=
  { active := false, sev := 0, window := none, acked := false, fenced := false, lastMsg := 0, lastTick := 0, messages := 0, recoveries := 0,
    escalations := 0, quietFrom := 0, quietTicks := 0 }

namespace State

/-- A register of the dev block: identity, device state and configuration. -/
def rDev (s : State) (idx sub : Nat) : Int := Regs.get Dict.devRows s.dev.regs (Dict.key 0 idx sub)

/-- Write a register of the dev block. -/
def wDev (s : State) (idx sub : Nat) (v : Int) : State :=
  { s with dev := { s.dev with regs := Regs.set Dict.devRows s.dev.regs (Dict.key 0 idx sub) v } }

/-- Add to a saturating counter of the dev block. -/
def incDev (s : State) (idx sub : Nat) (d : Int) : State :=
  { s with dev := { s.dev with regs := Regs.inc Dict.devRows s.dev.regs (Dict.key 0 idx sub) d } }

/-- A register of the txn block: transactions. -/
def rTxn (s : State) (idx sub : Nat) : Int := Regs.get Dict.txnRows s.txn.regs (Dict.key 0 idx sub)

/-- Write a register of the txn block. -/
def wTxn (s : State) (idx sub : Nat) (v : Int) : State :=
  { s with txn := { s.txn with regs := Regs.set Dict.txnRows s.txn.regs (Dict.key 0 idx sub) v } }

/-- Add to a saturating counter of the txn block. -/
def incTxn (s : State) (idx sub : Nat) (d : Int) : State :=
  { s with txn := { s.txn with regs := Regs.inc Dict.txnRows s.txn.regs (Dict.key 0 idx sub) d } }

/-- A register of the ctx block: contexts. -/
def rCtx (s : State) (idx sub : Nat) : Int := Regs.get Dict.ctxRows s.ctx.regs (Dict.key 0 idx sub)

/-- Write a register of the ctx block. -/
def wCtx (s : State) (idx sub : Nat) (v : Int) : State :=
  { s with ctx := { s.ctx with regs := Regs.set Dict.ctxRows s.ctx.regs (Dict.key 0 idx sub) v } }

/-- Add to a saturating counter of the ctx block. -/
def incCtx (s : State) (idx sub : Nat) (d : Int) : State :=
  { s with ctx := { s.ctx with regs := Regs.inc Dict.ctxRows s.ctx.regs (Dict.key 0 idx sub) d } }

/-- A register of the trj block: trajectory, correction, registration and parameter sets. -/
def rTrj (s : State) (idx sub : Nat) : Int := Regs.get Dict.trjRows s.trj.regs (Dict.key 0 idx sub)

/-- Write a register of the trj block. -/
def wTrj (s : State) (idx sub : Nat) (v : Int) : State :=
  { s with trj := { s.trj with regs := Regs.set Dict.trjRows s.trj.regs (Dict.key 0 idx sub) v } }

/-- Add to a saturating counter of the trj block. -/
def incTrj (s : State) (idx sub : Nat) (d : Int) : State :=
  { s with trj := { s.trj with regs := Regs.inc Dict.trjRows s.trj.regs (Dict.key 0 idx sub) d } }

/-- A register of the lnd block: Lending and the plume interlock. -/
def rLnd (s : State) (idx sub : Nat) : Int := Regs.get Dict.lndRows s.lnd.regs (Dict.key 0 idx sub)

/-- Write a register of the lnd block. -/
def wLnd (s : State) (idx sub : Nat) (v : Int) : State :=
  { s with lnd := { s.lnd with regs := Regs.set Dict.lndRows s.lnd.regs (Dict.key 0 idx sub) v } }

/-- Add to a saturating counter of the lnd block. -/
def incLnd (s : State) (idx sub : Nat) (d : Int) : State :=
  { s with lnd := { s.lnd with regs := Regs.inc Dict.lndRows s.lnd.regs (Dict.key 0 idx sub) d } }

/-- A register of the cat block: Catalogue and channel sequencing. -/
def rCat (s : State) (idx sub : Nat) : Int := Regs.get Dict.catRows s.cat.regs (Dict.key 0 idx sub)

/-- Write a register of the cat block. -/
def wCat (s : State) (idx sub : Nat) (v : Int) : State :=
  { s with cat := { s.cat with regs := Regs.set Dict.catRows s.cat.regs (Dict.key 0 idx sub) v } }

/-- Add to a saturating counter of the cat block. -/
def incCat (s : State) (idx sub : Nat) (d : Int) : State :=
  { s with cat := { s.cat with regs := Regs.inc Dict.catRows s.cat.regs (Dict.key 0 idx sub) d } }

/-- A register of the pwr block: power and clocks. -/
def rPwr (s : State) (idx sub : Nat) : Int := Regs.get Dict.pwrRows s.pwr.regs (Dict.key 0 idx sub)

/-- Write a register of the pwr block. -/
def wPwr (s : State) (idx sub : Nat) (v : Int) : State :=
  { s with pwr := { s.pwr with regs := Regs.set Dict.pwrRows s.pwr.regs (Dict.key 0 idx sub) v } }

/-- Add to a saturating counter of the pwr block. -/
def incPwr (s : State) (idx sub : Nat) (d : Int) : State :=
  { s with pwr := { s.pwr with regs := Regs.inc Dict.pwrRows s.pwr.regs (Dict.key 0 idx sub) d } }

/-- A register of the mpl block: melt-pool loops. -/
def rMpl (s : State) (idx sub : Nat) : Int := Regs.get Dict.mplRows s.mpl.regs (Dict.key 0 idx sub)

/-- Write a register of the mpl block. -/
def wMpl (s : State) (idx sub : Nat) (v : Int) : State :=
  { s with mpl := { s.mpl with regs := Regs.set Dict.mplRows s.mpl.regs (Dict.key 0 idx sub) v } }

/-- Add to a saturating counter of the mpl block. -/
def incMpl (s : State) (idx sub : Nat) (d : Int) : State :=
  { s with mpl := { s.mpl with regs := Regs.inc Dict.mplRows s.mpl.regs (Dict.key 0 idx sub) d } }

/-- A register of the grd block: thermal grid. -/
def rGrd (s : State) (idx sub : Nat) : Int := Regs.get Dict.grdRows s.grd.regs (Dict.key 0 idx sub)

/-- Write a register of the grd block. -/
def wGrd (s : State) (idx sub : Nat) (v : Int) : State :=
  { s with grd := { s.grd with regs := Regs.set Dict.grdRows s.grd.regs (Dict.key 0 idx sub) v } }

/-- Add to a saturating counter of the grd block. -/
def incGrd (s : State) (idx sub : Nat) (d : Int) : State :=
  { s with grd := { s.grd with regs := Regs.inc Dict.grdRows s.grd.regs (Dict.key 0 idx sub) d } }

/-- A register of the lnk block: lanes. -/
def rLnk (s : State) (idx sub : Nat) : Int := Regs.get Dict.lnkRows s.lnk.regs (Dict.key 0 idx sub)

/-- Write a register of the lnk block. -/
def wLnk (s : State) (idx sub : Nat) (v : Int) : State :=
  { s with lnk := { s.lnk with regs := Regs.set Dict.lnkRows s.lnk.regs (Dict.key 0 idx sub) v } }

/-- Add to a saturating counter of the lnk block. -/
def incLnk (s : State) (idx sub : Nat) (d : Int) : State :=
  { s with lnk := { s.lnk with regs := Regs.inc Dict.lnkRows s.lnk.regs (Dict.key 0 idx sub) d } }

/-- A register of the att block: head and source protocols, XY2-100, analog. -/
def rAtt (s : State) (idx sub : Nat) : Int := Regs.get Dict.attRows s.att.regs (Dict.key 0 idx sub)

/-- Write a register of the att block. -/
def wAtt (s : State) (idx sub : Nat) (v : Int) : State :=
  { s with att := { s.att with regs := Regs.set Dict.attRows s.att.regs (Dict.key 0 idx sub) v } }

/-- Add to a saturating counter of the att block. -/
def incAtt (s : State) (idx sub : Nat) (d : Int) : State :=
  { s with att := { s.att with regs := Regs.inc Dict.attRows s.att.regs (Dict.key 0 idx sub) d } }

/-- A register of the img block: cameras, imaging and feature units. -/
def rImg (s : State) (idx sub : Nat) : Int := Regs.get Dict.imgRows s.img.regs (Dict.key 0 idx sub)

/-- Write a register of the img block. -/
def wImg (s : State) (idx sub : Nat) (v : Int) : State :=
  { s with img := { s.img with regs := Regs.set Dict.imgRows s.img.regs (Dict.key 0 idx sub) v } }

/-- Add to a saturating counter of the img block. -/
def incImg (s : State) (idx sub : Nat) (d : Int) : State :=
  { s with img := { s.img with regs := Regs.inc Dict.imgRows s.img.regs (Dict.key 0 idx sub) d } }

/-- A register of the ilm block: lamps. -/
def rIlm (s : State) (idx sub : Nat) : Int := Regs.get Dict.ilmRows s.ilm.regs (Dict.key 0 idx sub)

/-- Write a register of the ilm block. -/
def wIlm (s : State) (idx sub : Nat) (v : Int) : State :=
  { s with ilm := { s.ilm with regs := Regs.set Dict.ilmRows s.ilm.regs (Dict.key 0 idx sub) v } }

/-- Add to a saturating counter of the ilm block. -/
def incIlm (s : State) (idx sub : Nat) (d : Int) : State :=
  { s with ilm := { s.ilm with regs := Regs.inc Dict.ilmRows s.ilm.regs (Dict.key 0 idx sub) d } }

/-- A register of the fol block: Folio. -/
def rFol (s : State) (idx sub : Nat) : Int := Regs.get Dict.folRows s.fol.regs (Dict.key 0 idx sub)

/-- Write a register of the fol block. -/
def wFol (s : State) (idx sub : Nat) (v : Int) : State :=
  { s with fol := { s.fol with regs := Regs.set Dict.folRows s.fol.regs (Dict.key 0 idx sub) v } }

/-- Add to a saturating counter of the fol block. -/
def incFol (s : State) (idx sub : Nat) (d : Int) : State :=
  { s with fol := { s.fol with regs := Regs.inc Dict.folRows s.fol.regs (Dict.key 0 idx sub) d } }

/-- A register of the stk block: Stacks. -/
def rStk (s : State) (idx sub : Nat) : Int := Regs.get Dict.stkRows s.stk.regs (Dict.key 0 idx sub)

/-- Staging of a context starts again (R356): with a flush, and with a reset of its queue (R105). -/
def restage (s : State) (n : Nat) : State :=
  { s with stk := { s.stk with
    staged := Tab.set (fun _ => []) s.stk.staged n [], progress := Tab.set (fun _ => none) s.stk.progress n none,
    stopped := Tab.set (fun _ => none) s.stk.stopped n none } }

/-- Write a register of the stk block. -/
def wStk (s : State) (idx sub : Nat) (v : Int) : State :=
  { s with stk := { s.stk with regs := Regs.set Dict.stkRows s.stk.regs (Dict.key 0 idx sub) v } }

/-- Add to a saturating counter of the stk block. -/
def incStk (s : State) (idx sub : Nat) (d : Int) : State :=
  { s with stk := { s.stk with regs := Regs.inc Dict.stkRows s.stk.regs (Dict.key 0 idx sub) d } }

/-- A register of the ax block: axes, gearing, encoders and compare. -/
def rAx (s : State) (idx sub : Nat) : Int := Regs.get Dict.axRows s.ax.regs (Dict.key 0 idx sub)

/-- Write a register of the ax block. -/
def wAx (s : State) (idx sub : Nat) (v : Int) : State :=
  { s with ax := { s.ax with regs := Regs.set Dict.axRows s.ax.regs (Dict.key 0 idx sub) v } }

/-- Add to a saturating counter of the ax block. -/
def incAx (s : State) (idx sub : Nat) (d : Int) : State :=
  { s with ax := { s.ax with regs := Regs.inc Dict.axRows s.ax.regs (Dict.key 0 idx sub) d } }

/-- A register of the net block: network and time. -/
def rNet (s : State) (idx sub : Nat) : Int := Regs.get Dict.netRows s.net.regs (Dict.key 0 idx sub)

/-- Write a register of the net block. -/
def wNet (s : State) (idx sub : Nat) (v : Int) : State :=
  { s with net := { s.net with regs := Regs.set Dict.netRows s.net.regs (Dict.key 0 idx sub) v } }

/-- Add to a saturating counter of the net block. -/
def incNet (s : State) (idx sub : Nat) (d : Int) : State :=
  { s with net := { s.net with regs := Regs.inc Dict.netRows s.net.regs (Dict.key 0 idx sub) d } }

/-- A register of the flt block: faults. -/
def rFlt (s : State) (idx sub : Nat) : Int := Regs.get Dict.fltRows s.flt.regs (Dict.key 0 idx sub)

/-- Write a register of the flt block. -/
def wFlt (s : State) (idx sub : Nat) (v : Int) : State :=
  { s with flt := { s.flt with regs := Regs.set Dict.fltRows s.flt.regs (Dict.key 0 idx sub) v } }

/-- Add to a saturating counter of the flt block. -/
def incFlt (s : State) (idx sub : Nat) (d : Int) : State :=
  { s with flt := { s.flt with regs := Regs.inc Dict.fltRows s.flt.regs (Dict.key 0 idx sub) d } }

/-- A register of the ldg block: Ledger. -/
def rLdg (s : State) (idx sub : Nat) : Int := Regs.get Dict.ldgRows s.ldg.regs (Dict.key 0 idx sub)

/-- Write a register of the ldg block. -/
def wLdg (s : State) (idx sub : Nat) (v : Int) : State :=
  { s with ldg := { s.ldg with regs := Regs.set Dict.ldgRows s.ldg.regs (Dict.key 0 idx sub) v } }

/-- Add to a saturating counter of the ldg block. -/
def incLdg (s : State) (idx sub : Nat) (d : Int) : State :=
  { s with ldg := { s.ldg with regs := Regs.inc Dict.ldgRows s.ldg.regs (Dict.key 0 idx sub) d } }

/-- A register of the tmp block: temperature and calibration. -/
def rTmp (s : State) (idx sub : Nat) : Int := Regs.get Dict.tmpRows s.tmp.regs (Dict.key 0 idx sub)

/-- Write a register of the tmp block. -/
def wTmp (s : State) (idx sub : Nat) (v : Int) : State :=
  { s with tmp := { s.tmp with regs := Regs.set Dict.tmpRows s.tmp.regs (Dict.key 0 idx sub) v } }

/-- Add to a saturating counter of the tmp block. -/
def incTmp (s : State) (idx sub : Nat) (d : Int) : State :=
  { s with tmp := { s.tmp with regs := Regs.inc Dict.tmpRows s.tmp.regs (Dict.key 0 idx sub) d } }

/-- Raise a message (R424): it waits for the collection of the CORE cycle. -/
def raise (s : State) (src kind addr : Nat) : State := { s with raised := s.raised ++ [⟨src, kind, addr % 2 ^ 32⟩] }

/-- Raise a message when a condition holds. -/
def raiseIf (s : State) (b : Bool) (src kind addr : Nat) : State := if b then raise s src kind addr else s

/-- The next free value (log entry 7). -/
def freeVal (s : State) : Nat := Config.freeNat s.free

/-- Count a free value as drawn. -/
def draw (s : State) : State := { s with free := s.free + 1 }

/-- Raise a message whose address no rule gives (log entry 7). -/
def raiseOpen (s : State) (src kind : Nat) : State := draw (raise s src kind (freeVal s))

/-- Run an operation for each number of a list. -/
def forAll (f : Nat → State → State) (l : List Nat) (s : State) : State := l.foldl (fun s i => f i s) s

/-- The low 32 bits of BTICK, the address of most engine messages (R172). -/
def btickLow (s : State) : Nat := s.btick % 2 ^ 32

/-- A build runs and its layer's span is open, or its first START_EXPOSURE waits (R30). -/
def envOn (s : State) : Bool :=
  s.dev.mode.inBuild && (s.dev.spanOpen || (s.cat.waiting.map fun e => e.op == 1).getD false)

/-- A break of the envelope in the running layer (R27, R30): bit `i` of LIVE_BREAK; the first one keeps its BTICK. -/
def breakEnv (s : State) (i : Nat) : State :=
  if envOn s then
    let l := (rDev s D.iDEV_DET D.DEV_DET_LIVE_BREAK).toNat
    let s := if l = 0 then { s with dev := { s.dev with liveFirst := s.btick } } else s
    wDev s D.iDEV_DET D.DEV_DET_LIVE_BREAK ((Arith.setBit l i true : Nat) : Int)
  else s

/-- A configuration change reaches covered state outside an apply point (R30). -/
def offPoint (s : State) : State := breakEnv s 2

/-- Source `n` of the fault collector. -/
def srcOf (s : State) (n : Nat) : FltSrc := Tab.get (fun _ => FltSrc.init) s.flt.srcs n

/-- Change a source of the fault collector. -/
def modSrc (s : State) (n : Nat) (f : FltSrc → FltSrc) : State :=
  { s with flt := { s.flt with srcs := Tab.set (fun _ => FltSrc.init) s.flt.srcs n (f (srcOf s n)) } }

/-- A source holds fault status (R428). -/
def holdsStatus (s : State) (src : Nat) : Bool := (srcOf s src).active

end State

end Sys2Proof.Machine
end

