-- ==== Sys2Proof/Machine/Motion.lean ====
section
/-!
DEFINITION. The geometry of motion phases (06_trajectory_correction.md R146 to R149, R154): lengths, profiles and positions in pu and ticks.
What the rules leave to the model: log entry 23.
-/
namespace Sys2Proof.Machine.Geo

/-- A speed in µm/s as pu per tick: 256 pu per µm, 500 ns per tick. -/
def speedPu (v : Nat) : Rat := (v : Rat) * 128 / 1000000

/-- An acceleration in m/s² as pu per tick². -/
def accelPu (a : Nat) : Rat := (a : Rat) * 64 / 1000000

/-- A plate point of whole pu. -/
def ptOf (x y z : Int) : Pt := ⟨256 * x, 256 * y, 256 * z⟩

/-- The length in pu of the straight line between two points in the plate plane, to 1/256 pu (R147). -/
def dist (p q : Pt) : Rat :=
  let n := ((q.x - p.x) * (q.x - p.x) + (q.y - p.y) * (q.y - p.y)).toNat
  mkRat ((Arith.isqrt (4 * n) + 1) / 2 : Nat) 256

/-- The point at distance `d` along the line from `p` to `q` of length `len` (R147: rounded to 1/256 pu). -/
def along (p q : Pt) (len d : Rat) : Pt :=
  if len = 0 then p
  else
    let f := d / len
    ⟨p.x + Arith.ratRound (((q.x - p.x : Int) : Rat) * f), p.y + Arith.ratRound (((q.y - p.y : Int) : Rat) * f),
      p.z + Arith.ratRound (((q.z - p.z : Int) : Rat) * f)⟩

/-- The point at distance `d` from `p` in the direction from `a` to `b`, with `p`'s focus offset (R149). -/
def offset (p a b : Pt) (d : Rat) : Pt :=
  let q := along ⟨0, 0, 0⟩ ⟨b.x - a.x, b.y - a.y, 0⟩ (dist a b) d
  ⟨p.x + q.x, p.y + q.y, p.z⟩

/-- A number to 64 binary places. -/
def fix64 (q : Rat) : Rat := mkRat (Arith.ratRound (q * ((2 ^ 64 : Nat) : Rat))) (2 ^ 64)

/-- The Taylor sum of e^z to `n` terms. -/
def expGo : Nat → Nat → Rat → Rat → Rat → Rat
  | 0, _, _, _, acc => acc
  | n + 1, i, z, term, acc => let t := fix64 (term * z / ((i + 1 : Nat) : Rat)); expGo n (i + 1) z t (acc + t)

/-- `n` squarings. -/
def sqGo : Nat → Rat → Rat
  | 0, q => q
  | n + 1, q => sqGo n (fix64 (q * q))

/-- e^z to 64 binary places before eight squarings. -/
def exp (z : Rat) : Rat := sqGo 8 (expGo 12 0 (fix64 (z / 256)) 1 1)

/-- The odd powers of the series of artanh. -/
def atanhGo : Nat → Nat → Rat → Rat → Rat → Rat
  | 0, _, _, _, acc => acc
  | n + 1, i, y2, p, acc => atanhGo n (i + 2) y2 (fix64 (p * y2)) (acc + p / (i : Rat))

/-- The natural logarithm of a positive number. -/
def ln (r : Rat) : Rat :=
  if r ≤ 0 then 0
  else
    let e := Arith.ratLog2 r.num.toNat r.den
    let m := Arith.ratScale r (-e)
    let y := fix64 ((m - 1) / (m + 1))
    (e : Rat) * mkRat 12786308645202655660 (2 ^ 64) + 2 * fix64 (atanhGo 32 1 (fix64 (y * y)) y 0)

/-- A positive root to 24 binary places. -/
def root (q : Rat) : Rat := Arith.ratSqrt (2 ^ 24) q

/-- The length in ticks of a phase over `len` pu. -/
def profTicks (len : Rat) : Profile → Rat
  | .still => 0
  | .trap v a =>
    if len = 0 ∨ v = 0 ∨ a = 0 then 0 else if v * v / a ≤ len then len / v + v / a else 2 * root (len / a)
  | .accel a => if a = 0 then 0 else root (2 * len / a)
  | .const v => if v = 0 then 0 else len / v
  | .ramp v0 v1 =>
    if v0 = 0 then 0 else if v0 = v1 then len / v0 else fix64 (len * ln (v1 / v0) / (v1 - v0))
  | .decel v a => if a = 0 then 0 else v / a

/-- The distance in pu travelled `t` ticks into a phase over `len` pu and `dur` ticks. -/
def profAt (len dur t : Rat) : Profile → Rat
  | .still => 0
  | .trap v a =>
    if v = 0 ∨ a = 0 then len
    else if v * v / a ≤ len then
      let ta := v / a
      if t ≤ ta then a * t * t / 2 else if t ≤ dur - ta then v * t - v * v / (2 * a) else len - a * (dur - t) * (dur - t) / 2
    else if t ≤ dur / 2 then a * t * t / 2 else len - a * (dur - t) * (dur - t) / 2
  | .accel a => a * t * t / 2
  | .const v => v * t
  | .ramp v0 v1 =>
    if v0 = v1 ∨ len = 0 then v0 * t else let x := (v1 - v0) / len; v0 * (exp (x * t) - 1) / x
  | .decel v a => v * t - a * t * t / 2

/-- The speed along the path `t` ticks into a phase, in pu per tick. -/
def profSpeed (len dur t : Rat) : Profile → Rat
  | .still => 0
  | .trap v a =>
    if v = 0 ∨ a = 0 then 0
    else if v * v / a ≤ len then
      let ta := v / a
      if t ≤ ta then a * t else if t ≤ dur - ta then v else a * (dur - t)
    else if t ≤ dur / 2 then a * t else a * (dur - t)
  | .accel a => a * t
  | .const v => v
  | .ramp v0 v1 => if v0 = v1 ∨ len = 0 then v0 else v0 * exp ((v1 - v0) / len * t)
  | .decel v a => v - a * t

/-- A number held within 0 to `hi`. -/
def hold (hi t : Rat) : Rat := if t < 0 then 0 else if hi < t then hi else t


/-- The instant a phase ends, in ticks. -/
def phaseEnd (p : Phase) : Rat := p.start + p.dur

/-- The distance along a phase at an instant. -/
def phaseDist (p : Phase) (t : Rat) : Rat :=
  let u := hold p.dur (t - p.start)
  if u = p.dur then p.len else hold p.len (profAt p.len p.dur u p.prof)

/-- The plate position of a phase at an instant. -/
def phasePos (p : Phase) (t : Rat) : Pt :=
  match p.prof with
  | .still => p.p1
  | _ => along p.p0 p.p1 p.len (phaseDist p t)

/-- The speed along the path of a phase at an instant; 0 once it has ended. -/
def phaseSpeed (p : Phase) (t : Rat) : Rat :=
  if p.dur ≤ t - p.start then 0 else profSpeed p.len p.dur (hold p.dur (t - p.start)) p.prof

/-- The phase of a timeline that holds an instant: the last one that has started. -/
def phaseAt (l : List Phase) (t : Rat) : Option Phase := (l.filter fun p => decide (p.start ≤ t)).getLast?

/-- The distance along a timeline between two instants, `t` not after `u`. -/
def pathDist (l : List Phase) (t u : Rat) : Rat := (l.map fun p => phaseDist p u - phaseDist p t).sum

/-- The first instant after `t` at which the path is at rest (R156): the end of a jump or a run-out, the join of a corner hold, the end of the path. -/
def restAfter (t : Rat) : List Phase → Rat
  | [] => t
  | [p] => max t (phaseEnd p)
  | p :: q :: l =>
    if t < phaseEnd p && (p.kind == .jump || p.kind == .runOut || (p.kind == .mark && q.kind == .corner)) then phaseEnd p else restAfter t (q :: l)

/-- The instant, from `t` on and by `u`, at which the path has gone a distance `d` from `t`, by halving `n` times. -/
def pathAt (l : List Phase) (t d : Rat) : Nat → Rat → Rat → Rat
  | 0, lo, _ => lo
  | n + 1, lo, hi => let m := (lo + hi) / 2; if pathDist l t m ≤ d then pathAt l t d n m hi else pathAt l t d n lo m

/-- The segment power of a phase at an instant (R155): linear in path length, rounded; 0 outside marks and corner holds. -/
def phasePower (p : Phase) (t : Rat) : Nat :=
  match p.kind with
  | .mark =>
    (Arith.ratRound (if p.len = 0 then p.pow0 else p.pow0 + (p.pow1 - p.pow0) * phaseDist p t / p.len)).toNat
  | .corner => (Arith.ratRound p.pow1).toNat
  | _ => 0

end Sys2Proof.Machine.Geo
end

