-- ==== Sys2Proof/Machine/Operands.lean ====
section
/-!
DEFINITION. What a command reads through: the registers and tables of other blocks that exposure uses (pipeline delay, loop latency, head kind,
parameter sets, grid and tile geometry), and the per-unit tables of contexts, engines and channels.
-/
namespace Sys2Proof.Machine

/-- A context as reset leaves it (R104, R122). -/
def Ctx.init : Ctx :=
  { mode := .disabled, items := [], tail := [], ahead := [], wmode := .normal, wlayer := none, wtile := none, wstripe := none,
    lastLayer := none, wIndex := 0, claims := [], declared := [], whole := [], flights := [], replays := [], parkedLayer := none,
    readLayer := none, doneLayer := none, rewindInvalid := false, dmaTail := 0, dmaDone := 0, dmaStopped := false, noticeTick := none,
    noticeOwed := false, copy := [0, 0, 0, 0, 0], episodes := [], headUntil := 0, fenced := false, fencedBy := 0 }

/-- An engine as reset leaves it (R79, R168). -/
def Engine.init : Engine :=
  { stripes := [], serial := 0, plan := none, timeline := [], slots := [], edges := [], cmarks := [], pos := ⟨0, 0, 0⟩, posSet := false,
    hu := ⟨0, 0, 0⟩, restAt := 0, due := [], motion := .rest, why := .none, stopRun := none, resume := none, gate := false,
    force := false, blockFrom := none, dtheta := 0, driftAbsent := 0, feRun := 0, feRunY := 0, feAbsent := 0, trail := [], limits := (0, 0, 0),
    stopDue := none, frozeAt := none, lateRuns := [],
    plumeTicks := 0, plumeHeld := false, plumeBy := 0, plumeSaid := false, paces := [], underrun := false, mismatch := false, past := [], driftValid := false, driftDone := none,
    lastOn := 0, waitUntil := 0 }

/-- The line side of a receiver that hunts for its first marker (R253). -/
def RxLine.init : RxLine := { phase := .hunt 390 false, run := 0, last := false, line := 0, pos := none, odd := false, win := [] }

/-- The block side of a receiver that has taken nothing. -/
def RxBlocks.init : RxBlocks :=
  { miss := 0, places := 0, scram := none, await := false, idle := 0, guard := 0, serial := none, tests := 0, errors := 0, verdict := none }

/-- A lane as BOOT leaves it (R267). -/
def Lane.init : Lane :=
  { mode := .disabled, rate := none, ceiling := none, lastCap := none, cap := none, target := 0, tryRate := 0, phase := .echo, switchAt := none,
    trainEnd := 0, held := none, fresh := none, identityBar := false, delayBar := false, plugged := false, since := 0, frozenAt := 0, wakeLeft := 0,
    wakeFrom := 0, seekAt := 0, idleFrom := 0, txFrom := 0, txOdd := false, scramFrom := none, badRun := 0, driftAt := none, line := RxLine.init,
    blocks := RxBlocks.init, driftWaits := false, badEpisode := 0, staleEpisode := false, maxRate := 3, trainTicks := 4000,
    testMax := 0 }

/-- Attachments as BOOT leaves them (R283). -/
def Attach.init : Attach :=
  { fb := [], st := [], ain := [], head := .none, src := .none, xy := .none, standing := [], headClear := 0, srcClear := 0, overrideAt := none, overrideHw := none, headCmd := false, srcCmd := false, hbNow := 0, hb := 0, hbSent := 0, hbRun := 0, emRun := 0,
    tile := none, tilesDone := [], tileEpisode := false, xyBad := 0, xyWrong := 0, pwmHigh := 0, ainEpisode := false }

/-- A melt-pool loop as BOOT leaves it (R216). -/
def MpLoop.init : MpLoop :=
  { mode := .off, next := none, reclose := false, resetI := false, area := [], implSaid := false, lostSaid := false, unavailable := none, opens := [] }

namespace State

/-- Lane `m`. -/
def laneOf (s : State) (m : Nat) : Lane := Tab.get (fun _ => Lane.init) s.lnk.tab m

/-- Change lane `m`. -/
def modLane (s : State) (m : Nat) (f : Lane → Lane) : State :=
  { s with lnk := { s.lnk with tab := Tab.set (fun _ => Lane.init) s.lnk.tab m (f (laneOf s m)) } }

/-- The attachments of channel `c`. -/
def attOf (s : State) (c : Nat) : Attach := Tab.get (fun _ => Attach.init) s.att.tab c

/-- Change the attachments of channel `c`. -/
def modAtt (s : State) (c : Nat) (f : Attach → Attach) : State :=
  { s with att := { s.att with tab := Tab.set (fun _ => Attach.init) s.att.tab c (f (attOf s c)) } }

/-- The loop of channel `c`. -/
def loopOf (s : State) (c : Nat) : MpLoop := Tab.get (fun _ => MpLoop.init) s.mpl.tab c

/-- Change the loop of channel `c`. -/
def modLoop (s : State) (c : Nat) (f : MpLoop → MpLoop) : State :=
  { s with mpl := { s.mpl with tab := Tab.set (fun _ => MpLoop.init) s.mpl.tab c (f (loopOf s c)) } }

/-- Context `n`. -/
def ctxOf (s : State) (n : Nat) : Ctx := Tab.get (fun _ => Ctx.init) s.ctx.tab n

/-- Set context `n`. -/
def setCtx (s : State) (n : Nat) (c : Ctx) : State :=
  { s with ctx := { s.ctx with tab := Tab.set (fun _ => Ctx.init) s.ctx.tab n c } }

/-- Change context `n`. -/
def modCtx (s : State) (n : Nat) (f : Ctx → Ctx) : State := setCtx s n (f (ctxOf s n))

/-- The engine of channel `c`. -/
def engOf (s : State) (c : Nat) : Engine := Tab.get (fun _ => Engine.init) s.trj.tab c

/-- Set the engine of channel `c`. -/
def setEng (s : State) (c : Nat) (e : Engine) : State :=
  { s with trj := { s.trj with tab := Tab.set (fun _ => Engine.init) s.trj.tab c e } }

/-- Change the engine of channel `c`. -/
def modEng (s : State) (c : Nat) (f : Engine → Engine) : State := setEng s c (f (engOf s c))

/-- The state of channel `c` (R143). -/
def chOf (s : State) (c : Nat) : ChMode := Tab.get (fun _ => ChMode.disabled) s.cat.chMode c

/-- Set the state of channel `c`. -/
def setCh (s : State) (c : Nat) (m : ChMode) : State :=
  { s with cat := { s.cat with chMode := Tab.set (fun _ => ChMode.disabled) s.cat.chMode c m } }

/-- The register value as a natural number. -/
def nat (v : Int) : Nat := v.toNat

/-- A context register as a natural number. -/
def ctxReg (s : State) (n sub : Nat) : Nat := nat (rCtx s (D.iCTX + n) sub)

/-- Whether channel `c`'s head is on an XY2-100 port (R161, R271). -/
def legacy (s : State) (c : Nat) : Bool := decide (c < 8) && decide (rAtt s (D.iXY + c) D.XY_SELECT = 1)

/-- The pipeline delay in use on channel `c` (R15, R271): 20 T on an XY2-100 port, else the head's, 1 T while none is held. -/
def delayOf (s : State) (c : Nat) : Nat :=
  if legacy s c then 20 else let d := nat (rAtt s (D.iHDP + c) D.HDP_D_H); if d = 0 then 1 else d

/-- Whether channel `c` has an analog source (R271). -/
def analog (s : State) (c : Nat) : Bool := decide (rAtt s (D.iSRC + c) D.SRC_ATTACH = 1)

/-- The lanes a channel uses (R271, R272): its head lane and its source lane. -/
def lanesOf (s : State) (c : Nat) : List Nat := (if legacy s c then [] else [c]) ++ if analog s c then [] else [24 + c]

/-- A lane is UP with the protocol of its role (R261). -/
def laneUp (s : State) (m : Nat) : Bool := (laneOf s m).mode == .up && decide (rLnk s (D.iLNK + m) D.LNK_PROTOCOL ≠ 0)

/-- Every lane of the channel is UP with its protocol. -/
def lanesUp (s : State) (c : Nat) : Bool := (lanesOf s c).all (laneUp s)

/-- The lanes of a channel allow gate-on edges (R265, R272): UP with their protocols for 128 T. -/
def ready (s : State) (c : Nat) : Bool := (lanesOf s c).all fun m => laneUp s m && decide ((laneOf s m).since + 128 ≤ s.tick)

/-- The channel may take a stripe: its lanes are UP with their protocols (R263), none of them bars it (R264, R275), and the D_H of an Akzi-Link head is known
(R271). -/
def mayTake (s : State) (c : Nat) : Bool :=
  lanesUp s c && (legacy s c || (laneOf s c).held.isSome) && (lanesOf s c).all fun m => !(laneOf s m).identityBar && !(laneOf s m).delayBar

/-- Whether channel `c`'s head carries Z: an HP2 head (R166). -/
def hasZ (s : State) (c : Nat) : Bool := !legacy s c && decide (rLnk s (D.iLNK + c) D.LNK_PROTOCOL = 2)

/-- The coefficient set in force on channel `c` (R205). -/
def coefOf (s : State) (c : Nat) : Nat := nat (rMpl s (D.iMPL + c) D.MPL_COEF)

/-- The loop latency of channel `c` (R205): LATENCY of the coefficient set in force. -/
def latencyOf (s : State) (c : Nat) : Nat := nat (rMpl s (D.iMPLC + coefOf s c) D.MPLC_LATENCY)

/-- Parameter set `n` as applied now (R93). -/
def parOf (s : State) (n : Nat) : Par :=
  let g := fun sub => rTrj s (D.iPS + n) sub
  { num := n, markSpeed := nat (g D.PS_MARK_SPEED), jumpSpeed := nat (g D.PS_JUMP_SPEED), markAccel := nat (g D.PS_MARK_ACCEL),
    jumpAccel := nat (g D.PS_JUMP_ACCEL), setpoint := nat (g D.PS_LOOP_SETPOINT), pMin := nat (g D.PS_P_MIN), pMax := nat (g D.PS_P_MAX),
    onDelay := g D.PS_ON_DELAY, offDelay := g D.PS_OFF_DELAY, markDelay := nat (g D.PS_MARK_DELAY), jumpDelay := nat (g D.PS_JUMP_DELAY),
    cornerDelay := nat (g D.PS_CORNER_DELAY), curve := nat (g D.PS_FF_CURVE), coef := nat (g D.PS_MP_COEF), model := nat (g D.PS_MODEL) }

/-- The cell pitch in pu (R12): 256 pu per µm. -/
def pitchPu (s : State) : Nat := 256 * nat (rGrd s D.iGRD_CFG D.GRD_CFG_PITCH)

/-- Tiles in X and in Y (R85, R198). -/
def tilesX (s : State) : Nat := nat (rGrd s D.iGRD_CFG D.GRD_CFG_SIZE_X) / 64

/-- Tiles in Y. -/
def tilesY (s : State) : Nat := nat (rGrd s D.iGRD_CFG D.GRD_CFG_SIZE_Y) / 64

/-- The rectangle of tile (i, j) in pu (R12, R84): lower X, lower Y, upper X, upper Y; closed below, open above. -/
def tileRect (s : State) (i j : Nat) : Int × Int × Int × Int :=
  let e : Int := ((64 * pitchPu s : Nat) : Int)
  let x := rGrd s D.iGRD_CFG D.GRD_CFG_ORIGIN_X + e * i
  let y := rGrd s D.iGRD_CFG D.GRD_CFG_ORIGIN_Y + e * j
  (x, y, x + e, y + e)

/-- The channels named by a member word (R99, R100), from M0 on. -/
def membersOf (w : Nat) : List Nat :=
  ((List.range 4).map fun i => Arith.bits w (8 * i + 7) (8 * i)).filter fun c => decide (c < 24)

/-- Whether a member word is a valid set (R100): two to four distinct channels packed from M0. -/
def membersOk (w : Nat) : Bool :=
  let b := (List.range 4).map fun i => Arith.bits w (8 * i + 7) (8 * i)
  let n := (b.takeWhile fun c => decide (c < 24)).length
  decide (2 ≤ n) && (b.drop n).all (fun c => c == 255) && decide ((b.take n).Nodup)

/-- The member word of a list of channels, packed from M0. -/
def memberWord (l : List Nat) : Nat :=
  ((l.take 4 ++ List.replicate (4 - l.length) 255).zipIdx.map fun (c : Nat × Nat) => c.1 * 2 ^ (8 * c.2)).sum

/-- The members of context `n` (R98, R99). -/
def members (s : State) (n : Nat) : List Nat := if n < 24 then [n] else membersOf (ctxReg s n D.CTX_MEMBERS)

/-- The live members of context `n` (R99). -/
def liveMembers (s : State) (n : Nat) : List Nat :=
  if n < 24 then [n] else membersOf (ctxReg s n D.CTX_LIVE_MEMBERS)

/-- The shared contexts a channel is a member of, ascending. -/
def sharedOf (s : State) (c : Nat) : List Nat := (Arith.rangeFrom 24 72).filter fun n => (members s n).contains c

/-- The present layer number N (R130). -/
def layerNo (s : State) : Nat := nat (rCat s D.iCAT_STATUS D.CAT_STATUS_LAYER)

/-- Whether a layer is open (R130). -/
def layerOpen (s : State) : Bool := decide (rCat s D.iCAT_STATUS D.CAT_STATUS_LAYER_OPEN = 1)

/-- The rank of a channel in the present layer (R177). -/
def rankOf (s : State) (c : Nat) : Nat := (c + 24 - layerNo s % 24) % 24

/-- The channels in ascending rank (R177). -/
def byRank (s : State) : List Nat := (List.range 24).map fun r => (r + layerNo s) % 24

/-- The started channels (R131). -/
def startedSet (s : State) : List Nat := (List.range 24).filter fun c => chOf s c == .started

/-- Offset of the tick count from BTICK. -/
def btickOf (s : State) (k : Nat) : Nat := k + s.btick - s.tick

end State

end Sys2Proof.Machine
end

