-- ==== Sys2Proof/Machine/Context.lean ====
section
/-!
DEFINITION. Stream contexts (04_stream_contexts.md): the notice ring, pointers, context states, stripes in flight and their acknowledgement.
What the rules leave to the model: log entry 19.
-/
namespace Sys2Proof.Machine

/-- What a BAR0 register that is no dictionary entry reads as before it is written (R47, R117). -/
def bar0Dflt (off : Nat) : Int := if off = 0x88 then 0x400 else 0

namespace State

/-- A BAR0 register (R47, R117). -/
def bar0 (s : State) (off : Nat) : Nat := (Tab.get bar0Dflt s.txn.bar0 off).toNat

/-- Write a BAR0 register. -/
def setBar0 (s : State) (off v : Nat) : State :=
  { s with txn := { s.txn with bar0 := Tab.set bar0Dflt s.txn.bar0 off ((v % 2 ^ 32 : Nat) : Int) } }

/-- Raise a message-signalled interrupt vector. -/
def irq (s : State) (v : Nat) : State :=
  { s with dev := { s.dev with msix := Tab.set (fun _ => 0) s.dev.msix v (Tab.get (fun _ => 0) s.dev.msix v + 1) } }

/-- The notice ring is full (R118). -/
def ringFull (s : State) : Bool := decide ((bar0 s 0x90 + 1) % bar0 s 0x88 = bar0 s 0x94 % bar0 s 0x88)

/-- Put one entry into the notice ring (R117, R118): PHASE at bit 0 of byte 3; the index wraps and the phase inverts. -/
def ringPut (s : State) (entry : List Byte) : State :=
  let wr := bar0 s 0x90
  let e := entry.take 3 ++ [BitVec.ofNat 8 (b2n s.ctx.phase)] ++ entry.drop 4
  let s := { s with ctx := { s.ctx with ring := Tab.set (fun _ => []) s.ctx.ring wr e } }
  let wr' := (wr + 1) % bar0 s 0x88
  let s := if wr' = 0 then { s with ctx := { s.ctx with phase := !s.ctx.phase } } else s
  let s := setBar0 s 0x90 wr'
  if Arith.bit (bar0 s 0x8C) 1 then irq s 1 else s

/-- Notices that wait on chip go out while the ring has room (R118). -/
def ringDrain (s : State) : List (List Byte) → State
  | [] => { s with ctx := { s.ctx with waiting := [] } }
  | e :: rest => if ringFull s then { s with ctx := { s.ctx with waiting := e :: rest } } else ringDrain (ringPut s e) rest

/-- Post a notice that is never coalesced (R118): into the ring, else one of 64 on chip, else lost and counted. -/
def post (s : State) (entry : List Byte) : State :=
  if Arith.bit (bar0 s 0x8C) 0 then
    let s := ringDrain s s.ctx.waiting
    if ringFull s then
      if s.ctx.waiting.length < 64 then { s with ctx := { s.ctx with waiting := s.ctx.waiting ++ [entry] } }
      else setBar0 s 0x98 (Arith.satAdd 32 (bar0 s 0x98 : Nat) 1).toNat
    else ringPut s entry
  else s

/-- Code of a context state (R99). -/
def ctxCode : CtxMode → Nat
  | .disabled => 0 | .enabled => 1 | .disabling => 2 | .parked => 3

/-- A STATE notice (R117). -/
def stateNotice (s : State) (n new old : Nat) : State :=
  post s ([3, BitVec.ofNat 8 n, BitVec.ofNat 8 new, 0] ++ Arith.natLe 2 (ctxReg s n D.CTX_FLAGS) ++ [BitVec.ofNat 8 old, 0] ++
    Arith.natLe 8 s.btick)

/-- Enter a context state; every transition posts a STATE notice (R122). -/
def setCtxMode (s : State) (n : Nat) (m : CtxMode) : State :=
  let old := (ctxOf s n).mode
  if old = m then s else stateNotice (modCtx s n fun c => { c with mode := m }) n (ctxCode m) (ctxCode old)

/-- A MARKER notice (R90, R117). -/
def markerNotice (s : State) (n ch v : Nat) : State :=
  post s ([2, BitVec.ofNat 8 n, BitVec.ofNat 8 ch, 0] ++ Arith.natLe 4 v ++ Arith.natLe 8 s.btick)

/-- A DMA_DONE notice (R112, R117). -/
def dmaNotice (s : State) (n d : Nat) : State := post s ([4, BitVec.ofNat 8 n, 0, 0] ++ Arith.natLe 4 d ++ Arith.natLe 8 0)

/-- The ring of a context in bytes (R99, R101). -/
def ringBytes (s : State) (n : Nat) : Nat := ctxReg s n D.CTX_RING_SIZE * 2 ^ 20

/-- The lowest read cursor of a context, or RP when no stripe is in flight (R104). -/
def cMin (s : State) (n : Nat) : Nat := (((ctxOf s n).flights.filter fun f => !f.acked).map fun f => f.cursor).foldl min (ctxReg s n D.CTX_RP)

/-- FREE (R104), in bytes. -/
def freeBytes (s : State) (n : Nat) : Nat :=
  let b := if Arith.bit (ctxReg s n D.CTX_CTRL) 1 then cMin s n else ctxReg s n D.CTX_RM
  ringBytes s n - (ctxReg s n D.CTX_WP - b) - (ctxOf s n).tail.length

/-- An ITEMS notice with the present totals (R117, R118). -/
def itemsNotice (s : State) (n : Nat) : State :=
  let e := [1, BitVec.ofNat 8 n, 0, 0] ++ Arith.natLe 4 (ctxReg s n D.CTX_ITEMS_IN) ++ Arith.natLe 4 (ctxReg s n D.CTX_ITEMS_OUT) ++
    Arith.natLe 4 (freeBytes s n)
  if Arith.bit (bar0 s 0x8C) 0 && ringFull s then modCtx s n fun c => { c with noticeOwed := true }
  else modCtx (post s e) n fun c => { c with noticeTick := some s.tick, noticeOwed := false }

/-- The coalescing interval of a context is over (R118). -/
def noticeRipe (s : State) (n : Nat) : Bool :=
  match (ctxOf s n).noticeTick with
  | none => true
  | some t => decide (t + 2 * ctxReg s n D.CTX_NOTICE_COALESCE ≤ s.tick)

/-- The item totals of a context changed (R118). -/
def itemsChanged (s : State) (n : Nat) : State :=
  if noticeRipe s n then itemsNotice s n else modCtx s n fun c => { c with noticeOwed := true }

/-- The place of a pointer in the second copy (R105). -/
def copyIx (sub : Nat) : Nat :=
  if sub = D.CTX_PROD_POS then 0 else if sub = D.CTX_WP then 1 else if sub = D.CTX_VP then 2 else if sub = D.CTX_RP then 3 else 4

/-- Write a pointer of a context, in both copies (R105). -/
def setPtr (s : State) (n sub v : Nat) : State :=
  modCtx (wCtx s (D.iCTX + n) sub (v : Int)) n fun c => { c with copy := c.copy.set (copyIx sub) (v : Int) }

/-- The pointers of a context in the order of R123's address field. -/
def ptrs : List Nat := [D.CTX_PROD_POS, D.CTX_WP, D.CTX_VP, D.CTX_RP, D.CTX_RM]

/-- The invariant of R104. -/
def ptrInv (s : State) (n : Nat) : Bool :=
  let r := ctxReg s n
  decide (r D.CTX_RM ≤ cMin s n) && decide (cMin s n ≤ r D.CTX_RP) && decide (r D.CTX_RP ≤ r D.CTX_VP) &&
    decide (r D.CTX_VP ≤ r D.CTX_WP) && decide (r D.CTX_WP ≤ r D.CTX_RM + ringBytes s n)

/-- The pointer code and the channel of R123 for the first pointer whose copies differ, a cursor being 5, or for a broken invariant, 6 (R105). -/
def ptrFault (s : State) (n : Nat) : Option (Nat × Nat) :=
  match (ptrs.zipIdx.filter fun p => decide (rCtx s (D.iCTX + n) p.1 ≠ (ctxOf s n).copy.getD p.2 0)).head? with
  | some p => some (p.2, 0x1F)
  | none =>
    match (ctxOf s n).flights.find? fun f => f.cursor != f.cursor2 with
    | some f => some (5, f.ch)
    | none => if ptrInv s n then none else some (6, 0x1F)

/-- The length of an item in units (R74). -/
def itemUnits : Item → Nat
  | .markExt .. => 2
  | .layerBegin .. => 2
  | _ => 1

/-- Change the record of the stripe in flight at a position. -/
def modFlight (s : State) (n start : Nat) (f : Flight → Flight) : State :=
  modCtx s n fun c => { c with flights := Arith.updWhere (fun x => x.start == start) f c.flights }

/-- Set a bit of a sticky flag register of a context (R109). -/
def setFlag (s : State) (n i : Nat) : State :=
  wCtx s (D.iCTX + n) D.CTX_FLAGS ((Arith.setBit (ctxReg s n D.CTX_FLAGS) i true : Nat) : Int)

/-- The live conditions of a context (R109). -/
def liveWord (s : State) (n : Nat) : Nat :=
  let c := ctxOf s n
  b2n c.rewindInvalid + 2 * b2n (c.wmode == .swallow) + 4 * b2n (c.wmode == .resync || c.wmode == .cover) +
    8 * b2n ((c.whole ++ c.declared).any fun l => decide (c.readLayer ≠ some l)) + 16 * b2n c.dmaStopped

/-- Drop the items below the rewind mark; those of a stripe in flight stay while the head buffer or a parked stripe may need them (R104, R197). -/
def trimItems (s : State) (n : Nat) : State :=
  let rm := ctxReg s n D.CTX_RM
  modCtx s n fun c =>
    let from0 := ((c.flights.filter fun f => !f.acked).map fun f => f.start).foldl min rm
    { c with items := c.items.filter fun q => decide (from0 ≤ q.pos) }

/-- Where the rewind mark stands (R106, R108): after every leading acknowledged stripe, at the oldest stripe still in flight, or at RP. It passes the items before that
stripe too, of which R106 also says that they advance RM with it (DESIGN CHOICE: log entry 19). -/
def rmTarget (s : State) (n : Nat) : Nat :=
  let c := ctxOf s n
  if c.rewindInvalid then cMin s n
  else ((c.flights.filter fun f => !f.acked).map fun f => f.start).foldl min (ctxReg s n D.CTX_RP)

/-- Advance the rewind mark (R106): acknowledged stripes behind it leave the record. -/
def advanceRm (s : State) (n : Nat) : State :=
  let t := max (ctxReg s n D.CTX_RM) (rmTarget s n)
  let s := setPtr s n D.CTX_RM t
  let s := modCtx s n fun c => { c with flights := c.flights.filter fun f => !(f.acked && decide (f.start < t)) }
  trimItems s n

/-- While the mark is dropped, RM equals C_MIN (R108). -/
def followMark (s : State) (n : Nat) : State := if (ctxOf s n).rewindInvalid then advanceRm s n else s

/-- Whether a stripe of the context is in flight: begun and not yet acknowledged, be it parked or waiting for replay (R106, R122). -/
def inFlight (s : State) (n : Nat) : Bool := (ctxOf s n).flights.any fun f => !f.acked

/-- A DISABLING context without a stripe in flight becomes DISABLED (R122). -/
def settleDisabling (s : State) (n : Nat) : State :=
  if (ctxOf s n).mode = .disabling && !inFlight s n then setCtxMode s n .disabled else s

/-- Acknowledge a stripe of a context (R106). -/
def ackStripe (s : State) (n start : Nat) : State :=
  settleDisabling (advanceRm (modFlight s n start fun f => { f with acked := true }) n) n

/-- `k` items of a context are consumed together (R99). -/
def consumed (s : State) (n k : Nat) : State :=
  itemsChanged (wCtx s (D.iCTX + n) D.CTX_ITEMS_OUT (rCtx s (D.iCTX + n) D.CTX_ITEMS_OUT + (k : Int))) n

/-- Count items consumed from a context (R99): one ITEMS notice for them all, or with NOTICE_COALESCE = 0 one after each (R118). -/
def consume (s : State) (n k : Nat) : State :=
  if k = 0 then s
  else if ctxReg s n D.CTX_NOTICE_COALESCE = 0 then (List.range k).foldl (fun s _ => consumed s n 1) s
  else consumed s n k

/-- The next unread items of a context: stored, visible, at or after RP (R104). -/
def unread (s : State) (n : Nat) : List QItem :=
  let rp := ctxReg s n D.CTX_RP
  let vp := ctxReg s n D.CTX_VP
  (ctxOf s n).items.filter fun q => decide (rp ≤ q.pos) && decide (q.pos < vp)

/-- The layer of the next unread LAYER_BEGIN, when that is the next item that is not a PAD. -/
def nextLayer (s : State) (n : Nat) : Option Nat :=
  match (unread s n).dropWhile fun q => q.item == .pad with
  | ⟨_, _, .layerBegin l _ _ _ _ _ _ _ _ _⟩ :: _ => some l
  | _ => none

/-- The message of a kind is raised once per episode (R123). -/
def raiseOnce (s : State) (n kind addr : Nat) : State :=
  if (ctxOf s n).episodes.contains kind then s
  else raise (modCtx s n fun c => { c with episodes := c.episodes ++ [kind] }) n kind addr

/-- The condition of a kind clears (R123). -/
def episodeEnd (s : State) (n kind : Nat) : State := modCtx s n fun c => { c with episodes := c.episodes.filter (· != kind) }

end State

namespace Flt

/-- ERR_N is asserted. -/
def pinNow (s : State) : Bool :=
  s.dev.mode == .boot || s.dev.mode == .safe || s.dev.mode == .thermalOff || decide (State.rFlt s D.iFLT_PIN D.FLT_PIN_LEVEL = 1) ||
    (s.flt.minUntil.map fun t => decide (s.tick < t)).getD false

/-- The pin follows; an assertion is counted. -/
def pin (s : State) : State :=
  let p := pinNow s
  let s := if p && !s.flt.pin then State.incFlt s D.iFLT_PIN D.FLT_PIN_ASSERTIONS 1 else s
  { s with flt := { s.flt with pin := p } }

end Flt

end Sys2Proof.Machine
end

