-- ==== Sys2Proof/Machine/Correct.lean ====
section
/-!
DEFINITION. The correction chain of a set-point (06_trajectory_correction.md R162 to R167): registration, field correction, drift compensation and
head units. Coordinates in 1/256 pu.
What the rules leave to the model: log entry 23.
-/
namespace Sys2Proof.Machine

/-- Coefficient `k` of channel `c`'s registration (R171). -/
def regCoef (s : State) (c k : Nat) : Int := State.rTrj s D.iREG (1 + 8 * c + k)

/-- The denominator w of the registration at a plate point (R163). -/
def regW (s : State) (c : Nat) (p : Pt) : Rat :=
  1 + ((regCoef s c 6 * p.x + regCoef s c 7 * p.y : Int) : Rat) / ((2 ^ 64 : Nat) : Rat)

/-- Field coordinates (u, v) of a plate point (R163), rounded to 1/256 pu. -/
def regUv (s : State) (c : Nat) (p : Pt) : Int × Int :=
  let w := regW s c p
  let row := fun a b t : Int =>
    Arith.ratRound ((((a * p.x + b * p.y : Int) : Rat) / ((2 ^ 30 : Nat) : Rat) + ((256 * t : Int) : Rat)) / w)
  (row (regCoef s c 0) (regCoef s c 1) (regCoef s c 2), row (regCoef s c 3) (regCoef s c 4) (regCoef s c 5))

/-- Half of the field square of channel `c`, in pu (R164). -/
def fieldHalf (s : State) (c : Nat) : Nat := (State.rTrj s (D.iCOR + c) D.COR_FIELD_HALF).toNat

/-- Whether the field takes a checked point (R163, R164): w ≥ 0.5, and u and v within ±FIELD_HALF. -/
def fieldOk (s : State) (c : Nat) (p : Pt) : Bool :=
  decide ((1 : Rat) / 2 ≤ regW s c p) &&
    let uv := regUv s c p
    let h : Int := ((256 * fieldHalf s c : Nat) : Int)
    decide (uv.1.natAbs ≤ h.toNat) && decide (uv.2.natAbs ≤ h.toNat)

/-- The correction table of channel `c` (R164). -/
def corTable (s : State) (c : Nat) : Blob :=
  Tab.get (fun _ => ⟨792588, []⟩) s.trj.blobs (Dict.key 0 (D.iCOR + c) D.COR_TABLE)

/-- Component `q` of a stored node (R164). -/
def corStored (t : Blob) (q i j : Nat) : Int := Blob.leInt t (12 * (257 * j + i) + 4 * q) 4

/-- Component `q` of node (i, j), extended by one row of nodes on each side (R164). Indices count from −1. -/
def corNode (t : Blob) (q : Nat) (i j : Int) : Int :=
  let colAt := fun i' : Nat =>
    if j < 0 then 2 * corStored t q i' 0 - corStored t q i' 1
    else if 256 < j then 2 * corStored t q i' 256 - corStored t q i' 255
    else corStored t q i' j.toNat
  if i < 0 then 2 * colAt 0 - colAt 1 else if 256 < i then 2 * colAt 256 - colAt 255 else colAt i.toNat

/-- The weights of the separable cubic convolution (R164). -/
def corWeights (t : Rat) : List Rat :=
  [(-(t * t * t) + 2 * t * t - t) / 2, (3 * t * t * t - 5 * t * t + 2) / 2, (-3 * t * t * t + 4 * t * t + t) / 2, (t * t * t - t * t) / 2]

/-- Node index and 16-bit fraction of a field coordinate (R164). -/
def corIndex (half : Nat) (u : Int) : Int × Rat :=
  let s16 := Arith.divFloor ((u + 256 * half) * 128 * 65536) (256 * half)
  let i0 : Int := min (Arith.divFloor s16 65536) 255
  (i0, mkRat (s16 - 65536 * i0) 65536)

/-- One component of the table at a field point, rounded to 1/256 pu (R164). -/
def corAt (t : Blob) (half q : Nat) (u v : Int) : Int :=
  let a := corIndex half u
  let b := corIndex half v
  let row := fun (dj : Nat) =>
    (((corWeights a.2).zipIdx.map fun w => w.1 * ((corNode t q (a.1 - 1 + (w.2 : Nat)) (b.1 - 1 + (dj : Nat)) : Int) : Rat))).foldl (· + ·) 0
  Arith.ratRound (256 * (((corWeights b.2).zipIdx.map fun w => w.1 * row w.2).foldl (· + ·) 0))

/-- A drift product: value times Δθ in 1/16 K, rounded to 1/256 pu (R165). -/
def driftTerm (value dtheta : Int) (scale : Nat) : Int := Arith.divRound (value * dtheta) (16 * scale)

/-- Whether head units overflow: the value before and after the clamp of R166. -/
def huClamp (v : Int) : Int := Arith.clamp (-8388608) 8388607 v

/-- The head units of a plate point on channel `c` (R162 to R166) before the clamp. -/
def rawHu (s : State) (c : Nat) (p : Pt) : Hu :=
  let uv := regUv s c p
  let t := corTable s c
  let half := fieldHalf s c
  let on := decide (State.rTrj s (D.iCOR + c) D.COR_ENABLE = 1)
  let d := fun q => if on then corAt t half q uv.1 uv.2 else 0
  let th := if State.legacy s c then 0 else (State.engOf s c).dtheta
  let g := fun sub => State.rTrj s (D.iCOR + c) sub
  let u := uv.1 + d 0
  let v := uv.2 + d 1
  let z := p.z + d 2
  let u := u + driftTerm (u * g D.COR_DRIFT_GAIN_X) th 1000000000 + driftTerm (256 * g D.COR_DRIFT_OFF_X) th 1
  let v := v + driftTerm (v * g D.COR_DRIFT_GAIN_Y) th 1000000000 + driftTerm (256 * g D.COR_DRIFT_OFF_Y) th 1
  let z := z + driftTerm (256 * g D.COR_DRIFT_OFF_Z) th 1
  let hx := (State.rTrj s (D.iTRJ + c) D.TRJ_HEAD_HALF_XY).toNat
  let hz := (State.rTrj s (D.iTRJ + c) D.TRJ_HEAD_HALF_Z).toNat
  ⟨Arith.divRound (u * 8388608) (256 * hx), Arith.divRound (v * 8388608) (256 * hx), Arith.divRound (z * 8388608) (256 * hz)⟩

/-- The set-point of a plate point in head units, and whether any was clamped (R166; Z counts on a head that carries Z). -/
def toHu (s : State) (c : Nat) (p : Pt) : Hu × Bool :=
  let r := rawHu s c p
  let h : Hu := ⟨huClamp r.x, huClamp r.y, huClamp r.z⟩
  (h, decide (h.x ≠ r.x) || decide (h.y ≠ r.y) || (State.hasZ s c && decide (h.z ≠ r.z)))

/-- The plate point the registration maps to u = v = 0, or the plate origin (R79). A solution counts where w is above 0 there, however far out it lies (R79 does not
say; DESIGN CHOICE: log entry 23). -/
def fieldCentre (s : State) (c : Nat) : Pt :=
  let a := regCoef s c 0
  let b := regCoef s c 1
  let t := regCoef s c 2 * 2 ^ 30
  let d := regCoef s c 3
  let e := regCoef s c 4
  let f := regCoef s c 5 * 2 ^ 30
  let det := a * e - b * d
  if det = 0 then ⟨0, 0, 0⟩
  else
    let q := fun n : Int => Arith.divRound (256 * n * det.sign) det.natAbs
    let p : Pt := ⟨q (b * f - e * t), q (d * t - a * f), 0⟩
    if regW s c p ≤ 0 then ⟨0, 0, 0⟩ else p

end Sys2Proof.Machine
end

