-- ==== Sys2Proof/Machine/Plume.lean ====
section
/-!
DEFINITION. The plume geometry (07_lending_overlap.md R184 to R189): committed paths, the keep-out distance and the downstream corridor, exact in 1/256
pu.
What the rules leave to the model: log entry 27.
-/
namespace Sys2Proof.Machine.Plume

/-- A straight piece of a path. -/
abbrev Line := Pt × Pt

/-- Cross product of (b − a) and (c − a). -/
def cross (a b c : Pt) : Int := (b.x - a.x) * (c.y - a.y) - (b.y - a.y) * (c.x - a.x)

/-- Squared distance between two points. -/
def sq (a b : Pt) : Int := (b.x - a.x) * (b.x - a.x) + (b.y - a.y) * (b.y - a.y)

/-- Squared distance from a point to a line. -/
def ptSq (p : Pt) (l : Line) : Rat :=
  let d := sq l.1 l.2
  let t := (p.x - l.1.x) * (l.2.x - l.1.x) + (p.y - l.1.y) * (l.2.y - l.1.y)
  if t ≤ 0 then (sq p l.1 : Rat) else if d ≤ t then (sq p l.2 : Rat)
  else let k := cross l.1 l.2 p; ((k * k : Int) : Rat) / (d : Rat)

/-- Whether two lines meet. -/
def meet (a b : Line) : Bool :=
  let d1 := (cross b.1 b.2 a.1).sign
  let d2 := (cross b.1 b.2 a.2).sign
  let d3 := (cross a.1 a.2 b.1).sign
  let d4 := (cross a.1 a.2 b.2).sign
  let on := fun (l : Line) (p : Pt) => decide (min l.1.x l.2.x ≤ p.x) && decide (p.x ≤ max l.1.x l.2.x) &&
    decide (min l.1.y l.2.y ≤ p.y) && decide (p.y ≤ max l.1.y l.2.y)
  (decide (d1 * d2 < 0) && decide (d3 * d4 < 0)) || (decide (d1 = 0) && on b a.1) || (decide (d2 = 0) && on b a.2) ||
    (decide (d3 = 0) && on a b.1) || (decide (d4 = 0) && on a b.2)

/-- Squared distance between two lines. -/
def lineSq (a b : Line) : Rat :=
  if meet a b then 0 else min (min (ptSq a.1 b) (ptSq a.2 b)) (min (ptSq b.1 a) (ptSq b.2 a))

/-- Some point of the candidate lies nearer than the keep-out radius in pu (R185). -/
def tooNear (keepout : Nat) (cand path : Line) : Bool :=
  decide (lineSq cand path < (((256 * keepout) * (256 * keepout) : Nat) : Rat))

/-- Scaled coordinates of q − p along the flow and across it: the flow is (fx, fy) in Q2.30 (R189). -/
def flowCoord (fx fy : Int) (p q : Pt) : Int × Int :=
  ((q.x - p.x) * fx + (q.y - p.y) * fy, (q.y - p.y) * fx - (q.x - p.x) * fy)

/-- Whether the values `l` and the range `lo` to `hi` share no point. -/
def apart (l : List Int) (lo hi : Int) : Bool := l.all (fun v => decide (v < lo)) || l.all (fun v => decide (hi < v))

/-- Some point of the candidate lies in the closed corridor downstream of the path (R185): the parallelogram of the differences of their points meets
the rectangle 0 to `len`, ±`width`/2, tested on the sides of both. `len` and `width` in pu, flow in Q2.30. -/
def inCorridor (fx fy : Int) (len width : Nat) (cand path : Line) : Bool :=
  let g2 := fx * fx + fy * fy
  -- q = p + s·g + t·h with g = (fx, fy)/2^30: s = (q − p)·(fx, fy)·2^30 / g2. Scale both sides by 2·g2.
  let cs := [flowCoord fx fy path.1 cand.1, flowCoord fx fy path.1 cand.2, flowCoord fx fy path.2 cand.1, flowCoord fx fy path.2 cand.2]
  let sc := fun v : Int => v * 2 * 2 ^ 30
  let hiS : Int := 2 * g2 * ((256 * len : Nat) : Int)
  let hw : Int := g2 * ((256 * width : Nat) : Int)
  let ps := cs.map fun v => (sc v.1, sc v.2)
  let rect : List (Int × Int) := [(0, -hw), (0, hw), (hiS, -hw), (hiS, hw)]
  let sides := [(sc (flowCoord fx fy cand.1 cand.2).1, sc (flowCoord fx fy cand.1 cand.2).2),
    (sc (flowCoord fx fy path.1 path.2).1, sc (flowCoord fx fy path.1 path.2).2)]
  let sideApart := fun (d : Int × Int) =>
    let pr := fun (v : Int × Int) => v.1 * d.2 - v.2 * d.1
    let rv := rect.map pr
    apart (ps.map pr) (rv.foldl min 0) (rv.foldl max 0)
  !(apart (ps.map fun v => v.1) 0 hiS || apart (ps.map fun v => v.2) (-hw) hw || sides.any sideApart)

/-- The committed path of a channel at a tick (R184): each committed mark from the set-point of the tick, when it has begun, to its end point. -/
def pathOf (e : Engine) (k : Nat) : List Line :=
  (e.cmarks.filter fun m => decide ((k : Rat) < m.t2)).map fun m =>
    if m.t1 < (k : Rat) then
      match Geo.phaseAt e.timeline (k : Rat) with
      | some p => if p.kind == .mark && p.item == m.item && p.serial == m.serial then (Geo.phasePos p (k : Rat), m.p1) else (m.p0, m.p1)
      | none => (m.p0, m.p1)
    else (m.p0, m.p1)

/-- Whether two channels overlap (R176). -/
def overlaps (s : State) (a b : Nat) : Bool := Arith.bit (State.rLnd s (D.iLNDC + a) D.LNDC_OVERLAP).toNat b

/-- The channels that block a candidate at the present tick, in ascending rank (R185, R188). -/
def blockers (s : State) (c : Nat) (cand : List Line) : List Nat :=
  let g := fun sub => State.rLnd s D.iPLM sub
  let keep := (g D.PLM_KEEPOUT).toNat
  let len := (g D.PLM_CORR_LEN).toNat
  let width := (g D.PLM_CORR_WIDTH).toNat
  (State.byRank s).filter fun m => m != c && overlaps s c m &&
    (pathOf (State.engOf s m) s.tick).any fun p => cand.any fun q =>
      tooNear keep q p || inCorridor (g D.PLM_FLOW_X) (g D.PLM_FLOW_Y) len width q p

/-- Whether plume checks run (R185, R188). -/
def enabled (s : State) : Bool := decide (State.rLnd s D.iPLM D.PLM_ENABLE = 1)

/-- The cosine of an angle in 0.01° as Q2.30 by its Taylor series, the angle first reduced to within ±45° (R189). -/
def trigGo : Nat → Nat → Rat → Rat → Rat → Rat
  | 0, _, _, _, acc => acc
  | n + 1, i, x2, term, acc => let t := Geo.fix64 (-(term * x2) / ((i * (i + 1) : Nat) : Rat)); trigGo n (i + 2) x2 t (acc + t)

/-- Cosine and sine of an angle in radians within ±1. -/
def cosSin (x : Rat) : Rat × Rat := (trigGo 12 1 (Geo.fix64 (x * x)) 1 1, trigGo 12 2 (Geo.fix64 (x * x)) x x)

/-- π to 64 binary places. -/
def pi : Rat := mkRat 57952155664616982739 (2 ^ 64)

/-- The flow direction ĝ in Q2.30 of an angle in 0.01° from +X toward +Y (R189). -/
def flow (angle : Nat) : Int × Int :=
  let q := (angle + 4500) / 9000
  let r : Int := (angle : Int) - 9000 * (q : Int)
  let cs := cosSin (Geo.fix64 ((r : Rat) * pi / 18000))
  let f := fun v : Rat => Arith.ratRound (v * ((2 ^ 30 : Nat) : Rat))
  let c := f cs.1
  let n := f cs.2
  match q % 4 with
  | 0 => (c, n)
  | 1 => (-n, c)
  | 2 => (-c, -n)
  | _ => (n, -c)

end Sys2Proof.Machine.Plume
end

