-- ==== Sys2Proof/Machine/Engine.lean ====
section
/-!
DEFINITION. The exposure engines (06_trajectory_correction.md R146 to R161, R168): planning of phases from the items of a stripe, gate edges, the commit
pipeline 64 ticks ahead, stops along the path and resumption.
What the rules leave to the model: log entries 23, 24 and 25.
-/
namespace Sys2Proof.Machine

/-- One mark of a chain as laid out (R148, R149, R154): its item, the mark's own start, the line that is run, parameter set, speeds, powers, length and acceleration. -/
structure MarkSeg where
  item : Nat
  s0 : Pt
  p0 : Pt
  p1 : Pt
  par : Par
  v0 : Rat
  v1 : Rat
  pow0 : Rat
  pow1 : Rat
  len : Rat
  a : Rat
  clamped : Bool
  limited : Bool
deriving DecidableEq, Repr

namespace Eng

/-- The horizon of the commit pipeline in ticks (R15, R16). -/
def horizon : Nat := 64

/-- The set-points of the channel go to its head, so its feedback is checked (R160, R277): it is STARTED, or its engine moves, holds or stops. -/
def follows (s : State) (c : Nat) : Bool :=
  State.chOf s c == .started || (State.engOf s c).motion != .rest || (State.engOf s c).stopRun.isSome

/-- A fence of the channel waits to be taken in, or its re-plan runs or is queued (R190, R196). -/
def leaving (s : State) (c : Nat) : Bool := s.lnd.fences.contains c || (s.lnd.active.toList ++ s.lnd.queued).any fun r => r.ch == c

/-- An engine event (R172): its message, and its bit of TRJ_FLAGS for kinds 0x01 to 0x09 (R169). -/
def event (s : State) (c kind : Nat) : State :=
  let f := (State.rTrj s (D.iTRJ + c) D.TRJ_FLAGS).toNat
  let s := if 1 ≤ kind ∧ kind ≤ 9 then State.wTrj s (D.iTRJ + c) D.TRJ_FLAGS ((Arith.setBit f (kind - 1) true : Nat) : Int) else s
  State.raise s (0x80 + c) kind (State.btickLow s)

/-- The lower of a speed and the channel's limit in µm/s, and whether the limit took effect (R148). -/
def limSpeed (s : State) (c v : Nat) : Nat × Bool :=
  let l := (State.rTrj s (D.iTRJ + c) D.TRJ_SPEED_LIMIT).toNat
  if l < v then (l, true) else (v, false)

/-- SPEED_LIMIT, ACCEL_LIMIT and OFF_DELAY of a channel (R167). -/
def limitsOf (s : State) (c : Nat) : Nat × Nat × Int :=
  let g := fun sub => State.rTrj s (D.iTRJ + c) sub
  ((g D.TRJ_SPEED_LIMIT).toNat, (g D.TRJ_ACCEL_LIMIT).toNat, g D.TRJ_OFF_DELAY)

/-- The acceleration in force in pu per tick² (R148). -/
def accelIn (s : State) (c a : Nat) : Rat := Geo.accelPu (min a (State.rTrj s (D.iTRJ + c) D.TRJ_ACCEL_LIMIT).toNat)

/-- The end point of a segment item. -/
def segEnd : Item → Option Pt
  | .mark x y z _ _ _ => some (Geo.ptOf x y z)
  | .jump x y z _ => some (Geo.ptOf x y z)
  | .markExt x y z _ _ _ _ _ => some (Geo.ptOf x y z)
  | _ => none

/-- Whether an item is a mark. -/
def isMark : Item → Bool
  | .mark .. => true
  | .markExt .. => true
  | _ => false

/-- Whether a mark asks for a POLY join (R76). -/
def isPoly : Item → Bool
  | .mark _ _ _ _ p _ => p
  | .markExt _ _ _ _ p _ _ _ => p
  | _ => false

/-- Where segment item `i` of a stripe starts (R79): the end of the previous segment item, or the rewind point. -/
def segStart (r : StripeRun) (i : Nat) : Pt :=
  match ((r.items.take i).filterMap segEnd).getLast? with
  | some p => p
  | none => r.origin

/-- The parameter set in force for item `i` (R80, R89). -/
def psAt (r : StripeRun) (i : Nat) : Nat :=
  match ((r.items.take i).filterMap fun it => match it with | .paramSelect n => some n | _ => none).getLast? with
  | some n => n
  | none => r.ps

/-- Whether a mark has no length (R79): its end point equals its start point in the plate plane. -/
def noLength (it : Item) (p : Pt) : Bool := ((segEnd it).map fun q => decide (q.x = p.x) && decide (q.y = p.y)).getD true

/-- Whether item `i` takes ticks: a jump, a wait, or a mark of some length (R79, R90). -/
def takesTicks (r : StripeRun) (i : Nat) : Bool :=
  match r.items[i]? with
  | some (.jump ..) => true
  | some (.waitTicks _) => true
  | some it => isMark it && !noLength it (segStart r i)
  | none => false

/-- The next item from `i` on that takes ticks. -/
def nextTick (r : StripeRun) (i : Nat) : Option Nat := (Arith.rangeFrom i (r.items.length - i)).find? fun j => takesTicks r j

/-- Item `i` is a mark that takes ticks. -/
def markAt (r : StripeRun) (i : Nat) : Bool := takesTicks r i && (r.items[i]?.map isMark).getD false

/-- The ramp limit of R154: the end speed that the acceleration allows, and whether it was moved. -/
def rampEnd (v0 v1 len a : Rat) : Rat × Bool :=
  let need := (max v0 v1) * (if v0 ≤ v1 then v1 - v0 else v0 - v1)
  if need ≤ a * len then (v1, false)
  else if v0 ≤ v1 then ((v0 + Geo.root (v0 * v0 + 4 * a * len)) / 2, true)
  else (v0 - a * len / v0, true)

/-- Lay out mark item `i` under a parameter set, from its start point or from P_r (R148, R149, R154, R157). -/
def layMarkBy (s : State) (c : Nat) (r : StripeRun) (par : Par) (i : Nat) (pr : Option Pt) : Option MarkSeg :=
  let start := segStart r i
  let a := accelIn s c par.markAccel
  let mm := fun v : Nat => if v = 0 then limSpeed s c par.markSpeed else limSpeed s c (1000 * v)
  match r.items[i]? with
  | some (.mark x y z p _ v) =>
    let q := Geo.ptOf x y z
    let sp := mm v
    let p0 := pr.getD start
    some ⟨i, start, p0, q, par, Geo.speedPu sp.1, Geo.speedPu sp.1, p, p, Geo.dist p0 q, a, sp.2, false⟩
  | some (.markExt x y z p _ v pe ve) =>
    let q := Geo.ptOf x y z
    let s0 := mm v
    let s1 := if ve = 0 then s0 else limSpeed s c (1000 * ve)
    let len := Geo.dist start q
    let v0 := Geo.speedPu s0.1
    let e := rampEnd v0 (Geo.speedPu s1.1) len a
    match pr with
    | none => some ⟨i, start, start, q, par, v0, e.1, p, pe, len, a, s0.2 || s1.2, e.2⟩
    | some r0 =>
      let f := if len = 0 then 0 else Geo.dist start r0 / len
      some ⟨i, start, r0, q, par, v0 + (e.1 - v0) * f, e.1, (p : Rat) + ((pe : Rat) - (p : Rat)) * f, pe, Geo.dist r0 q, a, s0.2 || s1.2, e.2⟩
  | _ => none

/-- Lay out mark item `i` under the parameter set in force for it. -/
def layMark (s : State) (c : Nat) (r : StripeRun) (i : Nat) (pr : Option Pt) : Option MarkSeg := layMarkBy s c r (State.parOf s (psAt r i)) i pr

/-- Ticks of a run-up or run-out at speed `v` (R149). -/
def rampTicks (v a : Rat) : Nat := if a = 0 then 1 else max 1 (Arith.ratCeil (v / a)).toNat

/-- Length of a run-up or run-out (R149). -/
def rampLen (v a : Rat) : Rat := v * (rampTicks v a : Rat) / 2

/-- The run-up start of a mark, along the mark's own direction (R149, R157). -/
def runUpStart (m : MarkSeg) : Pt := Geo.offset m.p0 m.s0 m.p1 (-(rampLen m.v0 m.a))

/-- The run-out end of a mark (R149). -/
def runOutEnd (m : MarkSeg) : Pt := Geo.offset m.p1 m.s0 m.p1 (rampLen m.v1 m.a)

/-- Item of the mark that a POLY join ties to the mark at item `i` (R76): only PARAM_SELECT, HOST_MARKER and PAD stand between. -/
def joinOf (r : StripeRun) (i : Nat) : Option Nat :=
  if (r.items[i]?.map isPoly).getD false then
    match (Arith.rangeFrom (i + 1) (r.items.length - (i + 1))).find? fun j =>
        match r.items[j]? with
        | some (.paramSelect _) => false
        | some (.hostMarker _) => false
        | some .pad => false
        | _ => true with
    | some j => if markAt r j then some j else none
    | none => none
  else none

/-- The chain of marks that begins at item `i` (R76, R185), by fuel. -/
def chainGo (s : State) (c : Nat) (r : StripeRun) : Nat → Nat → Option Pt → List MarkSeg
  | 0, _, _ => []
  | k + 1, i, pr =>
    match layMark s c r i pr with
    | none => []
    | some m =>
      match joinOf r i with
      | some j => m :: chainGo s c r k j none
      | none => [m]

/-- The chain of marks that begins at item `i`. -/
def chain (s : State) (c : Nat) (r : StripeRun) (i : Nat) (pr : Option Pt) : List MarkSeg := chainGo s c r r.items.length i pr

/-- The end of a committed timeline: the last phase's end instant. -/
def lastEnd (e : Engine) : Rat := (e.timeline.map Geo.phaseEnd).foldl max 0

/-- Where the committed path ends. -/
def endPos (e : Engine) : Pt :=
  match e.timeline.getLast? with
  | some p => p.p1
  | none => e.pos

/-- The tick boundary at which the next phase may start, `k` at the earliest (R146). -/
def nextStart (e : Engine) (k : Nat) : Nat := max k (Arith.ratCeil (lastEnd e)).toNat

/-- Append a phase. -/
def addPhase (e : Engine) (p : Phase) : Engine := { e with timeline := e.timeline ++ [p] }

/-- A phase at rest at a point for a number of ticks. -/
def restPhase (kind : PhaseKind) (k : Nat) (dur : Nat) (p : Pt) (item serial : Nat) (par : Par) (pow : Rat) : Phase :=
  ⟨kind, (k : Rat), (dur : Rat), p, p, 0, .still, pow, pow, item, serial, par⟩

/-- A jump from where the path ends to a point, and the settle after it when a run-up follows (R146, R149, R150). -/
def addJump (s : State) (c : Nat) (e : Engine) (k : Nat) (target : Pt) (v : Nat) (settle : Bool) (item serial : Nat) (par : Par) : Engine :=
  let p0 := endPos e
  let len := Geo.dist p0 target
  let prof := Profile.trap (Geo.speedPu v) (accelIn s c par.jumpAccel)
  let e := addPhase e ⟨.jump, (nextStart e k : Rat), Geo.profTicks len prof, p0, target, len, prof, 0, 0, item, serial, par⟩
  if settle then addPhase e (restPhase .jumpSettle (nextStart e k) par.jumpDelay target item serial par 0) else e

/-- The stripe a plan works on. -/
def stripeOf (e : Engine) (serial : Nat) : Option StripeRun := e.stripes.find? fun r => r.serial == serial

/-- Change the stripe of a serial number. -/
def modStripe (e : Engine) (serial : Nat) (f : StripeRun → StripeRun) : Engine :=
  { e with stripes := Arith.updWhere (fun r => r.serial == serial) f e.stripes }

/-- How many items of a stripe are consumed, or planned to be (R90). -/
def takenOf (e : Engine) (r : StripeRun) : Nat :=
  r.taken + ((e.due.filter fun d => d.2.2.2.2 == r.serial).map fun d => d.2.2.1).sum

/-- The items below `j` that are not consumed yet are consumed at tick `k` (R90): how many, and the markers among them that raise a notice (R194). -/
def dueItems (e : Engine) (r : StripeRun) (k j : Nat) : Engine :=
  let i := takenOf e r
  let its := (r.items.drop i).take (j - i)
  let ms := (its.drop (r.quiet - i)).filterMap fun it => match it with | .hostMarker v => some v | _ => none
  { e with due := e.due ++ [(k, r.ctx, its.length, ms, r.serial)] }

/-- A boundary hold begins between phases (R158): an engine at REST stays there (R168). -/
def held (e : Engine) : Motion := if e.motion = .rest then .rest else .hold

/-- Whether a gate-on edge of a stripe has fired before a 4 ns point (R191). -/
def firedBy (e : Engine) (r : StripeRun) (at4 : Nat) : Bool := r.fired || e.edges.any fun d => d.on && d.serial == r.serial && decide (d.at4 < at4)

/-- Mark the first set-point of a stripe. -/
def begun (e : Engine) (serial k : Nat) : Engine :=
  modStripe e serial fun r => { r with kFirst := some (r.kFirst.getD k) }

/-- The plan of a stripe at its first item, or at its resume segment (R157, R168). -/
def planOf (r : StripeRun) : Plan := ⟨r.serial, r.fromItem, r.origin, r.ps, false, [], r.pr, r.waitLeft⟩

/-- The next stripe that a channel holds and has not begun (R525). -/
def unbegun (e : Engine) : Option StripeRun := e.stripes.find? fun r => r.kFirst.isNone && r.kLast.isNone

/-- A stripe's items are all planned at tick `k` (R90, R106): its last set-point is that of tick k − 1, the tail of its items is consumed in the tick in which
its last phase ends; PACE takes it in (R183). -/
def finishStripe (e : Engine) (r : StripeRun) (k : Nat) : Engine :=
  let last := k - 1
  let e := dueItems e r (if (last : Rat) < lastEnd e ∧ lastEnd e < (k : Rat) then last else k) r.items.length
  let pace := if r.units = 0 then 0 else (last - r.decided) * 65536 / r.units
  let e := modStripe e r.serial fun r => { r with kLast := some last, kFirst := some (r.kFirst.getD last) }
  { e with plan := (unbegun e).map planOf, paces := (e.paces ++ [pace]).drop ((e.paces.length + 1) - 16) }

/-- The gate edges of a chain (R151) on the 4 ns grid, and whether any clamp took effect. -/
structure EdgePlan where
  on : Nat
  off : Nat
  fires : Bool
  clamped : Bool
deriving DecidableEq, Repr

/-- Round an instant in ticks to the 4 ns grid, ties to the later point (R151 step 2). -/
def grid4 (t : Rat) : Int := (t * 125 + 1 / 2).floor

/-- Step 5 of R151, by fuel: no tick holds two edges of a kind. -/
def spreadEdges (old : List Edge) (capOff : Int) : Nat → Int → Int → Bool → Int × Int × Bool
  | 0, on, off, cl => (on, off, cl)
  | n + 1, on, off, cl =>
    let clash := old.any fun d => (d.on && decide (((d.at4 / 125 : Nat) : Int) = on / 125)) ||
      (!d.on && decide (((d.at4 / 125 : Nat) : Int) = off / 125))
    if clash then
      let on' := (on / 125 + 1) * 125
      spreadEdges old capOff n on' (min (off + (on' - on)) capOff) true
    else (on, off, cl)

/-- Place the edges of a chain whose path reaches the mark start at `t1` and the mark end at `t2` (R151). -/
def placeEdges (old : List Edge) (onNs offNs : Int) (runUp t1 t2 runOut : Rat) : EdgePlan :=
  let ns := fun v : Int => (v : Rat) / 500
  let on := grid4 (t1 + ns onNs)
  let off := grid4 (t2 + ns offNs)
  let loOn := Arith.ratCeil (runUp * 125)
  let hiOff := (runOut * 125).floor
  let on3 := max on loOn
  let off3 := min off hiOff
  let prev : Int := ((old.filter fun d => !d.on).map fun d => (d.at4 : Int)).foldl max (-1)
  let on4 := if prev < on3 then on3 else prev + 1
  let r := spreadEdges old hiOff (old.length + 2) on4 off3 (decide (on3 ≠ on) || decide (off3 ≠ off) || decide (on4 ≠ on3))
  if r.2.1 ≤ r.1 then ⟨0, 0, false, true⟩ else ⟨r.1.toNat, r.2.1.toNat, true, r.2.2⟩

/-- Append the marks of a chain after the run-up (R146, R153): a corner hold stands at every join. Also gives the items consumed at each phase start. -/
def addMarks (r : StripeRun) : List MarkSeg → Engine → Nat → Engine
  | [], e, _ => e
  | [m], e, k =>
    addPhase e ⟨.mark, (nextStart e k : Rat), Geo.profTicks m.len (.ramp m.v0 m.v1), m.p0, m.p1, m.len, .ramp m.v0 m.v1, m.pow0, m.pow1, m.item,
      r.serial, m.par⟩
  | m :: n :: rest, e, k =>
    let e := addPhase e ⟨.mark, (nextStart e k : Rat), Geo.profTicks m.len (.ramp m.v0 m.v1), m.p0, m.p1, m.len, .ramp m.v0 m.v1, m.pow0, m.pow1,
      m.item, r.serial, m.par⟩
    let e := addPhase e (restPhase .corner (nextStart e k) m.par.cornerDelay m.p1 m.item r.serial m.par m.pow1)
    let e := dueItems e r (nextStart e k) (n.item + 1)
    addMarks r (n :: rest) e k

/-- Append the run-out and the mark settle that end a chain (R146, R149, R150). -/
def addRunOut (r : StripeRun) (m : MarkSeg) (e : Engine) (k : Nat) : Engine :=
  let n := rampTicks m.v1 m.a
  let q := runOutEnd m
  let e := addPhase e ⟨.runOut, lastEnd e, (n : Rat), m.p1, q, Geo.dist m.p1 q, .decel m.v1 (m.v1 / (n : Rat)), 0, 0, m.item, r.serial, m.par⟩
  addPhase e (restPhase .markSettle (nextStart e k) m.par.markDelay q m.item r.serial m.par 0)

/-- The instant a chain's run-out ends. -/
def outEnd (e : Engine) : Rat := (((e.timeline.filter fun p => p.kind == .runOut).map Geo.phaseEnd).getLast?).getD 0

/-- The committed marks of a chain laid out from tick `k` on (R184) take the place of those of the same items. -/
def setMarks (r : StripeRun) (ms : List MarkSeg) (k : Nat) (e : Engine) : Engine :=
  let cm := ms.filterMap fun m =>
    (e.timeline.find? fun p => p.kind == .mark && p.item == m.item && p.serial == r.serial && decide ((k : Rat) ≤ p.start)).map fun p =>
      (⟨m.p0, m.p1, p.start, Geo.phaseEnd p, r.serial, m.item⟩ : CMark)
  { e with cmarks := (e.cmarks.filter fun d => !(d.serial == r.serial && ms.any fun m => m.item == d.item)) ++ cm }

/-- The messages of a chain (R148, R154). -/
def chainSays (s : State) (c : Nat) (ms : List MarkSeg) : State :=
  let s := if ms.any (fun m => m.clamped) then event s c 6 else s
  if ms.any (fun m => m.limited) then event s c 7 else s

/-- Commit a chain whose run-up starts at tick `k` (R146, R151, R184): phases, edges, committed marks, and the position of the plan after it. -/
def commitChain (s : State) (c k : Nat) (r : StripeRun) (ms : List MarkSeg) : State :=
  match ms.head?, ms.getLast? with
  | some m0, some m1 =>
    let e := State.engOf s c
    let n0 := rampTicks m0.v0 m0.a
    let e := begun (dueItems e r k (m0.item + 1)) r.serial k
    let up := runUpStart m0
    let lenU := Geo.dist up m0.p0
    let e := addPhase e ⟨.runUp, (k : Rat), (n0 : Rat), up, m0.p0, lenU, .accel (m0.v0 / (n0 : Rat)), 0, 0, m0.item, r.serial, m0.par⟩
    let e := addMarks r ms e k
    let t1 : Rat := ((k + n0 : Nat) : Rat)
    let t2 := lastEnd e
    let e := addRunOut r m1 e k
    let trim := fun sub => State.rTrj s (D.iTRJ + c) sub
    let ep := placeEdges e.edges (m0.par.onDelay + trim D.TRJ_ON_DELAY) (m1.par.offDelay + trim D.TRJ_OFF_DELAY) (k : Rat) t1 t2 (outEnd e)
    let e := if ep.fires then { e with edges := e.edges ++ [⟨ep.on, true, r.serial, m0.item⟩, ⟨ep.off, false, r.serial, m1.item⟩] } else e
    let e := modStripe (setMarks r ms k e) r.serial fun r => { r with cleared := r.cleared.filter fun i => i != m0.item }
    let e := { e with
                      plan := some ⟨r.serial, m1.item + 1, m1.p1, m1.par.num, false, [], none, 0⟩, plumeTicks := 0, plumeHeld := false, plumeSaid := false, limits := limitsOf s c,
                      motion := .move, why := .none }
    let s := chainSays (State.setEng s c e) c ms
    if ep.clamped then event s c 8 else s
  | _, _ => s

/-- The mark phase behind a join that starts in tick `k`, by its place in a timeline. -/
def joinedAt (l : List Phase) (k : Nat) : Option Nat :=
  (Arith.rangeFrom 1 (l.length - 1)).find? fun i =>
    match l[i - 1]?, l[i]? with
    | some a, some b => a.kind == .corner && b.kind == .mark && decide ((k : Rat) ≤ b.start) && decide (b.start < ((k + 1 : Nat) : Rat))
    | _, _ => false

/-- The mark phase that a set-point of tick `k` lies inside of, by its place in a timeline. -/
def insideAt (l : List Phase) (k : Nat) : Option Nat :=
  (List.range l.length).find? fun i => (l[i]?).any fun p => p.kind == .mark && decide (p.start < (k : Rat)) && decide ((k : Rat) < Geo.phaseEnd p)

/-- The part of a mark phase before tick `k`. -/
def headPhase (p : Phase) (k : Nat) : Phase :=
  let t : Rat := (k : Rat)
  let d := Geo.phaseDist p t
  let pw := if p.len = 0 then p.pow0 else p.pow0 + (p.pow1 - p.pow0) * d / p.len
  match p.prof with
  | .ramp v0 _ => { p with dur := t - p.start, p1 := Geo.phasePos p t, len := d, prof := .ramp v0 (Geo.phaseSpeed p t), pow1 := pw }
  | _ => p

/-- What is laid out again from tick `k` on: the phases before it, the marks, and the item of the first of them. A mark behind a join reads its parameter set at
its start (R93); a mark in progress keeps its set and takes the limits of the channel, once they have changed (R167). -/
def layAgain (s : State) (c k : Nat) : Option (List Phase × StripeRun × List MarkSeg) :=
  let e := State.engOf s c
  match joinedAt e.timeline k with
  | some i =>
    (e.timeline[i]?).bind fun p => (stripeOf e p.serial).map fun r => (e.timeline.take i, r, chainGo s c r r.items.length p.item none)
  | none =>
    if e.limits = limitsOf s c then none
    else
      (insideAt e.timeline k).bind fun i => (e.timeline[i]?).bind fun p => (stripeOf e p.serial).bind fun r =>
        (layMarkBy s c r p.par p.item (some (Geo.phasePos p (k : Rat)))).map fun m =>
          (e.timeline.take i ++ [headPhase p k], r, m :: ((joinOf r p.item).map fun j => chainGo s c r r.items.length j none).getD [])

/-- The rest of a chain is laid out again where the set of a mark behind a join or the limits of the channel ask for it (R93, R167), with the gate-off edge and
the committed marks. -/
def relay (s : State) (c k : Nat) : State :=
  let e := State.engOf s c
  match layAgain s c k with
  | none => s
  | some (head, r, ms) =>
    match ms.getLast? with
    | none => s
    | some m1 =>
      let inside := decide (head.length ≠ 0) && (head.getLast?.any fun p => p.kind == .mark)
      let cut := { e with timeline := head, due := e.due.filter fun d => !(d.2.2.2.2 == r.serial && decide (k < d.1)) }
      let e1 := addMarks r ms cut k
      let t2 := lastEnd e1
      let e1 := addRunOut r m1 e1 k
      if e1.timeline = e.timeline then s
      else
        let off := grid4 (t2 + ((m1.par.offDelay + State.rTrj s (D.iTRJ + c) D.TRJ_OFF_DELAY : Int) : Rat) / 500)
        let off3 := min off (outEnd e1 * 125).floor
        let edges := Arith.updWhere (fun d => d.serial == r.serial && !d.on && d.item == m1.item) (fun d => { d with at4 := max (125 * k) off3.toNat }) e1.edges
        let end0 := (ms.head?.bind fun m => (e1.timeline.find? fun p => p.kind == .mark && p.item == m.item && decide (p.start = (k : Rat))).map Geo.phaseEnd).getD t2
        let e2 := setMarks r (if inside then ms.drop 1 else ms) k { e1 with edges := edges, limits := limitsOf s c }
        let e2 := if inside then { e2 with cmarks := Arith.updWhere (fun d => d.serial == r.serial && some d.item == ms.head?.map fun m => m.item) (fun d => { d with t2 := end0 }) e2.cmarks }
          else e2
        let s := chainSays (State.setEng s c e2) c ms
        if off3 = off then s else event s c 8

/-- A segment with a checked point outside the field is not started (R163, R164, R172): nothing more is planned, no gate-on edge is sent any more, and the
fence that follows stops the engine. -/
def fieldFault (s : State) (c : Nat) : State := event (State.modEng s c fun e => { e with why := .field, force := true }) c 4

/-- Count one tick of a plume hold (R186, R188). -/
def plumeHold (s : State) (c : Nat) (blocking : List Nat) : State :=
  let e := State.engOf s c
  let s' := State.setEng s c
    { e with plumeHeld := true, plumeTicks := if e.plumeHeld then e.plumeTicks + 1 else 1, plumeSaid := e.plumeHeld && e.plumeSaid, plumeBy := blocking.headD 0, motion := held e, why := .plume }
  let s' := if e.plumeHeld then s' else State.incLnd (State.incLnd s' (D.iLNDC + c) D.LNDC_HOLDS 1) D.iPLM D.PLM_HOLDS 1
  State.incLnd (State.incLnd s' (D.iLNDC + c) D.LNDC_HOLD_TICKS 1) D.iPLM D.PLM_HOLD_TICKS 1

/-- PLUME_HOLD_LONG (R188): a candidate has been held for HOLD_LIMIT ticks; once for each candidate, and the hold goes on. -/
def plumeLong (c : Nat) (s : State) : State :=
  let e := State.engOf s c
  if e.plumeHeld && !e.plumeSaid && decide ((State.rLnd s D.iPLM D.PLM_HOLD_LIMIT).toNat ≤ e.plumeTicks) then
    State.raise (State.incLnd (State.setEng s c { e with plumeSaid := true }) D.iPLM D.PLM_LONG_HOLDS 1) 0xF8 5 (c + 256 * e.plumeBy)
  else s

/-- The plume check of a chain (R185, R186): commit it when it passes, when it was committed before (R184), or when no check runs; else hold. -/
def checkChain (s : State) (c k : Nat) (r : StripeRun) (ms : List MarkSeg) : State :=
  let b := if Plume.enabled s && !(ms.head?.map fun m => r.cleared.contains m.item).getD false
    then Plume.blockers s c (ms.map fun m => (m.p0, m.p1)) else []
  if b.isEmpty then commitChain s c k r ms else plumeHold s c b

/-- The points of a chain the field check reads (R163): there is a run-up only at its first mark and a run-out only at its last (R153). -/
def checkedPts (ms : List MarkSeg) : List Pt :=
  ms.head?.toList.map runUpStart ++ (ms.flatMap fun m => [m.p0, m.p1]) ++ ms.getLast?.toList.map runOutEnd

/-- The mark at item `i` of a SEGMENT_MARK or SEGMENT_MARK_EXT (R75, R78, R149): the implicit jump to its run-up start, then the chain. That jump, which belongs to no
item, takes PS_JUMP_SPEED, PS_JUMP_ACCEL and PS_JUMP_DELAY of the set of the mark it leads to (R89 and R148 do not say; DESIGN CHOICE: log entry 23). -/
def planMark (s : State) (c k : Nat) (p : Plan) (r : StripeRun) (i : Nat) : State :=
  let ms := chain s c r i p.prLeft
  let e := State.engOf s c
  if !(checkedPts ms).all (fieldOk s c) then fieldFault s c
  else if p.atRunUp then checkChain s c k r ms
  else
    match ms.head? with
    | none => s
    | some m =>
      let par := State.parOf s (psAt r i)
      let v := limSpeed s c par.jumpSpeed
      let e := addJump s c (begun e r.serial k) k (runUpStart m) v.1 true i r.serial par
      let s := State.setEng s c { e with plan := some { p with atRunUp := true }, motion := .move, why := .none }
      if v.2 then event s c 6 else s

/-- A SEGMENT_JUMP at item `i` (R77, R149): redirected to the run-up start of a mark that follows next, with the settle of R150. -/
def planJump (s : State) (c k : Nat) (p : Plan) (r : StripeRun) (i : Nat) (x y z : Int) (v : Nat) : State :=
  let e := State.engOf s c
  let par := State.parOf s (psAt r i)
  let sp := if v = 0 then limSpeed s c par.jumpSpeed else limSpeed s c (1000 * v)
  let own := Geo.ptOf x y z
  let nxt := nextTick r (i + 1)
  let lead := (nxt.filter (markAt r)).bind fun j => layMark s c r j none
  let target := (lead.map runUpStart).getD own
  if !(fieldOk s c (endPos e) && fieldOk s c target) then fieldFault s c
  else
    let e := begun (dueItems e r (nextStart e k) (i + 1)) r.serial k
    let e := addJump s c e k target sp.1 lead.isSome i r.serial par
    let s := State.setEng s c
      { e with plan := some { p with item := i + 1, cur := own, atRunUp := lead.isSome, prLeft := none }, motion := .move, why := .none }
    if sp.2 then event s c 6 else s

/-- A WAIT_TICKS at item `i` (R89, R150). -/
def planWait (s : State) (c k : Nat) (p : Plan) (r : StripeRun) (i n : Nat) : State :=
  let e := State.engOf s c
  let k' := nextStart e k
  let e := begun (dueItems e r k' (i + 1)) r.serial k
  let e := addPhase e (restPhase .wait k' n (endPos e) i r.serial (State.parOf s (psAt r i)) 0)
  State.setEng s c { e with plan := some { p with item := i + 1, atRunUp := false }, motion := .move, why := .none }

/-- The stripe-start jump to the rewind point is still to be planned (R79, R149): no mark of some length comes first. -/
def startDue (r : StripeRun) (p : Plan) : Bool := r.fromItem == 0 && p.item == 0 && !((nextTick r 0).map (markAt r)).getD false

/-- The stripe-start jump of R79 where no mark comes first: to the rewind point, with the set of STRIPE_BEGIN (R149 does not say; DESIGN CHOICE: log entry 23). -/
def planStart (s : State) (c k : Nat) (p : Plan) (r : StripeRun) : State :=
  let e := State.engOf s c
  let par := State.parOf s r.ps
  let v := limSpeed s c par.jumpSpeed
  let e := addJump s c (begun e r.serial k) k r.origin v.1 false 0 r.serial par
  let s := State.setEng s c { e with plan := some { p with item := max p.item 1, cur := r.origin }, motion := .move, why := .none }
  if v.2 then event s c 6 else s

/-- The last WAIT_TICKS before item `i`. -/
def waitBefore (r : StripeRun) (i : Nat) : Option Nat :=
  ((List.range i).filter fun j => match r.items[j]? with | some (.waitTicks _) => true | _ => false).getLast?

/-- The wait that a stop left unspent (R157); it is consumed, with the items before it, when the stop came before that (R90). -/
def planWaitLeft (s : State) (c k : Nat) (p : Plan) (r : StripeRun) : State :=
  let e := State.engOf s c
  let e := match waitBefore r p.item with
    | some j => dueItems e r (nextStart e k) (j + 1)
    | none => e
  let e := addPhase (begun e r.serial k) (restPhase .wait (nextStart e k) p.waitLeft (endPos e) (p.item - 1) r.serial (State.parOf s (psAt r p.item)) 0)
  State.setEng s c { e with plan := some { p with waitLeft := 0 }, motion := .move, why := .none }

/-- Plan what comes next on a channel for the path from tick `k` on: the phases of the next item, or the end of the stripe. -/
def planStep (s : State) (c k : Nat) : State :=
  let e := State.engOf s c
  match e.plan with
  | none => s
  | some p =>
    match stripeOf e p.serial with
    | none => State.setEng s c { e with plan := none }
    | some r =>
      if 0 < p.waitLeft then planWaitLeft s c k p r
      else if startDue r p then planStart s c k p r
      else
        match nextTick r p.item with
        | none => State.setEng s c (finishStripe e r (nextStart e k))
        | some i =>
          match r.items[i]? with
          | some (.jump x y z v) => planJump s c k p r i x y z v
          | some (.waitTicks n) => planWait s c k p r i n
          | some _ => planMark s c k p r i
          | none => s

/-- Whether the committed path covers tick `k`, or nothing more can be planned now. -/
def filled (e : Engine) (k : Nat) : Bool :=
  decide ((k : Rat) < lastEnd e) || e.plan.isNone || e.stopRun.isSome || e.why == .field || (e.motion == .hold && e.why != .plume && e.why != .none)

/-- BTICK of the last start of a channel. -/
def startOf (s : State) (c : Nat) : Nat := (State.rCat s (D.iCHS + c) D.CHS_START_BTICK).toNat

/-- The path of a newly started channel may not reach tick `k` yet (R130, R258): its first set-point is that of the first head frame, which leaves 65 ticks
after the start; a head on an XY port has no such frame. -/
def early (s : State) (c k : Nat) : Bool :=
  State.chOf s c == .started && !s.cat.stopping.contains c && !State.legacy s c && decide (State.btickOf s k < startOf s c + 65 + State.delayOf s c)

/-- Plan until tick `k` is covered, or the engine holds, by fuel; a plume hold is checked once a tick. -/
def fill : Nat → Nat → Nat → State → State
  | 0, _, _, s => s
  | n + 1, c, k, s =>
    if filled (State.engOf s c) k || early s c k then s
    else
      let s' := planStep s c k
      let e := State.engOf s' c
      if e.why == .plume then s' else fill n c k s'

/-- The phase a tick's set-point belongs to. -/
def phaseFor (e : Engine) (k : Nat) : Option Phase :=
  (Geo.phaseAt e.timeline (k : Rat)).filter fun p => decide ((k : Rat) < Geo.phaseEnd p)

/-- A set-point of the commit pipeline at a plate position (R147, R162); a clamp of head units is fatal to the channel (R166); `rep`: it repeats
the one before (R158). -/
def makeSlot (s : State) (c k : Nat) (pos : Pt) (ph : Option Phase) (rep : Bool) : State :=
  let e := State.engOf s c
  let h := toHu s c pos
  let kind := (ph.map fun p => p.kind).getD .hold
  let par := (ph.map fun p => p.par).getD (State.parOf s 0)
  let serial := (ph.map fun p => p.serial).getD 0
  let ctx := ((stripeOf e serial).map fun r => r.ctx).getD 255
  let slot : Slot := ⟨k, pos, h.1, kind, (ph.map fun p => Geo.phasePower p (k : Rat)).getD 0, par, (ph.map fun p => p.item).getD 0, serial, ctx,
    0x8000, 0, none, 0x8000, false, e.plumeHeld, 0, rep⟩
  let s := State.setEng s c { e with slots := e.slots ++ [slot] }
  if h.2 then event (State.modEng s c fun e => { e with force := true }) c 5 else s

/-- The distance that the deceleration profile of a stop covers in a part of a tick. -/
def stopDist (r : StopRun) (t : Rat) : Rat := if r.a * t ≤ r.v then r.v * t - r.a * t * t / 2 else if r.a = 0 then 0 else r.v * r.v / (2 * r.a)

/-- The speed of the deceleration profile of a stop in a tick. -/
def stopSpeed (r : StopRun) (t : Rat) : Rat := if r.a * t ≤ r.v then r.v - r.a * t else 0

/-- The speed of a path at an instant. -/
def ownSpeed (l : List Phase) (t : Rat) : Rat := match Geo.phaseAt l t with | some p => Geo.phaseSpeed p t | none => 0

/-- Where a stop stands on its path at `t` of a tick, from `kappa` at `t0` on: at the path's own speed, or by the profile. -/
def stopOwn (rest kappa t0 t : Rat) : Rat := min (kappa + (t - t0)) rest

/-- Where a stop stands on its path by the profile alone. -/
def stopProf (l : List Phase) (r : StopRun) (rest kappa t0 t : Rat) : Rat :=
  let d := stopDist r t - stopDist r t0
  let own := max kappa rest
  if Geo.pathDist l kappa own ≤ d then own else Geo.pathAt l kappa d 48 kappa own

/-- The part of a tick at which a condition that fails at `lo` first holds, by halving. -/
def turnAt (f : Rat → Bool) : Nat → Rat → Rat → Rat
  | 0, _, hi => hi
  | n + 1, lo, hi => let m := (lo + hi) / 2; if f m then turnAt f n lo m else turnAt f n m hi

/-- Where a stop stands on its path at the end of a tick (R156): at each instant its speed is the lower of the path's own and the profile's, by at most `n` turns
from one to the other. -/
def stopGo (l : List Phase) (r : StopRun) (rest : Rat) : Nat → Bool → Rat → Rat → Rat
  | 0, _, kappa, _ => kappa
  | n + 1, prof, kappa, t0 =>
    let at_ := fun t => if prof then stopProf l r rest kappa t0 t else stopOwn rest kappa t0 t
    let turned := fun t =>
      let k := at_ t
      decide (k < rest) && (if prof then decide (ownSpeed l k < stopSpeed r t) else decide (stopSpeed r t < ownSpeed l k))
    if turned 1 then let t := turnAt turned 24 t0 1; stopGo l r rest n (!prof) (at_ t) t else at_ 1

/-- One set-point of a stop along the path (R156): it comes to rest where the profile ends or where the path is first at rest. A phase that the stop reaches
begins in this tick (R211). -/
def stopSlot (s : State) (c : Nat) (r : StopRun) : State :=
  let e := State.engOf s c
  let rest := Geo.restAfter r.kappa e.timeline
  let own := ownSpeed e.timeline r.kappa
  let prof := if own = r.v then decide (stopDist r 1 ≤ Geo.pathDist e.timeline r.kappa (min (r.kappa + 1) rest)) else decide (r.v < own)
  let k1 := stopGo e.timeline r rest 4 prof r.kappa 0
  let met := (e.timeline.filter fun p => decide (r.kappa < p.start) && decide (p.start ≤ k1)).map fun p => { p with start := (r.k : Rat) }
  let s := State.modEng s c fun e => { e with trail := e.trail ++ met }
  let pos := match Geo.phaseAt e.timeline k1 with | some p => Geo.phasePos p k1 | none => e.pos
  let v1 := if r.a ≤ r.v then r.v - r.a else 0
  let s := makeSlot s c r.k pos none false
  let e := State.engOf s c
  if v1 ≤ 0 ∨ rest ≤ k1 then
    State.setEng s c { e with stopRun := none, restAt := r.k, pos := pos, timeline := [] }
  else State.setEng s c { e with stopRun := some { r with k := r.k + 1, kappa := k1, v := v1 } }

/-- The set-points of a stop up to tick `k`, by fuel. -/
def stopFill : Nat → Nat → Nat → State → State
  | 0, _, _, s => s
  | n + 1, c, k, s =>
    match (State.engOf s c).stopRun with
    | some r => if r.k ≤ k then stopFill n c k (stopSlot s c r) else s
    | none => s

/-- Commit the set-point for tick `k` on a channel that moves or is started (R16, R146). -/
def commit (s : State) (c k : Nat) : State :=
  let e := State.engOf s c
  match e.stopRun with
  | some _ => stopFill (horizon + 1) c k s
  | none =>
    if e.slots.any fun d => d.k == k then s
    else
      match phaseFor e k with
      | some p => makeSlot s c k (Geo.phasePos p (k : Rat)) (some p) (p.kind == .hold)
      | none => makeSlot s c k (endPos e) none true

/-- Commit every set-point up to tick `k` that is not committed yet (R277): a channel without a path repeats the position it holds. -/
def commitTo (s : State) (c k : Nat) : State :=
  let first := match (State.engOf s c).slots.getLast? with | some d => max s.tick (d.k + 1) | none => s.tick
  (Arith.rangeFrom first (k + 1 - first)).foldl (fun s j => commit s c j) s

/-- Whether the gate is on at a 4 ns point: the last edge at or before it is a gate-on edge (R151). -/
def gateAt (e : Engine) (at4 : Nat) : Bool :=
  match ((e.edges.filter fun d => decide (d.at4 ≤ at4)).foldl (fun (b : Option Edge) d =>
      match b with | some x => if x.at4 ≤ d.at4 then some d else some x | none => some d) none) with
  | some d => d.on
  | none => false

/-- Whether the last set-point of a stripe lies before an instant (R106). -/
def isOver (r : StripeRun) (t : Rat) : Bool := (r.kLast.map fun l => decide ((l : Rat) < t)).getD false

/-- The resume point where no phase of a stripe in hand stands: the beginning of the first stripe that is not over. -/
def resumeNext (e : Engine) (t : Rat) : Option (Nat × Nat × Option Pt × Nat) :=
  (e.stripes.find? fun r => !isOver r t).map fun r => (r.serial, r.fromItem, r.pr, r.waitLeft)

/-- The resume point in a phase of a stripe in hand: P_r of a mark that was interrupted before stays while its gate has not come on again. -/
def resumeIn (e : Engine) (at4 : Nat) (t : Rat) (p : Phase) (r : StripeRun) : Option (Nat × Nat × Option Pt × Nat) :=
  let next := (nextTick r (p.item + 1)).getD r.items.length
  let kept := if p.item = r.fromItem then r.pr else none
  let offDone := e.edges.any fun d => d.serial == p.serial && !d.on && d.item == p.item && decide (d.at4 ≤ at4)
  match p.kind with
  | .mark =>
    if gateAt e at4 then some (p.serial, p.item, some (Geo.phasePos p t), 0)
    else if offDone then some (p.serial, next, none, 0)
    else some (p.serial, p.item, if p.p0 = segStart r p.item then none else some p.p0, 0)
  | .runUp => some (p.serial, p.item, kept, 0)
  | .wait => some (p.serial, next, none, (Arith.ratCeil (Geo.phaseEnd p - t)).toNat)
  | .jump => some (p.serial, p.item, kept, 0)
  | .jumpSettle => if markAt r p.item then some (p.serial, p.item, kept, 0) else some (p.serial, next, none, 0)
  | .corner => some (p.serial, next, none, 0)
  | .runOut => some (p.serial, next, none, 0)
  | .markSettle => some (p.serial, next, none, 0)
  | .stop => resumeNext e t
  | .hold => resumeNext e t

/-- What a stop at a gate-off point leaves of the stripes in hand (R156, R157, R191): the serial number, the resume segment, P_r, the wait not yet spent. -/
def resumePoint (e : Engine) (at4 : Nat) : Option (Nat × Nat × Option Pt × Nat) :=
  let t : Rat := (at4 : Rat) / 125
  match Geo.phaseAt e.timeline t with
  | none => resumeNext e t
  | some p =>
    match stripeOf e p.serial with
    | none => resumeNext e t
    | some r => if isOver r t then resumeNext e t else resumeIn e at4 t p r

/-- Take back what was planned beyond the last set-point sent: a stripe of which none was sent is not begun, and one whose last was not is not over. -/
def unplan (e : Engine) (sent : Nat) : Engine :=
  { e with
    stripes := e.stripes.map fun r =>
      { r with kFirst := r.kFirst.filter fun k => decide (k ≤ sent), kLast := r.kLast.filter fun k => decide (k ≤ sent) }
    paces := e.paces.take (e.paces.length - e.stripes.countP fun r => (r.kLast.map fun k => decide (sent < k)).getD false) }

/-- The gate edges before a 4 ns point, and a gate-off there when the gate is on (R152, R156). -/
def cutEdges (e : Engine) (at4 : Nat) : List Edge :=
  let l := e.edges.filter fun d => decide (d.at4 < at4)
  if gateAt { e with edges := l } at4 then
    match l.getLast? with
    | some d => l ++ [⟨at4, false, d.serial, d.item⟩]
    | none => l
  else l

/-- The entries that say where a channel stopped (R169): the resume point in pu, and a BTICK. -/
def stopRegs (s : State) (c : Nat) (p : Pt) (b : Nat) : State :=
  let w := fun s sub v => State.wTrj s (D.iTRJ + c) sub v
  w (w (w s D.TRJ_STOP_X (Arith.divRound p.x 256)) D.TRJ_STOP_Y (Arith.divRound p.y 256)) D.TRJ_STOP_BTICK (b : Int)

/-- The resume point of a stop is recorded in the tick in which the gate goes off (R156, R192). -/
def recordStop (c : Nat) (s : State) : State :=
  match (State.engOf s c).stopDue with
  | some d => if d.2.1 ≤ s.tick then stopRegs (State.modEng s c fun e => { e with stopDue := none }) c d.1 d.2.2 else s
  | none => s

/-- The committed marks that a stop at an instant interrupts stay committed until they are finished, the one in progress from the point reached (R184). -/
def heldMarks (e : Engine) (t : Rat) (pr : Pt) : List CMark :=
  (e.cmarks.filter fun m => decide (t < m.t2)).map fun m =>
    { m with p0 := if m.t1 < t then pr else m.p0, t1 := (2 ^ 80 : Nat), t2 := (2 ^ 80 : Nat) }

/-- Bring an engine to rest along its path (R156): cause tick `c0`, gate-off instant `at4`. Set-points already sent stand, and the deceleration begins
at the first tick not yet sent; an SP1 source gets an override block (R285), and the command of an analog source is 0 with the gate off (R292). The
resume point is the commanded position at the 4 ns point `prAt`. -/
def stopAt (s : State) (c c0 at4 prAt : Nat) (why : HoldWhy) : State :=
  let e := State.engOf s c
  let sent := c0 + State.delayOf s c
  let t0 : Rat := ((sent + 1 : Nat) : Rat)
  let here := Geo.phaseAt e.timeline t0
  let v := match here with | some p => Geo.phaseSpeed p t0 | none => 0
  let a := match here with | some p => accelIn s c p.par.jumpAccel | none => 0
  let t : Rat := (prAt : Rat) / 125
  let pr := match Geo.phaseAt e.timeline t with | some p => Geo.phasePos p t | none => e.pos
  let res := resumePoint e prAt
  let restNow := match here with | some p => Geo.phasePos p t0 | none => e.pos
  let cm := heldMarks e t pr
  let cleared := cm.map fun m => (m.serial, m.item)
  let e := { e with
    slots := (e.slots.filter fun d => decide (d.k ≤ sent)).map fun d =>
      if State.analog s c ∧ at4 ≤ 125 * d.k then { d with power := d.power.map fun _ => 0 } else d
    edges := cutEdges e at4
    cmarks := cm
    due := e.due.filter fun d => decide (d.1 ≤ max c0 (prAt / 125))
    stripes := e.stripes.map fun r => { r with cleared := r.cleared ++ (cleared.filter fun m => m.1 == r.serial).map fun m => m.2 }
    blockFrom := some at4
    force := true
    resume := res
    plan := none
    motion := if e.motion = .rest then .rest else .stop
    why := why
    plumeHeld := false
    stopRun := if v = 0 then none else some ⟨sent + 2, t0, v, a⟩
    restAt := sent + 1
    pos := if v = 0 then restNow else e.pos
    timeline := if v = 0 then [] else e.timeline
    trail := e.timeline.filter fun p => decide (p.start ≤ (sent : Rat))
    stopDue := some (pr, at4 / 125, State.btickOf s (at4 / 125)) }
  let s := State.setEng s c (unplan e sent)
  let s := if v = 0 then s else makeSlot s c (sent + 1) restNow none false
  let s := if State.analog s c then s else State.modAtt s c fun a => { a with overrideAt := some (s.tick + 1, sent % 65536) }
  let s := recordStop c s
  stopFill (horizon + 1) c (s.tick + horizon) s

/-- A stop along the path whose resume point is where the gate went off (R156). -/
def stop (s : State) (c c0 at4 : Nat) (why : HoldWhy) : State := stopAt s c c0 at4 at4 why

/-- The engine is stopping, or holds after a stop (R158): a further cause adds no second stop profile. -/
def faultHeld (e : Engine) : Bool :=
  e.motion == .stop || e.why == .late || e.why == .headLate || e.why == .fault || e.why == .interlock

/-- A cause under R156 on an engine that a fault holds: the hold ends by the rule of the later cause when a late set-point or unit began it, and the engine goes
from HOLD through STOP to the state that R168 gives. -/
def holdAs (s : State) (c : Nat) (why : HoldWhy) : State :=
  State.modEng s c fun e => { e with
    why := if e.why = .late ∨ e.why = .headLate then why else e.why
    motion := if e.motion = .hold then .stop else e.motion
    restAt := if e.motion = .hold then s.tick + State.delayOf s c + 1 else e.restAt }

/-- A stop along the path for a cause of the present tick, with the gate off from a 4 ns point on (R156). -/
def stopFrom (s : State) (c at4 : Nat) (why : HoldWhy) : State :=
  if faultHeld (State.engOf s c) then holdAs s c why else stop s c s.tick at4 why

/-- A stop along the path for a fault action taken in the present tick (R156): the gate goes off at offset 0 of the next one. -/
def stopNow (s : State) (c : Nat) (why : HoldWhy) : State := stopFrom s c ((s.tick + 1) * 125) why

/-- A stop along the path whose resume point is the last set-point sent (R263). -/
def stopSent (s : State) (c : Nat) (why : HoldWhy) : State :=
  if faultHeld (State.engOf s c) then holdAs s c why
  else stopAt s c s.tick ((s.tick + 1) * 125) ((s.tick + State.delayOf s c) * 125) why

/-- The set-point of the tick whose frame must leave now is late (R159): the previous one is sent again, the gate goes off at its tick, later set-points
are discarded, and the engine holds at the last set-point sent for `wait` ticks. A stop or hold that is in force keeps the resume point where its gate went off,
and an engine at REST stays there (R168). -/
def late (s : State) (c wait : Nat) : State :=
  let e := State.engOf s c
  let k := s.tick + State.delayOf s c
  let run := e.lateRuns.getLast?.any fun r => r.2 == k - 1 || r.2 == k
  let s := State.incTrj s (D.iTRJ + c) D.TRJ_LATE_COUNT 1
  let t : Rat := ((k - 1 : Nat) : Rat)
  let pr := match Geo.phaseAt e.timeline t with | some p => Geo.phasePos p t | none => e.pos
  let held := faultHeld e
  let stays := (((e.slots.filter fun d => decide (d.k < k)).getLast?).map fun d => d.pos).getD e.pos
  let trail := if e.timeline.isEmpty then e.trail else e.timeline.filter fun p => decide (p.start ≤ t)
  let e := if held then { e with stopRun := none, restAt := min e.restAt k, pos := stays, timeline := [], trail := trail } else unplan { e with
    edges := cutEdges e (k * 125), due := e.due.filter fun d => decide (d.1 < k), cmarks := heldMarks e t pr, resume := resumePoint e ((k - 1) * 125), plan := none,
    stripes := e.stripes.map fun r => { r with
      cleared := r.cleared ++ (e.cmarks.filter fun m => m.serial == r.serial).map fun m => m.item }
    blockFrom := some (k * 125), force := true, motion := if e.motion = .rest then .rest else .hold, why := .late, plumeHeld := false, pos := pr
    timeline := [], trail := trail } (k - 1)
  let e := { e with
    slots := e.slots.filter fun d => decide (d.k < k), waitUntil := max e.waitUntil (s.tick + wait)
    lateRuns := if run then e.lateRuns.dropLast ++ (e.lateRuns.getLast?.map fun r => (r.1, k)).toList
      else (e.lateRuns.filter fun r => decide (s.tick ≤ r.2 + 256)) ++ [(k, k)] }
  let s := State.setEng s c e
  let s := if held || run then s else stopRegs s c pr (State.btickOf s k)
  if run then s else event s c 1

/-- Whether a stop has come to rest by the present tick (R168). -/
def stopped (s : State) (e : Engine) : Bool := e.motion == .stop && e.stopRun.isNone && decide (e.restAt ≤ s.tick)

/-- Resume a stripe on the same channel (R157): the plan starts again at the resume segment. -/
def resumeHere (s : State) (c : Nat) : State :=
  let e := State.engOf s c
  let e := match e.resume with
    | some (serial, item, pr, w) => modStripe e serial fun r => { r with kLast := none, fromItem := item, pr := pr, waitLeft := w }
    | none => e
  let back := (e.resume.bind fun x => stripeOf e x.1).map fun r => { planOf r with cur := e.pos, ps := 0 }
  let next := back.orElse fun _ => (unbegun e).map planOf
  State.setEng s c
    { e with plan := next, resume := none, motion := if next.isSome then .move else .rest, why := .none, force := false, blockFrom := none }

/-- Give a channel a stripe to run (R168): its plan starts at the stripe's first item, or at its resume segment. -/
def giveStripe (e : Engine) (r : StripeRun) : Engine :=
  let e := { e with stripes := e.stripes ++ [r], serial := e.serial + 1 }
  { e with plan := some (planOf r), motion := .move, why := .none, underrun := false }

/-- A stripe that a channel has begun is still to be finished: the channel holds it, or it waits for its resumption (R184). -/
def inHand (s : State) (c serial : Nat) : Bool :=
  (State.engOf s c).stripes.any (fun r => r.serial == serial) ||
    (List.range 96).any fun n => (State.ctxOf s n).replays.any fun r => r.ch == c && r.serial == serial

/-- Drop what has passed out of every stage's reach: old set-points, phases and edges; the last edge before them stays, for it says whether the gate is on
(R151). The engine is at REST once the path is over and no stripe was
supplied (R168). -/
def prune (s : State) (c : Nat) : State :=
  let e := State.engOf s c
  let old := s.tick - 200
  State.setEng s c { e with
    motion := if e.motion = .move && e.plan.isNone && decide (lastEnd e ≤ (s.tick : Rat)) then .rest else e.motion
    stripes := e.stripes.map fun r => { r with fired := firedBy e r (125 * s.tick) }
    slots := e.slots.filter fun d => decide (old ≤ d.k)
    timeline := if e.timeline.any (fun p => decide ((old : Rat) < p.start)) then e.timeline.filter fun p => decide ((old : Rat) ≤ Geo.phaseEnd p) else e.timeline
    edges := e.edges.filter fun d => decide ((((e.edges.map fun x => x.at4).filter fun a => decide (a ≤ old * 125)).foldl max 0) ≤ d.at4)
    trail := e.trail.filter fun p => decide ((old : Rat) ≤ Geo.phaseEnd p)
    cmarks := e.cmarks.filter fun m => decide ((s.tick : Rat) < m.t2) && (decide (m.t2 < (2 ^ 80 : Nat)) || inHand s c m.serial) }

end Eng

end Sys2Proof.Machine
end

