-- ==== Sys2Proof/Machine/Lending.lean ====
section
/-!
DEFINITION. Lending (07_lending_overlap.md): the reach map, live members, the pulling rule, balanced mode, fences, disables and the re-plan, and the end of
a channel's layer (03_job_model.md R88).
What the rules leave to the model: log entries 21 and 26.
-/
namespace Sys2Proof.Machine

namespace Lend

/-! ### Reach map -/

/-- Whether channel `c` reaches tile (i, j) (R173). -/
def reaches (s : State) (c i j : Nat) : Bool :=
  let m := State.rLnd s D.iLND D.LND_REACH_MARGIN
  let r := State.tileRect s i j
  decide (State.rLnd s (D.iLNDC + c) D.LNDC_REACH_ENABLE = 1) &&
    [(r.1 - m, r.2.1 - m), (r.2.2.1 + m, r.2.1 - m), (r.1 - m, r.2.2.2 + m), (r.2.2.1 + m, r.2.2.2 + m)].all fun q => fieldOk s c (Geo.ptOf q.1 q.2 0)

/-- How far the tile centre lies from the field centre of a channel: max(|u|, |v|) (R174). -/
def centreDist (s : State) (c i j : Nat) : Nat :=
  let r := State.tileRect s i j
  let uv := regUv s c ⟨128 * (r.1 + r.2.2.1), 128 * (r.2.1 + r.2.2.2), 0⟩
  max uv.1.natAbs uv.2.natAbs

/-- Put a channel with its distance into a list ascending by distance, ties to the lower channel. -/
def insertBy (c : Nat × Nat) : List (Nat × Nat) → List (Nat × Nat)
  | [] => [c]
  | d :: l => if c.1 < d.1 then c :: d :: l else d :: insertBy c l

/-- The channels a tile lists (R174): at most four, the nearest by centre, ascending; and whether more reach it. -/
def tileList (s : State) (i j : Nat) : List Nat × Bool :=
  let all := (List.range 24).filter fun c => reaches s c i j
  if all.length ≤ 4 then (all, false)
  else
    let near := (all.foldl (fun l c => insertBy (centreDist s c i j, c) l) []).take 4
    (all.filter fun c => near.any fun d => d.2 == c, true)

/-- The tiles of the grid in order. -/
def tiles (s : State) : List (Nat × Nat) :=
  (List.range (State.tilesY s)).flatMap fun j => (List.range (State.tilesX s)).map fun i => (i, j)

/-- The number of a tile (R198). -/
def tileNo (s : State) (i j : Nat) : Nat := j * State.tilesX s + i

/-- The channels that reach a tile under the map in force. -/
def reachOf (s : State) (i j : Nat) : List Nat := Tab.get (fun _ => []) s.lnd.reach (tileNo s i j)

/-- A reach-map computation begins (R175). -/
def reachStart (s : State) : State := { s with lnd := { s.lnd with computing := true } }

/-- The overlap word of a channel under a map (R176). -/
def overlapWord (reach : Tab (List Nat)) (c : Nat) : Nat :=
  ((List.range 24).filter fun m => m != c && reach.any fun t => t.2.contains c && t.2.contains m).foldl (fun w m => w + 2 ^ m) 0

/-- A reach-map computation ends (R174, R175, R176): the map and LND_OVERLAP take effect; crowded and unreached tiles are reported once. -/
def reachDone (s : State) : State :=
  if s.lnd.computing then
    let ls := (tiles s).map fun t => (t, tileList s t.1 t.2)
    let reach : Tab (List Nat) := (ls.filter fun t => !t.2.1.isEmpty).map fun t => (tileNo s t.1.1 t.1.2, t.2.1)
    let s := { s with lnd := { s.lnd with reach := reach, computing := false } }
    let s := State.forAll (fun c s => State.wLnd s (D.iLNDC + c) D.LNDC_OVERLAP ((overlapWord reach c : Nat) : Int)) (List.range 24) s
    let addr := fun t : (Nat × Nat) => t.1 % 65536 + 65536 * (t.2 % 65536)
    let s := match ls.find? fun t => t.2.2 with | some t => State.raise s 0xF8 7 (addr t.1) | none => s
    match ls.find? fun t => t.2.1.isEmpty with | some t => State.raise s 0xF8 6 (addr t.1) | none => s
  else s

/-! ### Live members -/

/-- Whether a channel counts as a live member now (R99, R197): neither disabled nor fenced, and not barred until the boundary. -/
def alive (s : State) (c : Nat) : Bool := State.chOf s c != .disabled && State.chOf s c != .fenced && !s.lnd.barred.contains c

/-- LIVE_MEMBERS of a shared context: its members less those that are not live (R99). -/
def liveWord (n : Nat) (s : State) : State :=
  State.wCtx s (D.iCTX + n) D.CTX_LIVE_MEMBERS ((State.memberWord ((State.members s n).filter (alive s)) : Nat) : Int)

/-- Recompute LIVE_MEMBERS of a shared context (R99, R122): PARKED when it becomes empty, with NO_MEMBER where `loud`, ENABLED again when a member is live. -/
def refreshAs (loud : Bool) (n : Nat) (s : State) : State :=
  let ms := (State.members s n).filter (alive s)
  let s := liveWord n s
  match (State.ctxOf s n).mode with
  | .enabled => if ms.isEmpty then State.raiseIf (State.setCtxMode s n .parked) loud 0xF8 4 n else s
  | .disabling => if ms.isEmpty then State.raiseIf (State.setCtxMode s n .parked) loud 0xF8 4 n else s
  | .parked =>
    if !ms.isEmpty && Arith.bit (State.ctxReg s n D.CTX_CTRL) 0 && !(State.ctxOf s n).fenced then State.setCtxMode s n .enabled else s
  | .disabled => s

/-- Recompute LIVE_MEMBERS of a shared context, NO_MEMBER being raised. -/
def refreshLive (n : Nat) (s : State) : State := refreshAs true n s

/-- Recompute LIVE_MEMBERS of every shared context that a channel is a member of. -/
def refreshShared (c : Nat) (s : State) : State := State.forAll refreshLive (State.sharedOf s c) s

/-! ### Fences and disables (R156, R190, R527) -/

/-- Whether a channel holds a stripe in flight (R106, R527). -/
def holdsStripe (s : State) (c : Nat) : Bool := !(State.engOf s c).stripes.isEmpty

/-- The private context of a channel that is disabled or fenced becomes PARKED (R122). -/
def parkPrivate (s : State) (c : Nat) : State :=
  match (State.ctxOf s c).mode with
  | .enabled => State.setCtxMode s c .parked
  | .disabling => State.setCtxMode s c .parked
  | _ => s

/-- A fence of a channel is raised (R190, R431): its gate goes off and it waits to be taken in. -/
def raiseFence (s : State) (c : Nat) : State :=
  if State.chOf s c == .fenced || s.lnd.fences.contains c then s else { s with lnd := { s.lnd with fences := s.lnd.fences ++ [c] } }

/-- The sources whose fence takes channel `c` out of service (R432): its own and its lanes'. -/
def sources (c : Nat) : List Nat := [0x80 + c, 0xA0 + c, 0xB8 + c]

/-- A source that fenced channel `c` still holds status (R143, R432). -/
def fenceHeld (s : State) (c : Nat) : Bool := (sources c).any fun k => (State.srcOf s k).fenced && State.holdsStatus s k

/-- A channel is out of the shared contexts until the next layer boundary (R197). -/
def bar (s : State) (c : Nat) : State :=
  { s with lnd := { s.lnd with barred := if s.lnd.barred.contains c then s.lnd.barred else s.lnd.barred ++ [c] } }

/-- The re-plan of a channel begins, or waits for the one that runs (R192, R196). -/
def beginReplan (r : Replan) (s : State) : State :=
  if s.lnd.active.isSome then { s with lnd := { s.lnd with queued := s.lnd.queued ++ [r] } } else { s with lnd := { s.lnd with active := some r } }

/-- A disable of a channel (R143, R156, R527): CHS_ENABLE applied as 0. With a stripe in flight it runs the re-plan of a fence, the present tick being its
tick F, and the channel is DISABLED at F + 2. -/
def disable (s : State) (c : Nat) : State :=
  let s := State.wCat s (D.iCHS + c) D.CHS_ENABLE 0
  match State.chOf s c with
  | .disabled => s
  | .fenced =>
    if fenceHeld s c then s
    else State.setCh (State.forAll (fun k s => State.modSrc s k fun f => { f with fenced := false }) (sources c) s) c .disabled
  | _ =>
    if Eng.leaving s c then s
    else
      let held := holdsStripe s c
      let s := Eng.stopNow s c .fault
      if held then beginReplan ⟨c, s.tick, false⟩ s else refreshShared c (bar (parkPrivate (State.setCh s c .disabled) c) c)

/-- Lending takes a fence in at tick F (R192): the engine stops; a second one is queued behind the re-plan that runs (R196). -/
def takeIn (c : Nat) (s : State) : State :=
  beginReplan ⟨c, s.tick, true⟩ (State.raiseIf (Eng.stopNow s c .fault) s.lnd.active.isSome 0xF8 2 c)

/-! ### The pointers (R105) -/

/-- The engines drop what they hold of the stripes of a context whose queue is discarded (R105, R119). -/
def dropStripes (n : Nat) (s : State) : State :=
  State.forAll (fun c s =>
    let e := State.engOf s c
    let gone := (e.stripes.filter fun r => r.ctx == n).map fun r => r.serial
    if gone.isEmpty then s
    else State.setEng s c { e with
      stripes := e.stripes.filter fun r => r.ctx != n
      due := e.due.filter fun d => d.2.1 != n
      plan := e.plan.filter fun p => !gone.contains p.serial
      resume := e.resume.filter fun x => !gone.contains x.1 }) (List.range 24) s

/-- The channels executing a stripe of the context (R105). -/
def runners (s : State) (n : Nat) : List Nat := (((State.ctxOf s n).flights.filter fun f => !f.acked && !f.waiting).map fun f => f.ch).eraseDups

/-- The number of replay entries not yet taken (R198). -/
def countReplays (s : State) : State :=
  State.wLnd s D.iLND D.LND_REPLAYS_OPEN ((((Arith.rangeFrom 24 72).map fun n => (State.ctxOf s n).replays.length).sum : Nat) : Int)

/-- A context holds no parked stripe or replay entry any more (R198). -/
def noReplays (n : Nat) (s : State) : State := if n < 24 then State.wLnd s (D.iLNDC + n) D.LNDC_PARKED 0 else countReplays s

/-- The queue is reset (R105): PTR_MISMATCH, its channels disabled, everything discarded, the context DISABLED. -/
def ptrReset (s : State) (n : Nat) (what : Nat × Nat) : State :=
  let s := State.raise s n 1 (what.1 + 256 * what.2)
  let on := runners s n
  let s := State.forAll (fun c s => disable s c) on (dropStripes n s)
  let s := State.setCtxMode s n .disabled
  let s := State.modCtx s n fun c => { Ctx.init with
    episodes := c.episodes
    headUntil := c.headUntil
    noticeTick := c.noticeTick
    noticeOwed := c.noticeOwed
    dmaTail := c.dmaTail
    dmaStopped := c.dmaStopped
    dmaDone := c.dmaDone }
  let w := fun sub s => State.wCtx s (D.iCTX + n) sub 0
  let s := w D.CTX_PROD_POS (w D.CTX_WP (w D.CTX_VP (w D.CTX_RP (w D.CTX_RM (w D.CTX_ITEMS_IN (w D.CTX_ITEMS_OUT (w D.CTX_ITEMS_WD s)))))))
  let s := noReplays n (State.wCtx s (D.iCTX + n) D.CTX_STAGED_LAYER 0xFFFFFFFF)
  let s := State.wCtx s (D.iCTX + n) D.CTX_CTRL ((Arith.setBit (State.ctxReg s n D.CTX_CTRL) 0 false : Nat) : Int)
  State.restage (State.setFlag (State.setFlag s n 3) n 0) n

/-- Compare the pointer copies and check the invariant of R104, after each update (R105). -/
def ptrCheck (n : Nat) (s : State) : State :=
  match State.ptrFault s n with
  | some w => ptrReset s n w
  | none => s

/-! ### Queued layers (R85) -/

/-- A layer is queued: it is open, or a context holds an unread LAYER_BEGIN of it, is part-way through it, or writes it. -/
def queued (s : State) (l : Nat) : Bool :=
  (State.layerOpen s && State.layerNo s == l) || s.ctx.tab.any fun x =>
    x.2.readLayer == some l || x.2.parkedLayer == some l || (x.2.wlayer.map fun w => w.layer == l).getD false ||
      (State.unread s x.1).any fun q => match q.item with | .layerBegin m .. => m == l | _ => false

/-- The device keeps claims and incomplete tiles for queued layers (R85, R97, R195): those of other layers go. -/
def forget (s : State) : State :=
  let ns := (s.ctx.tab.filter fun x => !x.2.claims.isEmpty).map fun x => x.1
  let ls := (((s.lnd.incomplete ++ s.ctx.tab.flatMap fun x => x.2.claims).map fun t => t.1).eraseDups).filter (queued s)
  let s := { s with lnd := { s.lnd with incomplete := s.lnd.incomplete.filter fun t => ls.contains t.1 } }
  State.forAll (fun n s => State.modCtx s n fun c => { c with claims := c.claims.filter fun t => ls.contains t.1 }) ns s

/-! ### What a context offers -/

/-- The next stripe of layer `n0` at the read pointer (R179): the items before it outside a stripe, and its own items. -/
def offerGo (n0 : Nat) : List QItem → List QItem → Option Nat → Option (List QItem × List QItem)
  | [], _, _ => none
  | q :: rest, pre, lay =>
    match q.item with
    | .layerBegin l _ _ _ _ _ _ _ _ _ => if l = n0 then offerGo n0 rest (pre ++ [q]) (some l) else none
    | .layerEnd _ _ _ => none
    | .stripeBegin .. =>
      if lay = some n0 then
        let body := rest.takeWhile fun x => match x.item with | .stripeEnd .. => false | _ => true
        match rest.drop body.length with
        | e :: _ => some (pre, q :: body ++ [e])
        | [] => none
      else none
    | _ => offerGo n0 rest (pre ++ [q]) lay

/-- The next unbegun visible stripe of layer `n0` in context `n`. -/
def offer (s : State) (n n0 : Nat) : Option (List QItem × List QItem) := offerGo n0 (State.unread s n) [] (State.ctxOf s n).readLayer

/-- The LAYER_END of layer `n0` stands next, with no stripe before it (R88): the items through it. A declared-empty layer counts as one (R88). -/
def endNext (s : State) (n n0 : Nat) : Option (List QItem) :=
  let c := State.ctxOf s n
  let u := State.unread s n
  let pre := u.takeWhile fun q => match q.item with | .layerEnd .. => false | .stripeBegin .. => false | _ => true
  match u.drop pre.length with
  | q :: _ =>
    match q.item with
    | .layerEnd l _ _ => if l = n0 then some (pre ++ [q]) else if c.declared.contains n0 then some [] else none
    | _ => if c.declared.contains n0 then some [] else none
  | [] => if c.declared.contains n0 then some [] else none

/-- The layer a private context holds next when it is another than `n0` (R130, R145, R526): one it is part-way through, or the next one in it. -/
def otherLayer (s : State) (n n0 : Nat) : Option Nat :=
  let c := State.ctxOf s n
  if c.declared.contains n0 || c.readLayer == some n0 || c.parkedLayer == some n0 then none
  else
    match c.parkedLayer.or (c.readLayer.or (State.nextLayer s n)) with
    | some l => if l = n0 then none else some l
    | none =>
      match c.declared.head? with
      | some l => if l = n0 then none else some l
      | none => none

/-- A stored item of layer `n0` that nothing has consumed yet, its LAYER_END included (R121). -/
def holdsUnread (s : State) (n n0 : Nat) : Bool :=
  (State.ctxOf s n).readLayer == some n0 || State.nextLayer s n == some n0 || (State.ctxOf s n).declared.contains n0 ||
    (State.ctxOf s n).flights.any fun f => f.waiting

/-- LAYER_END of layer `n0` is stored in context `n`, or the layer is declared empty (R88). -/
def endStored (s : State) (n n0 : Nat) : Bool :=
  (State.ctxOf s n).declared.contains n0 || (State.ctxOf s n).doneLayer == some n0 ||
    (State.ctxOf s n).items.any fun q => match q.item with | .layerEnd l _ _ => decide (l = n0) | _ => false

/-- A shared context holds layer `n0` open for its live members (R88, R121). -/
def sharedOpen (s : State) (c n n0 : Nat) : Bool :=
  (State.ctxOf s n).mode == .enabled && (State.liveMembers s n).contains c && !endStored s n n0 &&
    !((State.nextLayer s n).map fun l => decide (n0 < l)).getD false

/-- A private context holds the layer open for its channel (R121). -/
def privOpen (s : State) (c n0 : Nat) : Bool :=
  !endStored s c n0 || ((State.ctxOf s c).mode != .enabled && holdsUnread s c n0)

/-- The context list L of a channel (R179). -/
def contexts (s : State) (c : Nat) : List Nat :=
  c :: (Arith.rangeFrom 24 72).filter fun n => (State.ctxOf s n).mode == .enabled && (State.liveMembers s n).contains c

/-- The weight of a context for a channel (R179). -/
def weight (s : State) (c n : Nat) : Nat :=
  if n = c then (State.rLnd s (D.iLNDC + c) D.LNDC_PRIV_WEIGHT).toNat else (State.rLnd s D.iLND (0x20 + (n - 24))).toNat

/-- The counter s(c) (R179). -/
def counter (s : State) (c n : Nat) : Nat := Tab.get (fun _ => 0) s.lnd.counters (96 * c + n)

/-! ### Measurements (R183) -/

/-- Units of stripes in a list of items, each from its STRIPE_BEGIN through its STRIPE_END. -/
def stripeUnits (inside : Bool) : List QItem → Nat
  | [] => 0
  | q :: rest =>
    match q.item with
    | .stripeBegin .. => q.units + stripeUnits true rest
    | .stripeEnd .. => q.units + stripeUnits false rest
    | _ => (if inside then q.units else 0) + stripeUnits inside rest

/-- Units of the stripes of layer `n0` still unbegun in a channel's private context (R183). -/
def remain (s : State) (c n0 : Nat) : Nat :=
  let c0 := State.ctxOf s c
  if c0.readLayer == some n0 || State.nextLayer s c == some n0 then
    stripeUnits false ((State.unread s c).takeWhile fun q => match q.item with | .layerEnd .. => false | _ => true)
  else 0

/-- PACE of a channel. -/
def pace (s : State) (c : Nat) : Nat :=
  let l := (State.engOf s c).paces
  if l.isEmpty then 0 else l.sum / l.length

/-- ETA of a channel in ticks. -/
def eta (s : State) (c : Nat) : Nat := remain s c (State.layerNo s) * pace s c / 65536

/-- LAG of a channel (R183). -/
def lag (s : State) (c : Nat) : Nat := eta s c - ((State.startedSet s).map (eta s)).foldl min (eta s c)

/-! ### Choosing (R180, R182) -/

/-- The key of a candidate: (s + 1) / w compared exactly, ties by place in the rotated list. -/
def better (s : State) (c r : Nat) (l : List Nat) (a b : Nat) : Bool :=
  let fa := (counter s c a + 1) * weight s c b
  let fb := (counter s c b + 1) * weight s c a
  let pos := fun x => ((l.idxOf x) + l.length - r) % l.length
  decide (fa < fb) || (decide (fa = fb) && decide (pos a < pos b))

/-- The context with the least key. -/
def choose (s : State) (c r : Nat) (l : List Nat) : List Nat → Option Nat
  | [] => none
  | a :: rest =>
    match choose s c r l rest with
    | none => some a
    | some b => if better s c r l b a then some b else some a

/-- BALANCE_FILTER (R182). -/
def balance (s : State) (c : Nat) (l : List Nat) : List Nat :=
  let keep := l.filter fun n => n = c || (State.liveMembers s n).all fun m => m = c || State.chOf s m != .started || decide (eta s c ≤ eta s m)
  if keep.isEmpty && !l.contains c then l else keep

/-- The oldest replay entry of the contexts of L (R180, R194). -/
def oldestReplay (s : State) (l : List Nat) : Option (Nat × Resume) :=
  let all := l.flatMap fun n => if n < 24 then [] else (State.ctxOf s n).replays.map fun r => (n, r)
  all.foldl (fun b x => match b with
    | none => some x
    | some y => if x.2.tick < y.2.tick || (x.2.tick == y.2.tick && !x.2.second && y.2.second) then some x else some y) none

/-- The items of a stored stripe, from its STRIPE_BEGIN through its STRIPE_END. -/
def stripeItems (s : State) (n start : Nat) : List QItem :=
  let from0 := (State.ctxOf s n).items.filter fun q => decide (start ≤ q.pos)
  let body := from0.takeWhile fun x => match x.item with | .stripeEnd .. => false | _ => true
  body ++ (from0.drop body.length).take 1

/-- The stripe a channel runs, made from its stored items (R79, R80). -/
def runOf (e : Engine) (n n0 now : Nat) (qs : List QItem) (from0 : Nat) (pr : Option Pt) (w taken : Nat) (cleared : List Nat) (replay : Bool) : Option StripeRun :=
  match qs with
  | q :: _ =>
    match q.item with
    | .stripeBegin _ _ id ps x y z =>
      let units := (qs.map fun q => q.units).sum
      some ⟨e.serial, n, q.pos, q.pos + 32 * units, id, units, qs.map fun q => q.item, ps, Geo.ptOf x y z, now, from0, pr, w, replay, n0, none, none, cleared, taken, false,
        if replay && 24 ≤ n then from0 else 0⟩
    | _ => none
  | [] => none

/-- A channel takes a stripe (R79, R106, R168): it is in flight from this tick. -/
def take (s : State) (c n : Nat) (r : StripeRun) : State :=
  let share := 2048 / max 1 (State.liveMembers s n).length
  let cur := max (min r.stop (r.start + share)) (State.ctxReg s n D.CTX_RM)
  let s := State.modCtx s n fun x =>
    { x with flights := (x.flights.filter fun f => f.start != r.start) ++ [⟨r.start, r.stop, r.id, c, cur, cur, false, false⟩] }
  let e := State.engOf s c
  let e := if e.posSet then e else { e with pos := fieldCentre s c, posSet := true }
  let s := State.setEng s c (Eng.giveStripe e r)
  State.incLnd s (D.iLNDC + c) D.LNDC_STRIPES 1

/-- Markers outside a stripe raise their notices in the tick of their consumption (R90); a LAYER_BEGIN re-establishes a mark that was dropped (R108). -/
def consumePre (s : State) (c n : Nat) (pre : List QItem) : State :=
  let s := pre.foldl (fun s q => match q.item with
    | .hostMarker v => State.markerNotice s n c v
    | .layerBegin l _ _ _ _ _ _ _ _ _ =>
      let s := if (State.ctxOf s n).rewindInvalid then State.setPtr s n D.CTX_RM (max (State.ctxReg s n D.CTX_RM) (min q.pos (State.cMin s n))) else s
      State.modCtx s n fun x => { x with readLayer := some l, rewindInvalid := false }
    | _ => s) s
  State.consume s n pre.length

/-- A channel begins the next unbegun stripe of a context (R180). -/
def beginStripe (s : State) (c n n0 : Nat) : State :=
  match offer s n n0 with
  | none => s
  | some (pre, body) =>
    match runOf (State.engOf s c) n n0 s.tick body 0 none 0 0 [] false with
    | none => s
    | some r =>
      let s := consumePre s c n pre
      let s := State.setPtr s n D.CTX_RP r.stop
      let s := take s c n r
      let s := { s with lnd := { s.lnd with counters := Tab.set (fun _ => 0) s.lnd.counters (96 * c + n) (counter s c n + 1) } }
      ptrCheck n (State.followMark (if n = c then s else State.incLnd s (D.iLNDC + c) D.LNDC_SHARED 1) n)

/-- Committed marks of a stripe that is resumed (R184, R194): on the channel that ran it they stay, under its new number; another channel checks them anew, and
they leave the committed path. -/
def moveMarks (s : State) (c : Nat) (r : Resume) : State :=
  if r.ch = c then
    State.modEng s c fun e => { e with cmarks := Arith.updWhere (fun m => m.serial == r.serial) (fun m => { m with serial := e.serial }) e.cmarks }
  else State.modEng s r.ch fun e => { e with cmarks := e.cmarks.filter fun m => m.serial != r.serial }

/-- A channel takes a replay entry, or a parked stripe of its own (R144, R194, R197). -/
def takeResume (s : State) (c n n0 : Nat) (r : Resume) : State :=
  match runOf (State.engOf s c) n n0 s.tick (stripeItems s n r.start) r.item r.pr r.waitLeft r.taken (if r.ch = c then r.cleared else []) true with
  | none => State.modCtx s n fun x => { x with replays := x.replays.filter fun y => y.start != r.start }
  | some run =>
    let s := moveMarks s c r
    let s := State.modCtx s n fun x => { x with replays := x.replays.filter fun y => y.start != r.start }
    let s := take s c n { run with fired := r.fired }
    let s := if n < 24 then
        State.modCtx (State.wLnd s (D.iLNDC + c) D.LNDC_PARKED (((State.ctxOf s n).replays.length : Nat) : Int)) n fun x =>
          { x with parkedLayer := if x.replays.isEmpty then none else x.parkedLayer }
      else State.incLnd s (D.iLNDC + c) D.LNDC_REPLAYS 1
    ptrCheck n (State.followMark (countReplays s) n)

/-! ### The end of a layer (R88, R121, R526) -/

/-- A shared context still holds an unstarted stripe of the layer or a replay entry (R88, R181). -/
def sharedLeft (s : State) (c n0 : Nat) : Bool :=
  (State.sharedOf s c).any fun n => (State.ctxOf s n).mode == .enabled && (State.liveMembers s n).contains c &&
    ((offer s n n0).isSome || !(State.ctxOf s n).replays.isEmpty)

/-- The last stripe of a channel has ended by the present tick (R88, R90): its path ends in it, and no gate edge is still to come. -/
def drained (s : State) (c : Nat) : Bool :=
  let e := State.engOf s c
  e.plan.isNone && decide (Eng.lastEnd e ≤ ((s.tick + 1 : Nat) : Rat)) && e.motion != .stop && !(e.edges.any fun d => decide (125 * (s.tick + 1) ≤ d.at4))

/-- Consume the LAYER_END of a context (R88): its items leave and its record of the layer is closed. -/
def consumeEnd (s : State) (c n n0 : Nat) (its : List QItem) : State :=
  let s := consumePre s c n its
  let s := match its.getLast? with
    | some q => State.setPtr s n D.CTX_RP (q.pos + 32 * q.units)
    | none => s
  let s := State.modCtx s n fun x => { x with readLayer := none, doneLayer := some n0, declared := x.declared.filter (· != n0), whole := x.whole.filter (· != n0), parkedLayer := none }
  ptrCheck n (State.advanceRm (forget s) n)

/-- A stripe of a context is complete: acknowledged, or the channel that runs it has executed its last set-point (R88, R106). -/
def complete (s : State) (n : Nat) (f : Flight) : Bool :=
  f.acked || (!f.waiting && (State.engOf s f.ch).stripes.any fun r =>
    r.ctx == n && r.start == f.start && (r.kLast.map fun k => decide (k ≤ s.tick)).getD false)

/-- Lending consumes the LAYER_END of a shared context whose last stripe of the layer is complete (R88): the layer it is part-way through, or the open one. -/
def closeShared (n : Nat) (s : State) : State :=
  let c := State.ctxOf s n
  match c.readLayer.or (if State.layerOpen s then some (State.layerNo s) else none) with
  | some l =>
    if c.mode == .enabled && c.flights.all (complete s n) && c.replays.isEmpty then
      match endNext s n l with
      | some its => if its.isEmpty && !c.declared.contains l then s else consumeEnd s 255 n l its
      | none => s
    else s
  | none => s

/-- A channel finishes its layer (R88, R143). -/
def finishLayer (s : State) (c n0 : Nat) (its : List QItem) : State :=
  let s := consumeEnd s c c n0 its
  let s := State.modEng (State.setCh s c .done) c fun e => if e.motion = .hold then { e with motion := .rest, why := .none } else e
  let s := State.wCat s (D.iCHS + c) D.CHS_END_BTICK (s.btick : Int)
  State.wCat s (D.iCHS + c) D.CHS_LAYERS (State.rCat s (D.iCHS + c) D.CHS_LAYERS + 1)

/-- A channel underruns (R121): once per episode its private context raises UNDERRUN and counts it. -/
def underrun (s : State) (c n0 : Nat) : State :=
  let e := State.engOf s c
  let s := State.setEng s c { e with underrun := true, why := .underrun, motion := Eng.held e }
  if e.underrun then s
  else State.raise (State.incCtx s (D.iCTX + c) D.CTX_UNDERRUNS 1) c 2 (c + 256 * (n0 % 2 ^ 24))

/-- A channel meets another layer in its private context (R130, R526). -/
def mismatch (s : State) (c l : Nat) : State :=
  let e := State.engOf s c
  let s := State.setEng s c { e with mismatch := true, why := .mismatch, motion := Eng.held e }
  if e.mismatch then s
  else State.raise (State.incCat s (D.iCHS + c) D.CHS_MISMATCHES 1) (0x80 + c) 0x3E l

/-- A channel shares a shared context with a channel being re-planned (R180, R192). -/
def frozen (s : State) (c : Nat) : Bool :=
  let fs := (s.lnd.active.map fun r => r.ch).toList ++ s.lnd.queued.map fun r => r.ch
  fs.any fun f => f != c && (State.sharedOf s f).any fun n => (State.members s n).contains c

/-- A decision is due on a channel: started, nothing planned, not stopped, not held by a mismatch (R178, R180). -/
def due (s : State) (c : Nat) : Bool :=
  let e := State.engOf s c
  State.chOf s c == .started && decide (State.rCat s (D.iCHS + c) D.CHS_START_BTICK < (s.btick : Int)) && e.plan.isNone && e.motion != .stop && e.stopRun.isNone && !e.mismatch && e.resume.isNone &&
    (e.why == .none || e.why == .underrun || e.why == .freeze) && s.dev.mode == .building && !s.cat.stopping.contains c

/-- DECIDE of R180 on a channel in the open layer. A channel that may take no stripe (R263, R264, R271, R275) still underruns or finishes its layer. -/
def decideStripe (s : State) (c : Nat) : State :=
  let n0 := State.layerNo s
  if frozen s c then
    let counted := (State.engOf s c).frozeAt == some s.tick
    let s := State.modEng s c fun e => { e with why := .freeze, frozeAt := some s.tick }
    if counted then s else State.incLnd s (D.iLNDC + c) D.LNDC_FREEZE_TICKS 1
  else
    match otherLayer s c n0 with
    | some l => mismatch s c l
    | none =>
      let l := contexts s c
      let own := if (State.ctxOf s c).mode == .enabled && (State.ctxOf s c).parkedLayer == some n0 then (State.ctxOf s c).replays.head? else none
      let may := State.mayTake s c
      match own with
      | some r => if may then takeResume s c c n0 r else s
      | none =>
        match oldestReplay s l with
        | some (n, r) => if may then takeResume s c n n0 r else s
        | none =>
          let cs := l.filter fun n => (State.ctxOf s n).mode == .enabled && (offer s n n0).isSome
          let cs := if decide (State.rLnd s D.iLND D.LND_MODE = 1) then balance s c cs else cs
          match choose s c (n0 % l.length) l cs with
          | some n => if may then beginStripe s c n n0 else s
          | none =>
            if privOpen s c n0 || (State.sharedOf s c).any (fun n => sharedOpen s c n n0) then underrun s c n0
            else if sharedLeft s c n0 then s
            else if drained s c then
              match endNext s c n0 with
              | some its => if (State.ctxOf s c).mode == .enabled then finishLayer s c n0 its else s
              | none => s
            else s

/-- The decision of a channel, when one is due. -/
def decision (s : State) (c : Nat) : State := if due s c then decideStripe s c else s

/-! ### Classifying the stripes of a stopped channel (R144, R191, R525) -/

/-- Whether every gate-off edge of a stripe fell before the gate-off point, no mark of it being left to begin (R191). -/
def finished (e : Engine) (r : StripeRun) (at4 : Nat) : Bool :=
  let planned := match e.resume.filter fun x => x.1 == r.serial with
    | some (_, item, _, _) => (Arith.rangeFrom item (r.items.length - item)).all fun i => !Eng.markAt r i
    | none => r.kLast.isSome
  r.kFirst.isSome && planned && !(e.edges.any fun d => d.serial == r.serial && decide (at4 ≤ d.at4))

/-- Where a stripe that is not finished resumes (R157, R191): at the resume point of the stop, where it was to begin if the stop did not reach it, and at
its first item when no gate-on edge of it has fired. -/
def resumeOf (e : Engine) (c tick at4 : Nat) (second : Bool) (r : StripeRun) : Resume :=
  let here := ((e.resume.filter fun x => x.1 == r.serial).map fun x => x.2).getD (r.fromItem, r.pr, r.waitLeft)
  if Eng.firedBy e r at4 then ⟨r.start, r.id, here.1, here.2.1, here.2.2, tick, second, Eng.takenOf e r, true, c, r.serial, r.cleared⟩
  else ⟨r.start, r.id, 0, none, 0, tick, second, Eng.takenOf e r, false, c, r.serial, r.cleared⟩

/-- A shared stripe whose mark was dropped cannot be replayed (R108, R195): it leaves its context and is counted as lost, its tile stays incomplete, and
STRIPE_LOST is raised where `loud`. -/
def lose (s : State) (n layer start id : Nat) (tile : Option Item) (loud : Bool) : State :=
  let s := State.modCtx s n fun x => { x with flights := x.flights.filter fun f => f.start != start, replays := x.replays.filter fun y => y.start != start }
  let at_ := (match tile with | some (.stripeBegin i j _ _ _ _ _) => some (layer, i, j) | _ => none).toList
  let s := { s with lnd := { s.lnd with incomplete := s.lnd.incomplete ++ at_ } }
  let s := State.incLnd s D.iLND D.LND_LOST_STRIPES 1
  State.raiseIf (State.advanceRm s n) loud 0xF8 3 (n + 256 * (id % 2 ^ 24))

/-- The mark of a context is dropped (R108): what waits in a shared one for replay is lost. -/
def loseReplays (n : Nat) (s : State) : State :=
  if n < 24 then s
  else
    countReplays ((State.ctxOf s n).replays.foldl (fun s r =>
      lose s n ((State.ctxOf s n).readLayer.getD (State.layerNo s)) r.start r.id ((stripeItems s n r.start).head?.map fun q => q.item) true) s)

/-- One stripe of a stopped channel goes where R191 puts it: acknowledged, parked in its private context, a replay entry, or lost, with STRIPE_LOST where
`loud` (R195, R527). -/
def classify (s : State) (c tick at4 : Nat) (loud : Bool) (e : Engine) (second : Bool) (r : StripeRun) : State :=
  if finished e r at4 then ptrCheck r.ctx (State.ackStripe s r.ctx r.start)
  else
    let res := resumeOf e c tick at4 second r
    if 24 ≤ r.ctx && (State.ctxOf s r.ctx).rewindInvalid then
      lose s r.ctx r.layer r.start r.id r.items.head? loud
    else
      let back := max r.start (State.ctxReg s r.ctx D.CTX_RM)
      let s := State.modCtx s r.ctx fun x =>
        { x with
          flights := Arith.updWhere (fun f => f.start == r.start) (fun f => { f with waiting := true, cursor := back, cursor2 := back }) x.flights
          replays := (x.replays.filter fun y => y.start != r.start) ++ [res]
          parkedLayer := if r.ctx < 24 then some r.layer else x.parkedLayer }
      if r.ctx < 24 then State.wLnd s (D.iLNDC + c) D.LNDC_PARKED (((State.ctxOf s r.ctx).replays.length : Nat) : Int) else countReplays s

/-- The stripes of a stopped channel, in the order it holds them; then the engine holds none. After a fence or a disable no mark of it stays committed (R184). -/
def classifyAll (s : State) (c tick at4 : Nat) (loud out : Bool) : State :=
  let e := State.engOf s c
  let e := if out then { e with stripes := e.stripes.map fun r => { r with cleared := [] } } else e
  let live := e.stripes.filter fun r => !(finished e r at4)
  let s := (e.stripes.map fun r => (r, (live.head?.map fun x => x.serial != r.serial).getD false)).foldl
    (fun s x => classify s c tick at4 loud e x.2 x.1) s
  State.modEng s c fun e => { e with
    stripes := [], plan := none, resume := none, cmarks := if out then [] else e.cmarks, plumeHeld := false, force := false, blockFrom := none }

/-! ### The re-plan (R190 to R196) -/

/-- Tick F + 1 of a re-plan (R192): the channel leaves LIVE_MEMBERS of every shared context, and its committed marks leave every committed path. -/
def leaveMembers (s : State) (r : Replan) : State :=
  State.forAll liveWord (State.sharedOf s r.ch) (bar (State.modEng s r.ch fun e => { e with cmarks := [] }) r.ch)

/-- Tick F + 2 of a re-plan (R192, R527): the channel is FENCED or DISABLED, its private context and every shared context without a live member are PARKED;
the Catalogue takes a fence in (R127). -/
def leave (s : State) (r : Replan) : State :=
  let s := parkPrivate (State.setCh s r.ch (if r.fence then .fenced else .disabled)) r.ch
  let s := if r.fence && s.dev.mode.inBuild then { s with cat := { s.cat with newFences := s.cat.newFences ++ [r.ch] } } else s
  State.forAll (refreshAs r.fence) (State.sharedOf s r.ch) s

/-- The re-plan steps due in the present tick (R192). -/
def replanTick (s : State) : State :=
  match s.lnd.active with
  | none => s
  | some r =>
    if r.tick + 1 = s.tick then leaveMembers s r
    else if r.tick + 2 = s.tick then leave s r
    else s

/-- The end of a re-plan (R191, R192, R194): stripes classified, replay entries posted, frozen decisions resumed, REPLAN raised. -/
def replanEnd (s : State) : State :=
  match s.lnd.active with
  | none => s
  | some r =>
    let used := s.tick - r.tick
    let at4 := ((State.engOf s r.ch).blockFrom).getD ((r.tick + 1) * 125)
    let s := classifyAll s r.ch r.tick at4 r.fence true
    let s := State.incLnd s D.iLND D.LND_REPLANS 1
    let s := State.wLnd s D.iLND D.LND_REPLAN_MAX (max (State.rLnd s D.iLND D.LND_REPLAN_MAX) (used : Int))
    let s := State.raise s 0xF8 1 (r.ch + 256 * used)
    match s.lnd.queued with
    | [] => { s with lnd := { s.lnd with active := none } }
    | q :: rest => { s with lnd := { s.lnd with active := some { q with tick := s.tick + 1 }, queued := rest } }

/-- The status word of Lending (R198). -/
def statusWord (s : State) : Nat := b2n s.lnd.computing + 2 * b2n s.lnd.active.isSome + 4 * b2n !s.lnd.queued.isEmpty

/-! ### The Lending action of a tick (R178) -/

/-- Step 3 on one channel: the plan is carried on to the commit horizon, plume checks included, and a mark behind a join reads its set (R93). -/
def carry (c : Nat) (s : State) : State :=
  let e := State.engOf s c
  if (State.chOf s c == .started && s.dev.mode.inBuild) || s.cat.stopping.contains c then
    Eng.fill (2 * (e.stripes.map fun r => r.items.length).sum + 8) c (s.tick + Eng.horizon) (Eng.relay s c (s.tick + Eng.horizon))
  else s

/-- The re-plan that runs ends now, at F + 3 at the earliest (R190, R192): decisions that it froze are taken in this tick, which the Lending action of the
tick has counted as one of the freeze. -/
def replanOver (s : State) : State :=
  match s.lnd.active with
  | some r =>
    if r.tick + 3 ≤ s.tick then
      let waits := (State.byRank s).filter fun c => (State.engOf s c).why == .freeze
      let counted := waits.filter fun c => (State.engOf s c).frozeAt == some s.tick
      let uncount := fun c s => State.incLnd (State.modEng s c fun e => { e with frozeAt := none }) (D.iLNDC + c) D.LNDC_FREEZE_TICKS (-1)
      let s := State.forAll uncount counted (replanEnd s)
      State.forAll carry waits (State.forAll (fun c s => decision s c) waits s)
    else s
  | none => s

/-- Step 1: fences are taken in and the re-plan steps due run; a re-plan that no command has ended is over at F + 40 (R190). -/
def action1 (s : State) : State :=
  let fs := s.lnd.fences
  let s := fs.foldl (fun s f => takeIn f s) { s with lnd := { s.lnd with fences := [] } }
  let s := replanTick s
  match s.lnd.active with
  | some r => if r.tick + 40 ≤ s.tick then replanEnd s else s
  | none => s

/-- The commit pipeline of a channel reaches the STRIPE_END of its stripe in this tick: the set-point 64 ticks ahead is the first one beyond it, and the
tick is a decision tick. -/
def reachEnd (c : Nat) (s : State) : State :=
  let e := State.engOf s c
  match e.plan with
  | some p =>
    match Eng.stripeOf e p.serial with
    | some r =>
      if p.waitLeft = 0 ∧ (Eng.nextTick r p.item).isNone ∧ !Eng.startDue r p ∧ !Eng.filled e (s.tick + Eng.horizon) then
        State.setEng s c (Eng.finishStripe e r (Eng.nextStart e (s.tick + Eng.horizon)))
      else s
    | none => s
  | none => s

/-- The Lending action (R178). -/
def action (s : State) : State :=
  let s := State.forAll reachEnd (State.byRank s) (action1 s)
  let s := State.forAll closeShared ((s.ctx.tab.map fun x => x.1).filter fun n => decide (24 ≤ n)) s
  let s := State.forAll (fun c s => decision s c) (State.byRank s) s
  State.forAll carry (State.byRank s) s

end Lend

end Sys2Proof.Machine
end

