-- ==== Sys2Proof/Machine/Items.lean ====
section
/-!
DEFINITION. Items (03_job_model.md R70 to R97): the layouts, the ordered checks of R94, and the write side of a context with its resynchronisation (R95)
and swallowing (R120).
What the rules leave to the model: log entry 19.
-/
namespace Sys2Proof.Machine

namespace Items

/-- The fixed length of a TYPE in units (R74). -/
def fixedUnits (t : Nat) : Option Nat :=
  match t with
  | 0x01 => some 1 | 0x02 => some 1 | 0x03 => some 2 | 0x10 => some 1 | 0x11 => some 1 | 0x20 => some 1 | 0x21 => some 1
  | 0x30 => some 2 | 0x31 => some 1 | 0x40 => some 1 | 0x41 => some 1 | 0x50 => some 1 | 0x7F => some 1 | _ => none

/-- Byte `i` of an item as a number. -/
def byte (bs : List Byte) (i : Nat) : Nat := (bs.getD i 0).toNat

/-- The reserved byte ranges of a TYPE: offset and length (R75 to R89). -/
def reserved (t : Nat) : List (Nat × Nat) :=
  match t with
  | 0x01 => [(19, 1), (22, 10)]
  | 0x02 => [(16, 4), (22, 10)]
  | 0x03 => [(19, 1), (22, 10), (32, 2), (40, 24)]
  | 0x10 => [(13, 3), (28, 4)]
  | 0x11 => [(10, 2), (16, 16)]
  | 0x20 => [(10, 22)]
  | 0x21 => [(10, 22)]
  | 0x30 => [(18, 2), (28, 4), (32, 2), (52, 12)]
  | 0x31 => [(16, 16)]
  | 0x40 => [(5, 27)]
  | 0x41 => [(8, 24)]
  | 0x50 => [(8, 24)]
  | _ => [(4, 28)]

/-- Every reserved byte and bit of an item is 0 (R8, R94 step 7). -/
def reservedOk (t : Nat) (bs : List Byte) : Bool :=
  (reserved t).all (fun r => Arith.zeroAt bs r.1 r.2) && (!(t == 0x01 || t == 0x03) || decide (byte bs 18 < 2))

/-- The item that checked bytes spell (R75 to R89). -/
def decode (t : Nat) (bs : List Byte) : Item :=
  let u := Arith.leAt bs
  let i := fun o => Arith.leIntAt bs o 4
  match t with
  | 0x01 => .mark (i 4) (i 8) (i 12) (u 16 2) (decide (byte bs 18 = 1)) (u 20 2)
  | 0x02 => .jump (i 4) (i 8) (i 12) (u 20 2)
  | 0x03 => .markExt (i 4) (i 8) (i 12) (u 16 2) (decide (byte bs 18 = 1)) (u 20 2) (u 36 2) (u 38 2)
  | 0x10 => .stripeBegin (u 4 2) (u 6 2) (u 8 4) (u 12 1) (i 16) (i 20) (i 24)
  | 0x11 => .stripeEnd (u 4 4) (u 8 2) (u 12 4)
  | 0x20 => .tileBegin (u 4 2) (u 6 2) (u 8 2)
  | 0x21 => .tileEnd (u 4 2) (u 6 2) (u 8 2)
  | 0x30 => .layerBegin (u 4 4) (u 8 4) (u 12 4) (u 16 2) (u 20 4) (u 24 4) (i 36) (i 40) (i 44) (i 48)
  | 0x31 => .layerEnd (u 4 4) (u 8 4) (u 12 4)
  | 0x40 => .paramSelect (u 4 1)
  | 0x41 => .waitTicks (u 4 4)
  | 0x50 => .hostMarker (u 4 4)
  | _ => .pad

/-- What the first steps of R94 make of the units at hand: too few units, a fault of steps 1 to 3 (one unit is discarded), a fault of steps 4 to 7 (all
units are discarded), or an item. -/
inductive Head where
  | wait
  | bad1 (kind : Nat)
  | bad (kind units : Nat)
  | ok (item : Item) (units : Nat)
deriving DecidableEq, Repr

/-- A continuation unit has CONT = 0xC3 and its index (R72). -/
def contOk (bs : List Byte) (u : Nat) : Bool := decide (byte bs (32 * u + 3) = 0xC3) && decide (byte bs (32 * u + 2) = u)

/-- Steps 1 to 7 of R94 on the units at hand. -/
def head (bs : List Byte) : Head :=
  if bs.length < 32 then .wait
  else if byte bs 3 ≠ 0xA5 then .bad1 0x10
  else
    let n := byte bs 1
    let t := byte bs 2
    if n < 1 ∨ 4 < n then .bad1 0x11
    else
      let got := min n (bs.length / 32)
      if !((Arith.rangeFrom 1 (got - 1)).all fun u => contOk bs u) then .bad1 0x10
      else if got < n then .wait
      else
        let it := bs.take (32 * n)
        if Arith.crc8 (it.drop 1) ≠ byte bs 0 then .bad 0x12 n
        else
          match fixedUnits t with
          | none => .bad 0x13 n
          | some f => if f ≠ n then .bad 0x11 n else if reservedOk t it then .ok (decode t it) n else .bad 0x14 n

/-- A point in pu lies in the closed layer box (R86). -/
def inBox (l : WLayer) (x y : Int) : Bool := decide (l.x0 ≤ x) && decide (x ≤ l.x1) && decide (l.y0 ≤ y) && decide (y ≤ l.y1)

/-- A point in pu lies in a tile: closed below, open above (R84). -/
def inTile (s : State) (i j : Nat) (x y : Int) : Bool :=
  let r := State.tileRect s i j
  decide (r.1 ≤ x) && decide (x < r.2.2.1) && decide (r.2.1 ≤ y) && decide (y < r.2.2.2)

/-- Step 8 of R94: field ranges, end points in the layer box, mark end points in the tile. -/
def rangeOk (s : State) (c : Ctx) (it : Item) : Bool :=
  let box := fun x y => (c.wlayer.map fun l => inBox l x y).getD true
  let tile := fun x y => (c.wtile.map fun t => inTile s t.i t.j x y).getD true
  let grid := fun i j => decide (i < State.tilesX s) && decide (j < State.tilesY s)
  match it with
  | .mark x y _ _ _ v => decide (v ≤ 20000) && box x y && tile x y
  | .jump x y _ v => decide (v ≤ 30000) && box x y
  | .markExt x y _ _ _ v _ ve => decide (v ≤ 20000) && decide (ve ≤ 20000) && box x y && tile x y
  | .stripeBegin _ _ _ _ x y _ => box x y
  | .stripeEnd _ n _ => decide (1 ≤ n)
  | .tileBegin i j n => grid i j && decide (1 ≤ n)
  | .tileEnd i j n => grid i j && decide (1 ≤ n)
  | .layerBegin l th _ t _ _ x0 y0 x1 y1 =>
    decide (l ≤ 0xFFFFFFFE) && decide (1 ≤ th) && decide (th ≤ 0x3E800) && decide (t ≤ 16384) && decide (x0 < x1) && decide (y0 < y1)
  | .layerEnd l _ _ => decide (l ≤ 0xFFFFFFFE)
  | .waitTicks n => decide (1 ≤ n) && decide (n ≤ 2000000)
  | _ => true

/-- The position of R74 on the write side of context `n`. -/
def placeOk (n : Nat) (c : Ctx) (it : Item) : Bool :=
  let inS := c.wstripe.isSome
  let inT := c.wtile.isSome && !inS
  let inL := c.wlayer.isSome && c.wtile.isNone && !inS
  match it with
  | .mark .. => inS
  | .jump .. => inS
  | .markExt .. => inS
  | .stripeBegin .. => inT
  | .stripeEnd .. => inS
  | .tileBegin .. => inL
  | .tileEnd .. => inT
  | .layerBegin .. => c.wlayer.isNone
  | .layerEnd .. => inL
  | .paramSelect _ => inS
  | .waitTicks _ => inS
  | .hostMarker _ => inS || (decide (n < 24) && c.wlayer.isSome)
  | .pad => true

/-- The rest of step 9 (R80 to R87, R528): order of numbers, agreement with the enclosing items, no second TILE_BEGIN. A LAYER_END of another layer than its
LAYER_BEGIN fails here as ITEM_ORDER, one of 0xFFFFFFFF before as ITEM_RANGE (R94 does not say; DESIGN CHOICE: log entry 19). -/
def agreeOk (c : Ctx) (it : Item) : Bool :=
  match it with
  | .stripeBegin i j id _ _ _ _ =>
    ((c.wtile.map fun t => decide (t.i = i) && decide (t.j = j)).getD false) &&
      ((c.wlayer.bind fun l => l.lastStripe).map fun m => decide (m < id)).getD true
  | .stripeEnd id _ _ => (c.wstripe.map fun w => decide (w.id = id)).getD false
  | .tileBegin i j _ => !((c.wlayer.map fun l => c.claims.contains (l.layer, i, j)).getD false)
  | .tileEnd i j _ => (c.wtile.map fun t => decide (t.i = i) && decide (t.j = j)).getD false
  | .layerBegin l .. => (c.lastLayer.map fun m => decide (m < l)).getD true
  | .layerEnd l _ _ => (c.wlayer.map fun w => decide (w.layer = l)).getD false
  | _ => true

/-- Another context has claimed a tile in the same layer (R85). -/
def claimedElsewhere (s : State) (n layer i j : Nat) : Bool :=
  (List.range 96).any fun m => m != n && (State.ctxOf s m).claims.contains (layer, i, j)

/-- Every channel that can read the context reaches the tile (R85); a tile that no channel reaches is rejected everywhere (R174). -/
def reachOk (s : State) (n i j : Nat) : Bool :=
  let l := Lend.reachOf s i j
  !l.isEmpty && (State.members s n).all fun c => l.contains c

/-- Step 10 of R94: tile ownership, then reach. -/
def claimFault (s : State) (n : Nat) (c : Ctx) (it : Item) : Option Nat :=
  match it, c.wlayer with
  | .tileBegin i j _, some l => if claimedElsewhere s n l.layer i j then some 0x1A else if reachOk s n i j then none else some 0x1B
  | _, _ => none

/-- Steps 8 to 12 of R94 on a decoded item of `units` units: the kind of the first failure. -/
def laterFault (s : State) (n : Nat) (it : Item) (units : Nat) : Option Nat :=
  let c := State.ctxOf s n
  if !rangeOk s c it then some 0x15
  else if !(placeOk n c it && agreeOk c it) then some 0x16
  else
    match claimFault s n c it with
    | some k => some k
    | none =>
      match c.wstripe with
      | some w =>
        if 16384 < w.units + units then some 0x19
        else
          match it with
          | .stripeEnd _ segs chk => if segs ≠ w.segs then some 0x18 else if chk ≠ Arith.crc32End w.crc then some 0x17 else none
          | _ => none
      | none => none

/-- Whether an item is a segment item (R81). -/
def isSeg : Item → Bool
  | .mark .. => true
  | .jump .. => true
  | .markExt .. => true
  | _ => false

/-- The layer open on the write side becomes DAMAGED (R95, R109). -/
def damage (s : State) (n : Nat) : State :=
  if (State.ctxOf s n).wlayer.isSome then
    State.setFlag (State.modCtx s n fun c => { c with wlayer := c.wlayer.map fun l => { l with damaged := true } }) n 2
  else s

/-- Withdraw the open stripe (R95): WP falls back to VP and its stored items are counted as withdrawn. -/
def withdraw (s : State) (n : Nat) : State :=
  match (State.ctxOf s n).wstripe with
  | none => s
  | some w =>
    let vp := State.ctxReg s n D.CTX_VP
    let s := State.modCtx s n fun c => { c with wstripe := none, items := c.items.filter fun q => decide (q.pos < vp) }
    let s := State.setPtr s n D.CTX_WP vp
    State.incCtx s (D.iCTX + n) D.CTX_ITEMS_WD (w.items : Int)

/-- Reject an item (R94, R95, R97): one fault, the open stripe withdrawn, the layer DAMAGED, and the search of R95. -/
def reject (s : State) (n kind drop : Nat) : State :=
  let c := State.ctxOf s n
  let s := State.raise s n kind c.wIndex
  let s := withdraw (damage s n) n
  State.modCtx s n fun c => { c with
    tail := c.tail.drop (32 * drop)
    wIndex := c.wIndex + 1
    wtile := c.wtile.map fun t => { t with rejected := true }
    wlayer := c.wlayer.map fun l => { l with rejected := true }
    wmode := if kind == 0x1A || kind == 0x1B then .cover else .resync }

/-- The bytes of an item go into the running checks of the layer's body and the open stripe (R81, R87). -/
def runChecks (c : Ctx) (bs : List Byte) (units : Nat) : Ctx :=
  { c with
    wlayer := c.wlayer.map fun l => { l with crc := Arith.crc32Run l.crc bs, nUnits := l.nUnits + units }
    wstripe := c.wstripe.map fun w => { w with crc := Arith.crc32Run w.crc bs, units := w.units + units, items := w.items + 1 } }

/-- What storing an item does to the open layer, tile and stripe (R80 to R87). -/
def openClose (c : Ctx) (it : Item) (pos : Nat) (bs : List Byte) : Ctx :=
  match it with
  | .layerBegin l _ u _ st _ x0 y0 x1 y1 =>
    { c with wlayer := some ⟨l, x0, y0, x1, y1, u, st, 2, 0, Arith.crc32Init, none, false, false⟩, wtile := none, wstripe := none, lastLayer := some l }
  | .layerEnd .. => { c with wlayer := none, wtile := none }
  | .tileBegin i j st =>
    { c with
      wtile := some ⟨i, j, st, 0, false⟩
      claims := match c.wlayer with | some l => c.claims ++ [(l.layer, i, j)] | none => c.claims }
  | .tileEnd .. => { c with wtile := none }
  | .stripeBegin _ _ id _ _ _ _ =>
    { c with
      wstripe := some ⟨id, pos, 1, 0, 1, Arith.crc32Run Arith.crc32Init bs⟩
      wtile := c.wtile.map fun t => { t with nStripes := t.nStripes + 1 }
      wlayer := c.wlayer.map fun l => { l with nStripes := l.nStripes + 1, lastStripe := some id } }
  | .stripeEnd .. => { c with wstripe := none }
  | it => if isSeg it then { c with wstripe := c.wstripe.map fun w => { w with segs := w.segs + 1 } } else c

/-- Steps 13 and 14 of R94 at a TILE_END or LAYER_END (R97: a TILE_END that fails leaves its tile incomplete), and the layer held whole (R95, R115). -/
def closing (s : State) (n : Nat) (c : Ctx) (it : Item) : State :=
  match it with
  | .tileEnd _ _ st =>
    match c.wtile with
    | some t => if !t.rejected && (st != t.stripes || t.stripes != t.nStripes) then
        let s := damage (State.raise s n 0x18 c.wIndex) n
        { s with lnd := { s.lnd with incomplete := s.lnd.incomplete ++ (c.wlayer.map fun l => (l.layer, t.i, t.j)).toList } }
      else s
    | none => s
  | .layerEnd l st chk =>
    match c.wlayer with
    | some w =>
      if w.rejected then s
      else if st ≠ w.stripes ∨ w.nStripes ≠ w.stripes ∨ (!w.damaged ∧ (w.nUnits + 1 ≠ w.units ∨ chk ≠ Arith.crc32End w.crc)) then
        State.setFlag (State.raise s n 0x1C c.wIndex) n 2
      else if !w.damaged ∧ Arith.bits (State.ctxReg s n D.CTX_CTRL) 3 2 = 2 then
        State.wCtx (State.modCtx s n fun c => { c with whole := c.whole ++ [l] }) (D.iCTX + n) D.CTX_STAGED_LAYER (l : Int)
      else s
    | none => s
  | _ => s

/-- Store an item that passed (R94, R104): WP moves on, VP with it outside a stripe. -/
def store (s : State) (n : Nat) (it : Item) (units : Nat) (bs : List Byte) : State :=
  let c0 := State.ctxOf s n
  let s := closing s n c0 it
  let wp := State.ctxReg s n D.CTX_WP
  let s := State.modCtx s n fun c =>
    let c := match it with
      | .layerEnd .. => c
      | .stripeEnd .. => { c with wlayer := c.wlayer.map fun l => { l with crc := Arith.crc32Run l.crc bs, nUnits := l.nUnits + units } }
      | .layerBegin .. => c
      | .stripeBegin .. => { c with wlayer := c.wlayer.map fun l => { l with crc := Arith.crc32Run l.crc bs, nUnits := l.nUnits + units } }
      | _ => runChecks c bs units
    let c := openClose c it wp bs
    { c with items := c.items ++ [⟨wp, units, it⟩], tail := c.tail.drop (32 * units), wIndex := c.wIndex + 1, wmode := .normal }
  let s := State.setPtr s n D.CTX_WP (wp + 32 * units)
  let s := if (State.ctxOf s n).wstripe.isNone then State.setPtr s n D.CTX_VP (wp + 32 * units) else s
  State.itemsChanged (State.wCtx s (D.iCTX + n) D.CTX_ITEMS_IN (State.rCtx s (D.iCTX + n) D.CTX_ITEMS_IN + 1)) n

/-- Whether an item ends the search of R95: framing other than STRIPE_END, in a position allowed by R74. -/
def endsSearch (n : Nat) (c : Ctx) (it : Item) : Bool :=
  (match it with
    | .stripeBegin .. => true
    | .tileBegin .. => true
    | .tileEnd .. => true
    | .layerBegin .. => true
    | .layerEnd .. => true
    | _ => false) && placeOk n c it

/-- Drop units on the write side. -/
def dropUnits (s : State) (n k : Nat) : State := State.modCtx s n fun c => { c with tail := c.tail.drop (32 * k) }

/-- An item of a tile that TILE_OWNER or REACH rejected is rejected with it (R95) and has its write-side item index (R97). -/
def coverItem (s : State) (n units : Nat) : State := State.modCtx (dropUnits s n units) n fun c => { c with wIndex := c.wIndex + 1 }

/-- Check an item with the write side in normal acceptance and store or reject it. -/
def take (s : State) (n : Nat) (it : Item) (units : Nat) (bs : List Byte) : State :=
  match laterFault s n it units with
  | some k => reject s n k units
  | none => store s n it units bs

/-- The reach check of a TILE_BEGIN stalls the write side while the reach map is computed (R175). -/
def stalled (s : State) (it : Item) : Bool := s.lnd.computing && (match it with | .tileBegin .. => true | _ => false)

/-- One step of the write side (R94, R95, R120); none when it waits for more units. Units that the search of R95 discards have no item index; an item of a
rejected tile whose LENGTH can be trusted has one (DESIGN CHOICE: log entry 19). -/
def step (s : State) (n : Nat) : Option State :=
  let c := State.ctxOf s n
  match c.wmode with
  | .normal =>
    match head c.tail with
    | .wait => none
    | .bad1 k => some (reject s n k 1)
    | .bad k u => some (reject s n k u)
    | .ok it u => if stalled s it then none else some (take s n it u (c.tail.take (32 * u)))
  | .resync =>
    match head c.tail with
    | .wait => none
    | .ok it u =>
      if endsSearch n c it then if stalled s it then none else some (take s n it u (c.tail.take (32 * u))) else some (dropUnits s n 1)
    | _ => some (dropUnits s n 1)
  | .cover =>
    match head c.tail with
    | .wait => none
    | .ok it u =>
      match it with
      | .tileEnd .. => some (State.modCtx (coverItem s n u) n fun c => { c with wmode := .normal })
      | .layerEnd .. => some (take s n it u (c.tail.take (32 * u)))
      | .layerBegin .. => some (take s n it u (c.tail.take (32 * u)))
      | _ => some (coverItem s n u)
    | .bad _ u => some (coverItem s n u)
    | .bad1 _ => some (dropUnits s n 1)
  | .swallow =>
    if c.tail.length < 32 then none
    else if byte c.tail 3 ≠ 0xA5 then some (dropUnits s n 1)
    else
      match head c.tail with
      | .wait => none
      | .bad1 _ => some (dropUnits s n 1)
      | .bad k _ => if k = 0x12 then some (dropUnits s n 1) else some (State.modCtx s n fun c => { c with wmode := .normal })
      | .ok _ _ => some (State.modCtx s n fun c => { c with wmode := .normal })

/-- The write side works on the units at hand, by fuel. -/
def work : Nat → Nat → State → State
  | 0, _, s => s
  | k + 1, n, s =>
    match step s n with
    | none => s
    | some s' => work k n s'

/-- The write side of a context works until it waits. -/
def run (n : Nat) (s : State) : State := work (2 * ((State.ctxOf s n).tail.length / 32) + 2) n s

/-- With OVERRUN_OK, a unit that would make WP − RM exceed the ring drops the mark (R108). -/
def dropMark (s : State) (n : Nat) : State :=
  let full := State.ctxReg s n D.CTX_WP + (State.ctxOf s n).tail.length + 32 > State.ctxReg s n D.CTX_RM + State.ringBytes s n
  if full && Arith.bit (State.ctxReg s n D.CTX_CTRL) 1 && !(State.ctxOf s n).rewindInvalid then
    let s := State.setFlag (State.raise s n 9 (State.ctxReg s n D.CTX_RM)) n 0
    State.followMark (Lend.loseReplays n (State.modCtx s n fun c => { c with rewindInvalid := true })) n
  else s

/-- Accept one producer unit (R104, R111): PROD_POS counts it, and the write side takes it up. A unit beyond FREE is not stored (R107). -/
def acceptUnit (n : Nat) (u : List Byte) (s : State) : State :=
  let s := dropMark s n
  if State.freeBytes s n < 32 then s
  else
    let s := State.setPtr s n D.CTX_PROD_POS (State.ctxReg s n D.CTX_PROD_POS + 32)
    Lend.ptrCheck n (run n (State.modCtx s n fun c => { c with tail := c.tail ++ u }))

/-- Accept producer units one after the other, by their number, while they fit (R107); and what is left of them. -/
def acceptUnits : Nat → Nat → List Byte → State → State × List Byte
  | 0, _, _, s => (s, [])
  | k + 1, n, bs, s =>
    if bs.length < 32 then (s, [])
    else if State.freeBytes (dropMark s n) n < 32 then (s, bs)
    else acceptUnits k n (bs.drop 32) (acceptUnit n (bs.take 32) s)

/-- Append whole units to the producer stream of a context, as far as they fit. -/
def accept (n : Nat) (bs : List Byte) (s : State) : State := (acceptUnits (bs.length / 32) n bs s).1

/-- A reach-map computation ends (R175), and the write sides that wait for it go on. -/
def reachDone (s : State) : State :=
  if s.lnd.computing then
    State.forAll (fun n s => if 32 ≤ (State.ctxOf s n).tail.length then Lend.ptrCheck n (run n s) else s) (List.range 96) (Lend.reachDone s)
  else s

end Items

end Sys2Proof.Machine
end

