-- ==== Sys2Proof/Machine/Feed.lean ====
section
/-!
DEFINITION. The commands of the stream contexts (04_stream_contexts.md): feeding through the window, DMA and staging, doorbells and notices, enabling,
disabling and flushing, acknowledgement and late units.
What the rules leave to the model: log entry 19.
-/
namespace Sys2Proof.Machine

namespace Feed

/-- The feed a context has selected (R110): 0 window, 1 DMA, 2 staged. -/
def feedOf (s : State) (n : Nat) : Nat := Arith.bits (State.ctxReg s n D.CTX_CTRL) 3 2

/-- Data from a path other than the selected feed (R110): dropped, counted, FEED_WRONG. -/
def wrong (s : State) (n path bytes : Nat) : State := State.raiseOnce (State.incCtx s (D.iCTX + n) D.CTX_DROPPED (bytes : Int)) n 8 path

/-- The tick that acknowledges a stripe whose last set-point is that of tick `k` (R106, R205): k + L(k) + 1, L being the latency in force in tick k. -/
def ackAt (s : State) (c k : Nat) : Nat := ((((State.engOf s c).past.find? fun p => p.k == k).map fun p => p.due).getD (k + State.latencyOf s c)) + 1

/-- The acknowledgements due on a channel (R106). -/
def ackDue (c : Nat) (s : State) : State :=
  let e := State.engOf s c
  let ripe := e.stripes.filter fun r => (r.kLast.map fun k => decide (ackAt s c k ≤ s.tick)).getD false
  ripe.foldl (fun s r =>
    let s := Lend.ptrCheck r.ctx (State.ackStripe s r.ctx r.start)
    State.modEng s c fun e => { e with stripes := e.stripes.filter fun x => x.serial != r.serial }) s

/-- The acknowledgements due on the stripes of a context come before a producer write of the same CORE cycle (R109). -/
def acksFirst (n : Nat) (s : State) : State :=
  State.forAll ackDue ((List.range 24).filter fun c => (State.engOf s c).stripes.any fun r => r.ctx == n) s

/-- Window bytes that complete a unit at PROD_POS are accepted (R111), by fuel. -/
def windowTake : Nat → Nat → State → State
  | 0, _, s => s
  | k + 1, n, s =>
    let p := State.ctxReg s n D.CTX_PROD_POS
    let bs := (List.range 32).map fun i => Tab.get (fun _ => none) (State.ctxOf s n).ahead (p + i)
    if bs.all Option.isSome then
      let s := State.modCtx s n fun c => { c with ahead := c.ahead.filter fun e => decide (p + 32 ≤ e.1) }
      windowTake k n (Items.acceptUnit n (bs.map fun b => b.getD 0) s)
    else s

/-- One byte written to a window offset (R111). -/
def windowByte (n : Nat) (s : State) (o : Nat) (b : Byte) : State :=
  let prod := State.ctxReg s n D.CTX_PROD_POS
  let d := (o + 2 ^ 21 - prod % 2 ^ 21) % 2 ^ 21
  let free := State.freeBytes s n
  let p := prod + d
  if d < min 2048 free then
    let s := State.episodeEnd (State.episodeEnd s n 6) n 7
    let s := State.modCtx s n fun c => { c with ahead := Tab.set (fun _ => none) c.ahead p (some b) }
    if d % 32 = 31 ∨ d < 32 then windowTake 64 n s else s
  else
    let s := State.incCtx s (D.iCTX + n) D.CTX_DROPPED 1
    State.raiseOnce s n (if free ≤ d then 6 else 7) p

/-- A run of bytes written to consecutive offsets of one window. -/
def windowBytes (n : Nat) : List Byte → Nat → State → State
  | [], _, s => s
  | b :: bs, o, s => windowBytes n bs (o + 1) (windowByte n s o b)

/-- Bytes written into the window of a context, from an offset in it (R110, R111). -/
def windowPart (n o : Nat) (data : List Byte) (s : State) : State :=
  if feedOf s n ≠ 0 then wrong s n 0 data.length else windowBytes n data o (State.episodeEnd (acksFirst n s) n 8)

/-- A write into BAR2 (R111): the bytes in each window go to the context of offset / 2 MiB; reserved offsets take nothing. -/
def windowWrite (s : State) (off : Nat) (data : List Byte) : State :=
  let first := off / 2 ^ 21
  let ns := (Arith.rangeFrom first ((off + data.length - 1) / 2 ^ 21 + 1 - first)).filter fun n => decide (n < 96)
  State.forAll (fun n s =>
    let o := off - 2 ^ 21 * n
    windowPart n o ((data.drop (2 ^ 21 * n - off)).take (2 ^ 21 - o)) s) ns s

/-- A read of BAR2 (R111). -/
def bar2Read (_ : State) (_ : Nat) : Nat := 0

/-- Producer units enter the write side of a context (R94). What does not fit is dropped in the window feed, as the window drops it; DMA and staging keep it
(R107). -/
def itemAccept (n : Nat) (bs : List Byte) (s : State) : State :=
  let r := Items.acceptUnits (bs.length / 32) n bs (acksFirst n s)
  if r.2.isEmpty ∨ feedOf s n ≠ 0 then r.1
  else State.raiseOnce (State.incCtx r.1 (D.iCTX + n) D.CTX_DROPPED (r.2.length : Int)) n 6 (State.ctxReg r.1 n D.CTX_PROD_POS)

/-- The doorbell of a context (R112, R113, R117): TAIL, and the restart of a DMA that stopped, once FLAGS.DMA_FAULT is clear. -/
def dmaDoorbell (s : State) (word : Nat) : State :=
  let n := Arith.bits word 6 0
  if 96 ≤ n then s
  else
    State.modCtx s n fun c => { c with
      dmaTail := Arith.bits word 27 16
      dmaStopped := c.dmaStopped && Arith.bit (State.ctxReg s n D.CTX_FLAGS) 4 }

/-- A descriptor keeps its layout (R112). -/
def descOk (d : List Byte) : Bool :=
  let len := Arith.leAt d 8 4
  decide (d.length = 16) && decide (Arith.leAt d 0 8 % 32 = 0) && decide (len % 32 = 0) && decide (32 ≤ len) && decide (len ≤ 16777216) &&
    decide (Arith.leAt d 12 4 < 2)

/-- DMA of a context stops on the descriptor at DMA_HEAD (R113). -/
def dmaFault (s : State) (n : Nat) : State :=
  let s := State.modCtx s n fun c => { c with dmaStopped := true }
  State.raise (State.setFlag s n 4) n 5 (State.ctxReg s n D.CTX_DMA_HEAD)

/-- The descriptor at DMA_HEAD is complete (R112): the next one follows; NOTIFY posts its notice. -/
def dmaDone (s : State) (n : Nat) (notify : Bool) : State :=
  let h := State.ctxReg s n D.CTX_DMA_HEAD
  let s := if notify then State.dmaNotice s n h else s
  let s := State.wCtx s (D.iCTX + n) D.CTX_DMA_HEAD (((h + 1) % max 1 (State.ctxReg s n D.CTX_DMA_ENTRIES) : Nat) : Int)
  State.modCtx s n fun c => { c with dmaDone := 0 }

/-- The DMA engine fetches the descriptor at DMA_HEAD and data of it as FREE allows (R112, R113); `err`: the read ended with an error. -/
def dmaFetch (s : State) (n : Nat) (desc data : List Byte) (err : Bool) : State :=
  if 96 ≤ n then s
  else
    let c := State.ctxOf s n
    if c.dmaStopped ∨ State.ctxReg s n D.CTX_DMA_HEAD = c.dmaTail then s
    else if feedOf s n ≠ 1 then wrong s n 1 data.length
    else if !descOk desc then dmaFault s n
    else
      let s := acksFirst n s
      let len := Arith.leAt desc 8 4
      let left := len - c.dmaDone
      let take := min (min left data.length) (State.freeBytes s n) / 32 * 32
      let s := State.episodeEnd s n 8
      let s := Items.accept n (data.take take) s
      let s := State.modCtx s n fun c => { c with dmaDone := c.dmaDone + take }
      if len ≤ c.dmaDone + take then dmaDone s n (decide (Arith.leAt desc 12 4 = 1))
      else if err then dmaFault s n
      else s

/-- Units Stacks delivers to a context (R110, R114). -/
def staged (n : Nat) (bs : List Byte) (s : State) : State :=
  if feedOf s n ≠ 2 then wrong s n 2 bs.length else Items.accept n bs (State.episodeEnd (acksFirst n s) n 8)

/-- Stacks declares that a context holds no item of a layer (R114, R115). -/
def declare (n layer : Nat) (s : State) : State :=
  if feedOf s n ≠ 2 then wrong s n 2 0
  else
    State.wCtx (State.modCtx s n fun c => { c with declared := if c.declared.contains layer then c.declared else c.declared ++ [layer] })
      (D.iCTX + n) D.CTX_STAGED_LAYER (layer : Int)

/-- ENABLE of a context is written 1 and applied (R122). -/
def enable (n : Nat) (s : State) : State :=
  let ok := decide (n < 24) || State.membersOk (State.ctxReg s n D.CTX_MEMBERS)
  if !ok ∨ 96 ≤ n then s
  else
    let s := State.wCtx s (D.iCTX + n) D.CTX_CTRL ((Arith.setBit (State.ctxReg s n D.CTX_CTRL) 0 true : Nat) : Int)
    let live := if n < 24 then State.chOf s n != .disabled && State.chOf s n != .fenced else true
    match (State.ctxOf s n).mode with
    | .disabled =>
      let held := (State.ctxOf s n).fenced && State.holdsStatus s (State.ctxOf s n).fencedBy
      let s := State.modCtx s n fun c => { c with fenced := held }
      if held then State.setCtxMode s n .parked
      else if n < 24 then State.setCtxMode s n (if live then .enabled else .parked)
      else Lend.refreshLive n (State.setCtxMode s n .enabled)
    | .disabling => State.setCtxMode s n .enabled
    | .parked => if n < 24 then (if live && !(State.ctxOf s n).fenced then State.setCtxMode s n .enabled else s) else Lend.refreshLive n s
    | .enabled => s

/-- ENABLE of a context is written 0 and applied (R122). -/
def disable (n : Nat) (s : State) : State :=
  if 96 ≤ n then s
  else
    let s := State.wCtx s (D.iCTX + n) D.CTX_CTRL ((Arith.setBit (State.ctxReg s n D.CTX_CTRL) 0 false : Nat) : Int)
    match (State.ctxOf s n).mode with
    | .enabled => State.setCtxMode s n (if State.inFlight s n then .disabling else .disabled)
    | .parked => State.setCtxMode s n .disabled
    | _ => s

/-- Whether a flush is accepted (R119). -/
def flushOk (s : State) (n : Nat) : Bool := (State.ctxOf s n).mode == .disabled || (State.ctxOf s n).mode == .parked

/-- FLUSH (R119, R120). It also ends a search of R95 and the rejection of a tile, so that the write side accepts as usual again, discards window bytes not yet
accepted, and clears REWIND_INVALID (R95 and R119 do not say; DESIGN CHOICE: log entry 19). -/
def flush (n : Nat) (s : State) : State :=
  if 96 ≤ n ∨ !flushOk s n then s
  else
    let s := Lend.dropStripes n s
    let partial0 := !(State.ctxOf s n).tail.isEmpty
    let wp := State.ctxReg s n D.CTX_WP
    let s := State.modCtx s n fun c => { c with
      items := [], tail := [], ahead := [], wlayer := none, wtile := none, wstripe := none, lastLayer := none, claims := [], declared := [], whole := []
      flights := [], replays := [], parkedLayer := none, readLayer := none, doneLayer := none, rewindInvalid := false
      wmode := if partial0 || c.wmode == .swallow then .swallow else .normal }
    let s := State.setPtr (State.setPtr (State.setPtr s n D.CTX_VP wp) n D.CTX_RP wp) n D.CTX_RM wp
    let s := State.wCtx s (D.iCTX + n) D.CTX_STAGED_LAYER 0xFFFFFFFF
    let s := Lend.noReplays n (Lend.forget s)
    let s := if partial0 then State.raise (State.setFlag s n 1) n 10 (State.ctxReg s n D.CTX_PROD_POS) else s
    let m := State.ctxCode (State.ctxOf s n).mode
    State.stateNotice s n m m

/-- The items of a channel whose consumption falls in the present tick or earlier (R90): totals and marker notices. -/
def consumeDue (c : Nat) (s : State) : State :=
  let e := State.engOf s c
  let ripe := e.due.filter fun d => decide (d.1 ≤ s.tick)
  let s := State.setEng s c { e with
    due := e.due.filter fun d => decide (s.tick < d.1)
    stripes := e.stripes.map fun r => { r with taken := Eng.takenOf { e with due := ripe } r } }
  ripe.foldl (fun s d => State.consume (d.2.2.2.1.foldl (fun s v => State.markerNotice s d.2.1 c v) s) d.2.1 d.2.2.1) s

/-- The read cursors of a channel's stripes follow its set-points (R101, R104): the share of the head buffer ahead of what was executed. RM follows them
while the mark is dropped (R108). -/
def moveCursors (c : Nat) (s : State) : State :=
  let e := State.engOf s c
  e.stripes.foldl (fun s r =>
    let done := match (e.timeline.filter fun p => p.serial == r.serial && decide (p.start ≤ (s.tick : Rat))).getLast? with
      | some p => ((r.items.take (p.item + 1)).map State.itemUnits).sum
      | none => 0
    let share := 2048 / max 1 (State.liveMembers s r.ctx).length
    let cur := min r.stop (r.start + 32 * done + share)
    let s := State.modFlight s r.ctx r.start fun f => if f.waiting then f else { f with cursor := max f.cursor cur, cursor2 := max f.cursor2 cur }
    Lend.ptrCheck r.ctx (State.followMark s r.ctx)) s

/-- A head-buffer unit misses its deadline (R102, R123): HEAD_LATE, once until the context's late units have arrived; the channel ends its segment gate off,
holds, and resumes after `wait` ticks. -/
def headLate (c n wait : Nat) (s : State) : State :=
  if 24 ≤ c ∨ 96 ≤ n ∨ State.chOf s c ≠ .started then s
  else
    let s := State.modEng (Eng.stopNow s c .headLate) c fun e => { e with waitUntil := max e.waitUntil (s.tick + wait) }
    let s := State.raiseIf s (decide ((State.ctxOf s n).headUntil ≤ s.tick)) n 4 c
    State.modCtx s n fun x => { x with headUntil := max x.headUntil (s.tick + wait) }

end Feed

end Sys2Proof.Machine
end

