-- ==== Sys2Proof/Machine/Grid.lean ====
section
/-!
DEFINITION. The thermal grid (09_thermal_grid.md): geometry, deposits, the sweep schedule and its formula, predicted temperature, feed-forward curves,
model tables and snapshots.
What the rules leave to the model: log entry 29.
-/
namespace Sys2Proof.Machine

/-- A cell at a temperature, without energy (R226). -/
def Cell.at (t : Nat) : Cell := ⟨t, 0, 0⟩

namespace Grid

/-- A register of GRD_CFG as a number. -/
def cfg (s : State) (sub : Nat) : Nat := (State.rGrd s D.iGRD_CFG sub).toNat

/-- A register of GRD_SWEEP as a number. -/
def swp (s : State) (sub : Nat) : Nat := (State.rGrd s D.iGRD_SWEEP sub).toNat

/-- Cells in X. -/
def sizeX (s : State) : Nat := cfg s D.GRD_CFG_SIZE_X

/-- Cells in Y. -/
def sizeY (s : State) : Nat := cfg s D.GRD_CFG_SIZE_Y

/-- The number of tiles NT (R223). -/
def nTiles (s : State) : Nat := State.tilesX s * State.tilesY s

/-- GRD_CTRL.ENABLE. -/
def enabled (s : State) : Bool := Arith.bit (cfg s D.GRD_CFG_CTRL) 0

/-- The cell that contains a plate point given in 1/256 pu (R223), by number in row-major order; none outside the grid. -/
def cellAt (s : State) (x y : Int) : Option Nat :=
  let p : Int := ((256 * State.pitchPu s : Nat) : Int)
  let cx := Int.fdiv (x - 256 * State.rGrd s D.iGRD_CFG D.GRD_CFG_ORIGIN_X) p
  let cy := Int.fdiv (y - 256 * State.rGrd s D.iGRD_CFG D.GRD_CFG_ORIGIN_Y) p
  if 0 ≤ cx ∧ cx < sizeX s ∧ 0 ≤ cy ∧ cy < sizeY s then some (cy.toNat * sizeX s + cx.toNat) else none

/-- The sweep-order number of the tile of a cell (R230). -/
def tileOf (s : State) (cell : Nat) : Nat := cell / sizeX s / 64 * State.tilesX s + cell % sizeX s / 64

/-- A cell of a bank. -/
def bankCell (b : Bank) (n : Nat) : Cell := Tab.get (fun _ => b.base) b.cells n

/-- A bank with every cell alike. -/
def uniform (c : Cell) : Bank := ⟨c, []⟩

/-- The parameters a sweep that starts now uses (R230, R231). -/
def latch (s : State) : SweepPar :=
  { period := swp s D.GRD_SWEEP_PERIOD, decay := State.rGrd s D.iGRD_SWEEP D.GRD_SWEEP_DECAY, diffuse := State.rGrd s D.iGRD_SWEEP D.GRD_SWEEP_DIFFUSE,
    gain := State.rGrd s D.iGRD_SWEEP D.GRD_SWEEP_GAIN, tamb := cfg s D.GRD_CFG_T_AMB, insulated := Arith.bit (cfg s D.GRD_CFG_CTRL) 2 }

/-- The start of the slot of tile `q` in the present sweep (R230). -/
def slotStart (s : State) (q : Nat) : Nat := s.grd.start + q * s.grd.par.period / max 1 (nTiles s)

/-- The ambient temperature the grid works with: that of the present sweep during a build (R231). -/
def tamb (s : State) : Nat :=
  if s.grd.mode = .running ∨ s.grd.mode = .paused then s.grd.par.tamb else cfg s D.GRD_CFG_T_AMB

/-- Every cell to T_AMB, every pending deposit and residue to 0 (R226). -/
def reset (s : State) : State :=
  let b := uniform (Cell.at (cfg s D.GRD_CFG_T_AMB))
  { s with grd := { s.grd with
      done := b, next := b, prev := b, lateTiles := [], pend := [], resid := [], opened := false, taken := [], lastSweep := none, lastEnd := 0,
      lastTamb := cfg s D.GRD_CFG_T_AMB, lastLate := false, eSum := 0, lateNow := false } }

/-! ### Update formula (R233) -/

/-- The clamped new temperature of a cell, and whether it was clamped. -/
def newTemp (p : SweepPar) (t tn ts te tw e : Nat) : Nat × Bool :=
  let acc : Int := (t : Int) * 65536 + p.decay * ((p.tamb : Int) - (t : Int)) + p.diffuse * ((tn : Int) + ts + te + tw - 4 * t) + p.gain * e
  let v := Arith.divRound acc 65536
  ((Arith.clamp 0 65535 v).toNat, decide (v < 0) || decide (65535 < v))

/-- TEMP of the neighbour at (cx + dx, cy + dy), as EDGE says outside the grid. -/
def neighbour (s : State) (b : Bank) (own : Nat) (cx cy : Int) : Nat :=
  if 0 ≤ cx ∧ cx < sizeX s ∧ 0 ≤ cy ∧ cy < sizeY s then (bankCell b (cy.toNat * sizeX s + cx.toNat)).temp
  else if s.grd.par.insulated then own else s.grd.par.tamb

/-- The new state of one cell in the present sweep, and whether TEMP was clamped. -/
def sweepCell (s : State) (e n : Nat) : Cell × Bool :=
  let b := s.grd.done
  let c := bankCell b n
  let cx : Int := ((n % sizeX s : Nat) : Int)
  let cy : Int := ((n / sizeX s : Nat) : Int)
  let g := neighbour s b c.temp
  let r := newTemp s.grd.par c.temp (g cx (cy - 1)) (g cx (cy + 1)) (g (cx + 1) cy) (g (cx - 1) cy) e
  (⟨r.1, e, if 0 < e then s.grd.sweep % 65535 + 1 else c.stamp⟩, r.2)

/-- The cells of the grid that border on its edge. -/
def edgeCells (s : State) : List Nat :=
  let w := sizeX s
  let h := sizeY s
  (List.range w).flatMap (fun x => [x, (h - 1) * w + x]) ++ (List.range h).flatMap fun y => [y * w, y * w + w - 1]

/-- The cells of tile `q` whose new state can differ from that of a cell among unlisted ones: listed cells, their neighbours, cells that take energy, and edge
cells when the ambient differs from the unlisted temperature. -/
def touched (s : State) (q : Nat) : List Nat :=
  let w := sizeX s
  let near := s.grd.done.cells.flatMap fun c => [c.1, c.1 + 1, c.1 - 1, c.1 + w, c.1 - w]
  let edge := if s.grd.par.insulated ∨ s.grd.done.base.temp = s.grd.par.tamb then [] else edgeCells s
  ((near ++ s.grd.taken.map (fun c => c.1) ++ edge).filter fun n => decide (n < w * sizeY s) && decide (tileOf s n = q)).eraseDups

/-- Write tile `q` of the present sweep from the energy taken (R231, R233). -/
def writeTile (s : State) (q : Nat) : State :=
  let s := { s with grd := { s.grd with next := { s.grd.next with cells := s.grd.next.cells.filter fun c => decide (tileOf s c.1 ≠ q) } } }
  let r := (touched s q).foldl (fun (a : Tab Cell × Nat) n =>
    let v := sweepCell s (Tab.get (fun _ => 0) s.grd.taken n) n
    (Tab.set (fun _ => s.grd.next.base) a.1 n v.1, a.2 + b2n v.2)) (s.grd.next.cells, 0)
  let s := { s with grd := { s.grd with next := { s.grd.next with cells := r.1 } } }
  if 0 < r.2 then State.raise (State.incGrd s D.iGRD_SWEEP D.GRD_SWEEP_TEMP_SAT (r.2 : Int)) 0xF0 3 q else s

/-- A deposit of tile `q` that is owed to the present sweep (R229). -/
def owed (s : State) (q : Nat) (d : Dep) : Bool := decide (tileOf s d.cell = q) && decide (d.k + 64 ≤ slotStart s q)

/-- The pending sums of tile `q` owed to the present sweep (R229), exact per cell. -/
def takeSums (s : State) (q : Nat) : Tab Nat :=
  (s.grd.pend.filter (owed s q)).foldl (fun m d => Tab.set (fun _ => 0) m d.cell (Tab.get (fun _ => 0) m d.cell + d.amount)) []

/-- The slot of tile `q` starts (R231): its deposits are taken. -/
def takeTile (s : State) (q : Nat) : State :=
  { s with grd := { s.grd with pend := s.grd.pend.filter (fun d => !owed s q d), taken := takeSums s q, opened := true } }

/-- The tile whose slot has started is written (R229, R231, R233): each sum is clamped once. -/
def finishTile (s : State) : State :=
  if s.grd.opened then
    let q := s.grd.nextTile - 1
    let high := (s.grd.taken.filter fun c => decide (65535 < c.2)).length
    let l := s.grd.taken.map fun c => (c.1, min c.2 65535)
    let s := { s with grd := { s.grd with opened := false, taken := l, eSum := s.grd.eSum + (l.map fun c => c.2).sum } }
    let s := if 0 < high then State.raise (State.incGrd s D.iGRD_SWEEP D.GRD_SWEEP_DEP_SAT (high : Int)) 0xF0 2 q else s
    writeTile s q
  else s

/-! ### Schedule (R230 to R232) -/

/-- What an unlisted cell becomes in the present sweep. -/
def nextBase (s : State) : Cell :=
  let b := s.grd.done.base
  ⟨(newTemp s.grd.par b.temp b.temp b.temp b.temp b.temp 0).1, 0, b.stamp⟩

/-- A sweep starts (R230, R232): its parameters are those applied now; ENABLE decides whether it works. -/
def beginSweep (s : State) (n at0 : Nat) : State :=
  let m : GrdMode := if enabled s then .running else .paused
  let s := { s with grd := { s.grd with sweep := n, start := at0, par := latch s, nextTile := 0, opened := false, taken := [], eSum := 0, lateNow := false, mode := m } }
  let s := { s with grd := { s.grd with next := uniform (nextBase s) } }
  State.wGrd s D.iGRD_SWEEP D.GRD_SWEEP_SWEEP_START (at0 : Int)

/-- START_BUILD on the grid (R226, R232): reset, and the schedule starts at BTICK 0 unless the grid is fenced. -/
def startBuild (s : State) : State :=
  let s := reset s
  let s := State.wGrd s D.iGRD_SWEEP D.GRD_SWEEP_SWEEP 0xFFFFFFFFFFFFFFFF
  if s.grd.mode = .fenced then s else beginSweep s 0 0

/-- The captured grid after the last completed sweep (R239). -/
def capture (s : State) (early : Bool) : Snap :=
  { sweep := (s.grd.lastSweep).getD 0xFFFFFFFFFFFFFFFF, endBtick := s.grd.lastEnd,
    layer := if s.grd.lastSweep.isSome then s.grd.lastLayer else State.layerNo s, sizeX := sizeX s, sizeY := sizeY s,
    pitch := cfg s D.GRD_CFG_PITCH, ox := State.rGrd s D.iGRD_CFG D.GRD_CFG_ORIGIN_X, oy := State.rGrd s D.iGRD_CFG D.GRD_CFG_ORIGIN_Y, tamb := s.grd.lastTamb,
    eq := cfg s D.GRD_CFG_EQ, folio := s.grd.snapFolio, late := s.grd.lastLate, truncated := false, early := early, bank := s.grd.done, planes := [] }

/-- A snapshot is captured (R238); it overwrites the one before, whose Folio chain returns to the pool (R341). -/
def capturing (s : State) (early : Bool) : State :=
  { s with
    grd := { s.grd with snapMode := .capturing, snap := some (capture s early) }
    fol := { s.fol with chains := Tab.set (fun _ => 0) s.fol.chains 0x10 0 } }

/-- A sweep that completes at BTICK `b` is captured when the snapshot was requested before that tick (R137, R238). -/
def armedCapture (b : Nat) (s : State) : State := if s.grd.snapMode = .armed ∧ s.grd.snapAt < b then capturing s false else s

/-- The six bytes of a cell (R225). -/
def cellBytes (c : Cell) : List Byte := Arith.natLe 2 c.temp ++ Arith.natLe 2 c.energy ++ Arith.natLe 2 c.stamp

/-- CRC-64 of the cells of a bank in row-major order (R31, R239). -/
def bankDigest (b : Bank) (n : Nat) : Nat := (List.range n).foldl (fun c i => Arith.crc64Run c (cellBytes (bankCell b i))) 0

/-- The present sweep completes and the next one starts (R230, R231, R242): the bank it wrote becomes current, unless it was counted without work (R232);
E_TOTAL, T_MAX, MIN_SLACK and the grid digest of a layer whose span ended follow (R31); an armed snapshot is captured. MIN_SLACK is measured: a free value, 0
when late. -/
def endSweep (s : State) : State :=
  let at1 := s.grd.start + s.grd.par.period
  let n := s.grd.sweep
  let s := if s.grd.mode = .running then { s with grd := { s.grd with prev := s.grd.done, done := s.grd.next } } else s
  let s := { s with grd := { s.grd with
    lastSweep := some n, lastEnd := at1, lastLayer := State.layerNo s, lastTamb := s.grd.par.tamb, lastLate := s.grd.lateNow } }
  let top := (s.grd.done.cells.map fun c => c.2.temp).foldl max s.grd.done.base.temp
  let short := 500 * (s.grd.par.period / max 1 (nTiles s))
  let w := fun s sub (v : Nat) => State.wGrd s D.iGRD_SWEEP sub (v : Int)
  let s := w (w (w s D.GRD_SWEEP_SWEEP n) D.GRD_SWEEP_E_TOTAL s.grd.eSum) D.GRD_SWEEP_T_MAX top
  let s := w s D.GRD_SWEEP_MIN_SLACK (if s.grd.lateNow then 0 else State.freeVal s % (short + 1))
  let s := State.draw s
  let s := match s.dev.gridDigestDue with
    | some _ =>
      State.wDev { s with dev := { s.dev with gridDigestDue := none } } D.iDEV_DET D.DEV_DET_GRID_DIGEST ((bankDigest s.grd.done (sizeX s * sizeY s) : Nat) : Int)
    | none => s
  beginSweep (armedCapture at1 s) (n + 1) at1

/-- The next event of the schedule has come by BTICK `b`: the start of a slot, or of the next sweep. -/
def dueBy (s : State) (b : Nat) : Bool :=
  (s.grd.mode == .running || s.grd.mode == .paused) && decide (slotStart s s.grd.nextTile ≤ b)

/-- The next event of the schedule. -/
def advance (s : State) : State :=
  let s := finishTile s
  let q := s.grd.nextTile
  if nTiles s ≤ q then endSweep s
  else
    let s := if s.grd.mode = .running then takeTile s q else s
    { s with grd := { s.grd with nextTile := q + 1 } }

/-- The events of the schedule up to BTICK `b`, by fuel. -/
def catchUp : Nat → Nat → State → State
  | 0, _, s => s
  | n + 1, b, s => if dueBy s b then catchUp n b (advance s) else s

/-- A tile is written by the tick in which its slot ends (R231), so that it is current from that tick (R234). -/
def finishDue (s : State) : State := if dueBy s s.btick then finishTile s else s

/-- SWEEP_START (R230): the next sweep starts in the present tick. -/
def sweepStart (s : State) : State := if dueBy s s.btick && decide (nTiles s ≤ s.grd.nextTile) then advance s else s

/-- TILE_SLOT (R231): the slot of the next tile starts in the present tick. -/
def tileSlot (s : State) : State := if dueBy s s.btick && decide (s.grd.nextTile < nTiles s) then advance s else s

/-- The device leaves the build (R232, R238): the sweep in progress is abandoned; an armed snapshot takes the last completed sweep. GRID_DIGEST keeps the value of an
earlier layer where no sweep has completed since the last layer's span (DESIGN CHOICE: log entry 47). -/
def leaveBuild (s : State) : State :=
  let s := if s.grd.mode = .running ∨ s.grd.mode = .paused then { s with grd := { s.grd with mode := .idle, opened := false, taken := [], lateTiles := [] } } else s
  if s.grd.snapMode = .armed then capturing s true else s

/-- The grid is fenced (R232, R246). -/
def fence (s : State) : State := { s with grd := { s.grd with mode := .fenced, opened := false, taken := [], lateTiles := [] } }

/-! ### Deposits (R227 to R229) -/

/-- The deposit of tick `k` (BTICK) of channel `c`: command `pw`, `tau` ns of gate-on time, the plate position at the midpoint of the on-interval. -/
def deposit (s : State) (c k pw tau : Nat) (x y : Int) : State :=
  if s.grd.mode ≠ .running ∨ tau = 0 then s
  else
    let a := pw * cfg s (D.GRD_CFG_PFS + c) * tau * 65536 / (65535 * max 1 (cfg s D.GRD_CFG_EQ))
    let acc := Tab.get (fun _ => 0) s.grd.resid c + a
    let d := acc / 65536
    let s := { s with grd := { s.grd with resid := Tab.set (fun _ => 0) s.grd.resid c (acc % 65536) } }
    if d = 0 then s
    else
      match cellAt s x y with
      | none => State.incGrd s D.iGRD_CFG D.GRD_CFG_DEP_OUTSIDE 1
      | some n => { s with grd := { s.grd with pend := s.grd.pend ++ [⟨n, k, d⟩] } }

/-- GRD_PENDING (R225): whole E_Q pending. -/
def pending (s : State) : Nat := (s.grd.pend.map fun d => d.amount).sum

/-! ### Lateness (R231, R246) -/

/-- The first GRID_LATE of a sweep raises its message and counts the sweep. -/
def lateMessage (s : State) (q cause : Nat) : State :=
  if s.grd.lateNow then s
  else
    let s := State.incGrd { s with grd := { s.grd with lateNow := true } } D.iGRD_SWEEP D.GRD_SWEEP_LATE_SWEEPS 1
    State.raise s 0xF0 1 (q % 65536 + 65536 * cause + 2 ^ 18 * (s.grd.sweep % 2 ^ 14))

/-- The tile whose slot has just ended is not written in time (R231): readers keep the state before the sweep. -/
def lateTile (s : State) : State :=
  let q := s.grd.nextTile - 1
  if s.grd.mode = .running ∧ 0 < s.grd.nextTile ∧ (Tab.find s.grd.lateTiles q).isNone then
    let s := { s with grd := { s.grd with lateTiles := Tab.ins s.grd.lateTiles q ⟨s.grd.done.base, s.grd.done.cells.filter fun c => decide (tileOf s c.1 = q)⟩ } }
    lateMessage (State.incGrd s D.iGRD_SWEEP D.GRD_SWEEP_LATE_TILES 1) q 1
  else s

/-- Deposits of a cell that had not reached DRAM at the slot start fold into the next sweep (R229): reported while the slot runs, before its tile is
written. -/
def lateDeposit (s : State) (cell amount : Nat) : State :=
  let q := s.grd.nextTile - 1
  let e := Tab.get (fun _ => 0) s.grd.taken cell
  if s.grd.mode = .running ∧ s.grd.opened ∧ 0 < amount ∧ amount ≤ e then
    let s := { s with grd := { s.grd with
      taken := Tab.set (fun _ => 0) s.grd.taken cell (e - amount)
      pend := s.grd.pend ++ [⟨cell, slotStart s q, amount⟩] } }
    lateMessage (State.incGrd s D.iGRD_SWEEP D.GRD_SWEEP_DEP_LATE 1) q 2
  else s

/-- A late tile is written (R231). -/
def lateWritten (s : State) (q : Nat) : State := { s with grd := { s.grd with lateTiles := Tab.del s.grd.lateTiles q } }

/-! ### Predicted temperature and feed-forward (R234 to R237) -/

/-- TEMP of a cell current at the present tick (R234): after the latest sweep whose slot for its tile has ended. -/
def currentTemp (s : State) (n : Nat) : Nat :=
  let q := tileOf s n
  match Tab.find s.grd.lateTiles q with
  | some b => (bankCell b n).temp
  | none =>
    if s.grd.mode = .running ∧ q < s.grd.nextTile ∧ slotStart s (q + 1) ≤ s.btick then (bankCell s.grd.next n).temp
    else (bankCell s.grd.done n).temp

/-- T_pred at a plate point (R234); T_AMB outside the grid. -/
def tPred (s : State) (x y : Int) : Nat :=
  match cellAt s x y with
  | some n => currentTemp s n
  | none => tamb s

/-- The default points of a curve (R243). -/
def curveDflt : Blob := Blob.ofList [0, 0, 0, 0x80, 0xFF, 0xFF, 0, 0x80]

/-- The points of curve `c` (R243). -/
def curve (s : State) (c : Nat) : Blob := Tab.get (fun _ => curveDflt) s.grd.blobs (Dict.key 0 (D.iGRD_CURVE + c) D.GRD_CURVE_POINTS)

/-- The points of a curve image. -/
def curvePts (b : Blob) : List (Nat × Nat) := (List.range (b.len / 4)).map fun i => (Blob.le b (4 * i) 2, Blob.le b (4 * i + 2) 2)

/-- A curve evaluated at a temperature (R236). -/
def curveAt : List (Nat × Nat) → Nat → Nat
  | [], _ => 0x8000
  | [(_, f)], _ => f
  | (t0, f0) :: (t1, f1) :: rest, t =>
    if t ≤ t0 then f0
    else if t1 ≤ t then curveAt ((t1, f1) :: rest) t
    else (Arith.ratRound ((f0 : Rat) + (((f1 : Int) - (f0 : Int) : Int) : Rat) * ((t - t0 : Nat) : Rat) / ((t1 - t0 : Nat) : Rat))).toNat

/-- The feed-forward factor of a curve at a predicted temperature (R235). -/
def factor (s : State) (c t : Nat) : Nat :=
  if s.grd.mode = .fenced ∨ !Arith.bit (cfg s D.GRD_CFG_CTRL) 1 then 0x8000 else curveAt (curvePts (curve s c)) t

/-- The default of a model table (R244). -/
def modelDflt : Blob :=
  Blob.ofList (((List.range 16).flatMap fun i => Arith.natLe 2 (0x1111 * i)) ++ ((List.range 16).flatMap fun i => Arith.natLe 2 (0x1111 * i)) ++
    List.replicate 512 0)

/-- Model table `m` (R244). -/
def model (s : State) (m : Nat) : Blob := Tab.get (fun _ => modelDflt) s.grd.blobs (Dict.key 0 (D.iGRD_MODEL + m) D.GRD_MODEL_TABLE)

/-- The largest index below 15 whose axis value is at most `v`. -/
def axisIx (b : Blob) (o v : Nat) : Nat := ((List.range 15).filter fun i => decide (Blob.le b (o + 2 * i) 2 ≤ v)).foldl max 0

/-- X_exp of a model table at a command and a temperature (R237). -/
def expect (b : Blob) (cmd t : Nat) : Nat :=
  let ax := fun o i => Blob.le b (o + 2 * i) 2
  let cl := fun o v => max (ax o 0) (min v (ax o 15))
  let c := cl 0 cmd
  let t := cl 32 t
  let p := axisIx b 0 c
  let q := axisIx b 32 t
  let fr := fun o i v => (((v : Int) - (ax o i : Int) : Int) : Rat) / ((max 1 (ax o (i + 1) - ax o i) : Nat) : Rat)
  let fp := fr 0 p c
  let ft := fr 32 q t
  let v := fun p t => ((Blob.le b (64 + 2 * (16 * p + t)) 2 : Nat) : Rat)
  (Arith.ratRound ((1 - fp) * (1 - ft) * v p q + (1 - fp) * ft * v p (q + 1) + fp * (1 - ft) * v (p + 1) q + fp * ft * v (p + 1) (q + 1))).toNat

/-- X_exp of a model table for a tick (R213); a fenced grid reads it at T_AMB (R232). -/
def xExp (s : State) (m cmd t : Nat) : Nat := expect (model s m) cmd (if s.grd.mode = .fenced then cfg s D.GRD_CFG_T_AMB else t)

/-- The feed-forward factor and T_pred of the set-point committed for tick `k` on channel `c` (R234, R235). -/
def feedForward (s : State) (c k : Nat) : State :=
  State.modEng s c fun e => { e with
    slots := Arith.updWhere (fun d => d.k == k) (fun d => let t := tPred s d.pos.x d.pos.y; { d with ff := factor s d.par.curve t, tpred := t }) e.slots }

/-! ### Images (R245) -/

/-- A list of numbers strictly rises. -/
def rising : List Nat → Bool
  | a :: b :: l => decide (a < b) && rising (b :: l)
  | _ => true

/-- A curve image is well formed. -/
def curveOk (b : List Byte) : Bool :=
  decide (8 ≤ b.length) && decide (b.length ≤ 256) && decide (b.length % 4 = 0) && rising ((List.range (b.length / 4)).map fun i => Arith.leAt b (4 * i) 2)

/-- A table image is well formed. -/
def modelOk (b : List Byte) : Bool :=
  decide (b.length = 576) && rising ((List.range 16).map fun i => Arith.leAt b (2 * i) 2) && rising ((List.range 16).map fun i => Arith.leAt b (32 + 2 * i) 2)

/-! ### Configuration checks (R223, R224, R233) -/

/-- A geometry keeps the far edge within the coordinates (R223). -/
def edgeOk (origin : Int) (size pitch : Nat) : Bool := decide (origin + ((size * 256 * pitch : Nat) : Int) ≤ 2 ^ 31 - 1)

/-- The applied configuration keeps R223, R224 and R233. -/
def cfgOk (s : State) : Bool :=
  edgeOk (State.rGrd s D.iGRD_CFG D.GRD_CFG_ORIGIN_X) (sizeX s) (cfg s D.GRD_CFG_PITCH) &&
    edgeOk (State.rGrd s D.iGRD_CFG D.GRD_CFG_ORIGIN_Y) (sizeY s) (cfg s D.GRD_CFG_PITCH) &&
    decide (2 * nTiles s ≤ swp s D.GRD_SWEEP_PERIOD) && decide (swp s D.GRD_SWEEP_DECAY + 4 * swp s D.GRD_SWEEP_DIFFUSE ≤ 65536)

/-- Geometry entries (R224). -/
def geometrySubs : List Nat :=
  [D.GRD_CFG_SIZE_X, D.GRD_CFG_SIZE_Y, D.GRD_CFG_PITCH, D.GRD_CFG_ORIGIN_X, D.GRD_CFG_ORIGIN_Y, D.GRD_CFG_EQ]

/-- Any context holds an item (R84, R224). -/
def itemsHeld (s : State) : Bool := (List.range 96).any fun n => !(State.ctxOf s n).items.isEmpty || !(State.ctxOf s n).tail.isEmpty

/-- Geometry writes are refused now (R224). -/
def geometryLocked (s : State) : Bool := s.dev.mode.inBuild || itemsHeld s

/-! ### Commands (R226, R238) -/

/-- RESET is accepted (R226). -/
def resetOk (s : State) : Bool := !s.dev.mode.inBuild

/-- GRD_CMD = RESET (R226): a fenced grid whose status has cleared becomes IDLE. -/
def cmdReset (s : State) : State :=
  if resetOk s then
    let s := reset s
    if s.grd.mode = .fenced ∧ !State.holdsStatus s 0xF0 then { s with grd := { s.grd with mode := .idle } } else s
  else s

/-- A snapshot request is taken (R238). -/
def snapOk (s : State) : Bool := s.grd.snapMode == .idle || s.grd.snapMode == .ready

/-- A snapshot request (R238). -/
def snapshot (folio : Bool) (s : State) : State :=
  if snapOk s then
    let s := { s with grd := { s.grd with snapFolio := folio } }
    if s.dev.mode.inBuild then { s with grd := { s.grd with snapMode := .armed, snapAt := s.btick } } else capturing s false
  else s

/-- GRD_CMD = RELEASE (R238). -/
def release (s : State) : State :=
  if s.grd.snapMode = .ready then { s with grd := { s.grd with snapMode := .idle, snap := none } } else s

/-- The snapshot becomes readable (R238, R241). -/
def snapReady (s : State) : State :=
  let s := { s with grd := { s.grd with snapMode := .ready } }
  match s.grd.snap with
  | some p => State.wGrd s D.iGRD_CFG D.GRD_CFG_SNAP_SWEEP (p.sweep : Int)
  | none => s

/-- The values of a plane in row-major order: 0 TEMP, 1 ENERGY, 2 STAMP (R239). -/
def plane (p : Snap) (i : Nat) : List Nat :=
  (List.range (p.sizeX * p.sizeY)).map fun n =>
    let c := bankCell p.bank n
    if i = 0 then c.temp else if i = 1 then c.energy else c.stamp

/-- The stored bytes of a plane (R239). -/
def planeBytes (p : Snap) (i : Nat) : List Byte := if p.folio then p.planes.getD i [] else (plane p i).flatMap (Arith.natLe 2)

/-- The length of a stored plane. -/
def planeLen (p : Snap) (i : Nat) : Nat := if p.folio then (p.planes.getD i []).length else 2 * p.sizeX * p.sizeY

/-- The 64-byte header of a snapshot (R239). -/
def header (p : Snap) : List Byte :=
  let n := Arith.natLe
  n 4 0x4E534447 ++ n 2 1 ++ n 2 (b2n p.folio + 2 * b2n p.late + 4 * b2n p.truncated + 8 * b2n p.early) ++ n 8 p.sweep ++ n 8 p.endBtick ++ n 4 p.layer ++
    n 2 p.sizeX ++ n 2 p.sizeY ++ n 2 p.pitch ++ n 2 0 ++ Arith.intLe 4 p.ox ++ Arith.intLe 4 p.oy ++ n 2 p.tamb ++ n 2 0 ++ n 4 p.eq ++ n 4 (planeLen p 0) ++
    n 4 (planeLen p 1) ++ n 4 (planeLen p 2)

/-- The length of the snapshot object (R239). -/
def snapLen (p : Snap) : Nat := 64 + planeLen p 0 + planeLen p 1 + planeLen p 2

/-- The snapshot object (R239). -/
def snapBytes (p : Snap) : List Byte := header p ++ planeBytes p 0 ++ planeBytes p 1 ++ planeBytes p 2

/-- GRD_SNAP_DIGEST (R239). -/
def snapDigest (s : State) : Nat :=
  match s.grd.snap with
  | some p => if s.grd.snapMode = .ready ∨ s.grd.snapMode = .storing then bankDigest p.bank (p.sizeX * p.sizeY) else 0
  | none => 0

/-- Codes of GRD_SWEEP.STATE and GRD_CFG.SNAP_STATE. -/
def modeCode : GrdMode → Nat
  | .idle => 0 | .running => 1 | .paused => 2 | .fenced => 3

/-- The code of a snapshot state. -/
def snapCode : SnapMode → Nat
  | .idle => 0 | .armed => 1 | .capturing => 2 | .compressing => 3 | .ready => 4 | .storing => 5

/-- An applied geometry change resets the grid (R226). -/
def geometryChanged (s : State) : State := reset s

end Grid

end Sys2Proof.Machine
end

