-- ==== Sys2Proof/Machine/Line.lean ====
section
/-!
DEFINITION. The line code of the Akzi-Link lanes (10_akzi_lanes.md R247 to R253): blocks and their CRC-16, markers, scrambling, stuffing and fill on the
way out, and the receiver of R251 and R253 on the way in.
What the rules leave to the model: log entries 7, 30 and 46.
-/
namespace Sys2Proof.Machine

namespace Lnk

/-! ### Blocks (R247 to R249) -/

/-- CRC-16 of a block (R249): polynomial 0x1021, initial value 0xFFFF. -/
def crc16 (bs : List Byte) : Nat := bs.foldl (fun c b => Arith.crcFwdGo 8 16 0x1021 (Nat.xor c (b.toNat * 256))) 0xFFFF

/-- A block: TYPE, INFO, 26 DATA bytes, CRC (R249). -/
def block (type info : Nat) (data : List Byte) : List Byte :=
  let b := [BitVec.ofNat 8 type, BitVec.ofNat 8 info] ++ (data ++ List.replicate 26 0).take 26
  b ++ Arith.natLe 2 (crc16 b)

/-- The TYPE values in use (R249). -/
def types : List Nat := [0x00, 0x01, 0x10, 0x11, 0x12, 0x13]

/-- TYPE and INFO of a block, and its DATA. -/
def typeOf (b : List Byte) : Nat := (b.getD 0 0).toNat

/-- INFO of a block. -/
def infoOf (b : List Byte) : Nat := (b.getD 1 0).toNat

/-- The 26 DATA bytes of a block. -/
def dataOf (b : List Byte) : List Byte := (b.drop 2).take 26

/-- A received block is not in error: its CRC holds and its TYPE is not reserved (R249). -/
def blockOk (b : List Byte) : Bool :=
  decide (b.length = 30) && decide (Arith.leAt b 28 2 = crc16 (b.take 28)) && types.contains (typeOf b)

/-- Blocks of a tick group at a rate code (R247). -/
def groupBlocks (rate : Nat) : Nat := match rate with | 0 => 2 | 1 => 5 | 2 => 11 | _ => 23

/-- The line bit of a rate at or after the start of tick `k` (R247, R252): 781.25 line bits a tick at 1.5625 Gb/s, twice as many at each rate above. -/
def firstBit (rate k : Nat) : Nat := (3125 * 2 ^ rate * k + 3) / 4

/-- Bits of a number of a given width, most significant first. -/
def bitsMsb (width v : Nat) : List Bool := (List.range width).reverse.map fun i => Arith.bit v i

/-- A sync marker (R249). -/
def marker (odd : Bool) : List Bool := bitsMsb 16 (if odd then 0x0F5A else 0xF0A5)

/-- The payload bits of a block (R249). -/
def payload (b : List Byte) : List Bool := b.flatMap fun x => bitsMsb 8 x.toNat

/-- A number from bits, most significant first. -/
def natOf (l : List Bool) : Nat := l.foldl (fun n b => 2 * n + b2n b) 0

/-- The bytes of payload bits. -/
def bytesOf (l : List Bool) : List Byte := (List.range (l.length / 8)).map fun i => BitVec.ofNat 8 (natOf ((l.drop (8 * i)).take 8))

/-! ### Scrambling (R250) -/

/-- One step of the scrambler register b1 to b31, b1 in bit 0 (R250): the output bit and the next register. -/
def scramStep (r : Nat) : Bool × Nat :=
  let o := Bool.xor (Arith.bit r 30) (Arith.bit r 27)
  (o, r * 2 % 2 ^ 31 + b2n o)

/-- The register as a training sets it. -/
def scramOnes : Nat := 2 ^ 31 - 1

/-- The register `n` payload bits later. -/
def scramRun : Nat → Nat → Nat
  | 0, r => r
  | n + 1, r => scramRun n (scramStep r).2

/-- Payload bits scrambled from a register (R250); the same function takes the scrambling off. -/
def scramble : Nat → List Bool → List Bool
  | _, [] => []
  | r, b :: bs => let o := scramStep r; Bool.xor b o.1 :: scramble o.2 bs

/-- Payload bits through a scrambler that may not run yet. -/
def scrambled (r : Option Nat) (l : List Bool) : List Bool := match r with | some x => scramble x l | none => l

/-! ### The line stream (R251, R252) -/

/-- Stuffing of line bits (R251): after 24 identical bits one bit of the opposite value; `run` bits equal to `last` came before. -/
def stuff : Nat → Bool → List Bool → List Bool
  | _, _, [] => []
  | run, last, b :: bs =>
    let n := if b = last then run + 1 else 1
    if n = 24 then b :: (!b) :: stuff 1 (!b) bs else b :: stuff n b bs

/-- Fill (R252): alternating bits from the opposite of the last line bit. -/
def fill : Nat → Bool → List Bool
  | 0, _ => []
  | n + 1, last => (!last) :: fill n (!last)

/-- The blocks of a group one after another with their markers (R249, R252): the first marker, and the scrambler at the first payload bit. -/
def groupBits : Bool → Option Nat → List (List Byte) → List Bool
  | _, _, [] => []
  | odd, r, b :: bs => marker odd ++ scrambled r (payload b) ++ groupBits (!odd) (r.map (scramRun 240)) bs

/-- The line bits of tick `k` (R252): the group, stuffed, and fill up to the next one. A marker changes its value within its first eight bits, so what the
fill before it ended with inserts nothing into the group. -/
def lineBits (rate k : Nat) (odd : Bool) (r : Option Nat) (bs : List (List Byte)) : List Bool :=
  let g := stuff 0 false (groupBits odd r bs)
  g ++ fill (firstBit rate (k + 1) - firstBit rate k - g.length) (g.getLastD false)

/-! ### The receiver (R251, R253) -/

/-- What the receiver finds in the line bits: a marker in its place, a marker after a hunt, a marker that is missing, the payload behind a missing marker gone
by, a stuffing violation, inside a block or not, and the payload bits of a block. -/
inductive RxEvent where
  | inPlace
  | found
  | missing
  | skipped
  | violation (inBlock : Bool)
  | block (bits : List Bool)
deriving DecidableEq, Repr

/-- Line bits of a tick at a rate (R247). -/
def tickBits (rate : Nat) : Nat := 3125 * 2 ^ rate / 4

/-- The hunt through the fill ends this many line bits after the group began (R253): eight beyond the expected start of the next one. -/
def huntEnd (rate : Nat) : Nat := tickBits rate + 8

/-- Bits from one marker to the next while the place in the group is unknown: the tick shared among the blocks of its group. -/
def spacing (rate : Nat) : Nat := tickBits rate / groupBlocks rate

/-- The receiver at a new rate: it looks for its first marker. -/
def lineStart (rate : Nat) : RxLine := { RxLine.init with phase := .hunt (spacing rate) false }

/-- A marker has been taken: its payload follows. -/
def taken (x : RxLine) (odd : Bool) : RxLine := { x with phase := .payload, odd := !odd, win := [] }

/-- The receiver hunts on while `rest` bits of the present block pass (R253); the next place of a marker follows them, or the fill after the last block. -/
def huntOn (rate rest : Nat) (owed : Bool) (x : RxLine) : RxLine :=
  { x with
    win := []
    phase := match x.pos with
      | none => .hunt (spacing rate) false
      | some p => .hunt (if p + 1 < groupBlocks rate then rest + 16 else rest) owed }

/-- The marker of the present block is missing (R253): its payload passes unreceived, and the markers go on alternating. -/
def missed (rate rest : Nat) (x : RxLine) : RxLine := huntOn rate rest true { x with odd := !x.odd }

/-- The fill behind the last block of a group (R253). -/
def toFill (rate : Nat) (x : RxLine) : RxLine := { x with phase := .fill (huntEnd rate + 16 - x.line) }

/-- The block ends: the next marker follows at once, or behind the fill when the group is complete (R253). -/
def blockEnds (rate : Nat) (x : RxLine) : RxLine :=
  match x.pos with
  | none => { x with phase := .marker, win := [] }
  | some p => if p + 1 < groupBlocks rate then { x with phase := .marker, pos := some (p + 1), win := [] } else toFill rate { x with win := [] }

/-- The marker of the block after the present one: the next of the group, or the first of the next group. -/
def stepPos (rate : Nat) (x : RxLine) : RxLine :=
  match x.pos with
  | none => { x with line := 16 }
  | some p => if p + 1 < groupBlocks rate then { x with pos := some (p + 1) } else { x with pos := some 0, line := 16 }

/-- The marker value that ends the bits taken, where they end in one. -/
def markerIn (w : List Bool) : Option Bool :=
  if w.length < 16 then none
  else if (w.take 16).reverse = marker false then some false
  else if (w.take 16).reverse = marker true then some true
  else none

/-- The payload behind a missing marker has gone by. -/
def passed (owed : Bool) : List RxEvent := if owed then [.skipped] else []

/-- A bit of the hunt, `left` bits before the end of the next place of a marker. A marker in the first half of a block whose own was missing is that one, late;
any later marker is the next block's. -/
def huntBit (rate left : Nat) (owed : Bool) (x : RxLine) : RxLine × List RxEvent :=
  match markerIn x.win with
  | some q =>
    if owed ∧ 128 ≤ left then (taken x q, [.found])
    else (taken (stepPos rate x) q, passed owed ++ [if left = 0 ∧ x.pos.isSome ∧ q = x.odd then .inPlace else .found])
  | none =>
    if left ≠ 0 then ({ x with phase := .hunt left owed }, [])
    else match x.pos with
      | none => (huntOn rate 0 false x, [.missing])
      | some p =>
        if p + 1 < groupBlocks rate then (missed rate 240 { x with pos := some (p + 1) }, passed owed ++ [.missing])
        else (toFill rate x, passed owed)

/-- A line bit that is no stuffed bit. While the place in the group is unknown, a marker that does not follow its block at once may stand behind fill. The
hunt through the fill is over eight bits behind the place of the next group's first marker. -/
def takeBit (rate : Nat) (b : Bool) (x : RxLine) : RxLine × List RxEvent :=
  let x := { x with win := (b :: x.win).take 240 }
  match x.phase with
  | .hunt left owed => huntBit rate (left - 1) owed x
  | .marker =>
    if x.win.length < 16 then (x, [])
    else if markerIn x.win = some x.odd then (taken x x.odd, [.inPlace])
    else if x.pos.isNone then ({ x with phase := .fill (huntEnd rate - 256 * groupBlocks rate) }, [])
    else (missed rate 240 x, [.missing])
  | .fill left =>
    if markerIn x.win = some x.odd then (taken { x with line := 16, pos := some 0 } x.odd, [.inPlace])
    else if 1 < left then ({ x with phase := .fill (left - 1) }, [])
    else if x.pos.isNone then (huntOn rate 0 false x, [.missing])
    else (missed rate 232 { x with line := 24, pos := some 0 }, [.missing])
  | .payload => if x.win.length < 240 then (x, []) else (blockEnds rate x, [.block x.win.reverse])

/-- A stuffing violation (R251): the block it falls in, marker and payload alike, is in error (R249), and the receiver hunts for the next marker. -/
def violated (rate : Nat) (x : RxLine) : RxLine × List RxEvent :=
  match x.phase with
  | .payload => (huntOn rate (240 - x.win.length) false x, [.violation true])
  | .marker => (huntOn rate (256 - x.win.length) false { x with odd := !x.odd }, [.violation true])
  | .fill _ => ({ x with win := [] }, [.violation false])
  | .hunt _ _ => ({ x with win := [] }, [.violation false])

/-- One line bit (R251): the bit after 24 identical ones is removed, and is a violation when it is not the opposite value. -/
def rxBit (rate : Nat) (x : RxLine) (b : Bool) : RxLine × List RxEvent :=
  let y := { x with line := x.line + 1 }
  if x.run = 24 then
    let y := { y with run := 1, last := b }
    if b != x.last then (y, []) else violated rate y
  else takeBit rate b { y with run := if b = x.last then x.run + 1 else 1, last := b }

/-- The line bits of a tick. -/
def rxBits (rate : Nat) : RxLine → List Bool → RxLine × List RxEvent
  | x, [] => (x, [])
  | x, b :: bs =>
    let y := rxBit rate x b
    let z := rxBits rate y.1 bs
    (z.1, y.2 ++ z.2)

end Lnk

end Sys2Proof.Machine
end

