-- ==== Sys2Proof/Machine/Lanes.lean ====
section
/-!
DEFINITION. Akzi-Link lanes (10_akzi_lanes.md R254 to R270): bring-up, loss, freezing, relearning and the identity of the far end.
What the rules leave to the model: log entry 30.
-/
namespace Sys2Proof.Machine

namespace Lnk

/-! ### Registers -/

/-- A lane register as a number. -/
def reg (s : State) (m sub : Nat) : Nat := (State.rLnk s (D.iLNK + m) sub).toNat

/-- Equaliser values as `LNK_EQ` holds them (R254): three taps above a CTLE code of 0 to 31. -/
def eqWord (v : Nat) : Nat := v % 2 ^ 32 / 256 * 256 + min 31 (v % 256)

/-- Write a lane register. -/
def put (s : State) (m sub v : Nat) : State := State.wLnk s (D.iLNK + m) sub (v : Int)

/-- The channel of a lane (R263). -/
def chan (m : Nat) : Nat := m % 24

/-- The lane's channel uses it (R272). -/
def inUse (s : State) (m : Nat) : Bool := (State.lanesOf s (chan m)).contains m

/-- The lane's channel is STARTED. -/
def started (s : State) (m : Nat) : Bool := State.chOf s (chan m) == .started

/-- Code of a lane state. -/
def code : LaneMode → Nat
  | .disabled => 0 | .seek => 1 | .cap => 2 | .step => 3 | .up => 4 | .relearn => 5

/-- Enter a lane state: STATE, LIVE and the frozen flag follow (R267). -/
def enter (s : State) (m : Nat) (d : LaneMode) : State :=
  let s := State.modLane s m fun l => { l with mode := d, driftWaits := false, wakeLeft := 0, idleFrom := s.tick, blocks := { l.blocks with idle := 0, guard := 0 } }
  let locked := d == .cap || d == .step || d == .up || d == .relearn
  put (put s m D.LNK_STATE (code d)) m D.LNK_LIVE (if locked then 6 else 0)

/-- Take MAX_RATE, TRAIN_TICKS and TEST_MAX (R268). -/
def takeSettings (s : State) (m : Nat) : State :=
  State.modLane s m fun l => { l with
    maxRate := Arith.bits (reg s m D.LNK_CTRL) 2 1, trainTicks := reg s m D.LNK_TRAIN_TICKS, testMax := reg s m D.LNK_TEST_MAX }

/-- Whether the first marker of the group of a tick is 0x0F5A (R249): markers alternate from block to block over every group and rate. -/
def txMarker (l : Lane) (k : Nat) : Bool := Bool.xor l.txOdd (decide (groupBlocks (l.rate.getD 0) * (k - l.txFrom) % 2 = 1))

/-- Set the present rate: both directions run at it (R247), and the receiver looks for its first marker there. -/
def setRate (s : State) (m r : Nat) : State :=
  let s := if (State.laneOf s m).rate = some r then s
    else State.modLane s m fun l => { l with
      rate := some r, line := lineStart r, blocks := { l.blocks with miss := 0, places := 0 }
      txOdd := if l.rate.isNone then Config.firstMarker m else txMarker l s.tick, txFrom := s.tick }
  put s m D.LNK_RATE r

/-- Enter SEEK (R259, R260): 1.5625 Gb/s, ceiling cleared, no protocol. -/
def seek (m : Nat) (s : State) : State :=
  let s := takeSettings (enter s m .seek) m
  let s := State.modLane s m fun l => { l with
    ceiling := none, lastCap := none, cap := none, switchAt := none, seekAt := s.tick, scramFrom := none, badRun := 0, line := lineStart 0,
    blocks := RxBlocks.init }
  put (put (setRate s m 0) m D.LNK_CEILING 0xFF) m D.LNK_PROTOCOL 0

/-- A training begins with the TRAIN blocks of a tick (R250): both scramblers are set at the first of them. -/
def startTraining (s : State) (m k : Nat) : State :=
  State.modLane s m fun l => { l with scramFrom := some k, blocks := { l.blocks with await := true } }

/-- Enter RELEARN at a rate (R256, R267). -/
def relearn (s : State) (m : Nat) : State :=
  let s := takeSettings (enter s m .relearn) m
  let s := startTraining (State.modLane s m fun l => { l with trainEnd := s.tick + l.trainTicks, switchAt := none }) m s.tick
  State.incLnk s (D.iLNK + m) D.LNK_RELEARNS 1

/-- A step begins: the next rate (R259). -/
def nextStep (s : State) (m : Nat) : State :=
  State.modLane (enter s m .step) m fun l => { l with tryRate := l.rate.getD 0 + 1, phase := .echo, switchAt := none }

/-! ### Commands (R267, R268) -/

/-- ENABLE applied as 1. -/
def enable (m : Nat) (s : State) : State :=
  let s := put s m D.LNK_CTRL (Arith.setBit (reg s m D.LNK_CTRL) 0 true)
  if (State.laneOf s m).mode = .disabled then seek m s else s

/-- ENABLE = 0 and LNK_CMD are refused while the channel is STARTED (R268). -/
def cmdOk (s : State) (m : Nat) : Bool := !started s m

/-- ENABLE applied as 0. -/
def disable (m : Nat) (s : State) : State :=
  if cmdOk s m then
    let s := put s m D.LNK_CTRL (Arith.setBit (reg s m D.LNK_CTRL) 0 false)
    let s := State.modLane (enter s m .disabled) m fun l => { l with rate := none, lastCap := none, cap := none }
    put (put s m D.LNK_RATE 0xFF) m D.LNK_PROTOCOL 0
  else s

/-- RETRAIN. -/
def retrain (m : Nat) (s : State) : State := if cmdOk s m && (State.laneOf s m).mode != .disabled then seek m s else s

/-- RELEARN. -/
def cmdRelearn (m : Nat) (s : State) : State := if cmdOk s m && (State.laneOf s m).mode == .up then relearn s m else s

/-! ### Loss and errors (R262, R263, R270) -/

/-- Stop the channel of a lane that is lost or carries no protocol (R263). -/
def stopChannel (s : State) (m : Nat) : State :=
  if started s m && inUse s m then
    if m < 24 then Eng.stopSent s (chan m) .fault else Eng.stopNow s (chan m) .fault
  else s

/-- Count blocks in error in UP (R270): one BLOCK_ERROR per episode. -/
def countBad (s : State) (m n : Nat) : State :=
  if n = 0 ∨ (State.laneOf s m).mode ≠ .up then s
  else
    let e := (State.laneOf s m).badEpisode
    let s := State.incLnk s (D.iLNK + m) D.LNK_BLOCK_ERRORS (n : Int)
    let s := State.modLane s m fun l => { l with badEpisode := e + n }
    if e = 0 then State.raise s (0xA0 + m) 0x0A n else s

/-- Where a drift relearn triggered in the tick of a loss, only the loss is taken (R270): its message and its count fall away. -/
def dropDrift (s : State) (m : Nat) : State :=
  let l := State.laneOf s m
  if l.driftAt = some s.tick then
    let s := { s with raised := s.raised.filter fun x => !(x.src == 0xA0 + m && (x.kind == 5 || x.kind == 6)) }
    if l.mode = .relearn then put s m D.LNK_RELEARNS (reg s m D.LNK_RELEARNS - 1) else s
  else s

/-- LANE_LOST of a lane in UP or RELEARN (R262). -/
def lose (m cause : Nat) (s : State) : State :=
  let addr := cause % 16 + 256 * ((State.laneOf s m).rate.getD 0xFF)
  let s := State.raise (State.incLnk (dropDrift s m) (D.iLNK + m) D.LNK_LOSSES 1) (0xA0 + m) 1 addr
  seek m (stopChannel s m)

/-- The lane loses marker lock or phase lock, which are causes 1 and 3 (R262, R267). -/
def lockCause (cause : Nat) : Bool := cause % 16 == 1 || cause % 16 == 3

/-- A lane is lost (R262): cause 1 marker, 2 block errors, 3 phase lock, 4 FIFO. CAP and STEP end on a loss of lock only; in a step that is its failure. -/
def lost (m cause : Nat) (s : State) : State :=
  match (State.laneOf s m).mode with
  | .up => lose m cause s
  | .relearn => lose m cause s
  | .step =>
    if lockCause cause then seek m (State.raise (State.incLnk s (D.iLNK + m) D.LNK_STEP_FAILS 1) (0xA0 + m) 2 (State.laneOf s m).tryRate) else s
  | .cap => if lockCause cause then seek m s else s
  | .seek => s
  | .disabled => s

/-- Blocks in error (R255, R262, R270): they count, a row of IDLE blocks ends, and sixteen in a row lose the lane. -/
def badBlocks (m n : Nat) (s : State) : State :=
  if n = 0 then s
  else
    let s := State.modLane (countBad s m n) m fun l => { l with badRun := l.badRun + n, idleFrom := s.tick, blocks := { l.blocks with idle := 0 } }
    if 16 ≤ (State.laneOf s m).badRun then lost m 2 (State.modLane s m fun l => { l with badRun := 0 }) else s

/-- An error-free block: the run and the episode of blocks in error are over. -/
def goodBlock (m : Nat) (s : State) : State := State.modLane s m fun l => { l with badRun := 0, badEpisode := 0 }

/-! ### Entry to UP (R261, R264, R275) -/

/-- The protocol of a rate for a lane's role, listed by the far end (R2, R261). -/
def protoFor (m rate protocols : Nat) : Nat :=
  if m < 24 then (if rate = 2 ∧ Arith.bit protocols 0 then 1 else if rate = 3 ∧ Arith.bit protocols 1 then 2 else 0)
  else if rate = 1 ∧ Arith.bit protocols 2 then 3 else 0

/-- The delays of a far end come into force for its channel (R264). -/
def applyDelays (s : State) (m dh lag : Nat) : State :=
  if m < 24 then State.wAtt (State.wAtt s (D.iHDP + m) D.HDP_D_H (dh : Int)) (D.iHDP + m) D.HDP_FE_LAG (lag : Int) else s

/-- Compare the identity with the values held (R264). -/
def identity (s : State) (m : Nat) (cap : List Byte) : State :=
  let v := (Arith.leAt cap 6 4, Arith.leAt cap 10 4, Arith.leAt cap 4 1, Arith.leAt cap 5 1)
  let l := State.laneOf s m
  let set := fun (s : State) (fresh : Option (Nat × Nat)) => State.modLane s m fun l => { l with held := some v, fresh := fresh }
  match l.held with
  | none => applyDelays (set s none) m v.2.2.1 v.2.2.2
  | some h =>
    if h = v then s
    else
      let s := set s (some (v.2.2.1, v.2.2.2))
      if State.chOf s (chan m) == .disabled then s
      else State.raise (State.modLane s m fun l => { l with identityBar := true }) (0xA0 + m) 7 v.2.1

/-- LINK_DELAY of a lane from the mean round-trip delay in 0.25 ns (R275). -/
def linkDelay (s : State) (m rtd : Nat) : State :=
  let d := (rtd + 1) / 2
  let s := if m < 24 then State.wAtt s (D.iHDP + m) D.HDP_LINK_DELAY (min d 65535 : Nat) else State.wAtt s (D.iSRC + (m - 24)) D.SRC_LINK_DELAY (min d 65535 : Nat)
  let s := State.modLane s m fun l => { l with delayBar := decide (1600 < d) }
  if 1600 < d then State.raise s (0xA0 + m) 0x12 (s.tick % 2 ^ 32) else s

/-- The lane enters UP (R261, R267). -/
def up (s : State) (m rtd : Nat) : State :=
  let l := State.laneOf s m
  let cap := l.cap.getD []
  let r := l.rate.getD 0
  let p := protoFor m r (Arith.leAt cap 3 1)
  let s := put (enter s m .up) m D.LNK_PROTOCOL p
  let s := State.wLnk s (D.iLNK + m) D.LNK_UP_TICK (s.tick : Int)
  let s := State.modLane s m fun l => { l with plugged := false, since := s.tick, badEpisode := 0, staleEpisode := false }
  let s := identity (linkDelay s m rtd) m cap
  if p = 0 then stopChannel (State.raise s (0xA0 + m) 3 r) m else s

/-- The channel is enabled again (R264): the new delays apply and the bar falls. -/
def channelEnabled (c : Nat) (s : State) : State :=
  [c, 24 + c].foldl (fun s m =>
    let l := State.laneOf s m
    let s := match l.fresh with | some f => applyDelays s m f.1 f.2 | none => s
    State.modLane s m fun l => { l with fresh := none, identityBar := false }) s

/-! ### Bring-up events (R259, R260) -/

/-- SEEK has lasted the 32 groups that 64 markers take at two blocks a group (R247, R259). -/
def lockOpen (s : State) (m : Nat) : Bool := decide ((State.laneOf s m).seekAt + 32 ≤ s.tick)

/-- 64 markers in place (R267); `serial`: the far end's SERIAL, from the CAP blocks it sends. -/
def markerLock (m serial : Nat) (s : State) : State :=
  if (State.laneOf s m).mode = .seek ∧ lockOpen s m then
    let seen := (State.laneOf s m).plugged
    let s := State.modLane (enter s m .cap) m fun l => { l with plugged := true }
    if seen then s else State.raise s (0xA0 + m) 8 serial
  else s

/-- The role and protocols of a CAP block suit the lane (R261). -/
def capSuits (m : Nat) (d : List Byte) : Bool :=
  let p := Arith.leAt d 3 1
  if m < 24 then decide (Arith.leAt d 0 1 = 1) && (Arith.bit p 0 || Arith.bit p 1) else decide (Arith.leAt d 0 1 = 2) && Arith.bit p 2

/-- The target rate (R259 step 3). The generation byte takes no part in it: a far end that names AL1 with MAX_RATE 3, which R261 does not allow, is taken at
the rate it names (DESIGN CHOICE, log entry 30). -/
def targetRate (m maxRate : Nat) (d : List Byte) : Nat :=
  let top := if m < 24 then (if Arith.bit (Arith.leAt d 3 1) 1 then 3 else 2) else 1
  min (min maxRate (Arith.leAt d 2 1)) top

/-- LNK_REMOTE_CAP (R269). -/
def remoteCap (d : List Byte) : Nat :=
  Arith.leAt d 0 1 + 2 ^ 8 * Arith.leAt d 1 1 + 2 ^ 16 * Arith.leAt d 2 1 + 2 ^ 24 * Arith.leAt d 3 1 + 2 ^ 32 * Arith.leAt d 4 1 + 2 ^ 40 * Arith.leAt d 5 1

/-- A CAP block arrives in CAP (R259 step 2, R261). -/
def capBlock (m : Nat) (b : List Byte) (s : State) : State :=
  let l := State.laneOf s m
  if l.mode ≠ .cap ∨ !blockOk b ∨ (b.getD 0 0).toNat ≠ 0x10 then s
  else
    let d := (b.drop 2).take 26
    if !capSuits m d then State.raise (State.modLane s m fun l => { l with lastCap := none }) (0xA0 + m) 4 (Arith.leAt d 0 1 + 256 * Arith.leAt d 3 1)
    else if l.lastCap = some d then
      let t := targetRate m l.maxRate d
      let s := State.modLane s m fun l => { l with cap := some d, target := t }
      let s := State.wLnk s (D.iLNK + m) D.LNK_REMOTE_CAP (remoteCap d : Int)
      let s := State.wLnk s (D.iLNK + m) D.LNK_REMOTE_ID ((Arith.leAt d 6 4 * 2 ^ 32 + Arith.leAt d 10 4 : Nat) : Int)
      if t = 0 then relearn s m else nextStep s m
    else State.modLane s m fun l => { l with lastCap := some d }

/-- The far end echoes a STEP (R259 step 4): both ends switch at the start of the second group after it, and train. -/
def stepEcho (m : Nat) (s : State) : State :=
  let l := State.laneOf s m
  if l.mode = .step ∧ l.phase = .echo then
    State.modLane s m fun l => { l with phase := .training, switchAt := some (s.tick + 2), trainEnd := s.tick + 2 + l.trainTicks }
  else s

/-- The rate switch of a step falls due (R259 step 4): its training begins at the new rate. -/
def switchDue (m : Nat) (s : State) : State :=
  match (State.laneOf s m).switchAt with
  | some t =>
    if t ≤ s.tick then startTraining (State.modLane (setRate s m (State.laneOf s m).tryRate) m fun l => { l with switchAt := none }) m s.tick else s
  | none => s

/-- A training ends (R259, R267): EQ_TRAINED takes the equaliser values; a step goes on to its error test, a relearn to UP. -/
def trainingEnd (m eq rtd : Nat) (s : State) : State :=
  let l := State.laneOf s m
  let keep := fun s => put (put s m D.LNK_EQ (eqWord eq)) m D.LNK_EQ_TRAINED (eqWord eq)
  if s.tick < l.trainEnd then s
  else
    match l.mode with
    | .relearn => up (keep s) m rtd
    | .step =>
      if l.phase = .training then State.modLane (keep (switchDue m s)) m fun l => { l with phase := .test, blocks := { l.blocks with tests := 0, errors := 0, verdict := none } }
      else s
    | _ => s

/-- A step fails (R260): back to the previous rate, which becomes the ceiling, and relearn. -/
def stepFail (s : State) (m : Nat) : State :=
  let t := (State.laneOf s m).tryRate
  let s := State.raise (State.incLnk s (D.iLNK + m) D.LNK_STEP_FAILS 1) (0xA0 + m) 2 t
  let s := State.modLane (setRate s m (t - 1)) m fun l => { l with ceiling := some (t - 1) }
  relearn (put s m D.LNK_CEILING (t - 1)) m

/-- Blocks of an error test (R259 step 5). -/
def testLen : Nat := 1000000

/-- The error test has lasted the groups that its blocks take (R259 step 5). -/
def testOpen (s : State) (m : Nat) : Bool :=
  let l := State.laneOf s m
  decide (testLen ≤ groupBlocks (l.rate.getD 0) * (s.tick + 1 - l.trainEnd))

/-- The verdict on an error test (R259 step 6): `own` block errors here, the far end's verdict. -/
def testVerdict (m own : Nat) (farPass : Bool) (rtd : Nat) (s : State) : State :=
  let l := State.laneOf s m
  if l.mode = .step ∧ l.phase = .test then
    if own ≤ l.testMax ∧ farPass then
      if l.tryRate = l.target then up s m rtd else nextStep s m
    else stepFail s m
  else s

/-- The error test ends (R259 steps 5 and 6): it passes when every block of it has passed, and fails at any time. -/
def errorTestEnd (m own : Nat) (farPass : Bool) (rtd : Nat) (s : State) : State :=
  if own ≤ (State.laneOf s m).testMax ∧ farPass ∧ !testOpen s m then s else testVerdict m own farPass rtd s

/-! ### Freezing and drift (R255 to R258, R266) -/

/-- The receiver does not adapt (R255). -/
def frozen (s : State) (m : Nat) : Bool := Arith.bit (reg s m D.LNK_LIVE) 0

/-- IDLE blocks in a row after which a receiver freezes (R255). -/
def idleMax : Nat := 4096

/-- The receiver freezes (R255), on any lane in UP; a source lane that carries its frames never gets there (R257). -/
def freezeNow (m : Nat) (s : State) : State :=
  if (State.laneOf s m).mode = .up ∧ !frozen s m then
    let s := put s m D.LNK_LIVE (Arith.setBit (reg s m D.LNK_LIVE) 0 true)
    State.incLnk (State.modLane s m fun l => { l with frozenAt := s.tick }) (D.iLNK + m) D.LNK_FREEZES 1
  else s

/-- No block of another TYPE has arrived for the groups that 4096 IDLE blocks take (R255). -/
def idleOpen (s : State) (m : Nat) : Bool :=
  let l := State.laneOf s m
  decide (l.idleFrom + idleMax / groupBlocks (l.rate.getD 0) ≤ s.tick)

/-- The device counts 4096 consecutive error-free IDLE blocks (R255): the receiver freezes. -/
def freeze (m : Nat) (s : State) : State := if idleOpen s m then freezeNow m s else s

/-- An error-free block of another TYPE unfreezes adaptation and ends the count of IDLE blocks (R255). -/
def unfreeze (s : State) (m : Nat) : State :=
  let s := State.modLane s m fun l => { l with idleFrom := s.tick, blocks := { l.blocks with idle := 0 } }
  put s m D.LNK_LIVE (Arith.setBit (reg s m D.LNK_LIVE) 0 false)

/-- The channel of a head lane starts in the present tick (R258, R270): its WAKE blocks replace a burst. -/
def startsNow (s : State) (m : Nat) : Bool :=
  decide (m < 24) && started s m && s.dev.mode.inBuild && decide (State.rCat s (D.iCHS + m) D.CHS_START_BTICK = (s.btick : Int))

/-- A refresh burst is due (R257): every REFRESH ticks from the freeze, on a lane that carries its protocol. -/
def burstDue (s : State) (m : Nat) : Bool :=
  let n := s.tick - (State.laneOf s m).frozenAt
  Arith.bit (reg s m D.LNK_LIVE) 0 && Arith.bit (reg s m D.LNK_CTRL) 3 && State.laneUp s m && decide (0 < n) && decide (n % reg s m D.LNK_REFRESH = 0) &&
    !startsNow s m

/-- A refresh burst begins (R257): 256 WAKE blocks, which unfreeze both receivers. -/
def burst (m : Nat) (s : State) : State :=
  if burstDue s m then State.modLane (unfreeze s m) m fun l => { l with wakeLeft := 256, wakeFrom := s.tick } else s

/-- The block at group position `p` of tick `k` belongs to a refresh burst (R257). -/
def inBurst (l : Lane) (k p : Nat) : Bool := decide (l.wakeFrom ≤ k) && decide (groupBlocks (l.rate.getD 0) * (k - l.wakeFrom) + p < l.wakeLeft)

/-- The channel of a head lane starts (R258): its WAKE blocks replace a burst. The receiver adapts when the far end's answer arrives (R255). -/
def wakeUp (c : Nat) (s : State) : State := State.modLane s c fun l => { l with wakeLeft := 0 }

/-- The equaliser is out of guard (R256). -/
def outOfGuard (s : State) (m eq : Nat) : Bool :=
  let g := reg s m D.LNK_GUARD
  let tr := reg s m D.LNK_EQ_TRAINED
  let tap := fun v i => Arith.toSigned 8 (Arith.bits v (8 * i + 7) (8 * i))
  decide (Arith.bits g 7 0 < ((eq % 256 : Int) - (tr % 256 : Int)).natAbs) ||
    [1, 2, 3].any fun i => decide (Arith.bits g 15 8 < (tap eq i - tap tr i).natAbs)

/-- The engine of a channel stands still: at rest, in a hold, or at the end of its stop (R158, R168). -/
def still (s : State) (c : Nat) : Bool :=
  let e := State.engOf s c
  e.motion == .rest || e.motion == .hold || Eng.stopped s e

/-- 256 consecutive blocks out of guard while the receiver adapts (R256, R266): a STARTED channel first stops along its path, and the relearn begins when its
engine is at rest, at once when it is so already. -/
def drift (m eq : Nat) (s : State) : State :=
  let eq := eqWord eq
  if (State.laneOf s m).mode = .up ∧ !frozen s m ∧ outOfGuard s m eq ∧ !(State.laneOf s m).driftWaits then
    let s := put (State.modLane s m fun l => { l with driftAt := some s.tick }) m D.LNK_EQ eq
    if started s m then
      let rest := still s (chan m)
      let s := Eng.stopNow (State.raise s (0xA0 + m) 6 eq) (chan m) .fault
      if rest then relearn s m else State.modLane s m fun l => { l with driftWaits := true }
    else relearn (State.raise s (0xA0 + m) 5 eq) m
  else s

/-- The engine of a channel has come to rest: relearns that waited for it begin (R266). -/
def atRest (c : Nat) (s : State) : State :=
  [c, 24 + c].foldl (fun s m => if (State.laneOf s m).driftWaits then relearn s m else s) s

/-- An ingress FIFO of a lane overflows (R19, R270): the blocks are in error. -/
def fifoOverflow (m blocks : Nat) (s : State) : State :=
  let s := State.raise (State.incLnk s (D.iLNK + m) D.LNK_FIFO_OVF 1) (0xA0 + m) 9 blocks
  if 16 ≤ blocks then lost m 4 (countBad s m blocks) else badBlocks m blocks s

end Lnk

end Sys2Proof.Machine
end

