-- ==== Sys2Proof/Machine/Attach.lean ====
section
/-!
DEFINITION. Heads, sources, XY2-100 ports and analog inputs on their way in (11_head_source_protocols.md R271 to R291, R294), with the checks on feedback
(R160, R161), drift (R165) and source status (R288), and the resumption after a fault hold (R157, R263, R280).
What the rules leave to the model: log entries 24, 31 and 32.
-/
namespace Sys2Proof.Machine

namespace Att

/-- A head record entry. -/
def hdp (s : State) (c sub : Nat) : Nat := (State.rAtt s (D.iHDP + c) sub).toNat

/-- A source record entry. -/
def src (s : State) (c sub : Nat) : Nat := (State.rAtt s (D.iSRC + c) sub).toNat

/-- The low 32 bits of TICK: the address of R299. -/
def tickLow (s : State) : Nat := s.tick % 2 ^ 32

/-! ### Frames in (R273, R274, R279, R281, R287) -/

/-- A feedback frame (R279). -/
def feedback (d : List Byte) : Feedback :=
  { status := Arith.leAt d 1 1, x := Arith.leIntAt d 4 3, y := Arith.leIntAt d 7 3, z := Arith.leIntAt d 10 3, pdA := Arith.leAt d 14 2, pdB := Arith.leAt d 16 2,
    temp := Arith.leIntAt d 18 2, faultCode := Arith.leAt d 20 2 }

/-- A source status frame (R287). -/
def srcFrame (d : List Byte) : SrcFrame :=
  { status := Arith.leAt d 1 1, emission := Arith.leAt d 4 2, hbEcho := Arith.leAt d 6 1, faultCode := Arith.leAt d 8 2, temp := Arith.leIntAt d 10 2 }

/-- The tick an upstream TAG names: the latest tick not after the present one with these low bits; none when it is older than 63 ticks (R274). -/
def tagTick (now tag : Nat) : Option Nat :=
  let back := (now + 65536 - tag % 65536) % 65536
  if back ≤ now ∧ back ≤ 63 then some (now - back) else none

/-- A stale frame (R274): discarded, reported once per episode. -/
def stale (s : State) (m : Nat) : State :=
  let s := State.incAtt s (D.iHDP + Lnk.chan m) D.HDP_TAG_DISCARDS 1
  if (State.laneOf s m).staleEpisode then s
  else State.raise (State.modLane s m fun l => { l with staleEpisode := true }) (0xA0 + m) 0x13 (tickLow s)

/-- Keep the entries of the newest 256 ticks. -/
def recent {α : Type} (now : Nat) (t : Tab α) : Tab α := t.filter fun e => decide (now ≤ e.1 + 256)

/-- A frame of a lane UP with its protocol arrives (R274): KIND 0x81, after `bad` blocks in error. -/
def upstream (m : Nat) (d : List Byte) (bad : Nat) (s : State) : State :=
  if 48 ≤ m ∨ !State.laneUp s m then s
  else
    let s := if bad = 0 then Lnk.unfreeze (Lnk.goodBlock m s) m else Lnk.badBlocks m bad s
    if d.length ≠ 26 ∨ Arith.leAt d 0 1 ≠ 0x81 then s
    else
      match tagTick s.tick (Arith.leAt d 2 2) with
      | none => stale s m
      | some t =>
        let s := State.modLane s m fun l => { l with staleEpisode := false }
        if m < 24 then
          let f := feedback d
          let s := if Arith.bit f.status 6 then State.incAtt s (D.iHDP + m) D.HDP_HEAD_RX_MISS 1 else s
          State.modAtt s m fun a => { a with fb := Tab.ins (recent s.tick a.fb) t f }
        else
          let f := srcFrame d
          let s := if Arith.bit f.status 5 then State.incAtt s (D.iSRC + (m - 24)) D.SRC_SRC_RX_MISS 1 else s
          State.modAtt s (m - 24) fun a => { a with st := Tab.ins (recent s.tick a.st) t f }

/-! ### Tiles (R281, R282) -/

/-- Bytes of a complete tile: 64 × 64 pixels of 8, 12 or 16 bits (R281). -/
def tileBytes (format : Nat) : Nat := 4096 * format / 8

/-- The pixel bytes that have arrived, in order. -/
def tileData (t : TileIn) : List Byte :=
  ((List.range t.chunks).flatMap fun i => Tab.get (fun _ => List.replicate 20 0) t.data i).take (tileBytes t.format)

/-- A tile is complete (R282): every chunk arrived and the CRC-32 matches. -/
def tileComplete (t : TileIn) : Bool := decide (t.data.length = t.chunks) && decide (Arith.crc32 (tileData t) = t.crc)

/-- An incomplete tile frame counts, and raises TILE_INCOMPLETE once per episode (R282, R295). -/
def tileBad (s : State) (c : Nat) : State :=
  let s := State.incAtt s (D.iHDP + c) D.HDP_TILES_BAD 1
  if (State.attOf s c).tileEpisode then s
  else State.raise (State.modAtt s c fun a => { a with tileEpisode := true }) (0xA0 + c) 0x14 (tickLow s)

/-- The frame of tag tick `t` has been handed over (R282): it was marked then. -/
def handedOver (s : State) (c t : Nat) : Bool := ((Tab.find s.img.mpf c).map fun u => u.handed.contains t).getD false

/-- Close the tile on its way in: complete or incomplete (R282). One that was handed over before counts no second time. -/
def closeTile (s : State) (c : Nat) : State :=
  match (State.attOf s c).tile with
  | none => s
  | some t =>
    let ok := tileComplete t
    let s := State.modAtt s c fun a => { a with tile := none, tilesDone := a.tilesDone ++ [(t.frameNo, t.tag, ok, t.format, if ok then tileData t else [])] }
    if handedOver s c t.tag then s
    else if ok then State.modAtt (State.incAtt s (D.iHDP + c) D.HDP_TILES_OK 1) c fun a => { a with tileEpisode := false }
    else tileBad s c

/-- The number of data blocks of a tile format (R281). -/
def chunksOf (format : Nat) : Nat := match format with | 0x08 => 205 | 0x0C => 308 | 0x10 => 410 | _ => 0

/-- A TILE_HDR block arrives (R281, R282): a new FRAME_NO closes the previous frame. -/
def tileHdr (m : Nat) (d : List Byte) (s : State) : State :=
  if 24 ≤ m ∨ !State.hasZ s m ∨ !State.laneUp s m ∨ d.length ≠ 26 ∨ Arith.leAt d 0 1 ≠ 0x82 then s
  else
    let s := Lnk.unfreeze (Lnk.goodBlock m s) m
    let fmt := Arith.leAt d 1 1
    let n := Arith.leAt d 2 2
    match tagTick s.tick (Arith.leAt d 4 2) with
    | none => stale s m
    | some t =>
      let s := match (State.attOf s m).tile with
        | some o => if o.frameNo = n then s else closeTile s m
        | none => s
      if chunksOf fmt = 0 ∨ Arith.leAt d 6 2 ≠ chunksOf fmt then s
      else State.modAtt s m fun a => { a with tile := some ⟨fmt, n, t, chunksOf fmt, Arith.leAt d 8 4, []⟩ }

/-- A TILE_DATA block arrives (R281). -/
def tileChunk (m : Nat) (d : List Byte) (s : State) : State :=
  if 24 ≤ m ∨ !State.laneUp s m ∨ d.length ≠ 26 ∨ Arith.leAt d 0 1 ≠ 0x83 then s
  else
    let s := Lnk.unfreeze (Lnk.goodBlock m s) m
    match (State.attOf s m).tile with
    | none => s
    | some t =>
      let i := Arith.leAt d 4 2
      if Arith.leAt d 2 2 ≠ t.frameNo ∨ t.chunks ≤ i then s
      else
        let t := { t with data := Tab.ins t.data i (d.drop 6) }
        let s := State.modAtt s m fun a => { a with tile := some t }
        if tileComplete t then closeTile s m else s

/-! ### The ticks that are over -/

/-- Tick `k` is a tag tick of the frame schedule of MPFn (R203, R313), whether its trigger was sent or not. -/
def areaTick (s : State) (c k : Nat) : Bool := ((Tab.find s.img.mpf c).map fun u => u.tags.contains k).getD false

/-- The tick `k` of a channel, from its slots and edges (R202, R207). -/
def pastOf (s : State) (c k : Nat) : Past :=
  let e := State.engOf s c
  let d := e.slots.find? fun d => d.k == k
  let offIn := e.edges.any fun x => !x.on && decide (125 * k ≤ x.at4) && decide (x.at4 < 125 * (k + 1))
  let onStart := Eng.gateAt e (125 * k)
  let kind := (d.map fun d => d.kind).getD .hold
  let on := ((e.edges.filter fun x => x.on && decide (x.at4 < 125 * (k + 1))).map fun x => x.at4 / 125).foldl max e.lastOn
  let settle := (State.rMpl s (D.iMPL + c) D.MPL_SETTLE).toNat
  { k := k, bt := if s.dev.mode.inBuild then s.btick - 1 else s.btick, due := k + State.latencyOf s c, hu := (d.map fun d => d.hu).getD e.hu,
    fast := kind == .runUp || kind == .mark || kind == .corner || kind == .runOut, power := (d.bind fun d => d.power).getD 0,
    gateAll := onStart && !offIn, active := onStart && !offIn && decide (on + settle ≤ k) && State.chOf s c == .started,
    clamp := (d.map fun d => d.clamp).getD 0, setpoint := (d.map fun d => d.par.setpoint).getD 0, model := (d.map fun d => d.par.model).getD 0,
    tpred := (d.map fun d => d.tpred).getD 0, tag := areaTick s c k, fbDone := false, loopDone := false, statusDone := false }

/-- Record the tick before the present one on a channel; the newest 160 are kept. -/
def recordPast (c : Nat) (s : State) : State :=
  let k := s.tick - 1
  let p := pastOf s c k
  State.modEng s c fun e => { e with
    past := (e.past.drop (e.past.length + 1 - 160)) ++ [p]
    lastOn := ((e.edges.filter fun x => x.on && decide (x.at4 < 125 * (k + 1))).map fun x => x.at4 / 125).foldl max e.lastOn }

/-- The past tick `k`. -/
def pastAt (e : Engine) (k : Nat) : Option Past := e.past.find? fun p => p.k == k

/-- Change the past tick `k` of a channel. -/
def modPast (s : State) (c k : Nat) (f : Past → Past) : State := State.modEng s c fun e => { e with past := Arith.updWhere (fun p => p.k == k) f e.past }

/-! ### Feedback (R160, R161, R280) -/

/-- The feedback lag in use (R160). -/
def feLag (s : State) (c : Nat) : Nat :=
  let v := (State.rTrj s (D.iTRJ + c) D.TRJ_FE_LAG).toNat
  if v = 0xFF then hdp s c D.HDP_FE_LAG else v

/-- The limit that applies to the set-point of a past tick (R160). -/
def feLimit (s : State) (c : Nat) (p : Past) : Nat :=
  let near := (State.engOf s c).lateRuns.any fun r => decide (r.1 ≤ p.k) && decide (p.k ≤ r.2 + 64)
  (State.rTrj s (D.iTRJ + c) (if p.fast && !near then D.TRJ_FE_LIMIT_MARK else D.TRJ_FE_LIMIT_JUMP)).toNat

/-- An absent position sample (R161). -/
def feAbsent (s : State) (c : Nat) : State :=
  let n := (State.engOf s c).feAbsent + 1
  let s := State.modEng s c fun e => { e with feAbsent := n }
  if n = 16 then Eng.stopNow (Eng.event s c 3) c .fault else s

/-- The following-error check on a present sample tagged `k` (R160). -/
def feCheck (s : State) (c k : Nat) (f : Feedback) : State :=
  let s := State.modEng s c fun e => { e with feAbsent := 0 }
  match pastAt (State.engOf s c) (k - feLag s c) with
  | none => s
  | some p =>
    let ex := (f.x - p.hu.x).natAbs
    let ey := (f.y - p.hu.y).natAbs
    let old := (State.rTrj s (D.iTRJ + c) D.TRJ_FE_MAX).toNat
    let s := State.wTrj s (D.iTRJ + c) D.TRJ_FE_MAX ((min (max old (max ex ey)) (2 ^ 32 - 1) : Nat) : Int)
    let rx := if feLimit s c p < ex then (State.engOf s c).feRun + 1 else 0
    let ry := if feLimit s c p < ey then (State.engOf s c).feRunY + 1 else 0
    let s := State.modEng s c fun e => { e with feRun := rx, feRunY := ry }
    if max rx ry ≠ 0 ∧ (State.rTrj s (D.iTRJ + c) D.TRJ_FE_COUNT).toNat ≤ max rx ry then
      Eng.stopNow (Eng.event (State.modEng s c fun e => { e with feRun := 0, feRunY := 0 }) c 2) c .fault
    else s

/-- A condition of R280 or R288 raises its fault in the frame in which it comes up, and stops the engine along the path; `stage` marks the hold. -/
def condition (s : State) (c src kind : Nat) (now : Bool) (stage : Attach → Attach) : State :=
  if !now then State.modAtt s c fun a => { a with standing := a.standing.filter (· != kind) }
  else if (State.attOf s c).standing.contains kind then s
  else
    let s := State.modAtt s c fun a => stage { a with standing := a.standing ++ [kind] }
    Eng.stopNow (State.raise s src kind (tickLow s)) c .fault

/-- STATUS and FAULT_CODE of a consumed feedback frame (R280). -/
def headStatus (s : State) (c : Nat) (f : Feedback) : State :=
  let ready := Arith.bit f.status 0
  let fault := Arith.bit f.status 1
  let s := State.wAtt s (D.iHDP + c) D.HDP_STATUS (f.status : Int)
  let s := if fault then State.wAtt s (D.iHDP + c) D.HDP_HEAD_FAULT (f.faultCode : Int) else s
  let live := State.chOf s c == .started
  let stage := fun a : Attach => { a with head := .ack }
  let s := condition s c (0xA0 + c) 0x10 (live && fault) stage
  let s := condition s c (0xA0 + c) 0x11 (live && !ready) stage
  if live && ready && !fault then State.modAtt s c fun a => { a with head := if a.head == .good then .none else a.head } else s

/-- A position that is absent at its consumption is counted (R295), and enters the run of absent samples (R161). -/
def fbMissing (s : State) (c : Nat) : State :=
  let s := State.incAtt s (D.iHDP + c) D.HDP_FB_ABSENT 1
  if Eng.follows s c then feAbsent s c else s

/-- The feedback of the past tick `k` is consumed (R160, R280), when the channel has a head lane that is UP; POS_VALID = 0 makes the position absent
(R279). -/
def fbTake (s : State) (c k : Nat) : State :=
  let s := modPast s c k fun p => { p with fbDone := true }
  if State.legacy s c ∨ !State.laneUp s c then s
  else
    match Tab.find (State.attOf s c).fb k with
    | none => fbMissing s c
    | some f =>
      let s := headStatus s c f
      if !Arith.bit f.status 2 then fbMissing s c else if Eng.follows s c then feCheck s c k f else s

/-- The oldest past tick whose feedback falls due by tick `t` and is not consumed. -/
def fbDue (s : State) (c t : Nat) : Option Nat := ((State.engOf s c).past.find? fun p => !p.fbDone && decide (p.due ≤ t)).map fun p => p.k

/-- FEEDBACK_CONSUME (R160): the next feedback sample due in the present tick. -/
def fbConsume (c : Nat) (s : State) : State := match fbDue s c s.tick with | some k => fbTake s c k | none => s

/-- Every feedback sample of a channel due by tick `t`, in ascending tag order. -/
def fbAll (t c : Nat) (s : State) : State :=
  ((State.engOf s c).past.filter fun p => !p.fbDone && decide (p.due ≤ t)).foldl (fun s p => fbTake s c p.k) s

/-! ### Drift (R165) -/

/-- An update of Δθ falls due in the present tick. -/
def driftDue (s : State) (c : Nat) : Bool :=
  s.dev.mode.inBuild && decide (s.btick % 2000 = 0) && State.chOf s c == .started && (State.engOf s c).driftDone != some s.btick

/-- DRIFT_UPDATE (R165): TEMP of the frame tagged k − L. -/
def drift (c : Nat) (s : State) : State :=
  if !driftDue s c then s
  else
    let s := State.modEng s c fun e => { e with driftDone := some s.btick }
    if State.legacy s c then s
    else
      let t := (Tab.find (State.attOf s c).fb (s.tick - State.latencyOf s c)).bind fun f => if Arith.bit f.status 5 then some f.temp else none
      match t with
      | some θ =>
        let s := State.modEng s c fun e => { e with dtheta := θ - State.rTrj s (D.iCOR + c) D.COR_DRIFT_REF, driftAbsent := 0, driftValid := true }
        State.wTrj s (D.iTRJ + c) D.TRJ_HEAD_TEMP θ
      | none =>
        let n := (State.engOf s c).driftAbsent + 1
        let s := State.modEng s c fun e => { e with driftAbsent := n }
        if n = 5 then Eng.event s c 9 else s

/-! ### Source status (R288) -/

/-- HB_ECHO is among the heartbeats sent in the last 20 frames. -/
def hbOk (a : Attach) (echo : Nat) : Bool := decide ((a.hb + 256 - 1 - echo % 256) % 256 < min 20 a.hbSent)

/-- A source fault is raised: override, stop along path, hold (R288, R299). -/
def srcFault (s : State) (c kind : Nat) : State :=
  let s := State.raise (State.modAtt s c fun a => { a with src := .ack }) (0xB8 + c) kind (tickLow s)
  Eng.stopNow s c .fault

/-- The heartbeat check: a run of 20 raises HEARTBEAT_LOST. -/
def hbCheck (s : State) (c : Nat) (ok : Bool) : State :=
  let n := if ok then 0 else (State.attOf s c).hbRun + 1
  let s := State.modAtt s c fun a => { a with hbRun := n }
  if n = 20 then srcFault (State.incAtt s (D.iSRC + c) D.SRC_HB_LOSSES 1) c 0x23 else s

/-- The emission check on the status tagged `k` (R288). -/
def emCheck (s : State) (c k : Nat) (f : SrcFrame) : State :=
  let e := State.engOf s c
  if !Arith.bit (src s c D.SRC_CTRL) 0 ∨ Eng.faultHeld e then s
  else
    match pastAt e k, pastAt e (k - src s c D.SRC_EM_LAG) with
    | some p, some q =>
      if p.gateAll && q.gateAll then
        let n := if src s c D.SRC_EM_WINDOW < ((f.emission : Int) - (q.power : Int)).natAbs then (State.attOf s c).emRun + 1 else 0
        let runOver := decide (0 < n) && decide (src s c D.SRC_EM_COUNT ≤ n)
        let s := State.modAtt s c fun a => { a with emRun := if runOver then 0 else n }
        if runOver then srcFault s c 0x24 else s
      else s
    | _, _ => s

/-- The status frame of the past tick `k` is consumed (R288), when the channel has a source lane that is UP. -/
def stTake (s : State) (c k : Nat) : State :=
  let s := modPast s c k fun p => { p with statusDone := true }
  if State.analog s c ∨ !State.laneUp s (24 + c) then s
  else
    let live := State.chOf s c == .started
    match Tab.find (State.attOf s c).st k with
    | none => if live then hbCheck s c false else s
    | some f =>
      let b := Arith.bit f.status
      let w := fun s sub (v : Int) => State.wAtt s (D.iSRC + c) sub v
      let s := w (w (w s D.SRC_STATUS f.status) D.SRC_EMISSION f.emission) D.SRC_SOURCE_TEMP f.temp
      let s := if b 1 then w s D.SRC_SOURCE_FAULT f.faultCode else s
      let stage := fun a : Attach => { a with src := .ack }
      let bad := !b 0 || b 4
      let s := condition s c (0xB8 + c) 0x20 (live && b 1) stage
      let s := condition s c (0xB8 + c) 0x21 (live && b 2) stage
      let s := condition s c (0xB8 + c) 0x22 (live && bad) stage
      if !live then s
      else
        let echo := hbOk (State.attOf s c) f.hbEcho
        let s := emCheck (hbCheck s c echo) c k f
        if !bad && !b 1 && !b 2 && echo then State.modAtt s c fun a => { a with src := if a.src == .good then .none else a.src } else s

/-- The oldest past tick whose status falls due by tick `t` and is not consumed. -/
def stDue (s : State) (c t : Nat) : Option Nat :=
  ((State.engOf s c).past.find? fun p => !p.statusDone && decide (p.k + src s c D.SRC_LATENCY ≤ t)).map fun p => p.k

/-- SOURCE_STATUS_CONSUME (R288): the next status frame due in the present tick. -/
def stConsume (c : Nat) (s : State) : State := match stDue s c s.tick with | some k => stTake s c k | none => s

/-- Every status frame of a channel due by tick `t`. -/
def stAll (t c : Nat) (s : State) : State :=
  ((State.engOf s c).past.filter fun p => !p.statusDone && decide (p.k + src s c D.SRC_LATENCY ≤ t)).foldl (fun s p => stTake s c p.k) s

/-! ### XY2-100 status (R291) -/

/-- Even parity over the 20 bits of a frame (R289). -/
def parityOk (w : Nat) : Bool := decide (((List.range 20).filter fun i => Arith.bit w i).length % 2 = 0)

/-- A fault of a port (R291): raised when its run reaches STATUS_COUNT, and when it first meets a STARTED channel, which it stops. `now`: the run stands. -/
def xyFault (s : State) (p kind : Nat) (now : Bool) : State :=
  let a := State.attOf s p
  let act := State.chOf s p == .started && a.xy == .none
  if !now then State.modAtt s p fun a => { a with standing := a.standing.filter (· != kind) }
  else if act || !a.standing.contains kind then
    let s := State.raise (State.modAtt s p fun a => { a with standing := a.standing.filter (· != kind) ++ [kind] }) (0xA0 + p) kind (tickLow s)
    if act then Eng.stopNow (State.modAtt s p fun a => { a with xy := .ack }) p .fault else s
  else s

/-- A STATUS frame of a port, its first bit in bit 19 (R291). -/
def xyStatus (p bits : Nat) (s : State) : State :=
  if 8 ≤ p ∨ !State.legacy s p then s
  else
    let xy := fun sub => (State.rAtt s (D.iXY + p) sub).toNat
    let valid := decide (Arith.bits bits 19 17 = 1) && parityOk bits
    let word := Arith.bits bits 16 1
    let count := xy D.XY_STATUS_COUNT
    if valid then
      let s := State.wAtt s (D.iXY + p) D.XY_STATUS_WORD (word : Int)
      let wrong := decide (Nat.land word (xy D.XY_STATUS_MASK) ≠ xy D.XY_STATUS_OK)
      let n := if wrong then (State.attOf s p).xyWrong + 1 else 0
      let s := State.modAtt s p fun a => { a with xyBad := 0, xyWrong := n, xy := if !wrong && a.xy == .good then .none else a.xy }
      xyFault (xyFault s p 0x16 false) p 0x15 (wrong && decide (count ≤ n))
    else
      let n := (State.attOf s p).xyBad + 1
      let s := State.modAtt (State.incAtt s (D.iXY + p) D.XY_BAD_FRAMES 1) p fun a => { a with xyBad := n, xyWrong := 0 }
      xyFault (xyFault s p 0x15 false) p 0x16 (decide (count ≤ n))

/-! ### Acknowledgement and resumption (R157, R263, R280) -/

/-- An acknowledgement of a lane's source (R280, R288, R291): the hold waits for a good frame, and CLEAR_FAULT goes out in the next 8 frames. -/
def acked (src : Nat) (s : State) : State :=
  if 0xA0 ≤ src ∧ src < 0xB8 then
    let c := src - 0xA0
    State.modAtt s c fun a => { a with
      head := if a.head == .ack then .good else a.head
      headClear := if a.head == .ack then 8 else a.headClear
      xy := if a.xy == .ack then .good else a.xy }
  else if 0xB8 ≤ src ∧ src < 0xD0 then
    State.modAtt s (src - 0xB8) fun a => { a with src := if a.src == .ack then .good else a.src, srcClear := if a.src == .ack then 8 else a.srcClear }
  else s

/-- Whether a source has a fault that still waits for its acknowledgement (R430): its window is open. -/
def unacked (s : State) (src : Nat) : Bool := (State.srcOf s src).window.isSome || s.raised.any fun m => m.src == src

/-- A channel held by a fault may resume (R157, R159, R160, R263, R280): at rest, a fault of the engine acknowledged, its
lanes acknowledged and UP with the identity they had, its head, source and port good, and a late hold over (R123, R159). -/
def mayResume (s : State) (c : Nat) : Bool :=
  let e := State.engOf s c
  let a := State.attOf s c
  let held := e.why == .fault || e.why == .late || e.why == .headLate
  State.chOf s c == .started && !Eng.leaving s c && s.dev.mode == .building && held && (Eng.stopped s e || e.motion == .hold || e.motion == .rest) &&
    decide (e.waitUntil ≤ s.tick) && (e.why != .fault || !unacked s (0x80 + c)) && ((State.lanesOf s c).all fun m => !unacked s (0xA0 + m) && !(State.laneOf s m).identityBar) && State.lanesUp s c &&
    a.head == .none && a.src == .none && a.xy == .none && !(State.laneOf s c).driftWaits && !(State.laneOf s (24 + c)).driftWaits

/-- Resume a channel whose fault hold ends. -/
def tryResume (c : Nat) (s : State) : State := if mayResume s c then Eng.resumeHere s c else s

/-- An engine that stopped comes to rest (R156, R168): HOLD when a stripe is in flight and the channel stays STARTED, REST otherwise; relearns that waited
begin (R266). -/
def atRest (c : Nat) (s : State) : State :=
  let e := State.engOf s c
  if Eng.stopped s e then
    let m : Motion := if !e.stripes.isEmpty && State.chOf s c == .started then .hold else .rest
    Lnk.atRest c (State.setEng s c { e with motion := m })
  else s

/-! ### Analog inputs (R294) -/

/-- The sample of AIN `m` of the tick that is over. -/
def ainSample (m v : Nat) (s : State) : State :=
  let v := v % 65536
  let s := State.wAtt s (D.iAIO + m) D.AIO_AIN_VALUE (v : Int)
  let s := if v = 0 ∨ v = 65535 then State.incAtt s (D.iAIO + m) D.AIO_AIN_FULL 1 else s
  State.modAtt s m fun a => { a with ain := Tab.ins (recent s.tick a.ain) (s.tick - 1) v }

end Att

end Sys2Proof.Machine
end

