-- ==== Sys2Proof/Machine/Codec.lean ====
section
/-!
DEFINITION. The Folio stream (14_folio_codec.md R334 to R336, R342): the row modes, the median-edge predictor, the adaptive code, the decoder and its
guards.
-/
namespace Sys2Proof.Codec

/-- The contexts of a row (R335, R336): A and N of each. -/
structure Ctxs where
  a : List Nat
  n : List Nat
deriving DecidableEq, Repr

/-- Contexts at the start of a CODED row (R335). -/
def Ctxs.start (bits : Nat) : Ctxs := ⟨List.replicate 16 (if 7 ≤ bits then 2 ^ (bits - 6) else 1), List.replicate 16 1⟩

/-- The neighbours of a sample (R336). -/
structure Nbr where
  a : Nat
  b : Nat
  c : Nat
  d : Nat
deriving DecidableEq, Repr

/-- The neighbours of column `i`: `west` the sample before it in its row, `prev` the row above. -/
def nbr (bits : Nat) (prev : Option (List Nat)) (west : Option Nat) (i width : Nat) : Nbr :=
  match prev with
  | none => let a := west.getD (2 ^ (bits - 1)); ⟨a, a, a, a⟩
  | some p =>
    let b := p.getD i 0
    let d := if i + 1 < width then p.getD (i + 1) 0 else b
    match west with
    | none => ⟨b, b, b, d⟩
    | some a => ⟨a, b, p.getD (i - 1) 0, d⟩

/-- The median-edge predictor (R336). -/
def predict (v : Nbr) : Nat :=
  if max v.a v.b ≤ v.c then min v.a v.b else if v.c ≤ min v.a v.b then max v.a v.b else v.a + v.b - v.c

/-- The context of a sample: the bit length of its gradient, at most 15 (R336). -/
def context (v : Nbr) : Nat :=
  let g := ((v.a : Int) - v.c).natAbs + ((v.c : Int) - v.b).natAbs + ((v.b : Int) - v.d).natAbs
  min 15 (if g = 0 then 0 else g.log2 + 1)

/-- The mapped residual of a sample (R336). -/
def mapped (bits x pred : Nat) : Nat :=
  let m := 2 ^ bits
  let e := (x + m - pred % m) % m
  if 2 ^ (bits - 1) ≤ e then 2 * (m - e) - 1 else 2 * e

/-- The sample of a mapped residual. -/
def unmapped (bits m pred : Nat) : Nat :=
  let w := 2 ^ bits
  if m % 2 = 0 then (pred + m / 2) % w else (pred + w - (m + 1) / 2 % w) % w

/-- Least k with n · 2^k ≥ a, by fuel. -/
def leastK : Nat → Nat → Nat → Nat → Nat
  | 0, _, _, k => k
  | f + 1, a, n, k => if a ≤ n * 2 ^ k then k else leastK f a n (k + 1)

/-- The code parameter of a context (R336). -/
def codeK (c : Ctxs) (q : Nat) : Nat := leastK 64 (c.a.getD q 0) (c.n.getD q 1) 0

/-- The contexts after a residual (R336). -/
def adapt (c : Ctxs) (q m : Nat) : Ctxs :=
  let a := c.a.getD q 0 + m
  let n := c.n.getD q 1 + 1
  if n = 64 then ⟨c.a.set q (a / 2), c.n.set q 32⟩ else ⟨c.a.set q a, c.n.set q n⟩

/-- The low `n` bits of a number, most significant first. -/
def msb (n v : Nat) : List Bool := ((List.range n).map fun i => Arith.bit v (n - 1 - i))

/-- The code of a mapped residual (R336). -/
def codeWord (bits k m : Nat) : List Bool :=
  if m / 2 ^ k < 24 then List.replicate (m / 2 ^ k) true ++ [false] ++ msb k m else List.replicate 24 true ++ msb bits m

/-- The code of the samples of a row from column `i` on. -/
def codeRow (bits width : Nat) (prev : Option (List Nat)) : List Nat → Nat → Option Nat → Ctxs → List Bool
  | [], _, _, _ => []
  | x :: xs, i, west, c =>
    let v := nbr bits prev west i width
    let first := prev.isNone && west.isNone
    let q := if first then 0 else context v
    let m := mapped bits x (if first then 2 ^ (bits - 1) else predict v)
    codeWord bits (codeK c q) m ++ codeRow bits width prev xs (i + 1) (some x) (adapt c q m)

/-- Bits packed most significant first, padded with 0 to a byte boundary (R335), by fuel. -/
def packGo : Nat → List Bool → List Byte
  | 0, _ => []
  | f + 1, bs =>
    match bs with
    | [] => []
    | _ => BitVec.ofNat 8 ((List.range 8).foldl (fun a i => 2 * a + b2n (bs.getD i false)) 0) :: packGo f (bs.drop 8)

/-- Bits packed into bytes. -/
def pack (bs : List Bool) : List Byte := packGo (bs.length / 8 + 1) bs

/-- One row of a stream (R335). -/
def row (bits width j : Nat) (prev : Option (List Nat)) (xs : List Nat) : List Byte :=
  let head := fun mode => [0xF5, BitVec.ofNat 8 mode] ++ Arith.natLe 2 j
  if prev = some xs then head 1
  else if xs.all fun x => x == xs.headD 0 then head 2 ++ Arith.natLe 2 (xs.headD 0)
  else head 0 ++ pack (codeRow bits width prev xs 0 none (Ctxs.start bits))

/-- The rows of an image: samples in row-major order, by fuel. -/
def splitRows : Nat → Nat → List Nat → List (List Nat)
  | 0, _, _ => []
  | f + 1, width, xs => xs.take width :: splitRows f width (xs.drop width)

/-- The coded rows of an image. -/
def rows (bits width : Nat) : List (List Nat) → Nat → Option (List Nat) → List (List Byte)
  | [], _, _ => []
  | r :: rs, j, prev => row bits width j prev r :: rows bits width rs (j + 1) (some r)

/-- The header of a stream (R334). -/
def header (bits width height : Nat) : List Byte :=
  Arith.natLe 4 0x4F494C46 ++ Arith.natLe 2 1 ++ [BitVec.ofNat 8 bits, 0] ++ Arith.natLe 2 width ++ Arith.natLe 2 height ++ Arith.natLe 4 0

/-- The terminator after `body`, which keeps `n` of `height` rows (R334). -/
def terminator (body : List Byte) (n height : Nat) : List Byte :=
  Arith.natLe 4 0x444E4546 ++ Arith.natLe 2 n ++ Arith.natLe 2 (b2n (decide (n < height))) ++ Arith.natLe 4 body.length ++ Arith.natLe 4 (Arith.crc32 body)

/-- The stream of an image that keeps its first `n` rows (R333, R334). -/
def stream (bits width height n : Nat) (samples : List Nat) : List Byte :=
  let body := header bits width height ++ ((rows bits width (splitRows height width samples) 0 none).take n).flatten
  body ++ terminator body (min n height) height

/-- Whole rows whose bytes, the header included, fit in `cap` bytes (R340). -/
def rowsIn (cap : Nat) : List (List Byte) → Nat → Nat
  | [], _ => 0
  | r :: rs, used => if used + r.length ≤ cap then 1 + rowsIn cap rs (used + r.length) else 0

/-! ### Decompression (R336, R342) -/

/-- The bits of bytes, most significant first. -/
def bitsOf (bs : List Byte) : List Bool := bs.flatMap fun b => msb 8 b.toNat

/-- The number that bits spell, most significant first. -/
def bitsNat (bs : List Bool) : Nat := bs.foldl (fun a b => 2 * a + b2n b) 0

/-- Decode one mapped residual: its value and the bits used; none when the input ends. -/
def takeCode (bits k : Nat) (bs : List Bool) : Option (Nat × Nat) :=
  let u := ((bs.take 24).takeWhile id).length
  if u = 24 then if bs.length < 24 + bits then none else some (bitsNat ((bs.drop 24).take bits), 24 + bits)
  else if bs.length < u + 1 + k then none else some (u * 2 ^ k + bitsNat ((bs.drop (u + 1)).take k), u + 1 + k)

/-- Decode the samples of a CODED row by fuel: the row and the bits used. -/
def decodeRow (bits width : Nat) (prev : Option (List Nat)) : Nat → List Bool → Nat → Nat → List Nat → Ctxs → Option (List Nat × Nat)
  | 0, _, used, _, acc, _ => some (acc.reverse, used)
  | f + 1, bs, used, i, acc, c =>
    let west := acc.head?
    let v := nbr bits prev west i width
    let first := prev.isNone && west.isNone
    let q := if first then 0 else context v
    match takeCode bits (codeK c q) bs with
    | none => none
    | some (m, n) =>
      let x := unmapped bits m (if first then 2 ^ (bits - 1) else predict v)
      decodeRow bits width prev f (bs.drop n) (used + n) (i + 1) (x :: acc) (adapt c q m)

/-- What decompression yields (R342): RESULT, the complete rows, the input bytes consumed, and the input bytes consumed at the end of each row. -/
structure Decoded where
  result : Nat
  rows : List (List Nat)
  used : Nat
  ends : List Nat
deriving DecidableEq, Repr

/-- Bytes of a decompressed sample (R338). -/
def sampleBytes (bits : Nat) : Nat := if bits = 8 then 1 else 2

/-- The terminator is as it must be (R342): `n` rows decoded from `used` bytes. -/
def termOk (input : List Byte) (used n height : Nat) : Bool :=
  decide (used + 16 ≤ input.length) && decide (Arith.leAt input used 4 = 0x444E4546) && decide (Arith.leAt input (used + 4) 2 = n) &&
    decide (Arith.leAt input (used + 6) 2 = b2n (decide (n < height))) && decide (Arith.leAt input (used + 8) 4 = used) &&
    decide (Arith.leAt input (used + 12) 4 = Arith.crc32 (input.take used))

/-- What the guards answer where a terminator is due after `n` rows (R342): an input that ends before it is BAD_ROW. -/
def termResult (input : List Byte) (used n height : Nat) : Nat :=
  if input.length < used + 16 then 4 else if termOk input used n height then (if n < height then 2 else 0) else 7

/-- Decode rows by fuel (R342). -/
def decodeRows (input : List Byte) (bits width height expand : Nat) : Nat → Nat → List (List Nat) → List Nat → Decoded
  | 0, used, acc, ends => ⟨termResult input used acc.length height, acc.reverse, min input.length (used + 16), ends.reverse⟩
  | f + 1, used, acc, ends =>
    let j := acc.length
    let bad := fun r => (⟨r, acc.reverse, used, ends.reverse⟩ : Decoded)
    if Arith.leAt input used 4 = 0x444E4546 ∧ used + 16 ≤ input.length then ⟨termResult input used j height, acc.reverse, used + 16, ends.reverse⟩
    else if input.length < used + 4 ∨ Arith.leAt input used 1 ≠ 0xF5 ∨ Arith.leAt input (used + 2) 2 ≠ j then bad 4
    else
      let r : Option (List Nat × Nat) :=
        match Arith.leAt input (used + 1) 1 with
        | 1 => acc.head?.map fun r => (r, 4)
        | 2 => if input.length < used + 6 then none else some (List.replicate width (Arith.leAt input (used + 4) 2), 6)
        | 0 =>
          (decodeRow bits width acc.head? width (bitsOf (input.drop (used + 4))) 0 0 [] (Ctxs.start bits)).map fun d => (d.1, 4 + (d.2 + 7) / 8)
        | _ => none
      match r with
      | none => bad 4
      | some (xs, n) =>
        let made := (j + 1) * width * sampleBytes bits
        if expand ≠ 0 ∧ expand * (used + n) < made then ⟨6, (xs :: acc).reverse, used + n, ((used + n) :: ends).reverse⟩
        else decodeRows input bits width height expand f (used + n) (xs :: acc) ((used + n) :: ends)

/-- Decompress a stream under the guards of R342. -/
def decode (input : List Byte) (limit expand : Nat) : Decoded :=
  let bits := Arith.leAt input 6 1
  let width := Arith.leAt input 8 2
  let height := Arith.leAt input 10 2
  let ok := decide (16 ≤ input.length) && decide (Arith.leAt input 0 4 = 0x4F494C46) && decide (Arith.leAt input 4 2 = 1) && decide (8 ≤ bits) &&
    decide (bits ≤ 16) && Arith.zeroAt input 7 1 && Arith.zeroAt input 12 4
  if !ok then ⟨3, [], min input.length 16, []⟩
  else if limit < width * height * sampleBytes bits then ⟨5, [], 16, []⟩
  else decodeRows input bits width height expand height 16 [] []

end Sys2Proof.Codec
end

