-- ==== Sys2Proof/Machine/Folio.lean ====
section
/-!
DEFINITION. Folio jobs (14_folio_codec.md R337 to R346): classes and order, buffer chains, host slots, and what a job's end hands to its owner.
What the rules leave to the model: log entry 36.
-/
namespace Sys2Proof.Machine

/-- A host slot as BOOT leaves it (R345). -/
def FolSlot.init : FolSlot := ⟨0, []⟩

namespace Fol

/-- A FOL_CTRL entry. -/
def ctl (s : State) (sub : Nat) : Nat := (State.rFol s D.iFOL sub).toNat

/-- Host slot `i`. -/
def slotOf (s : State) (i : Nat) : FolSlot := Tab.get (fun _ => FolSlot.init) s.fol.slots i

/-- Change host slot `i`. -/
def modSlot (s : State) (i : Nat) (f : FolSlot → FolSlot) : State :=
  { s with fol := { s.fol with slots := Tab.set (fun _ => FolSlot.init) s.fol.slots i (f (slotOf s i)) } }

/-- Enter a slot state (R345): 0 IDLE, 1 QUEUED, 2 RUNNING, 3 WAITING, 4 DONE. -/
def slotMode (s : State) (i m : Nat) : State :=
  State.wFol (modSlot s i fun x => { x with mode := m }) (D.iFOLJ + i) D.FOLJ_STATE (m : Int)

/-- Data bytes of one buffer (R339). -/
def bufData (s : State) : Nat := ctl s D.FOL_BUF_SIZE - 16

/-- Buffers in use: those of finished chains, those of jobs, and those Stacks still copies (R341). -/
def inUse (s : State) : Nat :=
  (s.fol.chains.map fun c => c.2).sum + (s.fol.jobs.map fun j => j.held).sum + (s.stk.writes.map fun w => w.held).sum

/-- Free buffers. -/
def free (s : State) : Nat := ctl s D.FOL_BUF_COUNT - inUse s

/-- The coded rows of a compress job. -/
def jobRows (j : FolJob) : List (List Byte) := Codec.rows j.bits j.width (Codec.splitRows j.height j.width j.samples) 0 none

/-- What a decompress job yields. -/
def jobDecoded (j : FolJob) : Codec.Decoded := Codec.decode j.input j.outLimit j.expandMax

/-- Bytes of one decompressed row. -/
def rowBytes (j : FolJob) : Nat := Arith.leAt j.input 8 2 * Codec.sampleBytes (Arith.leAt j.input 6 1)

/-- Output bytes the whole job needs in buffers. -/
def need (j : FolJob) : Nat :=
  if j.decode then (jobDecoded j).rows.length * rowBytes j else 16 + ((jobRows j).map fun r => r.length).sum

/-- Buffers the whole job needs. -/
def buffers (s : State) (j : FolJob) : Nat := max 1 ((need j + (bufData s - 1)) / max 1 (bufData s))

/-- Replace the job that runs. -/
def setHead (s : State) (j : FolJob) : State := { s with fol := { s.fol with jobs := j :: s.fol.jobs.drop 1 } }

/-- The engine's state (R344). -/
def showEngine (s : State) : State :=
  let m := if ctl s D.FOL_ENABLE = 0 then 0 else match s.fol.jobs with | [] => 1 | j :: _ => if j.waitFrom.isSome then 3 else 2
  let q := s.fol.jobs.length - (if ctl s D.FOL_ENABLE = 0 then 0 else 1)
  State.wFol (State.wFol (State.wFol s D.iFOL D.FOL_STATE (m : Nat)) D.iFOL D.FOL_QUEUE (min q 16 : Nat)) D.iFOL D.FOL_BUF_FREE (free s : Nat)

/-- The state of the slot of a host job. -/
def showSlot (s : State) (j : FolJob) (m : Nat) : State := if 0x20 ≤ j.client then slotMode s (j.client - 0x20) m else s

/-- A job comes to run: FOL_WAIT, EXPAND_MAX and OUT_LIMIT are those of its start (R344). -/
def startJob (s : State) (j : FolJob) : FolJob :=
  if j.started then j
  else
    let limit := if 0x20 ≤ j.client then (State.rFol s (D.iFOLJ + (j.client - 0x20)) D.FOLJ_OUT_LIMIT).toNat else j.outLimit
    { j with started := true, waitTicks := 2 * ctl s D.FOL_WAIT, expandMax := ctl s D.FOL_EXPAND_MAX, outLimit := limit }

/-- The job that runs links the buffers it needs (R340), as many as the chain limit and the pool allow; it waits where the pool is empty. One that has linked
a buffer has gone on: when it needs the next one its wait begins anew. Answers whether it has gone on. -/
def linkHead (s : State) : State × Bool :=
  if ctl s D.FOL_ENABLE = 0 then (s, false)
  else
    match s.fol.jobs with
    | [] => (s, false)
    | j :: _ =>
      let j := startJob s j
      let want := min 256 (buffers s j)
      let got := min want (j.held + free s)
      let waits := decide (got < want)
      let moved := !waits || decide (j.held < got)
      let fresh := waits && (j.waitFrom.isNone || moved)
      let s := setHead s { j with held := got, waitFrom := if waits then (if fresh then some s.tick else j.waitFrom) else none }
      let s := if fresh then State.incFol s D.iFOL D.FOL_WAITS 1 else s
      (showSlot s j (if waits then 3 else 2), moved)

/-- A job of a higher class waits behind the one that runs. -/
def outranked (s : State) : Bool :=
  match s.fol.jobs with
  | j :: k :: _ => decide (k.cls < j.cls)
  | _ => false

/-- The running job is suspended at its row boundary (R337): it stands behind the jobs of higher classes, at the front of its own. -/
def suspend (s : State) : State :=
  match s.fol.jobs with
  | [] => s
  | j :: rest =>
    let before := rest.takeWhile fun x => decide (x.cls < j.cls)
    let s := { s with fol := { s.fol with jobs := before ++ { j with waitFrom := none } :: rest.drop before.length } }
    showSlot (State.incFol s D.iFOL D.FOL_SUSPENDS 1) j 2

/-- Link buffers to the job that runs (R340); one that goes on reaches a row boundary, where a job of a higher class takes the engine (R337). -/
def link (s : State) : State :=
  let r := linkHead s
  if r.2 && outranked r.1 then (linkHead (suspend r.1)).1 else r.1

/-- Submit a job (R337): behind the jobs of its class and of higher classes. A running job of a lower class is suspended at its next row boundary; one that
waits for a buffer reaches none before it goes on. -/
def submit (s : State) (j : FolJob) : State :=
  let run := if ctl s D.FOL_ENABLE = 0 then 0 else 1
  let rest := s.fol.jobs.drop run
  let before := s.fol.jobs.take run ++ rest.takeWhile fun x => decide (x.cls ≤ j.cls)
  let s := { s with fol := { s.fol with jobs := before ++ j :: s.fol.jobs.drop before.length } }
  showEngine (link (showSlot s j 1))

/-- A waiting job takes the buffers that have become free (R340). -/
def refresh (s : State) : State :=
  showEngine (if (s.fol.jobs.head?.map fun j => j.waitFrom.isSome).getD false then link s else s)

/-- Rows a compress job keeps in the buffers it holds (R340). -/
def keptRows (s : State) (j : FolJob) : Nat := Codec.rowsIn (j.held * bufData s) (jobRows j) 16

/-- Rows a decompress job keeps in the buffers it holds. -/
def keptOut (s : State) (j : FolJob) : Nat := min (jobDecoded j).rows.length (j.held * bufData s / max 1 (rowBytes j))

/-- The bytes of decompressed rows. -/
def outBytes (bits : Nat) (rows : List (List Nat)) : List Byte := rows.flatMap fun r => r.flatMap fun x => Arith.natLe (Codec.sampleBytes bits) x

/-- Buffers that an output keeps (R339): those that its bytes fill; the 16 bytes of a terminator lie in the reserve of the last of them. -/
def kept (s : State) (terminated : Bool) (out : List Byte) : Nat := (out.length - (if terminated then 16 else 0) + (bufData s - 1)) / max 1 (bufData s)

/-- A job's end handed to its owner (R340, R341): `rows` kept, `result` as R345 codes it, `out` the output stream. -/
def deliver (s : State) (j : FolJob) (rows result : Nat) (out : List Byte) : State :=
  let used := kept s (!j.decode) out
  let hold := fun (s : State) n => { s with fol := { s.fol with chains := Tab.set (fun _ => 0) s.fol.chains j.client n } }
  let before := Tab.get (fun _ => 0) s.fol.chains j.client
  if j.client < 4 then
    let s := hold s (before + used)
    let frames := Arith.updWhere (fun f => f.port == j.client && f.folio && f.stream.isNone && f.stage6)
      (fun f => { f with stream := some (out, rows) }) s.img.frames
    { s with img := { s.img with frames := frames } }
  else if j.client = 0x10 then
    let s := hold s (before + used)
    let s := { s with grd := { s.grd with snap := s.grd.snap.map fun p =>
      { p with planes := p.planes ++ [out], truncated := p.truncated || decide (rows < j.height) } } }
    let s := if rows < j.height then State.raise s 0xF0 4 j.plane else s
    if j.plane = 2 ∧ s.grd.snapMode = .compressing then Grid.snapReady s else s
  else
    let i := j.client - 0x20
    let s := hold s used
    let w := fun s sub (v : Nat) => State.wFol s (D.iFOLJ + i) sub (v : Int)
    let s := w (w (w s D.FOLJ_RESULT result) D.FOLJ_ROWS rows) D.FOLJ_OUT_BYTES out.length
    slotMode (modSlot s i fun x => { x with output := out }) i 4

/-- Input bytes that a job which ends in or before the row from byte `a` to byte `b` of its input has consumed (R345): a free value between the two. -/
def consumed (s : State) (a b : Nat) : Nat := a + State.freeVal s % (b - a + 1)

/-- End a job that has left the queue, keeping at most `cap` rows (R334, R340, R342, R343); `why`: 0 it ran to its end, 1 OUTPUT_FULL, 8 aborted. A job
that is cut has consumed the input of its rows and part of the next one's. -/
def endJob (j : FolJob) (cap why : Nat) (s : State) : State :=
  let msg := fun (s : State) kind rows => State.raise s 0x140 kind (j.client % 256 + 65536 * (rows % 65536))
  let count := fun (s : State) (inB outB : Nat) (cut : Bool) =>
    let s := State.incFol s D.iFOL D.FOL_JOBS 1
    let s := if cut then State.incFol s D.iFOL D.FOL_TRUNCATIONS 1 else s
    let s := if 0x20 ≤ j.client then State.wFol s (D.iFOLJ + (j.client - 0x20)) D.FOLJ_IN_BYTES (inB : Int) else s
    State.incFol (State.incFol s D.iFOL D.FOL_BYTES_IN (inB : Int)) D.iFOL D.FOL_BYTES_OUT (outB : Int)
  if j.decode then
    let d := jobDecoded j
    let n := min cap (min d.rows.length (keptOut s j))
    let cut := decide (n < d.rows.length) || decide (why = 8)
    let res := if why = 8 then 8 else if cut then 1 else d.result
    let out := outBytes (Arith.leAt j.input 6 1) (d.rows.take n)
    let s := if 3 ≤ res ∧ res ≤ 7 then msg s 3 n else if res = 1 then msg s 1 n else if res = 8 then msg s 2 n else s
    let inB := if cut then consumed s ((16 :: d.ends).getD n d.used) (d.ends.getD n d.used) else d.used
    deliver (count (if cut then State.draw s else s) inB out.length cut) j n res out
  else
    let n := min cap (keptRows s j)
    let cut := decide (n < j.height)
    let out := Codec.stream j.bits j.width j.height n j.samples
    let row := j.width * Codec.sampleBytes j.bits
    let s := if cut then msg s (if why = 8 then 2 else 1) n else if why = 8 then msg s 2 n else s
    let inB := if cut then consumed s (n * row) ((n + 1) * row) else j.samples.length * Codec.sampleBytes j.bits
    deliver (count (if cut then State.draw s else s) inB out.length cut) j n (if why = 8 then 8 else if cut then 1 else 0) out

/-- End the job that runs; the next one starts. -/
def finish (s : State) (cap why : Nat) : State :=
  match s.fol.jobs with
  | [] => s
  | j :: rest => showEngine (link (endJob j cap why { s with fol := { s.fol with jobs := rest } }))

/-- The last complete row of a job that is aborted (R343): of one that waits, what its buffers hold; of one that runs, a row before its last that only the
moment decides (a free value). A decompression may have its last row already. -/
def abortRow (s : State) (j : FolJob) : Nat :=
  if j.waitFrom.isSome then 65536 else State.freeVal s % (if j.decode then (jobDecoded j).rows.length + 1 else max 1 j.height)

/-- The job that runs may end: Folio is enabled and it does not wait for a buffer. -/
def canEnd (s : State) : Bool := decide (ctl s D.FOL_ENABLE = 1) && (s.fol.jobs.head?.map fun j => j.started && j.waitFrom.isNone).getD false

/-- FOLIO_JOB_END (R334): the running job has coded its last row, or its chain is full. -/
def jobEnd (s : State) : State := if canEnd s then finish s 65536 0 else s

/-- The buffer wait of the running job is over (R340). -/
def waitOver (s : State) : Bool :=
  decide (ctl s D.FOL_ENABLE = 1) && (s.fol.jobs.head?.bind fun j => j.waitFrom.map fun t => decide (t + j.waitTicks ≤ s.tick)).getD false

/-- FOLIO_WAIT_EXPIRY (R340): the stream ends at the last complete row. -/
def waitExpiry (s : State) : State := if waitOver s then finish s 65536 1 else s

/-- Free the chain of a client (R341), and let a waiting job take the buffers. -/
def freeChain (client : Nat) (s : State) : State :=
  showEngine (link { s with fol := { s.fol with chains := Tab.set (fun _ => 0) s.fol.chains client 0 } })

/-- ENABLE applied as 0 (R343): the running job is aborted. -/
def disable (s : State) : State :=
  let run := if ctl s D.FOL_ENABLE = 1 then s.fol.jobs.head?.filter fun j => j.started else none
  let s := State.wFol s D.iFOL D.FOL_ENABLE 0
  match run with
  | some j => finish (State.draw s) (abortRow s j) 8
  | none => showEngine s

/-- ENABLE applied as 1 (R343). -/
def enable (s : State) : State := showEngine (link (State.wFol s D.iFOL D.FOL_ENABLE 1))

/-! ### Host slots (R338, R341, R343) -/

/-- The INPUT of a host slot. -/
def inputOf (s : State) (i : Nat) : List Byte := Blob.toList (Tab.get (fun _ => Blob.empty) s.fol.blobs (Dict.key 0 (D.iFOLJ + i) D.FOLJ_INPUT))

/-- The samples of a compress job's INPUT. -/
def samplesOf (bits : Nat) (bs : List Byte) : List Nat :=
  if bits = 8 then bs.map fun b => b.toNat else (List.range (bs.length / 2)).map fun i => Arith.leAt bs (2 * i) 2

/-- START is not refused with STATE (R338). -/
def startFree (s : State) (i : Nat) : Bool := let m := (slotOf s i).mode; m == 0 || m == 4

/-- The INPUT of a slot keeps the rules of R338. -/
def inputOk (s : State) (i : Nat) : Bool :=
  let g := fun sub => (State.rFol s (D.iFOLJ + i) sub).toNat
  let bs := inputOf s i
  if g D.FOLJ_OP = 1 then decide (32 ≤ bs.length)
  else
    let bits := g D.FOLJ_BITS
    let n := g D.FOLJ_WIDTH * g D.FOLJ_HEIGHT
    decide (bs.length = n * Codec.sampleBytes bits) && (samplesOf bits bs).all fun x => decide (x < 2 ^ bits)

/-- A job not yet started (R335, R336). -/
def freshJob (client cls plane : Nat) (decode : Bool) (bits width height : Nat) (samples : List Nat) (input : List Byte) : FolJob :=
  ⟨client, cls, decode, bits, width, height, samples, input, plane, 0, none, false, 0, 64, 0⟩

/-- The job of host slot `i` over the input `bs` (R338). -/
def slotJob (i : Nat) (dec : Bool) (bits width height : Nat) (bs : List Byte) : FolJob :=
  if dec then freshJob (0x20 + i) 3 0 true bits width height [] bs
  else freshJob (0x20 + i) 3 0 false bits width height (samplesOf bits bs) []

/-- START of a host slot (R338). -/
def start (i : Nat) (s : State) : State :=
  if startFree s i && inputOk s i then
    let g := fun sub => (State.rFol s (D.iFOLJ + i) sub).toNat
    let bs := inputOf s i
    let dec := decide (g D.FOLJ_OP = 1)
    let s := { s with fol := { s.fol with chains := Tab.set (fun _ => 0) s.fol.chains (0x20 + i) 0 } }
    let s := modSlot s i fun x => { x with output := [] }
    let height := if dec then Arith.leAt bs 10 2 else g D.FOLJ_HEIGHT
    submit s (slotJob i dec (g D.FOLJ_BITS) (g D.FOLJ_WIDTH) height bs)
  else s

/-- The output of a host slot is gone with its chain (R341); it enters `m`. -/
def dropOutput (i m : Nat) (s : State) : State := freeChain (0x20 + i) (slotMode (modSlot s i fun x => { x with output := [] }) i m)

/-- CANCEL of a host slot (R341, R343): a queued job is removed; one that has started, running or suspended, is aborted, and the slot is DONE with its
RESULT and no output. The chain of a finished job is freed, which leaves the slot IDLE. -/
def cancel (i : Nat) (s : State) : State :=
  match s.fol.jobs.find? fun j => j.client == 0x20 + i with
  | some j =>
    let s := { s with fol := { s.fol with jobs := s.fol.jobs.filter fun j => j.client != 0x20 + i } }
    if j.started then dropOutput i 4 (endJob j (abortRow s j) 8 (State.draw s)) else dropOutput i 0 s
  | none => if (slotOf s i).mode = 4 then dropOutput i 0 s else s

/-- RELEASE of a host slot (R341). -/
def release (i : Nat) (s : State) : State :=
  if (slotOf s i).mode = 4 then dropOutput i 0 s else s

/-- FOLJ_CMD: 1 START, 2 CANCEL, 3 RELEASE (R345). -/
def cmd (i v : Nat) (s : State) : State := if v = 1 then start i s else if v = 2 then cancel i s else if v = 3 then release i s else s

/-- A change of BUF_SIZE or BUF_COUNT is refused while a chain is allocated (R344). -/
def allocated (s : State) : Bool := decide (0 < inUse s)

/-! ### Grid planes (R238, R239) -/

/-- The job of plane `i` of a snapshot (R239). -/
def planeJob (p : Snap) (i : Nat) : FolJob := freshJob 0x10 2 i false 16 p.sizeX p.sizeY (Grid.plane p i) []

/-- The copy of a snapshot is complete (R238): READY when raw, else the three planes go through Folio. -/
def captureComplete (s : State) : State :=
  match s.grd.snap with
  | some p =>
    if s.grd.snapMode = .capturing then
      if p.folio then
        let s := { s with grd := { s.grd with snapMode := .compressing } }
        [0, 1, 2].foldl (fun s i => submit s (planeJob p i)) s
      else Grid.snapReady s
    else s
  | none => s

/-- A snapshot request (R238): one that overwrites a snapshot frees its chain (R341). -/
def gridSnapshot (folio : Bool) (s : State) : State := refresh (Grid.snapshot folio s)

/-- RELEASE of the grid snapshot (R238, R341). -/
def gridRelease (s : State) : State := if s.grd.snapMode = .ready then freeChain 0x10 (Grid.release s) else s

end Fol

end Sys2Proof.Machine
end

