-- ==== Sys2Proof/Machine/Lamps.lean ====
section
/-!
DEFINITION. Strobe illumination (13_illumination.md): current, arming, staged settings, firing with the sink budget, diagnosis and probes.
What the rules leave to the model: log entry 35.
-/
namespace Sys2Proof.Machine

/-- A lamp as BOOT leaves it (R330). -/
def Lamp.init : Lamp :=
  { mode := .disabled, width := 2000, pulse := none, armed := none, lastPort := none, count := 0, probeDue := false, probeFrom := 0, vPred := none }

/-- A camera port as BOOT leaves it (R317). -/
def Port.init : Port := { mode := .disabled, folio := false, trigUntil := 0, syncUntil := 0, event := false, fenced := false }

namespace Ilm

/-- A lamp register. -/
def reg (s : State) (l sub : Nat) : Nat := (State.rIlm s (D.iILM + l) sub).toNat

/-- A global lamp register. -/
def glob (s : State) (sub : Nat) : Nat := (State.rIlm s D.iILMG sub).toNat

/-- Write a lamp register. -/
def put (s : State) (l sub v : Nat) : State := State.wIlm s (D.iILM + l) sub (v : Int)

/-- Lamp `l`. -/
def lampOf (s : State) (l : Nat) : Lamp := Tab.get (fun _ => Lamp.init) s.ilm.tab l

/-- Change lamp `l`. -/
def modLamp (s : State) (l : Nat) (f : Lamp → Lamp) : State :=
  { s with ilm := { s.ilm with tab := Tab.set (fun _ => Lamp.init) s.ilm.tab l (f (lampOf s l)) } }

/-- Camera port `p`. -/
def portOf (s : State) (p : Nat) : Port := Tab.get (fun _ => Port.init) s.img.ports p

/-- A lamp event (R332). -/
def say (s : State) (l kind : Nat) : State := State.raise s (0x130 + l) kind (s.tick % 2 ^ 32)

/-- Code of a lamp state. -/
def code : LampMode → Nat
  | .disabled => 0 | .undiagnosed => 1 | .ok => 2 | .opened => 3 | .shorted => 4 | .fenced => 5

/-- Enter a lamp state. -/
def enter (s : State) (l : Nat) (m : LampMode) : State := put (modLamp s l fun x => { x with mode := m }) l D.ILM_STATE (code m)

/-- The target current (R321), in 0.25 mA. -/
def iCode (dimmer set trim : Nat) : Nat := min 4000 (Arith.divRound ((4000 * dimmer * set * trim : Nat) : Int) (255 * 4095 * 32768)).toNat

/-- All staged values become live (R324). -/
def transfer (s : State) : State :=
  let s := State.wIlm s D.iILMG D.ILMG_APPLY_PENDING 0
  State.forAll (fun l s =>
    let s := put s l D.ILM_I_CODE (iCode (glob s D.ILMG_DIMMER) (reg s l D.ILM_SET) (reg s l D.ILM_TRIM))
    modLamp s l fun x => { x with width := reg s l D.ILM_PULSE }) (List.range 16) s

/-- Some camera port is enabled. -/
def anyPort (s : State) : Bool := (List.range 4).any fun p => Arith.bit (State.rImg s (D.iCAM + p) D.CAM_CTRL).toNat 0

/-- Some camera port is EXPOSING or RECEIVING (R326). -/
def portsBusy (s : State) : Bool := (List.range 4).any fun p => (portOf s p).mode == .exposing || (portOf s p).mode == .receiving

/-- ILM_CMD = APPLY (R324). -/
def apply (s : State) : State :=
  let s := State.wIlm s D.iILMG D.ILMG_APPLY_PENDING 1
  if anyPort s then s else transfer s

/-! ### Arming (R322, R329) -/

/-- Lamps of a mask. -/
def lampsOf (mask : Nat) : List Nat := (List.range 16).filter fun l => Arith.bit mask l

/-- The lowest lamp of a mask that cannot be armed (R322). -/
def blocked (s : State) (mask : Nat) : Option Nat :=
  (lampsOf mask).find? fun l => (lampOf s l).mode == .disabled || (lampOf s l).mode == .fenced

/-- Arm one lamp on a port (R322). -/
def armOne (port l : Nat) (s : State) : State :=
  let x := lampOf s l
  let s := match x.armed with | some p => if p = port then s else say s l 5 | none => s
  put (modLamp s l fun x => { x with armed := some port, lastPort := some port }) l D.ILM_ARMED port

/-- The colour spread of the lamps of a mask exceeds the tolerance (R329). -/
def spread (s : State) (mask : Nat) : Bool :=
  let tol := glob s D.ILMG_COLOUR_TOL
  let wide := fun sub =>
    let v := (lampsOf mask).map fun l => reg s l sub
    decide (tol < v.foldl max 0 - v.foldl min 65535)
  decide (0 < tol) && !(lampsOf mask).isEmpty && (wide D.ILM_COLOUR_X || wide D.ILM_COLOUR_Y)

/-- STROBE: arm the lamps of a mask on a port (R322); nothing when one is disabled or fenced. -/
def strobe (port mask : Nat) (s : State) : State :=
  if (blocked s mask).isSome then s
  else
    let s := if spread s mask then say s ((lampsOf mask).headD 0) 4 else s
    State.forAll (armOne port) (lampsOf mask) s

/-- Disarm a lamp. -/
def disarm (l : Nat) (s : State) : State := put (modLamp s l fun x => { x with armed := none }) l D.ILM_ARMED 0xFF

/-! ### Firing (R323, R327, R328) -/

/-- V_pred of a lamp (R328), in mV. -/
def vPred (s : State) (l : Nat) : Nat := (lampOf s l).vPred.getD (glob s D.ILMG_V_SHORT)

/-- The charge of a pulse, in 125 fJ: mV × 0.25 mA × ticks of 500 ns (R328). -/
def charge (s : State) (l : Nat) : Nat := vPred s l * reg s l D.ILM_I_CODE * (lampOf s l).width

/-- W: the energy charged in the 1,999,999 ticks before the present one (R328). -/
def window (s : State) : Nat := ((s.ilm.charges.filter fun c => decide (c.1 < s.tick ∧ s.tick ≤ c.1 + 1999999)).map fun c => c.2).sum

/-- The port whose frames a lamp counts (R326): that of its last arming, or the in-line port. -/
def homePort (s : State) (l : Nat) : Nat := (lampOf s l).lastPort.getD (State.rImg s D.iIMG D.IMG_INLINE).toNat

/-- Begin a pulse (R323): its charge enters the window of R328. -/
def firePulse (l : Nat) (s : State) : State :=
  let q := (s.ilm.charges.filter fun c => decide (s.tick ≤ c.1 + 1999999)) ++ [(s.tick, charge s l)]
  let s := State.incIlm s (D.iILM + l) D.ILM_PULSES 1
  let s := modLamp s l fun x => { x with pulse := some ⟨s.tick, s.tick + x.width, reg s l D.ILM_I_CODE, false⟩ }
  { s with ilm := { s.ilm with charges := q } }

/-- The lamps armed on a port fire at its TRIG (R323, R327, R328); one that does not fire is counted as skipped. A probe due on a lamp of the port is cancelled
(R326). -/
def fire (port : Nat) (s : State) : State :=
  let armed := (List.range 16).filter fun l => (lampOf s l).armed == some port
  let s := State.forAll (fun l s =>
    if homePort s l = port then modLamp s l fun x => { x with probeDue := false, count := if x.probeDue then 0 else x.count } else s) (List.range 16) s
  let w := window s
  let s := State.wIlm s D.iILMG D.ILMG_WINDOW_ENERGY ((w / 8000000 : Nat) : Int)
  let run := s.tmp.run.isSome
  let tooMuch := !run && !armed.isEmpty && decide (glob s D.ILMG_P_AVG_LIMIT * 8000000000 < w + (armed.map (charge s)).sum)
  let s := if tooMuch then State.incIlm (say s (armed.headD 0) 3) D.iILMG D.ILMG_LIMITED 1 else s
  let fires := fun l => !run && !tooMuch && (lampOf s l).mode != .shorted && decide (reg s l D.ILM_I_CODE ≠ 0)
  let live := armed.filter fires
  let s := State.forAll (fun l s => State.incIlm s (D.iILM + l) D.ILM_SKIPPED 1) (armed.filter fun l => !fires l) s
  State.forAll disarm armed (State.forAll firePulse live s)

/-- The longest pulse among the lamps armed on a port (R301). -/
def syncLength (s : State) (port : Nat) : Nat :=
  (((List.range 16).filter fun l => (lampOf s l).armed == some port).map fun l => (lampOf s l).width).foldl max 0

/-- LAMP_PULSE_END (R323): a pulse reaches its end. -/
def pulseEnd (l : Nat) (s : State) : State :=
  match (lampOf s l).pulse with
  | some p => if p.stop ≤ s.tick then modLamp s l fun x => { x with pulse := none } else s
  | none => s

/-! ### Diagnosis and probes (R325, R326) -/

/-- LAMP_DIAGNOSIS (R325, R327): V_SINK in mV and the current in 0.25 mA at the end of the 2 µs window. -/
def diagnose (l vSink current : Nat) (s : State) : State :=
  match (lampOf s l).pulse with
  | none => s
  | some p =>
    if p.stop < p.start + 4 ∨ s.tick < p.start + 4 ∨ (lampOf s l).mode = .disabled ∨ (lampOf s l).mode = .fenced then s
    else
      let s := put (modLamp s l fun x => { x with vPred := some vSink, count := 0, probeDue := false }) l D.ILM_V_SINK (min vSink 65535)
      if glob s D.ILMG_V_SHORT < vSink then say (enter (modLamp s l fun x => { x with pulse := none }) l .shorted) l 2
      else if current * 10 < p.current * 9 ∧ vSink < 300 then
        if (lampOf s l).mode = .shorted then s else say (enter s l .opened) l 1
      else enter s l .ok

/-- A probe pulse begins (R326): 4 µs at 20 mA. -/
def probeNow (l : Nat) (s : State) : State :=
  let s := State.incIlm s (D.iILM + l) D.ILM_PROBES 1
  modLamp s l fun x => { x with pulse := some ⟨s.tick, s.tick + 8, 80, true⟩, probeDue := false, count := 0 }

/-- LAMP_PROBE (R326): a probe is due, in a tick after that of the close in which no port is EXPOSING or RECEIVING. -/
def probe (l : Nat) (s : State) : State :=
  let m := (lampOf s l).mode
  if (lampOf s l).probeDue ∧ (lampOf s l).probeFrom ≤ s.tick ∧ !portsBusy s ∧ m ≠ .disabled ∧ m ≠ .fenced then probeNow l s else s

/-- ILM_CMD = PROBE is not refused (R326). -/
def probeOk (s : State) : Bool := !portsBusy s

/-- ILM_CMD = PROBE (R326). -/
def probeAll (s : State) : State :=
  if probeOk s then
    State.forAll (fun l s =>
      let m := (lampOf s l).mode
      if m = .undiagnosed ∨ m = .opened ∨ m = .shorted then probeNow l s else s) (List.range 16) s
  else s

/-- A frame closes on a port (R326): its lamps count it. -/
def frameClosed (port : Nat) (s : State) : State :=
  State.forAll (fun l s =>
    let x := lampOf s l
    if x.mode = .disabled ∨ x.mode = .fenced ∨ homePort s l ≠ port then s
    else
      let n := x.count + 1
      modLamp s l fun y => { y with
        count := n, probeDue := decide (glob s D.ILMG_PROBE_EVERY ≤ n), probeFrom := if y.probeDue then y.probeFrom else s.tick + 1 }) (List.range 16) s

/-! ### States (R323, R327) -/

/-- ENABLE applied as 1. -/
def enable (l : Nat) (s : State) : State :=
  let s := put s l D.ILM_ENABLE 1
  if (lampOf s l).mode = .disabled then modLamp (enter s l .undiagnosed) l fun x => { x with count := 0 } else s

/-- ENABLE applied as 0: the pulse ends at once; a fenced lamp leaves FENCED once its status has cleared. -/
def disable (l : Nat) (s : State) : State :=
  let s := put s l D.ILM_ENABLE 0
  if (lampOf s l).mode = .fenced ∧ State.holdsStatus s (0x130 + l) then s
  else disarm l (modLamp (enter s l .disabled) l fun x => { x with pulse := none, probeDue := false })

/-- The lamp is fenced (R327). -/
def fence (l : Nat) (s : State) : State :=
  let m := (lampOf s l).mode
  if m = .disabled ∨ m = .fenced then s else disarm l (modLamp (enter s l .fenced) l fun x => { x with pulse := none, probeDue := false })

/-- Entry to THERMAL_OFF ends every pulse at once (R323). -/
def allOff (s : State) : State := State.forAll (fun l s => modLamp s l fun x => { x with pulse := none }) (List.range 16) s

/-- The device leaves BUILDING and PAUSED (R323): every lamp is disarmed. -/
def leaveBuild (s : State) : State := State.forAll disarm (List.range 16) s

end Ilm

end Sys2Proof.Machine
end

