-- ==== Sys2Proof/Machine/Imaging.lean ====
section
/-!
DEFINITION. The Reading Room and the melt-pool feature units (12_reading_room_imaging.md): triggers, frame windows, the six stages, frame objects,
the memory path, tile schedules and features.
What the rules leave to the model: log entries 33 and 34.
-/
namespace Sys2Proof.Machine

/-- A feature unit as BOOT leaves it (R319). -/
def Mpf.init : Mpf := { fenced := false, sched := [], tags := [], handed := [], log := [], invalidEpisode := false, strayEpisode := false }

namespace Img

/-- An entry of port `p`. -/
def cam (s : State) (p sub : Nat) : Nat := (State.rImg s (D.iCAM + p) sub).toNat

/-- An entry of the pipeline. -/
def img (s : State) (sub : Nat) : Nat := (State.rImg s D.iIMG sub).toNat

/-- Change port `p`. -/
def modPort (s : State) (p : Nat) (f : Port → Port) : State :=
  { s with img := { s.img with ports := Tab.set (fun _ => Port.init) s.img.ports p (f (Ilm.portOf s p)) } }

/-- A port event (R320). -/
def say (s : State) (p kind no : Nat) : State := State.raise s (0x100 + p) kind no

/-- The bits of a binary32 number, for a value that is one. -/
def f32Bits (q : Rat) : Nat :=
  if q = 0 then 0
  else
    let a := if q < 0 then -q else q
    let e := Arith.ratLog2 a.num.toNat a.den
    let sign := if q < 0 then 2 ^ 31 else 0
    if e < -126 then sign + (Arith.ratScale a 149).num.toNat
    else sign + (e + 127).toNat * 2 ^ 23 + ((Arith.ratScale a (23 - e)).num.toNat - 2 ^ 23)

/-- The default shading: all 0x4000 (R317). -/
def shadingDflt : Blob := Blob.ofList ((List.range 1089).flatMap fun _ => [0x00, 0x40])

/-- The default homography under an output pitch (R317). -/
def homographyDflt (pitch : Nat) : Blob :=
  let k := f32Bits (Arith.f32Round (mkRat 1 (256 * pitch)))
  Blob.ofList ([k, 0, 0, 0, k, 0, 0, 0].flatMap (Arith.natLe 4))

/-- A BLOB of port `p`, or its default. -/
def blob (s : State) (p sub : Nat) : Blob :=
  match Tab.find s.img.blobs (Dict.key 0 (D.iCAM + p) sub) with
  | some b => b
  | none => if sub = D.CAM_SHADING then shadingDflt else if sub = D.CAM_HOMOGRAPHY then homographyDflt (img s D.IMG_PITCH) else Blob.empty

/-- Bits per pixel by the BITS field (R317). -/
def bitsOf (ctrl : Nat) : Nat := 8 + 2 * Arith.bits ctrl 4 2

/-- The parameter set a frame copies at its TRIG (R310). -/
def params (s : State) (p : Nat) : FramePar :=
  { width := cam s p D.CAM_WIDTH, height := cam s p D.CAM_HEIGHT, bits := bitsOf (cam s p D.CAM_CTRL), black := cam s p D.CAM_BLACK,
    defects := blob s p D.CAM_DEFECT_MAP, shading := blob s p D.CAM_SHADING, homography := blob s p D.CAM_HOMOGRAPHY,
    rectify := img s D.IMG_RECTIFY == 1, outW := img s D.IMG_OUT_W, outH := img s D.IMG_OUT_H, pitch := img s D.IMG_PITCH,
    ox := State.rImg s D.iIMG D.IMG_ORIGIN_X, oy := State.rImg s D.iIMG D.IMG_ORIGIN_Y, timeout := cam s p D.CAM_TIMEOUT }

/-- The port is the in-line port (R308). -/
def inlineOf (s : State) (p : Nat) : Bool := img s D.IMG_INLINE == p

/-- The frame of a port that is exposed or received: at most one. -/
def frameOf (s : State) (p : Nat) : Option Frame := s.img.frames.find? fun f => f.port == p && !f.received

/-- Change the frame of a port that is exposed or received. -/
def modFrame (s : State) (p : Nat) (f : Frame → Frame) : State :=
  { s with img := { s.img with frames := Arith.updWhere (fun x => x.port == p && !x.received) f s.img.frames } }

/-- The frame of a port in stage 6: at most one, as memory-path jobs run one at a time (R306). -/
def jobOf (s : State) (p : Nat) : Option Frame := s.img.frames.find? fun f => f.port == p && f.stage6

/-- Frame `no` of a port is open. -/
def isOpen (s : State) (p no : Nat) : Bool := s.img.frames.any fun f => f.port == p && f.no == no

/-- A port is capturing (R302): armed, exposing, receiving, or its in-line frame is open. A memory-path frame that is received waits in its raw buffer and leaves
the port free for the next one: R309, R318, R320 and R337 speak of two raw frames of a port (DEDUCED, log entry 33). -/
def capturing (s : State) (p : Nat) : Bool :=
  (Ilm.portOf s p).mode == .armed || (frameOf s p).isSome || s.img.frames.any fun f => f.port == p && f.inlinePort

/-- A CAPTURE to the port is taken (R302, R320). -/
def canCapture (s : State) (p : Nat) : Bool :=
  decide (p < 4) && ((Ilm.portOf s p).mode == .idle || (Ilm.portOf s p).mode == .processing && Arith.bit (cam s p D.CAM_CTRL) 0) && !(Ilm.portOf s p).fenced &&
    !capturing s p

/-- The frame of the last CAPTURE of a port has closed (R136). -/
def captureOver (s : State) (p : Nat) : Bool := (Ilm.portOf s p).mode != .armed && !isOpen s p (cam s p D.CAM_FRAME_NO)

/-! ### The pipeline (R300, R304 to R307) -/

/-- An image: rows of pixels, none where invalid. -/
abbrev Image := List (List (Option Nat))

/-- The pixel at (x, y), none outside. -/
def at? (m : Image) (x y : Int) : Option Nat :=
  if x < 0 ∨ y < 0 then none else ((m.getD y.toNat []).getD x.toNat none)

/-- The received pixels, left-aligned to 16 bits (R300, R303): missing, extra and lost ones are invalid or dropped. -/
def receive (par : FramePar) (rows : List (List Nat)) (lost : List (Nat × Nat)) : Image :=
  (List.range par.height).map fun y =>
    let r := rows.getD y []
    (List.range par.width).map fun x =>
      if lost.contains (x, y) then none else (r[x]?).map fun v => v % 2 ^ par.bits * 2 ^ (16 - par.bits)

/-- A map over the pixels of an image with their places. -/
def mapPix (m : Image) (f : Nat → Nat → Option Nat → Option Nat) : Image :=
  m.zipIdx.map fun r => r.1.zipIdx.map fun c => f c.2 r.2 c.1

/-- Stage 1: black level. -/
def stage1 (par : FramePar) (m : Image) : Image := mapPix m fun _ _ v => v.map fun v => v - par.black

/-- The pixels of a defect map (R311). -/
def defects (b : Blob) : List (Nat × Nat) := (List.range (b.len / 4)).map fun i => (Blob.le b (4 * i) 2, Blob.le b (4 * i + 2) 2)

/-- The lower middle value of a list. -/
def median (l : List Nat) : Option Nat := (l.mergeSort (fun a b => decide (a ≤ b)))[(l.length - 1) / 2]?

/-- Stage 2: defective pixels. -/
def stage2 (par : FramePar) (m : Image) : Image :=
  let bad := defects par.defects
  mapPix m fun x y v =>
    if bad.contains (x, y) then
      median (([(-1, -1), (0, -1), (1, -1), (-1, 0), (1, 0), (-1, 1), (0, 1), (1, 1)] : List (Int × Int)).filterMap fun d =>
        let q : Int × Int := (x + d.1, y + d.2)
        if 0 ≤ q.1 ∧ 0 ≤ q.2 ∧ bad.contains (q.1.toNat, q.2.toNat) then none else at? m q.1 q.2)
    else v

/-- A shading coordinate: the node below and the fraction above it, as numerator over `n − 1` (R304). -/
def node (x n : Nat) : Nat × Nat := if n ≤ 1 then (0, 0) else let i := min 31 (32 * x / (n - 1)); (i, 32 * x - i * (n - 1))

/-- Stage 3: lens shading, rounded once. -/
def stage3 (par : FramePar) (m : Image) : Image :=
  mapPix m fun x y v => v.map fun v =>
    let (i, fx) := node x par.width
    let (j, fy) := node y par.height
    let nx := max 1 (par.width - 1)
    let ny := max 1 (par.height - 1)
    let g := fun i j => Blob.le par.shading (2 * (33 * j + i)) 2
    let sum := (nx - fx) * (ny - fy) * g i j + fx * (ny - fy) * g (i + 1) j + (nx - fx) * fy * g i (j + 1) + fx * fy * g (i + 1) (j + 1)
    min 0xFFFF (Arith.divRound ((v * sum : Nat) : Int) (16384 * nx * ny)).toNat

/-- The sensor point of a plate point (R305), in binary32; none when w ≤ 0. -/
def sensorPoint (h : Blob) (x y : Int) : Option (Rat × Rat) :=
  let c := fun i => (Arith.f32OfBits (Blob.le h (4 * i) 4)).getD 0
  let r := Arith.f32Round
  let x := r (x : Rat)
  let y := r (y : Rat)
  let lin := fun a b k => r (r (r (a * x) + r (b * y)) + k)
  let w := lin (c 6) (c 7) 1
  if w ≤ 0 then none else some (r (lin (c 0) (c 1) (c 2) / w), r (lin (c 3) (c 4) (c 5) / w))

/-- Stage 4 for one output pixel (R305). -/
def rectified (par : FramePar) (m : Image) (ox oy : Nat) : Option Nat :=
  let half : Int := 128 * par.pitch
  match sensorPoint par.homography (par.ox + (2 * ox + 1) * half) (par.oy + (2 * oy + 1) * half) with
  | none => none
  | some (x, y) =>
    let i := Arith.ratFloor x
    let j := Arith.ratFloor y
    match at? m i j, at? m (i + 1) j, at? m i (j + 1), at? m (i + 1) (j + 1) with
    | some a, some b, some c, some d =>
      let u := x - i
      let v := y - j
      some (Arith.ratRound ((1 - u) * (1 - v) * a + u * (1 - v) * b + (1 - u) * v * c + u * v * d)).toNat
    | _, _, _, _ => none

/-- The output image of a frame: stages 1 to 4. -/
def output (f : Frame) : Image :=
  let m := stage3 f.par (stage2 f.par (stage1 f.par f.pixels))
  if f.par.rectify then (List.range f.par.outH).map fun y => (List.range f.par.outW).map fun x => rectified f.par m x y else m

/-- Columns and rows of the output image. -/
def outW (f : Frame) : Nat := if f.par.rectify then f.par.outW else f.par.width

/-- Rows of the output image. -/
def outH (f : Frame) : Nat := if f.par.rectify then f.par.outH else f.par.height

/-- The image plane: invalid pixels read 0 (R312). -/
def plane (m : Image) : List Nat := m.flatMap fun r => r.map fun v => v.getD 0

/-- The mask bytes of a row (R312). -/
def maskRow (r : List (Option Nat)) : List Byte :=
  (List.range ((r.length + 7) / 8)).map fun i =>
    BitVec.ofNat 8 (((List.range 8).map fun b => if (r.getD (8 * i + b) none).isSome then 2 ^ b else 0).sum)

/-- The column profile (R307). -/
def profile (w : Nat) (m : Image) : List Nat :=
  (List.range w).map fun x =>
    let v := m.filterMap fun r => r.getD x none
    (Arith.divRound ((v.sum : Nat) : Int) v.length).toNat

/-- The histogram (R307). -/
def histogram (m : Image) : List Nat :=
  let v := m.flatMap fun r => r.filterMap id
  (List.range 256).map fun i => v.countP fun x => x / 256 == i

/-- FLAGS of a frame (R312). -/
def flags (f : Frame) : Nat :=
  let b := fun (x : Bool) (i : Nat) => if x then 2 ^ i else 0
  b f.short 0 + b f.long 1 + b f.truncated 2 + b f.folio 3 + b ((f.stream.map fun s => decide (s.2 < outH f)).getD false) 4 + b f.overflow 5 + b f.par.rectify 6

/-- The frame object (R312). -/
def object (f : Frame) (close : Nat) : List Byte :=
  let m := output f
  let w := outW f
  let h := outH f
  let image := match f.stream with | some s => s.1 | none => (plane m).flatMap (Arith.natLe 2)
  let kept := match f.stream with | some s => s.2 | none => h
  let mask := m.flatMap maskRow
  let valid := ((m.take kept).map fun r => r.countP fun v => v.isSome).sum
  let n := Arith.natLe
  n 4 0x474D4952 ++ n 2 1 ++ n 2 (flags f) ++ n 1 f.port ++ n 1 f.par.bits ++ n 2 0 ++ n 4 f.no ++ n 8 f.trigBtick ++ n 8 close ++ n 4 f.layer ++
    n 2 w ++ n 2 h ++ n 2 (if f.par.rectify then f.par.pitch else 0) ++ n 2 0 ++ Arith.intLe 4 f.par.ox ++ Arith.intLe 4 f.par.oy ++
    n 4 image.length ++ n 4 mask.length ++ n 4 valid ++
    image ++ mask ++ (profile w m).flatMap (n 2) ++ (histogram m).flatMap (n 4)

/-! ### From stage 6 to the close (R306 to R309) -/

/-- The in-line frame is between its FVAL rise and its close (R308). -/
def inlineBusy (s : State) : Bool :=
  s.img.frames.any fun f => f.inlinePort && ((Ilm.portOf s f.port).mode == .receiving || (Ilm.portOf s f.port).mode == .processing)

/-- The memory-path frames, in order of TRIG (R306). -/
def memoryFrames (s : State) : List Frame := s.img.frames.filter fun f => !f.inlinePort

/-- The memory-path frames that are received (R306). -/
def memoryJobs (s : State) : List Frame := (memoryFrames s).filter fun f => f.received

/-- A memory-path job runs. -/
def jobRuns (s : State) : Bool := (memoryFrames s).any fun f => f.stage6

/-- IMG_BACKLOG: jobs that wait (R318). -/
def backlog (s : State) : Nat := (memoryJobs s).countP fun f => !f.stage6

/-- Raw buffers in use on a port (R309). -/
def rawUsed (s : State) (p : Nat) : Nat := s.img.frames.countP fun f => f.port == p && f.raw

/-- Stage 6 of a received frame begins: the raw buffer is free (R309), and Folio takes the plane when it was asked for. -/
def stage6 (f : Frame) (s : State) : State :=
  let s := { s with img := { s.img with
    frames := Arith.updWhere (fun x => x.port == f.port && x.no == f.no) (fun x => { x with stage6 := true, raw := false }) s.img.frames } }
  if f.folio then Fol.submit s (Fol.freshJob f.port 1 0 false 16 (outW f) (outH f) (plane (output f)) []) else s

/-- The memory path goes on with the next frame in order of TRIG once that is received, unless a job runs or the in-line frame holds the path (R306, R308). -/
def pump (s : State) : State :=
  if jobRuns s || inlineBusy s then s
  else
    match memoryFrames s with
    | f :: _ => if f.received then stage6 f s else s
    | [] => s

/-- Reception ends (R303, R306). -/
def endReceive (p : Nat) (upd : Frame → Frame) (s : State) : State :=
  match frameOf s p with
  | some f =>
    let g := { (upd f) with received := true }
    let s := modPort (modFrame s p fun _ => g) p fun x => { x with mode := .processing }
    if g.inlinePort then stage6 g s else pump s
  | none => s

/-- The mode of a port when one of its frames has closed: that of its other frames, or of its ENABLE. -/
def restMode (s : State) (p : Nat) (m : PortMode) : PortMode :=
  match m with
  | .processing => if s.img.frames.any fun f => f.port == p then .processing else if Arith.bit (cam s p D.CAM_CTRL) 0 then .idle else .disabled
  | m => m

/-- Close a frame (R307, R312): a STORE_OBJECT that waits for it takes its object (R137). -/
def close (f : Frame) (s : State) : State :=
  let p := f.port
  let ob := object f s.btick
  let fl := flags f
  let bufs := fun g : Frame => match g.stream with | some x => Fol.kept s true x.1 | none => 0
  let used := bufs f
  let s := { s with img := { s.img with
    frames := s.img.frames.filter (fun x => !(x.port == p && x.no == f.no)), objects := Tab.set (fun _ => []) s.img.objects p ob } }
  let still := ((s.img.frames.filter fun x => x.port == p).map bufs).sum
  let old := Tab.get (fun _ => 0) s.fol.chains p - used - still
  let copied := fun w : StkWrite => w.kind == 1 && w.unit == p && w.data.isSome && w.held == 0
  let awaited := fun w : StkWrite => w.kind == 1 && w.unit == p && w.data.isNone && w.frameNo == f.no
  let writes := Arith.updWhere awaited (fun w => { w with data := some ob }) (Arith.updWhere copied (fun w => { w with held := old }) s.stk.writes)
  let s := { s with fol := { s.fol with chains := Tab.set (fun _ => 0) s.fol.chains p (used + still) }, stk := { s.stk with writes := writes } }
  let w := fun (s : State) sub (v : Nat) => State.wImg s (D.iCAM + p) sub (v : Int)
  let inc := fun (s : State) (b : Bool) sub => if b then State.incImg s (D.iCAM + p) sub 1 else s
  let s := w (w (w s D.CAM_LAST_FLAGS fl) D.CAM_LAST_CLOSE s.btick) D.CAM_FRAMES (cam s p D.CAM_FRAMES + 1)
  let s := inc (inc (inc s f.short D.CAM_SHORT) f.long D.CAM_LONG) f.truncated D.CAM_TRUNCATED
  let s := if (output f).all (fun r => r.all fun v => v.isNone) then State.raise s 0x108 1 f.no else s
  let s := modPort s p fun x => { x with mode := restMode s p x.mode }
  pump (Fol.showEngine (Fol.link (Ilm.frameClosed p s)))

/-- FRAME_CLOSE (R307): the last byte of the frame of port `p` in stage 6 is in DRAM. -/
def frameClose (p : Nat) (s : State) : State :=
  match jobOf s p with
  | some f => if (f.inlinePort || !inlineBusy s) && (!f.folio || f.stream.isSome) then close f s else s
  | none => s

/-! ### Triggers and windows (R301 to R303) -/

/-- TRIG rises on port `p` (R301, R309, R310), and the lamps armed on it fire. A frame that finds no raw buffer closes at once. -/
def trig (p : Nat) (folio : Bool) (s : State) : State :=
  let no := (cam s p D.CAM_FRAME_NO + 1) % 2 ^ 32
  let inl := inlineOf s p
  let full := !inl && decide (2 ≤ rawUsed s p)
  let par := params s p
  let f : Frame :=
    { port := p, no := no, trigTick := s.tick, trigBtick := s.btick, layer := State.layerNo s, folio := folio && !full, inlinePort := inl,
      par := par, pixels := if full then receive par [] [] else [], short := false, long := false, truncated := full, overflow := false, received := full,
      raw := !inl && !full, stage6 := full, stream := none }
  let sync := Ilm.syncLength s p
  let s := State.wImg s (D.iCAM + p) D.CAM_FRAME_NO (no : Int)
  let before := s.img.frames.takeWhile fun x => decide (x.trigTick < s.tick ∨ x.port ≤ p)
  let s := { s with img := { s.img with frames := before ++ f :: s.img.frames.drop before.length } }
  let s := modPort s p fun x => { x with
    mode := if full then .processing else .exposing, event := false, trigUntil := s.tick + cam s p D.CAM_TRIG_WIDTH, syncUntil := s.tick + sync }
  let s := Ilm.fire p s
  if full then close f (State.incImg (say s p 5 no) D.iIMG D.IMG_RAW_FULLS 1) else s

/-- CAPTURE with ARMED (R301). -/
def arm (p : Nat) (folio : Bool) (s : State) : State := modPort s p fun x => { x with mode := .armed, folio := folio, event := false }

/-- An event of trigger source `src` (R301): the ports armed for it take it. -/
def event (src : Nat) (s : State) : State :=
  State.forAll (fun p s =>
    if (Ilm.portOf s p).mode = .armed ∧ Arith.bits (cam s p D.CAM_CTRL) 12 8 = src then modPort s p fun x => { x with event := true } else s) (List.range 4) s

/-- FVAL_RISE (R303, R308). -/
def fvalRise (p : Nat) (s : State) : State :=
  if 4 ≤ p then s
  else
    match (Ilm.portOf s p).mode with
    | .exposing =>
      let running := !inlineBusy s && jobRuns s
      let s := modPort s p fun x => { x with mode := .receiving }
      if ((frameOf s p).map fun f => f.inlinePort).getD false ∧ running then State.incImg s D.iIMG D.IMG_SUSPENDS 1 else s
    | _ => if capturing s p then s else State.incImg s (D.iCAM + p) D.CAM_STRAY 1

/-- FVAL_FALL (R303): `rows` as the sensor sent them, `lost` the pixels that an overflow lost. -/
def fvalFall (p : Nat) (rows : List (List Nat)) (lost : List (Nat × Nat)) (s : State) : State :=
  match frameOf s p with
  | some f =>
    if (Ilm.portOf s p).mode = .receiving then
      let short := decide (rows.length < f.par.height) || rows.any fun r => decide (r.length < f.par.width)
      let long := decide (f.par.height < rows.length) || rows.any fun r => decide (f.par.width < r.length)
      let s := if short then say s p 2 f.no else s
      let s := if long then say s p 3 f.no else s
      endReceive p (fun f => { f with pixels := receive f.par rows (if f.overflow then lost else []), short := short, long := long }) s
    else s
  | none => s

/-- The rows that a sensor has sent when its frame is cut at the `n`-th free value (R303): they come from outside, and no command brings them. -/
def heard (par : FramePar) (n : Nat) : List (List Nat) :=
  (List.range (Config.sensorRows n % (par.height + 2))).map fun y =>
    (List.range (Config.sensorColumns n y % (par.width + 2))).map fun x => Config.sensorPixel n y x % 2 ^ par.bits

/-- The pixels of such a frame that an overflow has lost. -/
def unheard (f : Frame) (n : Nat) : List (Nat × Nat) :=
  if f.overflow then
    (List.range f.par.height).flatMap fun y => ((List.range f.par.width).filter fun x => Config.sensorLost n y x).map fun x => (x, y)
  else []

/-- A frame ends before its FVAL fall (R303): what has not been received is invalid. -/
def cut (p : Nat) (rows : List (List Nat)) (lost : List (Nat × Nat)) (s : State) : State :=
  let done := rows.dropLast
  endReceive p (fun f =>
    let short := done.any fun r => decide (r.length < f.par.width)
    let long := decide (f.par.height < rows.length) || done.any fun r => decide (f.par.width < r.length)
    { f with pixels := receive f.par rows (if f.overflow then lost else []), short := short, long := long, truncated := true }) s

/-- The port waits for an FVAL that has not come in time (R303). -/
def overdue (s : State) (p : Nat) : Bool :=
  let m := (Ilm.portOf s p).mode
  (m == .exposing || m == .receiving) && ((frameOf s p).map fun f => decide (f.trigTick + f.par.timeout ≤ s.tick)).getD false

/-- FRAME_TIMEOUT (R303). -/
def frameTimeout (p : Nat) (rows : List (List Nat)) (lost : List (Nat × Nat)) (s : State) : State :=
  if overdue s p then
    let no := ((frameOf s p).map fun f => f.no).getD 0
    let said := fun (b : Bool) k (s : State) => if b then say s p k no else s
    let s := cut p (if (Ilm.portOf s p).mode = .receiving then rows else []) lost (say s p 4 no)
    let g := fun (h : Frame → Bool) => ((frameOf s p).map h).getD false
    said (g fun f => f.long) 3 (said (g fun f => f.short) 2 s)
  else s

/-- A frame that is overdue when a tick ends (R303): FRAME_TIMEOUT with the rows received so far as a free value. -/
def timeoutDue (p : Nat) (s : State) : State :=
  match (Ilm.portOf s p).mode, frameOf s p with
  | .receiving, some f =>
    if overdue s p then frameTimeout p (heard f.par s.free) (unheard f s.free) (State.draw s) else s
  | _, _ => frameTimeout p [] [] s

/-- INGRESS_FIFO_OVERFLOW of a camera port (R19, R303). -/
def overflow (p : Nat) (s : State) : State :=
  let no := cam s p D.CAM_FRAME_NO
  let s := say s p 1 no
  if (Ilm.portOf s p).mode = .receiving then modFrame s p fun f => { f with overflow := true } else s

/-- ENABLE of a port applied as 1. -/
def enable (p : Nat) (s : State) : State :=
  if (Ilm.portOf s p).mode = .disabled then modPort s p fun x => { x with mode := .idle } else s

/-- ENABLE of a port applied as 0 (R303, R320): a live frame ends at once, with the rows received so far as a free value; frames that wait are processed. -/
def disable (p : Nat) (s : State) : State :=
  match (Ilm.portOf s p).mode, frameOf s p with
  | .exposing, _ => cut p [] [] s
  | .receiving, some f => cut p (heard f.par s.free) (unheard f s.free) (State.draw s)
  | .receiving, none => s
  | .processing, _ => s
  | _, _ => modPort s p fun x => { x with
      mode := restMode s p .processing, event := false, fenced := x.fenced && State.holdsStatus s (0x100 + p) }

/-- Code of CAM_STATE (R317). -/
def stateCode (s : State) (p : Nat) : Nat :=
  let x := Ilm.portOf s p
  if x.fenced then 6 else match x.mode with
    | .disabled => 0 | .idle => 1 | .armed => 2 | .exposing => 3 | .receiving => 4 | .processing => 5

/-- A port is fenced (R320). -/
def fence (p : Nat) (s : State) : State := modPort s p fun x => { x with fenced := true, mode := if x.mode = .armed then restMode s p .processing else x.mode }

/-- A change of IMG_INLINE is taken (R309). -/
def inlineFree (s : State) : Bool :=
  ((List.range 4).all fun p => (Ilm.portOf s p).mode == .idle || (Ilm.portOf s p).mode == .disabled) && (memoryFrames s).isEmpty

/-- A defect map keeps the rules of R311 for a frame size. -/
def defectsOk (b : Blob) (w h : Nat) : Bool :=
  decide (b.len % 4 = 0) && decide (b.len ≤ 262144) &&
    (let l := defects b
     (l.all fun d => decide (d.1 < w) && decide (d.2 < h)) && ((l.zip (l.drop 1)).all fun d => decide (d.1.2 < d.2.2 ∨ d.1.2 = d.2.2 ∧ d.1.1 < d.2.1)))

/-- A BLOB image of a port keeps the rules of R311. -/
def imageOk (s : State) (p sub : Nat) (b : Blob) : Bool :=
  if sub = D.CAM_DEFECT_MAP then defectsOk b (cam s p D.CAM_WIDTH) (cam s p D.CAM_HEIGHT)
  else if sub = D.CAM_SHADING then b.len == 2178
  else if sub = D.CAM_HOMOGRAPHY then b.len == 32 && (List.range 8).all fun i => (Arith.f32OfBits (Blob.le b (4 * i) 4)).isSome
  else true

end Img

/-! ### Feature units (R313 to R316) -/

namespace Feat

/-- An entry of MPFn. -/
def reg (s : State) (n sub : Nat) : Nat := (State.rImg s (D.iMPF + n) sub).toNat

/-- Unit `n`. -/
def unit (s : State) (n : Nat) : Mpf := Tab.get (fun _ => Mpf.init) s.img.mpf n

/-- Change unit `n`. -/
def modUnit (s : State) (n : Nat) (f : Mpf → Mpf) : State :=
  { s with img := { s.img with mpf := Tab.set (fun _ => Mpf.init) s.img.mpf n (f (unit s n)) } }

/-- Bits per pixel by the FORMAT field (R319). -/
def format (s : State) (n : Nat) : Nat := match Arith.bits (reg s n D.MPF_CTRL) 7 6 with | 0 => 8 | 1 => 12 | _ => 16

/-- The schedule of tick `k` (R313), when the set-point frame for it leaves: its tag is a tag tick, and where CAM_TRIG is sent the tile is owed. `sends`: a
set-point frame leaves. -/
def schedule (n k : Nat) (sends : Bool) (s : State) : State :=
  let b := State.btickOf s k
  if reg s n D.MPF_PHASE ≤ b ∧ (b - reg s n D.MPF_PHASE) % reg s n D.MPF_PERIOD = 0 then
    let e := reg s n D.MPF_EXP
    let tag := k + e - 1
    let ctrl := reg s n D.MPF_CTRL
    let on := sends && Arith.bit ctrl 0 && State.chOf s n == .started && State.hasZ s n && State.laneUp s n && !(unit s n).fenced
    let slot : TileSlot := ⟨k, e, tag, tag + reg s n D.MPF_DELAY, b + e - 1, format s n, reg s n D.MPF_THRESH, Arith.bit ctrl 1⟩
    modUnit s n fun u => { u with
      tags := (u.tags.filter fun t => decide (s.tick ≤ t + 300)) ++ [tag], sched := if on then u.sched ++ [slot] else u.sched }
  else s

/-- The pixels of a tile, unpacked (R281). -/
def unpack (fmt : Nat) (d : List Byte) : List Nat :=
  if fmt = 8 then d.map fun b => b.toNat
  else if fmt = 16 then (List.range (d.length / 2)).map fun i => Arith.leAt d (2 * i) 2
  else (List.range (d.length / 3)).flatMap fun i => let w := Arith.leAt d (3 * i) 3; [w % 256 + w / 256 % 16 * 256, w / 4096 % 16 + w / 65536 * 16]

/-- The features of a tile (R314): AREA, LENGTH, WIDTH, PEAK, CX, CY. -/
structure Features where
  area : Nat
  length : Nat
  width : Nat
  peak : Nat
  cx : Int
  cy : Int
deriving DecidableEq, Repr

/-- Compute the features of the pixels of a tile (R314). -/
def features (fmt thresh : Nat) (d : List Byte) : Features :=
  let px := (unpack fmt d).map fun v => v * 2 ^ (16 - fmt)
  let pool := (px.zipIdx.filter fun p => decide (thresh ≤ p.1)).map fun p => (p.2 % 64, p.2 / 64)
  let n := pool.length
  let span := fun (l : List Nat) => if l.isEmpty then 0 else l.foldl max 0 - l.foldl min 63 + 1
  let mid := fun (l : List Nat) => if n = 0 then 0 else Arith.divRound (128 * (2 * (l.sum : Int) - 63 * n)) n
  let xs := pool.map fun p => p.1
  let ys := pool.map fun p => p.2
  ⟨n, span xs, span ys, px.foldl max 0, mid xs, mid ys⟩

/-- What a free number says of the features of an invalid tile, which R314 leaves open. -/
def openFeatures (w : Nat) : Features :=
  ⟨w % 4097, w / 4097 % 65, w / 266305 % 65, w / 17309825 % 65536, Arith.toSigned 16 (w / 2 ^ 40), Arith.toSigned 16 (w / 2 ^ 56)⟩

/-- A log record (R316). -/
def record (t : Nat) (f : Features) (fl : Nat) : List Byte :=
  Arith.natLe 4 t ++ Arith.natLe 2 f.area ++ Arith.natLe 1 f.length ++ Arith.natLe 1 f.width ++ Arith.natLe 2 f.peak ++ Arith.intLe 2 f.cx ++ Arith.intLe 2 f.cy ++
    Arith.natLe 1 fl ++ Arith.natLe 1 0

/-- The ring takes a record (R316). -/
def logRecord (n : Nat) (on : Bool) (r : List Byte) (s : State) : State :=
  if on then
    let pos := reg s n D.MPF_LOG_POS
    State.wImg (modUnit s n fun u => { u with log := Tab.set (fun _ => []) u.log (pos % 65536) r }) (D.iMPF + n) D.MPF_LOG_POS ((pos + 1 : Nat) : Int)
  else s

/-- MPF_LOG (R316): the records in the ring, the oldest first. -/
def logBytes (s : State) (n : Nat) : List Byte :=
  let pos := reg s n D.MPF_LOG_POS
  let m := min pos 65536
  (List.range m).flatMap fun i => Tab.get (fun _ => []) (unit s n).log ((pos - m + i) % 65536)

/-- The tile tagged `t` at its hand-over (R282, R313): whether complete, its format, its bytes. -/
def tileAt (s : State) (n t : Nat) : Option (Bool × Nat × List Byte) := ((State.attOf s n).tilesDone.find? fun x => x.2.1 == t).map fun x => x.2.2

/-- A frame tagged `t` that is not complete at its hand-over is marked incomplete there (R282), its header lost or not. -/
def endTile (s : State) (n t : Nat) : State :=
  if (tileAt s n t).isSome then s
  else if (State.attOf s n).tile.any fun x => x.tag == t then Att.closeTile s n
  else Att.tileBad s n

/-- One hand-over (R313, R314, R316), with the settings that stood at the trigger (R315). -/
def handOver (n : Nat) (h : TileSlot) (s : State) : State :=
  let s := endTile s n h.tag
  let got := tileAt s n h.tag
  let incomplete := !(got.map fun g => g.1).getD false
  let wrong := !incomplete && decide (((got.map fun g => g.2.1).getD 0) ≠ h.format)
  let valid := !incomplete && !wrong
  let f := match got with
    | some g => if valid then features h.format h.thresh g.2.2 else openFeatures (State.freeVal s)
    | none => openFeatures (State.freeVal s)
  let s := if valid then s else State.draw s
  let t := h.tagBtick
  let s := State.modAtt s n fun a => { a with tilesDone := a.tilesDone.filter fun x => x.2.1 != h.tag }
  let w := fun (s : State) sub (v : Nat) => State.wImg s (D.iMPF + n) sub (v : Int)
  let s := w (w (w (w (w (w s D.MPF_LAST_TAG t) D.MPF_AREA f.area) D.MPF_LENGTH f.length) D.MPF_WIDTH f.width) D.MPF_PEAK f.peak)
    D.MPF_CENTROID (Arith.toUnsigned 16 f.cy * 65536 + Arith.toUnsigned 16 f.cx)
  let s := State.incImg s (D.iMPF + n) (if valid then D.MPF_VALID else D.MPF_INVALID) 1
  let sample := if valid && !(unit s n).fenced then some f.area else none
  let s := State.modLoop s n fun l => { l with area := Tab.ins (l.area.filter fun a => decide (h.tag ≤ a.1 + 256)) h.tag (h.hand + 1, sample) }
  let s := logRecord n h.log (record (t % 2 ^ 32) f (if valid then 1 else if incomplete then 2 else 4)) s
  let said := (unit s n).invalidEpisode
  let s := modUnit s n fun u =>
    { u with invalidEpisode := !valid, sched := u.sched.filter fun x => x.tag != h.tag, handed := (h.tag :: u.handed).take 4 }
  if !valid && !said then State.raise s (0x110 + n) 1 (t % 2 ^ 32) else s

/-- Discard the tiles that no schedule names (R313). -/
def strays (n : Nat) (s : State) : State :=
  let u := unit s n
  let known := fun t => u.sched.any (fun x => x.tag == t) || u.handed.contains t
  let gone := (State.attOf s n).tilesDone.filter fun x => !known x.2.1 && decide (x.2.1 ≤ s.tick)
  let s := State.modAtt s n fun a => { a with tilesDone := a.tilesDone.filter fun x => u.sched.any fun y => y.tag == x.2.1 }
  match gone with
  | [] => s
  | g :: _ =>
    let s := State.incImg s (D.iMPF + n) D.MPF_STRAY gone.length
    if u.strayEpisode then s
    else State.raise (modUnit s n fun u => { u with strayEpisode := true }) (0x110 + n) 2 (State.btickOf s g.2.1 % 2 ^ 32)

/-- The hand-overs of unit `n` due by tick `t` (R313); a hand-over ends an episode of strays. -/
def handOvers (n t : Nat) (s : State) : State :=
  let due := (unit s n).sched.filter fun h => decide (h.hand ≤ t)
  let s := due.foldl (fun s h => modUnit (handOver n h s) n fun u => { u with strayEpisode := false }) s
  strays n s

/-- The unit is fenced (R320). -/
def fence (n : Nat) (s : State) : State := modUnit s n fun u => { u with fenced := true }

/-- The settings of the schedule agree (R315). -/
def settingsOk (s : State) (n : Nat) : Bool :=
  decide (reg s n D.MPF_PHASE < reg s n D.MPF_PERIOD) && decide (reg s n D.MPF_EXP ≤ reg s n D.MPF_PERIOD)

end Feat

end Sys2Proof.Machine
end

