-- ==== Sys2Proof/Machine/Axes.lean ====
section
/-!
DEFINITION. Machine axes, gearing, encoders and compare units (16_machine_axes.md): step instants from the ideal profile, in-motion changes, homing,
quadrature and tooth decoding, and compare firings.
What the rules leave to the model: log entries 38 and 39.
-/
namespace Sys2Proof.Machine

/-- A switch input as BOOT leaves it. -/
def AxSwitch.init : AxSwitch := ⟨false, false, none, false, none⟩

/-- An axis as BOOT leaves it (R399). -/
def Axis.init : Axis :=
  { mode := .disabled, pos := 0, goal := .stop 1000000, dir := 1, v2 := 0, cruise2 := 0, acc := 1000000, dec := 1000000, lastAt := 0, event := none,
    stepUntil := 0, wakeUntil := 0, after := .hold, afterGoal := .stop 1000000, holdFrom := 0, toDisabled := false, phase := .search, searchFrom := 0,
    releasePos := 0, homed := false, gear := none, limP := AxSwitch.init, limN := AxSwitch.init, home := AxSwitch.init, steps := 0 }

/-- An encoder as BOOT leaves it (R401). -/
def Enc.init : Enc :=
  { mode := .disabled, count := 0, a := false, b := false, z := false, aAt := none, bAt := none, zAt := none, lastDir := none, lastEdge := none, speed := 0, illegalEpisode := false,
    latch := none, tooth := none, gap := none, sinceRef := 0 }

/-- A compare unit as BOOT leaves it (R402). -/
def Cmp.init : Cmp := ⟨.disarmed, 0, 0⟩

namespace Ax

/-- A number wrapped to I32 (R372). -/
def wrap (v : Int) : Int := Arith.toSigned 32 (Arith.toUnsigned 32 v)

/-- The difference of two positions (R372). -/
def diff (a b : Int) : Int := wrap (a - b)

/-- An entry of axis `a`. -/
def reg (s : State) (a sub : Nat) : Int := State.rAx s (D.iAX + a) sub

/-- A gearing entry of axis `a` (R400). -/
def gearReg (s : State) (a k : Nat) : Int := State.rAx s D.iGEAR (1 + 8 * a + k)

/-- Axis `a`. -/
def axis (s : State) (a : Nat) : Axis := Tab.get (fun _ => Axis.init) s.ax.axes a

/-- Set axis `a`. -/
def setAxis (s : State) (a : Nat) (x : Axis) : State := { s with ax := { s.ax with axes := Tab.set (fun _ => Axis.init) s.ax.axes a x } }

/-- Change axis `a`. -/
def modAxis (s : State) (a : Nat) (f : Axis → Axis) : State := setAxis s a (f (axis s a))

/-- Encoder `e`. -/
def enc (s : State) (e : Nat) : Enc := Tab.get (fun _ => Enc.init) s.ax.encs e

/-- Change encoder `e`. -/
def modEnc (s : State) (e : Nat) (f : Enc → Enc) : State :=
  { s with ax := { s.ax with encs := Tab.set (fun _ => Enc.init) s.ax.encs e (f (enc s e)) } }

/-- Compare unit `u`. -/
def cmp (s : State) (u : Nat) : Cmp := Tab.get (fun _ => Cmp.init) s.ax.cmps u

/-- Change compare unit `u`. -/
def modCmp (s : State) (u : Nat) (f : Cmp → Cmp) : State :=
  { s with ax := { s.ax with cmps := Tab.set (fun _ => Cmp.init) s.ax.cmps u (f (cmp s u)) } }

/-- The start of the present tick in units of 4 ns. -/
def now4 (s : State) : Nat := 125 * s.tick

/-- Set a bit of a clear-on-read flag word. -/
def flag (s : State) (idx sub i : Nat) : State := State.wAx s idx sub ((Arith.setBit (State.rAx s idx sub).toNat i true : Nat) : Int)

/-- An axis event (R403): the address is the commanded position. -/
def say (s : State) (a kind : Nat) : State :=
  State.raise (flag s (D.iAX + a) D.AX_FLAGS (if kind = 0x3F then 15 else kind - 1)) (0x160 + a) kind (Arith.toUnsigned 32 (axis s a).pos)

/-- A step from the Catalogue is refused (R138): the address is the entry and its OP. -/
def refuse (s : State) (a addr : Nat) : State := State.raise (flag s (D.iAX + a) D.AX_FLAGS 15) (0x160 + a) 0x3F addr

/-! ### The profile (R373, R374, R378) -/

/-- The time of a piece of constant acceleration, in units of 4 ns, from squared speed `w0` to `w1` over `len` steps. -/
def pieceTime (w0 w1 len : Rat) : Rat :=
  let v := Arith.ratSqrt (2 ^ 24) w0 + Arith.ratSqrt (2 ^ 24) w1
  if len ≤ 0 ∨ v ≤ 0 then 0 else 500000000 * len / v

/-- One whole step from squared speed `v2` toward the squared cruise speed `c2`, with `left` steps to a target that is passed at squared speed `e2`, where there
is one: its parts, and the squared speed at its end. The squared speed is linear in position along every ramp. -/
def unitStep (v2 c2 e2 : Rat) (acc dec : Nat) (left : Option Rat) : List (Rat × Rat × Rat) × Rat :=
  let a : Rat := acc
  let d : Rat := match left with
    | some s => if v2 ≤ e2 + 2 * dec * s ∨ s ≤ 0 then dec else (v2 - e2) / (2 * s)
    | none => dec
  let kept := match left with | some s => decide (e2 + 2 * dec * s < v2) | none => false
  let xc := if kept then 0 else if v2 ≤ c2 then (c2 - v2) / (2 * a) else (v2 - c2) / (2 * d)
  let xb : Rat := match left with
    | none => 2
    | some s =>
      if kept then 0
      else if v2 ≤ c2 then
        let x1 := (2 * d * s + e2 - v2) / (2 * (a + d))
        if x1 ≤ xc then x1 else s - (c2 - e2) / (2 * d)
      else s - (c2 - e2) / (2 * d)
  let w := fun (x : Rat) =>
    if x ≤ xb then (if v2 ≤ c2 then min c2 (v2 + 2 * a * x) else max c2 (v2 - 2 * d * x)) else match left with | some s => e2 + 2 * d * (s - x) | none => c2
  let p1 := max 0 (min 1 (min xc xb))
  let p2 := max p1 (min 1 xb)
  let part := fun (w0 w1 len : Rat) => if len ≤ 0 then [] else [(pieceTime w0 w1 len, w0, w1)]
  (part v2 (w p1) p1 ++ part (w p1) (w p2) (p2 - p1) ++ part (w p2) (max 0 (w 1)) (1 - p2), max 0 (w 1))

/-- One step of a braking axis: the parts and the squared speed of the next step, or the way to rest when none is reached. -/
def stopStep (v2 : Rat) (dec : Nat) : List (Rat × Rat × Rat) × Rat × Bool :=
  let d : Rat := max 1 dec
  if v2 < 2 * d then ([(250000000 * Arith.ratSqrt (2 ^ 24) v2 / d, v2, 0)], 0, false) else ([(pieceTime v2 (v2 - 2 * d) 1, v2, v2 - 2 * d)], v2 - 2 * d, true)

/-- The next event of the step timer, from where the profile stands; none at rest. `vc` is the speed of a geared axis's command, in steps/s: the axis passes
the present command at that speed (R388). -/
def plan (vc : Rat) (x : Axis) : Option AxEvent :=
  let at_ := fun (r : List (Rat × Rat × Rat) × Rat × Bool) (dir : Int) =>
    some ⟨mkRat (Arith.ratRound ((x.lastAt + (r.1.map fun p => p.1).sum) * 2 ^ 24)) (2 ^ 24), r.2.2, dir, r.2.1, r.1⟩
  let brake := fun (d : Nat) => if x.v2 = 0 then none else at_ (stopStep x.v2 d) x.dir
  match x.goal with
  | .stop d => if x.v2 = 0 then some ⟨x.lastAt, false, x.dir, 0, []⟩ else at_ (stopStep x.v2 d) x.dir
  | .speed v =>
    let want : Int := if v < 0 then -1 else 1
    if x.v2 ≠ 0 ∧ (v = 0 ∨ want ≠ x.dir) then at_ (stopStep x.v2 x.dec) x.dir
    else if v = 0 then none
    else let r := unitStep x.v2 ((v * v : Int) : Rat) 0 x.acc x.dec none; at_ (r.1, r.2, true) want
  | .target t =>
    let d := diff t x.pos
    let dir : Int := if x.v2 = 0 then (if d < 0 then -1 else 1) else x.dir
    let left := d * dir
    let e2 : Rat := if 0 < vc * (dir : Rat) then vc * vc else 0
    if d = 0 ∧ x.v2 = 0 then none
    else if left ≤ 0 then brake x.dec
    else if x.mode = .geared ∧ e2 + 2 * (x.dec : Rat) * left < x.v2 then brake x.dec
    else let r := unitStep x.v2 x.cruise2 e2 x.acc x.dec (some (left : Rat)); at_ (r.1, r.2, true) dir

/-- The speed of a geared axis's command in steps/s: the master's speed at the gear's ratio. -/
def commandSpeed (s : State) (a : Nat) : Rat :=
  let x := axis s a
  if x.mode = .geared then match x.gear with
    | some g => mkRat ((enc s g.enc).speed * g.num) g.den
    | none => 0
  else 0

/-- The direction in which an axis moves; 0 at rest. -/
def travel (x : Axis) : Int :=
  match x.event with
  | some ev => if ev.isStep then ev.dir else if x.v2 = 0 then 0 else x.dir
  | none => if x.v2 = 0 then 0 else x.dir

/-- Load the step timer (R373). -/
def reload (a : Nat) (s : State) : State := modAxis s a fun x => { x with event := plan (commandSpeed s a) x }

/-- Load the step timer of an axis that has nothing to do yet, from an instant. -/
def kick (a : Nat) (t : Rat) (s : State) : State :=
  if (axis s a).event.isNone then reload a (modAxis s a fun x => { x with lastAt := t }) else s

/-! ### Standstill and stops (R380 to R382) -/

/-- An axis is at standstill (R382). -/
def standstill (s : State) (a : Nat) : Bool :=
  let x := axis s a
  match x.mode with
  | .disabled => true
  | .hold => true
  | .restOff => true
  | .restShort => true
  | .fenced => decide (x.v2 = 0)
  | _ => false

/-- HOLD ends after its delay (R381). -/
def holdOver (s : State) (a : Nat) : Bool :=
  (axis s a).mode == .hold && decide ((axis s a).holdFrom + 2000 * (reg s a D.AX_STANDSTILL_DELAY).toNat ≤ s.tick)

/-- Take the standstill outputs when they are due (R381). -/
def standstillDue (a : Nat) (s : State) : State :=
  if holdOver s a then
    modAxis s a fun x => { x with mode := if Arith.bit (reg s a D.AX_CTRL).toNat 1 then .restShort else .restOff }
  else s

/-- Enter HOLD (R381). -/
def hold (a : Nat) (s : State) : State :=
  standstillDue a (modAxis s a fun x => { x with mode := .hold, holdFrom := s.tick, v2 := 0, event := none, toDisabled := false })

/-- Brake at a deceleration, in a state. -/
def brakeTo (a dec : Nat) (m : AxMode) (s : State) : State :=
  kick a (now4 s) (modAxis s a fun x => { x with mode := m, goal := .stop dec })

/-- A controlled stop or a quick stop of an axis in motion (R380). An axis that stops already keeps the harder of the two decelerations: a controlled
stop does not weaken a quick stop, and one that wakes stops as soon as its delay is over (DEDUCED, log entry 38). -/
def stopMotion (quick : Bool) (a : Nat) (s : State) : State :=
  let d := (reg s a (if quick then D.AX_DECEL_MAX else D.AX_DECEL)).toNat
  let s := modAxis s a fun x => { x with gear := none }
  match (axis s a).mode with
  | .moving => brakeTo a d .stopping s
  | .jogging => brakeTo a d .stopping s
  | .geared => brakeTo a d .stopping s
  | .homing => brakeTo a d .stopping s
  | .stopping => modAxis s a fun x => { x with goal := match x.goal with | .stop old => .stop (max old d) | _ => .stop d }
  | .waking => modAxis s a fun x => { x with after := .stopping, afterGoal := .stop d }
  | _ => s

/-! ### Compare units (R395 to R398) -/

/-- An entry of compare unit `u`. -/
def cmpReg (s : State) (u sub : Nat) : Int := State.rAx s (D.iCMP + u) sub

/-- The source of a unit: 0 to 7 an axis, 8 to 15 an encoder. -/
def cmpSource (s : State) (u : Nat) : Nat := Arith.bits (cmpReg s u D.CMP_MODE).toNat 3 0

/-- The present value of a source. -/
def sourceValue (s : State) (src : Nat) : Int := if src < 8 then (axis s src).pos else (enc s (src - 8)).count

/-- The direction in which a source moves: 0 at rest. -/
def sourceDir (s : State) (src : Nat) : Int :=
  if src < 8 then travel (axis s src)
  else let v := (enc s (src - 8)).speed; if v = 0 then 0 else if v < 0 then -1 else 1

/-- The direction of a unit allows a crossing (R395). -/
def dirOk (s : State) (u : Nat) (d : Int) : Bool :=
  match Arith.bits (cmpReg s u D.CMP_MODE).toNat 6 5 with | 0 => true | 1 => decide (0 < d) | _ => decide (d < 0)

/-- Set a compare state. -/
def cmpEnter (u : Nat) (m : CmpMode) (s : State) : State := modCmp s u fun c => { c with mode := m }

/-- A firing at an instant in units of 4 ns, in a direction (R395, R397). -/
def fire (u t : Nat) (d : Int) (s : State) : State :=
  let mode := (cmpReg s u D.CMP_MODE).toNat
  let v := sourceValue s (cmpSource s u)
  let w := fun (s : State) sub (v : Int) => State.wAx s (D.iCMP + u) sub v
  let s := w (w (w s D.CMP_FIRES ((cmpReg s u D.CMP_FIRES + 1) % 2 ^ 32)) D.CMP_LAST_TICK ((t / 125 + 1 : Nat) : Int)) D.CMP_LAST_POS v
  let s := { s with ax := { s.ax with fresh := if s.ax.fresh.contains u then s.ax.fresh else s.ax.fresh ++ [u] } }
  let s := if Arith.bit mode 8 then modCmp s u fun c => { c with pulseUntil := t + (cmpReg s u D.CMP_WIDTH).toNat / 4 } else s
  let made := (cmp s u).made + 1
  let more := Arith.bit mode 9 && decide (made < (cmpReg s u D.CMP_COUNT).toNat)
  let s := modCmp s u fun c => { c with made := made, mode := if more then .armed else .done }
  if Arith.bit mode 9 then w s D.CMP_POSITION (wrap (cmpReg s u D.CMP_POSITION + (if d < 0 then -1 else 1) * cmpReg s u D.CMP_PITCH)) else s

/-- A source crosses P between two counts (R372). -/
def crosses (old new p : Int) : Bool :=
  let x := diff old p
  let y := diff new p
  (decide (y = 0) && decide (x ≠ 0)) || (decide (x < 0) && decide (0 < y) && decide (y - x < 2 ^ 31)) ||
    (decide (y < 0) && decide (0 < x) && decide (x - y < 2 ^ 31))

/-- A unit sees its source go from `old` to `new`, by fuel for firings that repeat. -/
def watch : Nat → Nat → Nat → Int → Int → State → State
  | 0, _, _, _, _, s => s
  | k + 1, u, t, old, new, s =>
    let m := (cmp s u).mode
    if m ≠ .armed ∧ m ≠ .behind then s
    else
      let p := cmpReg s u D.CMP_POSITION
      let d := diff new old
      if crosses old new p ∧ dirOk s u d then watch k u t old new (fire u t d s)
      else if m = .behind ∧ decide (0 < diff p new) = decide (0 < d) then cmpEnter u .armed s
      else s

/-- Every unit on a source sees it change at an instant (R395). -/
def sourceMoves (src t : Nat) (old new : Int) (s : State) : State :=
  State.forAll (fun u s => if cmpSource s u = src then watch 4 u t old new s else s) (List.range 16) s

/-- A source is disabled or fenced (R398): its armed units disarm. -/
def sourceLost (src : Nat) (s : State) : State :=
  State.forAll (fun u s =>
    let m := (cmp s u).mode
    if cmpSource s u = src ∧ (m = .armed ∨ m = .behind) then
      State.raise (cmpEnter u .disarmed s) (0x170 + u) 2 (Arith.toUnsigned 32 (cmpReg s u D.CMP_POSITION))
    else s) (List.range 16) s

/-- Classify the position of an armed unit (R396). -/
def classify (u : Nat) (s : State) : State :=
  let src := cmpSource s u
  let p := cmpReg s u D.CMP_POSITION
  let x := diff p (sourceValue s src)
  let d := sourceDir s src
  let any := decide (Arith.bits (cmpReg s u D.CMP_MODE).toNat 6 5 = 0)
  if x = 0 then (if any then fire u (now4 s) d s else cmpEnter u .armed s)
  else if d = 0 ∨ decide (0 < x) = decide (0 < d) then cmpEnter u .armed s
  else if Arith.bit (cmpReg s u D.CMP_MODE).toNat 7 then fire u (now4 s) d (flag s (D.iCMP + u) D.CMP_FLAGS 1)
  else State.raise (cmpEnter u .behind (flag s (D.iCMP + u) D.CMP_FLAGS 0)) (0x170 + u) 1 (Arith.toUnsigned 32 p)

/-- ARM (R396, R398): from DISARMED or DONE. -/
def cmpArm (u : Nat) (s : State) : State :=
  match (cmp s u).mode with
  | .disarmed => classify u (modCmp s u fun c => { c with made := 0 })
  | .done => classify u (modCmp s u fun c => { c with made := 0 })
  | _ => s

/-- DISARM (R398). -/
def cmpDisarm (u : Nat) (s : State) : State :=
  match (cmp s u).mode with
  | .armed => cmpEnter u .disarmed s
  | .behind => cmpEnter u .disarmed s
  | .fenced => if State.holdsStatus s (0x170 + u) then s else cmpEnter u .disarmed s
  | _ => s

/-- A write of POSITION (R396). -/
def cmpPosition (u : Nat) (v : Int) (s : State) : State :=
  let s := State.wAx s (D.iCMP + u) D.CMP_POSITION v
  match (cmp s u).mode with
  | .armed => classify u s
  | .behind => classify u s
  | _ => s

/-- CMP_PULSE_END (R395). -/
def pulseEnd (u : Nat) (s : State) : State :=
  if (cmp s u).pulseUntil < 125 * (s.tick + 1) then modCmp s u fun c => { c with pulseUntil := 0 } else s

/-- A compare unit is fenced (R398). -/
def cmpFence (u : Nat) (s : State) : State := cmpEnter u .fenced s

/-! ### Homing (R385, R386) -/

/-- The signed direction of HOME_DIR. -/
def homeDir (s : State) (a : Nat) : Int := if Arith.bit (reg s a D.AX_CTRL).toNat 4 then 1 else -1

/-- HOME_METHOD is LIMIT. -/
def byLimit (s : State) (a : Nat) : Bool := Arith.bits (reg s a D.AX_CTRL).toNat 6 5 == 1

/-- The reference input is active. -/
def reference (s : State) (a : Nat) : Bool :=
  let x := axis s a
  if byLimit s a then (if homeDir s a = 1 then x.limP.level else x.limN.level) else x.home.level

/-- Begin a homing phase of motion. -/
def homePhase (a : Nat) (p : HomePhase) (s : State) : State :=
  let v := if p = .search then homeDir s a * reg s a D.AX_HOME_SPEED else -(homeDir s a) * reg s a D.AX_HOME_BACKOFF
  modAxis s a fun x => { x with mode := .homing, phase := p, goal := .speed v, searchFrom := x.pos }

/-- Homing begins its first phase (R385). -/
def homeBegin (a : Nat) (s : State) : State := homePhase a (if reference s a then .leave else .search) s

/-- Homing fails (R386). -/
def homeFail (a : Nat) (s : State) : State :=
  say (stopMotion true a (modAxis s a fun x => { x with homed := false })) a 3

/-- A homing axis has come to rest. -/
def homeRest (a : Nat) (s : State) : State :=
  match (axis s a).phase with
  | .leaveStop => homePhase a .search s
  | .searchStop => homePhase a .backOff s
  | .backStop => hold a (modAxis s a fun x => { x with pos := wrap (x.pos + (reg s a D.AX_HOME_OFFSET - x.releasePos)), homed := true })
  | _ => s

/-! ### Events of the step timer -/

/-- The lag of a geared axis and its command (R387, R388). -/
def gearCommand (g : AxGear) : Int := wrap (g.c0 + Int.fdiv (g.dm * g.num) g.den)

/-- The lag of an axis in steps. -/
def lag (x : Axis) : Nat := match x.gear with | some g => (diff (gearCommand g) x.pos).natAbs | none => 0

/-- Too much lag disengages the gear (R388). -/
def lagCheck (a : Nat) (s : State) : State :=
  if (axis s a).mode = .geared ∧ (gearReg s a 6).toNat < lag (axis s a) then say (stopMotion true a s) a 5 else s

/-- A braking axis has come to rest (R380, R382). -/
def restArrival (a : Nat) (s : State) : State :=
  let x := axis s a
  match x.mode with
  | .stopping =>
    if x.toDisabled then sourceLost a (modAxis s a fun x => { x with mode := .disabled, toDisabled := false, event := none })
    else hold a s
  | .homing =>
    let s := homeRest a s
    if (axis s a).mode = .homing then reload a s else s
  | .fenced => modAxis s a fun x => { x with event := none }
  | _ => s

/-- The event of the step timer happens. -/
def happen (a : Nat) (s : State) : State :=
  let x := axis s a
  match x.event with
  | none => s
  | some ev =>
    let t := (Arith.ratRound ev.ideal).toNat
    if !ev.isStep then
      let s := modAxis s a fun x => { x with v2 := 0, lastAt := ev.ideal, event := none }
      match x.goal with
      | .stop _ => restArrival a s
      | _ => reload a s
    else
      let old := x.pos
      let new := wrap (x.pos + ev.dir)
      let s := modAxis s a fun x =>
        { x with
                 pos := new, dir := ev.dir, v2 := ev.v2, lastAt := ev.ideal, event := none, stepUntil := t + (reg s a D.AX_STEP_WIDTH).toNat / 4,
                 steps := (x.steps + 1) % 2 ^ 64 }
      let s := sourceMoves a t old new s
      let x := axis s a
      if x.mode = .moving ∧ x.goal = .target new ∧ x.v2 = 0 then hold a s
      else if x.mode = .homing ∧ x.phase = .search ∧ (reg s a D.AX_HOME_RANGE).toNat ≤ (diff new x.searchFrom).natAbs then homeFail a (reload a s)
      else lagCheck a (reload a s)

/-- The event of the step timer is due before an instant in units of 4 ns. -/
def dueBefore (s : State) (a bound : Nat) : Bool := match (axis s a).event with | some ev => decide (Arith.ratRound ev.ideal < bound) | none => false

/-- Run the events of an axis that are due before an instant, by fuel. -/
def runUntil : Nat → Nat → Nat → State → State
  | 0, _, _, s => s
  | k + 1, a, bound, s => if dueBefore s a bound then runUntil k a bound (happen a s) else s

/-- STEP_PULSE (R373): the timer of an axis expires within the present tick. -/
def stepPulse (a : Nat) (s : State) : State := if dueBefore s a (125 * (s.tick + 1)) then happen a s else s

/-! ### Commands of an axis (R375 to R382) -/

/-- An axis that rests takes a motion: at once, or after WAKING (R375). -/
def begin_ (a : Nat) (m : AxMode) (g : AxGoal) (start : Nat) (s : State) : State :=
  let x := axis s a
  if x.mode = .restOff ∨ x.mode = .restShort then
    modAxis s a fun x => { x with mode := .waking, wakeUntil := start + 2 * (reg s a D.AX_WAKE_DELAY).toNat, after := m, afterGoal := g, v2 := 0, event := none }
  else kick a ((125 * start : Nat) : Rat) (modAxis s a fun x => { x with mode := m, goal := g, v2 := 0, event := none })

/-- SPEED, ACCEL and DECEL of the entries come into force. -/
def takeLimits (a : Nat) (s : State) : State :=
  let v := reg s a D.AX_SPEED
  modAxis s a fun x => { x with cruise2 := ((v * v : Int) : Rat), acc := (reg s a D.AX_ACCEL).toNat, dec := (reg s a D.AX_DECEL).toNat }

/-- An axis rests and takes commands (R382). -/
def idle (s : State) (a : Nat) : Bool :=
  let m := (axis s a).mode
  m == .hold || m == .restOff || m == .restShort

/-- Commands of motion are not refused by the device state (R380). -/
def devOk (s : State) : Bool := s.dev.mode != .safe

/-- The resolved target of a move (R376). -/
def resolve (s : State) (a : Nat) (relative : Bool) (t : Int) : Int :=
  let x := axis s a
  if relative then match x.mode, x.goal with
    | .moving, .target p => wrap (p + t)
    | _, _ => wrap (x.pos + t)
  else wrap t

/-- The target lies beyond an active limit (R376, R384). -/
def limited (s : State) (a : Nat) (t : Int) : Bool :=
  let x := axis s a
  let d := diff t x.pos
  Arith.bit (reg s a D.AX_CTRL).toNat 3 && ((decide (0 < d) && x.limP.level) || (decide (d < 0) && x.limN.level))

/-- A move is accepted (R376). -/
def moveOk (s : State) (a : Nat) (t : Int) : Bool :=
  let x := axis s a
  decide (a < 8) && devOk s && ((idle s a && !limited s a t) || (x.mode == .moving && decide (x.goal = .target t)))

/-- The deceleration in force changes from the next step on (R378). Where the axis brakes toward its target, the deceleration in use is the one that stops
there. -/
def newDecel (a d : Nat) (s : State) : State :=
  let x := axis s a
  match x.mode, x.goal with
  | .moving, .target t =>
    let under := (x.event.map fun ev => ev.isStep).getD false
    let v2 := if under then (x.event.map fun ev => ev.v2).getD 0 else x.v2
    let left : Rat := ((diff t x.pos * x.dir : Int) : Rat) - (if under then 1 else 0)
    let braking := decide (v2 ≠ 0) && decide (0 < left) && decide (2 * (x.dec : Rat) * left ≤ v2)
    let used : Rat := if braking then v2 / (2 * left) else x.dec
    let s := modAxis s a fun x => { x with dec := d, cruise2 := if braking && decide (used < d) && decide (v2 ≤ x.cruise2) then v2 else x.cruise2 }
    if v2 ≠ 0 ∧ 0 < left ∧ (d : Rat) < used ∧ 2 * (d : Rat) * left < v2 then say s a 4 else s
  | _, _ => modAxis s a fun x => { x with dec := d }

/-- The highest speed of an axis (R373): 4,000,000 steps/s, and what STEP_WIDTH allows. -/
def topSpeed (s : State) (a : Nat) : Nat := min 4000000 (1000000000 / max 1 (2 * (reg s a D.AX_STEP_WIDTH).toNat))

/-- A move (R373, R375, R376): `speed` and `accel` 0 take the entries; a speed beyond the highest is held to it. -/
def move (a : Nat) (t : Int) (speed accel : Nat) (s : State) : State :=
  let speed := min speed (topSpeed s a)
  if !moveOk s a t then s
  else if (axis s a).mode = .moving then
    let s := if speed = 0 then s else modAxis s a fun x => { x with cruise2 := ((speed * speed : Nat) : Rat) }
    if accel = 0 then s else newDecel a accel (modAxis s a fun x => { x with acc := accel })
  else
    let s := takeLimits a s
    let s := if speed = 0 then s else modAxis s a fun x => { x with cruise2 := ((speed * speed : Nat) : Rat) }
    let s := if accel = 0 then s else modAxis s a fun x => { x with acc := accel, dec := accel }
    let s := State.wAx s (D.iAX + a) D.AX_MOVES ((reg s a D.AX_MOVES + 1) % 2 ^ 32)
    if t = (axis s a).pos ∧ (axis s a).mode = .hold then hold a s else begin_ a .moving (.target t) (s.tick + 1) s

/-- AX_CMD = MOVE. -/
def cmdMove (a : Nat) (s : State) : State := move a (reg s a D.AX_TARGET) 0 0 s

/-- JOG or HOME is accepted (R382). -/
def startOk (s : State) (a : Nat) : Bool := decide (a < 8) && devOk s && idle s a

/-- AX_CMD = JOG (R379). -/
def cmdJog (a : Nat) (s : State) : State := if startOk s a then begin_ a .jogging (.speed (reg s a D.AX_JOG_SPEED)) (s.tick + 1) (takeLimits a s) else s

/-- AX_CMD = HOME (R385). -/
def cmdHome (a : Nat) (s : State) : State :=
  if startOk s a then
    let s := begin_ a .homing (.speed 0) (s.tick + 1) (takeLimits a s)
    if (axis s a).mode = .homing then reload a (modAxis (homeBegin a s) a fun x => { x with lastAt := ((125 * (s.tick + 1) : Nat) : Rat) }) else s
  else s

/-- AX_CMD = STOP and QUICK_STOP (R380). -/
def cmdStop (quick : Bool) (a : Nat) (s : State) : State := if a < 8 then stopMotion quick a s else s

/-- A write of JOG_SPEED (R379): a new set-point while jogging. -/
def jogSpeed (a : Nat) (v : Int) (s : State) : State :=
  let s := State.wAx s (D.iAX + a) D.AX_JOG_SPEED v
  if (axis s a).mode = .jogging then kick a (now4 s) (modAxis s a fun x => { x with goal := .speed v }) else s

/-- A write of SPEED, ACCEL or DECEL (R377, R378). -/
def profileWrite (a sub : Nat) (v : Int) (s : State) : State :=
  let s := State.wAx s (D.iAX + a) sub v
  if sub = D.AX_SPEED then modAxis s a fun x => { x with cruise2 := ((v * v : Int) : Rat) }
  else if sub = D.AX_ACCEL then modAxis s a fun x => { x with acc := v.toNat }
  else newDecel a v.toNat s

/-- A speed is within what STEP_WIDTH allows (R373). -/
def speedOk (s : State) (a : Nat) (v : Int) : Bool := decide (v.natAbs * (2 * (reg s a D.AX_STEP_WIDTH).toNat) ≤ 1000000000)

/-- ENABLE applied as 1 (R382). -/
def enable (a : Nat) (s : State) : State :=
  let s := State.wAx s (D.iAX + a) D.AX_CTRL ((Arith.setBit (reg s a D.AX_CTRL).toNat 0 true : Nat) : Int)
  match (axis s a).mode with
  | .disabled => hold a s
  | .stopping => modAxis s a fun x => { x with toDisabled := false }
  | _ => s

/-- ENABLE applied as 0 (R380, R382). -/
def disable (a : Nat) (s : State) : State :=
  let s := State.wAx s (D.iAX + a) D.AX_CTRL ((Arith.setBit (reg s a D.AX_CTRL).toNat 0 false : Nat) : Int)
  let off := fun (s : State) => sourceLost a (modAxis s a fun x => { x with mode := .disabled, event := none, gear := none, toDisabled := false })
  match (axis s a).mode with
  | .disabled => s
  | .fenced => if State.holdsStatus s (0x160 + a) ∨ (axis s a).v2 ≠ 0 then s else off s
  | .hold => off s
  | .restOff => off s
  | .restShort => off s
  | .waking => off s
  | _ => stopMotion false a (modAxis s a fun x => { x with toDisabled := true })

/-- An axis is fenced (R382, R403). -/
def fence (a : Nat) (s : State) : State :=
  let d := (reg s a D.AX_DECEL_MAX).toNat
  sourceLost a (brakeTo a d .fenced (modAxis s a fun x => { x with gear := none, toDisabled := false }))

/-- Every axis stops by quick stop (R380): entry to SAFE or THERMAL_OFF. -/
def quickStopAll (s : State) : State := State.forAll (stopMotion true) (List.range 8) s

/-- Every axis rests (R502). -/
def allRest (s : State) : Bool := (List.range 8).all fun a => decide ((axis s a).v2 = 0)

/-! ### Gearing (R387 to R389) -/

/-- A gear command is accepted (R387). -/
def gearOk (s : State) (a : Nat) : Bool := decide (a < 8) && devOk s && (idle s a || (axis s a).mode == .geared)

/-- GEAR_SET is taken from the Catalogue (R138, R387): DISENGAGE too is refused on an axis that is disabled, homing or fenced. -/
def gearStepOk (s : State) (a : Nat) (disengage : Bool) : Bool :=
  if disengage then decide (a < 8) && (axis s a).mode != .disabled && (axis s a).mode != .homing && (axis s a).mode != .fenced else gearOk s a

/-- The gear takes the ratio of the entries and stands at the present command (R387). -/
def engageNow (a : Nat) (s : State) : State :=
  let x := axis s a
  let c := match x.gear with | some g => gearCommand g | none => x.pos
  modAxis s a fun x => { x with
    gear := some ⟨(gearReg s a 0).toNat % 8, gearReg s a 1, (gearReg s a 2).toNat, c, 0, x.gear.bind fun g => g.armed⟩
    goal := .target c }

/-- GEAR_ENGAGE (R387): engages, or rebases an engaged gear. -/
def gearEngage (a : Nat) (s : State) : State :=
  if !gearOk s a then s
  else if (axis s a).mode = .geared then kick a (now4 s) (engageNow a s)
  else
    let s := begin_ a .geared (.target (axis s a).pos) s.tick (takeLimits a s)
    if (axis s a).mode = .geared then engageNow a s else s

/-- GEAR_SET (R387): writes the fields, then engages or disengages. -/
def gearSet (a e : Nat) (disengage : Bool) (num : Int) (den : Nat) (s : State) : State :=
  if disengage then (if (axis s a).mode = .geared then stopMotion false a s else s)
  else if gearOk s a then
    let w := fun (s : State) k (v : Int) => State.wAx s D.iGEAR (1 + 8 * a + k) v
    gearEngage a (w (w (w s 0 (e : Int)) 1 num) 2 (den : Int))
  else s

/-- GEAR_DISENGAGE (R380). -/
def gearDisengage (a : Nat) (s : State) : State := if (axis s a).mode = .geared then stopMotion false a s else s

/-- The gear rebases to another ratio (R389). -/
def switchNow (a : Nat) (num : Int) (den : Nat) (s : State) : State :=
  modAxis s a fun x => { x with gear := x.gear.map fun g => { g with c0 := gearCommand g, dm := 0, num := num, den := den, armed := none } }

/-- GEAR_ARM_SWITCH (R389). -/
def armSwitch (a : Nat) (s : State) : State :=
  match (axis s a).gear with
  | some g =>
    let n := gearReg s a 3
    let d := (gearReg s a 4).toNat
    let p := gearReg s a 5
    if (enc s g.enc).count = p then switchNow a n d s
    else modAxis s a fun x => { x with gear := x.gear.map fun g => { g with armed := some (n, d, p) } }
  | none => s

/-- NEXT_NUM, NEXT_DEN or SWITCH_POS written while a switch is armed replaces the armed values (R389). -/
def gearWrite (a k : Nat) (v : Int) (s : State) : State :=
  let s := State.wAx s D.iGEAR (1 + 8 * a + k) v
  if ((axis s a).gear.bind fun g => g.armed).isSome ∧ 3 ≤ k ∧ k ≤ 5 then armSwitch a s else s

/-- A master edge (R387, R389): `old` and `new` are the master's counts, at an instant in units of 4 ns. -/
def masterMoves (e t : Nat) (old new : Int) (s : State) : State :=
  State.forAll (fun a s =>
    match (axis s a).gear with
    | some g =>
      if g.enc ≠ e then s
      else
        let s := modAxis s a fun x => { x with gear := x.gear.map fun g => { g with dm := g.dm + diff new old } }
        let s := match g.armed with
          | some (n, d, p) => if crosses old new p then switchNow a n d s else s
          | none => s
        let s := match (axis s a).gear with
          | some g => modAxis s a fun x => { x with goal := .target (gearCommand g) }
          | none => s
        lagCheck a (kick a (t : Rat) s)
    | none => s) (List.range 8) s

/-- The master of geared axes is disabled or fenced (R388). -/
def masterLost (e : Nat) (s : State) : State :=
  State.forAll (fun a s =>
    match (axis s a).gear with
    | some g => if g.enc = e then say (stopMotion false a s) a 6 else s
    | none => s) (List.range 8) s

/-- WAKE_DELAY_ELAPSED (R375): the pending motion starts; one that was stopped, or is at its target, is over at once. -/
def wakeOver (a : Nat) (s : State) : State :=
  let x := axis s a
  if x.mode = .waking ∧ x.wakeUntil ≤ s.tick then
    let s := modAxis s a fun y => { y with mode := x.after, goal := x.afterGoal, lastAt := ((125 * x.wakeUntil : Nat) : Rat) }
    if x.after = .stopping ∨ x.after = .moving ∧ x.afterGoal = .target x.pos then hold a s
    else
      let s := match x.after with
        | .homing => homeBegin a s
        | .geared => engageNow a s
        | _ => s
      reload a s
  else s

/-- STANDSTILL_DELAY_ELAPSED (R381). -/
def standstillOver (a : Nat) (s : State) : State := standstillDue a s

/-! ### Switches (R383, R384) -/

/-- The three inputs of an axis: 0 LIMP, 1 LIMN, 2 HOME. -/
def switchOf (x : Axis) (i : Nat) : AxSwitch := if i = 0 then x.limP else if i = 1 then x.limN else x.home

/-- Set one input. -/
def setSwitch (x : Axis) (i : Nat) (w : AxSwitch) : Axis := if i = 0 then { x with limP := w } else if i = 1 then { x with limN := w } else { x with home := w }

/-- What a valid edge does: homing first, then limits. -/
def edgeActs (a i : Nat) (active : Bool) (s : State) : State :=
  let x := axis s a
  let side : Int := if i = 0 then 1 else -1
  let ref := if byLimit s a then (if homeDir s a = 1 then 0 else 1) else 2
  let stopPhase := fun (p : HomePhase) (s : State) =>
    kick a (now4 s) (modAxis s a fun x => { x with phase := p, goal := .stop (reg s a D.AX_DECEL).toNat, releasePos := x.pos })
  if x.mode = .homing then
    let travel : Int := match x.goal with | .speed v => if v < 0 then -1 else 1 | _ => x.dir
    if i = ref ∧ active ∧ x.phase = .search then stopPhase .searchStop s
    else if i = ref ∧ !active ∧ x.phase = .backOff then stopPhase .backStop s
    else if i = ref ∧ !active ∧ x.phase = .leave then stopPhase .leaveStop s
    else if i < 2 ∧ active ∧ (side ≠ travel ∨ (!byLimit s a ∧ x.phase = .search)) then homeFail a s
    else s
  else if i < 2 ∧ active ∧ Arith.bit (reg s a D.AX_CTRL).toNat 3 ∧ travel x ≠ 0 then
    if side = travel x then say (stopMotion true a s) a 1 else say (stopMotion true a s) a 2
  else s

/-- A valid edge (R383): the level is taken and a hold-off starts. -/
def validEdge (a i : Nat) (active : Bool) (s : State) : State :=
  let hold := 2000 * (reg s a D.AX_HOLDOFF).toNat
  let s := modAxis s a fun x =>
    setSwitch x i { switchOf x i with level := active, said := false, holdUntil := if hold = 0 then none else some (s.tick + hold) }
  edgeActs a i active s

/-- A level has not been stable for DEBOUNCE (R383): what follows a change sooner is no debounced edge. -/
def bouncing (s : State) (a : Nat) (w : AxSwitch) : Bool := (w.changed.map fun t => decide (s.tick < t + 2 * (reg s a D.AX_DEBOUNCE).toNat)).getD false

/-- SWITCH_INPUT_EDGE (R383): a pin has a new debounced level. -/
def switchEdge (a i : Nat) (level : Bool) (s : State) : State :=
  if 8 ≤ a ∨ 3 ≤ i then s
  else
    let active := if Arith.bit (reg s a D.AX_CTRL).toNat 7 then !level else level
    let w := switchOf (axis s a) i
    if w.pin = active ∨ bouncing s a w then s
    else
      let s := modAxis s a fun x => setSwitch x i { switchOf x i with pin := active, changed := some s.tick }
      if w.holdUntil.isSome then
        let s := State.incAx s (D.iAX + a) D.AX_CHATTER 1
        if w.said then s else say (modAxis s a fun x => setSwitch x i { switchOf x i with said := true }) a 7
      else validEdge a i active s

/-- INPUT_INVERT of an axis changes (R383): the levels read the other way; that is no edge. -/
def invertInputs (a : Nat) (s : State) : State :=
  let f := fun (w : AxSwitch) => { w with pin := !w.pin, level := !w.level }
  modAxis s a fun x => { x with limP := f x.limP, limN := f x.limN, home := f x.home }

/-- HOLDOFF_END (R383): the input takes its present debounced level. -/
def holdoffEnd (a i : Nat) (s : State) : State :=
  if 8 ≤ a ∨ 3 ≤ i then s
  else
    let w := switchOf (axis s a) i
    match w.holdUntil with
    | some t =>
      if s.tick < t then s
      else
        let s := modAxis s a fun x => setSwitch x i { switchOf x i with holdUntil := none, said := false }
        if w.pin = w.level then s else validEdge a i w.pin s
    | none => s

/-! ### Encoders (R390 to R394) -/

/-- An entry of encoder `e`. -/
def encReg (s : State) (e sub : Nat) : Int := State.rAx s (D.iENC + e) sub

/-- An encoder event (R404): the address is the count. -/
def encSay (s : State) (e kind : Nat) : State := State.raise s (0x168 + e) kind (Arith.toUnsigned 32 (enc s e).count)

/-- A counted edge: `d` counts, in direction `dir`, at an instant in units of 4 ns (R391, R394). -/
def counted (e t : Nat) (d dir : Int) (s : State) : State :=
  let x := enc s e
  let old := x.count
  let new := wrap (old + d)
  let back := (x.lastDir.map fun l => decide (l ≠ dir)).getD false
  let speed : Int := match x.lastEdge with
    | some l => if back ∨ t ≤ l then 0 else dir * Arith.divRound 250000000 (t - l)
    | none => 0
  let s := modEnc s e fun x => { x with count := new, lastDir := some dir, lastEdge := some t, speed := speed }
  let s := if back then
      let s := State.incAx s (D.iENC + e) D.ENC_DIR_CHANGES 1
      if Arith.bit (encReg s e D.ENC_FLAGS).toNat 1 then s else encSay (flag s (D.iENC + e) D.ENC_FLAGS 1) e 2
    else s
  sourceMoves (8 + e) t old new (masterMoves e t old new s)

/-- The step of a quadrature transition (R390): +1 when A leads B, none when illegal or no change. -/
def quadStep (a0 b0 a1 b1 : Bool) : Option Int :=
  let p := fun (a b : Bool) => match a, b with | false, false => 0 | true, false => 1 | true, true => 2 | false, true => 3
  match (p a1 b1 + 4 - p a0 b0) % 4 with
  | 1 => some 1
  | 3 => some (-1)
  | _ => none

/-- An index or a reference (R392): latched, checked against the one before it, and an event. -/
def indexEvent (e c : Nat) (s : State) : State :=
  let x := enc s e
  let s := State.wAx (State.wAx s (D.iENC + e) D.ENC_INDEX_LATCH x.count) (D.iENC + e) D.ENC_INDEX_TICK (s.tick : Int)
  let s := State.wAx s (D.iENC + e) D.ENC_INDEXES ((encReg s e D.ENC_INDEXES + 1) % 2 ^ 32)
  let s := modEnc s e fun y => { y with latch := some x.count }
  let src := 16 + e
  let s := { s with ax := { s.ax with fresh := if s.ax.fresh.contains src then s.ax.fresh else s.ax.fresh ++ [src] } }
  match x.latch with
  | some l =>
    let d := diff x.count l
    let near := fun (v : Int) => decide ((d - v).natAbs ≤ (encReg s e D.ENC_INDEX_TOL).toNat)
    if c = 0 ∨ near 0 ∨ near c ∨ near (-(c : Int)) then s else encSay (flag s (D.iENC + e) D.ENC_FLAGS 2) e 3
  | none => s

/-- Z takes a level at an instant (R392): a rising edge of a running encoder with INDEX_EN is an index. -/
def zEdge (e at4 : Nat) (z : Bool) (s : State) : State :=
  let x := enc s e
  let s := if x.z = z then s else modEnc s e fun x => { x with z := z, zAt := some at4 }
  if !x.z && z && x.mode == .running && Arith.bit (encReg s e D.ENC_CTRL).toNat 4 then indexEvent e (encReg s e D.ENC_COUNTS_PER_INDEX).toNat s else s

/-- ENCODER_INDEX (R392): a rising edge of Z. -/
def index (e : Nat) (s : State) : State := if 8 ≤ e then s else zEdge e (now4 s) true s

/-- A line keeps its level for FILTER + 1 samples (R390): a change sooner after the last one is none. -/
def settled (s : State) (e at4 : Nat) (changed : Option Nat) : Bool := (changed.map fun t => decide (t + (encReg s e D.ENC_FILTER).toNat + 1 ≤ at4)).getD true

/-- ENCODER_EDGE (R390, R392): the filtered lines take new levels at an instant of the present tick. A transition of A or B is counted before a rising edge of Z
in the same instant latches. -/
def edge (e t : Nat) (a b z : Bool) (s : State) : State :=
  let x := enc s e
  if 8 ≤ e then s
  else
    let now := now4 s + t % 125
    let a := if settled s e now x.aAt then a else x.a
    let b := if settled s e now x.bAt then b else x.b
    let z := if settled s e now x.zAt then z else x.z
    let s := modEnc s e fun x => { x with
      a := a, b := b, aAt := if x.a = a then x.aAt else some now, bAt := if x.b = b then x.bAt else some now }
    let ctrl := (encReg s e D.ENC_CTRL).toNat
    let s :=
      if x.mode ≠ .running ∨ Arith.bits ctrl 3 2 ≠ 0 ∨ (a = x.a ∧ b = x.b) then s
      else
        match quadStep x.a x.b a b with
        | some d =>
          let d := if Arith.bit ctrl 1 then -d else d
          counted e now d d (modEnc s e fun x => { x with illegalEpisode := false })
        | none =>
          let s := State.incAx (flag s (D.iENC + e) D.ENC_FLAGS 0) (D.iENC + e) D.ENC_ILLEGALS 1
          if x.illegalEpisode then s else encSay (modEnc s e fun x => { x with illegalEpisode := true }) e 1
    zEdge e now z s

/-- ENCODER_TOOTH (R393): a rising edge on A of a single track. -/
def tooth (e t : Nat) (s : State) : State :=
  let x := enc s e
  let ctrl := (encReg s e D.ENC_CTRL).toNat
  let kind := Arith.bits ctrl 3 2
  if 8 ≤ e ∨ x.mode ≠ .running ∨ kind = 0 then s
  else
    let t := now4 s + t % 125
    let r := (encReg s e D.ENC_GAP_RATIO).toNat
    let iv := x.tooth.map fun l => t - l
    let missing := kind == 1 && (match iv, x.gap with | some i, some p => decide (r * p < 256 * i) | _, _ => false)
    let extra := kind == 2 && (match iv, x.gap with | some i, some p => decide (r * i < 256 * p) | _, _ => false)
    let dir : Int := if Arith.bit ctrl 1 then -1 else 1
    let teeth := (encReg s e D.ENC_TEETH).toNat
    let n := if missing || extra then 0 else x.sinceRef + 1
    let s := modEnc s e fun x => { x with a := true, tooth := some t, gap := iv, sinceRef := if 2 * teeth ≤ n then 0 else n }
    let s := if extra then s else counted e t (if missing then dir * (1 + encReg s e D.ENC_MISSING) else dir) dir s
    let s := if missing || extra then indexEvent e teeth s else s
    if 2 * teeth ≤ n then encSay (flag s (D.iENC + e) D.ENC_FLAGS 3) e 4 else s

/-- ENCODER_SPEED_TIMEOUT (R394). -/
def speedTimeout (e : Nat) (s : State) : State :=
  match (enc s e).lastEdge with
  | some t =>
    if t + 250 * (encReg s e D.ENC_SPEED_TIMEOUT).toNat ≤ now4 s + 124 then modEnc s e fun x => { x with speed := 0, lastEdge := none } else s
  | none => s

/-- ENABLE of an encoder applied as 1. -/
def encEnable (e : Nat) (s : State) : State :=
  if (enc s e).mode = .disabled then
    modEnc s e fun x => { x with
      mode := .running, latch := none, lastEdge := none, speed := 0, illegalEpisode := false, tooth := none, gap := none, sinceRef := 0 }
  else s

/-- The axes geared to an encoder and the units that watch it lose it. -/
def encLost (e : Nat) (s : State) : State := sourceLost (8 + e) (masterLost e s)

/-- ENABLE of an encoder applied as 0. -/
def encDisable (e : Nat) (s : State) : State :=
  match (enc s e).mode with
  | .running => encLost e (modEnc s e fun x => { x with mode := .disabled, speed := 0, lastEdge := none })
  | .fenced => if State.holdsStatus s (0x168 + e) then s else modEnc s e fun x => { x with mode := .disabled }
  | .disabled => s

/-- An encoder is fenced (R404). -/
def encFence (e : Nat) (s : State) : State := encLost e (modEnc s e fun x => { x with mode := .fenced, speed := 0, lastEdge := none })

/-- An axis is geared to the encoder (R401). -/
def gearedTo (s : State) (e : Nat) : Bool := (List.range 8).any fun a => ((axis s a).gear.map fun g => g.enc == e).getD false

/-! ### Words that software reads -/

/-- AX_STATE (R399). -/
def modeCode : AxMode → Nat
  | .disabled => 0 | .hold => 1 | .restOff => 2 | .restShort => 3 | .waking => 4 | .moving => 5 | .jogging => 6 | .geared => 7 | .homing => 8
  | .stopping => 9 | .fenced => 10

/-- EN is active: every enabled state but the two rests, and a fenced axis until it rests. -/
def enOf (x : Axis) : Bool :=
  match x.mode with
  | .disabled => false
  | .restOff => false
  | .restShort => false
  | .fenced => decide (x.v2 ≠ 0)
  | _ => true

/-- SHORT is active. -/
def shortOf (s : State) (a : Nat) : Bool :=
  let x := axis s a
  let m := Arith.bit (reg s a D.AX_CTRL).toNat 1
  match x.mode with
  | .restShort => true
  | .disabled => m
  | .fenced => m && decide (x.v2 = 0)
  | _ => false

/-- AX_LIVE (R399). -/
def liveWord (s : State) (a : Nat) : Nat :=
  let x := axis s a
  let b := fun (c : Bool) (i : Nat) => if c then 2 ^ i else 0
  b x.limP.level 0 + b x.limN.level 1 + b x.home.level 2 + b (enOf x) 3 + b (shortOf s a) 4 + b x.homed 5

/-- The speed in steps/s `u` into the parts of the way to the next event. -/
def speedIn : List (Rat × Rat × Rat) → Rat → Rat
  | [], _ => 0
  | p :: l, u =>
    if u < p.1 ∨ l.isEmpty then
      let v0 := Arith.ratSqrt (2 ^ 24) p.2.1
      if p.1 ≤ 0 then v0 else v0 + (Arith.ratSqrt (2 ^ 24) p.2.2 - v0) * min 1 (u / p.1)
    else speedIn l (u - p.1)

/-- AX_SPEED_NOW (R379, R399): the speed of the profile at the start of the present tick. -/
def speedNow (s : State) (a : Nat) : Int :=
  let x := axis s a
  match x.event with
  | some ev => ev.dir * Arith.ratRound (speedIn ev.parts (max 0 ((now4 s : Rat) - x.lastAt)))
  | none => x.dir * Arith.ratRound (Arith.ratSqrt (2 ^ 24) x.v2)

/-- GEAR_STATUS (R400). -/
def gearStatus (s : State) (a : Nat) : Nat :=
  let x := axis s a
  let b := fun (c : Bool) (i : Nat) => if c then 2 ^ i else 0
  b x.gear.isSome 0 + b ((x.gear.bind fun g => g.armed).isSome) 1 + b (x.gear.isSome && decide (lag x ≠ 0)) 2 + min 65535 (lag x) * 65536

/-- ENC_LIVE (R401). -/
def encLive (x : Enc) : Nat :=
  let b := fun (c : Bool) (i : Nat) => if c then 2 ^ i else 0
  b x.a 0 + b x.b 1 + b x.z 2 + b (decide (x.lastDir = some (-1))) 3

/-- ENC_STATE and CMP_STATE. -/
def encCode : EncMode → Nat
  | .disabled => 0 | .running => 1 | .fenced => 2

/-- CMP_STATE (R402). -/
def cmpCode : CmpMode → Nat
  | .disarmed => 0 | .armed => 1 | .behind => 2 | .done => 3 | .fenced => 4

/-! ### The tick -/

/-- What is due on axes, encoders and compare units before the present tick begins, and the events that the tick consumes (R392, R395). -/
def tick (s : State) : State :=
  let s := State.forAll (fun a s => runUntil 64 a (now4 s) s) (List.range 8) s
  let s := State.forAll wakeOver (List.range 8) s
  let s := State.forAll standstillDue (List.range 8) s
  let s := State.forAll (fun a s => State.forAll (fun i s => holdoffEnd a i s) [0, 1, 2] s) (List.range 8) s
  let s := State.forAll (fun e s =>
    match (enc s e).lastEdge with
    | some t => if t + 250 * (encReg s e D.ENC_SPEED_TIMEOUT).toNat ≤ now4 s then modEnc s e fun x => { x with speed := 0, lastEdge := none } else s
    | none => s) (List.range 8) s
  let s := State.forAll (fun u s => if (cmp s u).pulseUntil ≤ now4 s ∧ (cmp s u).pulseUntil ≠ 0 then modCmp s u fun c => { c with pulseUntil := 0 } else s)
    (List.range 16) s
  let s := { s with ax := { s.ax with now := s.ax.fresh, fresh := [] } }
  s.ax.now.foldl (fun s e => Img.event e s) s

end Ax

end Sys2Proof.Machine
end

