-- ==== Sys2Proof/Machine/Network.lean ====
section
/-!
DEFINITION. Network and time (17_network_time.md): ports, NETCLK and its servo, host frames with launch times, the PTP receive ring and the tick phase
lock.
What the rules leave to the model: log entries 40 and 41.
-/
namespace Sys2Proof.Machine.Net

/-- An entry of port `p`. -/
def port (s : State) (p sub : Nat) : Int := State.rNet s (D.iNET_PORT + p) sub

/-- An entry of NET_CLK. -/
def clkReg (s : State) (sub : Nat) : Int := State.rNet s D.iNET_CLK sub

/-- An entry of NET_TSYNC. -/
def sync (s : State) (sub : Nat) : Int := State.rNet s D.iNET_TSYNC sub

/-- An entry of NET_TX of a path (R419). -/
def tx (s : State) (path sub : Nat) : Nat := (Regs.get Dict.netRows s.net.regs (Dict.key path D.iNET_TX sub)).toNat

/-- A network event (R421). -/
def say (s : State) (kind addr : Nat) : State := State.raise s 0x180 kind addr

/-- Count on a port. -/
def count (s : State) (p sub : Nat) : State := State.incNet s (D.iNET_PORT + p) sub 1

/-- The port is enabled and its link is up (R405, R416). -/
def up (s : State) (p : Nat) : Bool := decide (p < 2) && Arith.bit (port s p D.NET_PORT_CTRL).toNat 0 && Arith.bit (port s p D.NET_PORT_LINK).toNat 0

/-- The MAC address of a port (R405): that of ETH1 is that of ETH0 plus 1. -/
def mac (p : Nat) : Nat := (Config.mac 0 + p) % 2 ^ 48

/-! ### NETCLK (R407, R408) -/

/-- NETCLK some ns into the present tick (R406): it moves by INCR in every TIME cycle of 4 ns, and a time-stamp resolves 1 ns. -/
def clkAt (s : State) (off : Nat) : Nat := (s.net.clk + off % 500 * (clkReg s D.NET_CLK_INCR).toNat / 4) % 2 ^ 64

/-- NETCLK in ns. -/
def ns (s : State) : Nat := s.net.clk / 2 ^ 32

/-- A frame that waits for its LAUNCH, under a NETCLK in ns that was written or stepped (R410): its instant lies ahead or is past. -/
def overtake (v : Nat) (f : TxFrame) : TxFrame :=
  { f with overtaken := f.verdict == some false && (f.launch.map fun l => decide (Arith.toSigned 32 (l + 2 ^ 32 - v) < 0)).getD false }

/-- NETCLK is written or stepped (R407, R410, R415): the Ledger's mark is set, a lock that runs acquires again, sending instants move with it. -/
def stepped (v : Nat) (s : State) : State :=
  let ahead := fun (q : List TxFrame) => q.map (overtake (v % 2 ^ 64 / 2 ^ 32))
  let s := { s with net := { s.net with clk := v % 2 ^ 64, inWindow := 0, queue0 := ahead s.net.queue0, queue1 := ahead s.net.queue1 }, ldg := { s.ldg with stepped := true } }
  let s := State.incNet s D.iNET_CLK D.NET_CLK_STEPS 1
  if sync s D.NET_TSYNC_STATE = 0 then s else State.wNet s D.iNET_TSYNC D.NET_TSYNC_STATE 1

/-- NETCLK_WRITE (R407). -/
def write (v : Nat) (s : State) : State := stepped v s

/-- SERVO_OFFSET (R408): `o` in 2^-16 ns. -/
def servo (o : Int) (s : State) : State :=
  if (clkReg s D.NET_CLK_STEP_THRESH).toNat * 65536 < o.natAbs then
    let s := stepped (Arith.toUnsigned 64 ((s.net.clk : Int) - o * 65536)) s
    say (State.wNet s D.iNET_CLK D.NET_CLK_LAST_STEP o) 3 0
  else
    let m := clkReg s D.NET_CLK_ADJ_MAX
    let i0 := Arith.divRound (clkReg s D.NET_CLK_INTEGRAL * 2 ^ 32 + clkReg s D.NET_CLK_KI * o) (2 ^ 32)
    let i := Arith.clamp (-m) m i0
    let a0 := Arith.divRound (clkReg s D.NET_CLK_KP * o + i * 2 ^ 32) (2 ^ 32)
    let a := Arith.clamp (-m) m a0
    let inc := Arith.divRound (clkReg s D.NET_CLK_INCR_NOM * (1000000000 - a)) 1000000000
    let s := State.wNet (State.wNet (State.wNet s D.iNET_CLK D.NET_CLK_INTEGRAL i) D.iNET_CLK D.NET_CLK_ADJ a) D.iNET_CLK D.NET_CLK_INCR inc
    if i ≠ i0 ∨ a ≠ a0 then say s 4 0 else s

/-! ### Host frames (R409 to R411) -/

/-- The queue of a port. -/
def queue (s : State) (p : Nat) : List TxFrame := if p = 0 then s.net.queue0 else s.net.queue1

/-- Set the queue of a port. -/
def setQueue (s : State) (p : Nat) (q : List TxFrame) : State :=
  if p = 0 then { s with net := { s.net with queue0 := q } } else { s with net := { s.net with queue1 := q } }

/-- The port that NET_TX of a path names. -/
def txPort (s : State) (path : Nat) : Nat := tx s path D.NET_TX_FLAGS % 2

/-- A frame BLOB has a length that can be sent (R409). -/
def lengthOk (n : Nat) : Bool := decide (14 ≤ n) && decide (n ≤ 1514)

/-- The port takes another host frame (R409). -/
def canQueue (s : State) (path : Nat) : Bool := up s (txPort s path) && decide ((queue s (txPort s path)).length < 16)

/-- A frame is queued (R409): padded to 60 bytes. -/
def enqueue (path : Nat) (bytes : List Byte) (s : State) : State :=
  let fl := tx s path D.NET_TX_FLAGS
  let p := fl % 2
  setQueue s p (queue s p ++ [⟨path, tx s path D.NET_TX_TAG, if Arith.bit fl 1 then some (tx s path D.NET_TX_LAUNCH) else none, Arith.bit fl 2,
    bytes ++ List.replicate (60 - bytes.length) 0, none, false⟩])

/-- A completion record (R411). -/
def record (f : TxFrame) (p status : Nat) (stamp : Option Nat) (s : State) : State :=
  let t := match stamp with | some v => if f.stamp then v else 0 | none => 0
  let bytes := Arith.natLe 2 f.tag ++ Arith.natLe 1 p ++ Arith.natLe 1 status ++ Arith.natLe 4 (t / 2 ^ 32) ++ Arith.natLe 4 t ++ Arith.natLe 4 (f.launch.getD 0)
  let pos := tx s f.path D.NET_TX_DONE_POS
  let s := { s with net := { s.net with done := Tab.set (fun _ => []) s.net.done (64 * f.path + pos % 64) bytes } }
  { s with net := { s.net with regs := Regs.set Dict.netRows s.net.regs (Dict.key f.path D.iNET_TX D.NET_TX_DONE_POS) (((pos + 1) % 2 ^ 32 : Nat) : Int) } }

/-- NET_TX_DONE (R411): 64 records by index, blank where none was written. -/
def doneBytes (s : State) (path : Nat) : List Byte :=
  (List.range 64).flatMap fun i => let r := Tab.get (fun _ => []) s.net.done (64 * path + i); if r.isEmpty then List.replicate 16 0 else r

/-- LAUNCH_EVALUATE (R410): the verdict of the frame at the head of a queue. -/
def evaluate (p : Nat) (s : State) : State :=
  match queue s p with
  | f :: rest =>
    match f.launch, f.verdict with
    | some l, none =>
      let d := Arith.toSigned 32 (l + 2 ^ 32 - ns s)
      if 2000 ≤ d then setQueue { s with net := { s.net with lateEpisode := s.net.lateEpisode.filter (· ≠ p) } } p ({ f with verdict := some false } :: rest)
      else
        let s := if s.net.lateEpisode.contains p then s else say { s with net := { s.net with lateEpisode := s.net.lateEpisode ++ [p] } } 5 p
        if Arith.bit (port s p D.NET_PORT_CTRL).toNat 3 then setQueue s p ({ f with verdict := some true } :: rest)
        else record f p 2 none (setQueue (count s p D.NET_PORT_LATE_DROPS) p rest)
    | _, _ => s
  | [] => s

/-- The egress time-stamp of a frame whose delimiter passes the MAC some ns into the tick (R406). -/
def egress (s : State) (p off : Nat) : Nat := Arith.toUnsigned 64 ((clkAt s off : Int) + (96 + port s p D.NET_PORT_EXT_TX_CORR) * 2 ^ 32)

/-- The ingress time-stamp (R406). -/
def ingress (s : State) (p off : Nat) : Nat := Arith.toUnsigned 64 ((clkAt s off : Int) - (144 + port s p D.NET_PORT_EXT_RX_CORR) * 2 ^ 32)

/-- The frame at the head of a queue waits for its LAUNCH (R410). -/
def waits (s : State) (p : Nat) : Option Nat :=
  match queue s p with
  | f :: _ => if f.verdict = some false ∧ !f.overtaken then f.launch else none
  | [] => none

/-- Another frame of `n` bytes may not start (R410): its last bit, after preamble and FCS at 8 ns a byte, would not leave before LAUNCH − 64 ns. -/
def blocked (s : State) (p n : Nat) : Bool :=
  match waits s p with
  | some l => decide (Arith.toSigned 32 (l + 2 ^ 33 - 64 - (egress s p 0 / 2 ^ 32 + 8 * (n + 12))) ≤ 0)
  | none => false

/-- A device frame leaves a port. -/
def leave (p : Nat) (f : List Byte) (s : State) : State :=
  let s := count s p D.NET_PORT_TX_FRAMES
  { s with net := { s.net with answers := (s.net.answers ++ [(p, f)]).drop (s.net.answers.length - 7) } }

/-- The device frames that no timed frame holds any more leave, before untimed host frames (R410). -/
def release (s : State) : State :=
  let go := fun (x : Nat × List Byte) => !blocked s x.1 x.2.length
  (s.net.waiting.filter go).foldl (fun s x => leave x.1 x.2 s) { s with net := { s.net with waiting := s.net.waiting.filter fun x => !go x } }

/-- The frame at the head of a queue leaves some ns into the tick (R410, R411). -/
def depart (p off : Nat) (s : State) : State :=
  match queue s p with
  | f :: rest =>
    let late := f.verdict == some true
    let t := egress s p off
    let s := if late then count s p D.NET_PORT_LATE_SENT else s
    release (record f p (if late then 1 else 0) (some t) (setQueue (count s p D.NET_PORT_TX_FRAMES) p rest))
  | [] => s

/-- The frame at the head of a queue may leave some ns into the tick (R410): a timed one within 8 ns of its LAUNCH, or once NETCLK was set past it. -/
def mayDepart (s : State) (p off : Nat) : Bool :=
  up s p && match queue s p with
    | f :: _ => match f.launch, f.verdict with
      | none, _ => true
      | some l, some false => f.overtaken || decide ((Arith.toSigned 32 (egress s p off / 2 ^ 32 + 2 ^ 32 - l)).natAbs ≤ 8)
      | some _, some true => true
      | some _, none => false
    | [] => false

/-- TX_FRAME_SENT (R410, R411): the frame at the head of a queue leaves some ns into the tick. -/
def sent (p off : Nat) (s : State) : State := if mayDepart s p off then depart p off s else s

/-- A timed frame whose LAUNCH passes in the present tick leaves in it (R410). -/
def launchDue (p : Nat) (s : State) : State :=
  match queue s p with
  | f :: _ =>
    match f.launch, f.verdict with
    | some l, some false =>
      if f.overtaken then depart p 0 s
      else match (List.range 500).find? fun o => decide (0 ≤ Arith.toSigned 32 (egress s p o / 2 ^ 32 + 2 ^ 32 - l)) with
        | some o => depart p o s
        | none => s
    | _, _ => s
  | [] => s

/-- Drop every frame queued on a port (R411). -/
def dropAll (p : Nat) (s : State) : State :=
  let s := (queue s p).foldl (fun s f => record f p 3 none s) (setQueue s p [])
  { s with net := { s.net with waiting := s.net.waiting.filter fun x => x.1 ≠ p } }

/-- LINK_DOWN (R411, R421). -/
def linkDown (p : Nat) (s : State) : State :=
  if p < 2 ∧ Arith.bit (port s p D.NET_PORT_LINK).toNat 0 then
    say (dropAll p (State.wNet s (D.iNET_PORT + p) D.NET_PORT_LINK 0)) 1 p
  else s

/-- ENABLE of a port applied as 0 (R416): the link goes down. -/
def portCtrl (p : Nat) (on : Bool) (s : State) : State := if on then s else linkDown p s

/-- LINK_UP (R421). -/
def linkUp (p : Nat) (remoteFault : Bool) (s : State) : State :=
  let c := (port s p D.NET_PORT_CTRL).toNat
  if p < 2 ∧ Arith.bit c 0 ∧ !Arith.bit (port s p D.NET_PORT_LINK).toNat 0 then
    say (State.wNet s (D.iNET_PORT + p) D.NET_PORT_LINK (1 + (if Arith.bit c 1 then 2 else 0) + (if remoteFault then 4 else 0))) 2 p
  else s

/-! ### Received frames (R405, R412) -/

/-- A big-endian number in a frame. -/
def be (f : List Byte) (o n : Nat) : Nat := Arith.leNat ((f.drop o).take n).reverse

/-- Big-endian bytes. -/
def beBytes (n v : Nat) : List Byte := (Arith.natLe n v).reverse

/-- Start of the UDP header of an untagged UDP/IPv4 frame. -/
def udpAt (f : List Byte) : Option Nat :=
  if be f 12 2 = 0x0800 ∧ be f 14 1 / 16 = 4 ∧ be f 23 1 = 17 then some (14 + 4 * (be f 14 1 % 16)) else none

/-- An untagged frame of 64 to 1518 bytes with its FCS (R405). -/
def sized (f : List Byte) : Bool := decide (60 ≤ f.length) && decide (f.length ≤ 1514)

/-- A frame carries PTP to this port (R405). -/
def isPtp (s : State) (p : Nat) (f : List Byte) : Bool :=
  let ip := (port s p D.NET_PORT_IP).toNat
  let l2 := be f 12 2 == 0x88F7 && (be f 0 6 == 0x011B19000000 || be f 0 6 == 0x0180C200000E || be f 0 6 == mac p)
  let l4 := match udpAt f with
    | some u => decide (ip ≠ 0) && (be f (u + 2) 2 == 319 || be f (u + 2) 2 == 320) && (be f 30 4 == ip || be f 30 4 == 0xE0000181 || be f 30 4 == 0xE000006B)
    | none => false
  sized f && (l2 || l4)

/-- NET_RX_RING (R420). -/
def ringBytes (s : State) : List Byte :=
  (List.range 256).flatMap fun i => let e := Tab.get (fun _ => []) s.net.rx i; if e.isEmpty then List.replicate 272 0 else e

/-- The Internet checksum over bytes of even length. -/
def checksum (bs : List Byte) : Nat :=
  let sum := ((List.range ((bs.length + 1) / 2)).map fun i => be (bs ++ [0]) (2 * i) 2).sum
  let f := fun n => n % 65536 + n / 65536
  65535 - f (f (f sum))

/-- A received frame is answered: the answer leaves, or waits behind a timed frame (R410). -/
def answer (p : Nat) (f : List Byte) (s : State) : State :=
  let f := f ++ List.replicate (60 - f.length) 0
  let s := count s p D.NET_PORT_RX_FRAMES
  if blocked s p f.length then { s with net := { s.net with waiting := s.net.waiting ++ [(p, f)] } } else leave p f s

/-- A reply to an address can leave (R416): it lies on the subnet of the port, or the port has a gateway. -/
def routed (s : State) (p ip : Nat) : Bool :=
  let m := (port s p D.NET_PORT_NETMASK).toNat
  decide (ip &&& m = (port s p D.NET_PORT_IP).toNat &&& m) || decide (port s p D.NET_PORT_GATEWAY ≠ 0)

/-- An ARP request for the port address (R405). -/
def isArp (s : State) (p : Nat) (f : List Byte) : Bool :=
  let ip := (port s p D.NET_PORT_IP).toNat
  sized f && decide (ip ≠ 0) && be f 12 2 == 0x0806 && be f 14 2 == 1 && be f 16 2 == 0x0800 && be f 20 2 == 1 && be f 38 4 == ip

/-- An ICMP echo request to the port address, which the port answers (R405). -/
def isEcho (s : State) (p : Nat) (f : List Byte) : Bool :=
  let ip := (port s p D.NET_PORT_IP).toNat
  let o := 14 + 4 * (be f 14 1 % 16)
  sized f && decide (ip ≠ 0) && Arith.bit (port s p D.NET_PORT_CTRL).toNat 2 && be f 12 2 == 0x0800 && be f 14 1 / 16 == 4 && be f 23 1 == 1 && be f 30 4 == ip &&
    be f o 1 == 8 && be f (o + 1) 1 == 0

/-- A frame that no row of R405 takes: no PTP, no ARP or echo request, no UDP for DDP. -/
def isOther (s : State) (p : Nat) (f : List Byte) : Bool :=
  let ip := (port s p D.NET_PORT_IP).toNat
  let ddp := sized f && decide (ip ≠ 0) && be f 30 4 == ip && ((udpAt f).map fun u => be f (u + 2) 2 == 41760).getD false
  !isPtp s p f && !isArp s p f && !isEcho s p f && !ddp

/-- RX_FRAME_DROP (R405): a frame with a bad FCS or a code error, or any other frame no rule takes. -/
def drop (p : Nat) (error : Bool) (s : State) : State := if up s p then count s p (if error then D.NET_PORT_RX_ERRORS else D.NET_PORT_RX_DROPPED) else s

/-- A received frame that is not of the kind of its row: dropped and counted where no row of R405 takes it. -/
def otherwise (p : Nat) (f : List Byte) (s : State) : State := if isOther s p f then drop p false s else s

/-- ARP_REPLY (R405). -/
def arp (p : Nat) (f : List Byte) (s : State) : State :=
  if up s p ∧ isArp s p f then
    let who := (f.drop 22).take 10
    answer p ((f.drop 22).take 6 ++ beBytes 6 (mac p) ++ beBytes 2 0x0806 ++ beBytes 2 1 ++ beBytes 2 0x0800 ++ beBytes 2 0x0604 ++ beBytes 2 2 ++
      beBytes 6 (mac p) ++ beBytes 4 (port s p D.NET_PORT_IP).toNat ++ who) s
  else otherwise p f s

/-- ICMP_ECHO (R405): the reply carries the request's identifier, sequence and data. -/
def echo (p : Nat) (f : List Byte) (s : State) : State :=
  if up s p ∧ isEcho s p f then
    let total := be f 16 2
    let o := 14 + 4 * (be f 14 1 % 16)
    let body := (f.drop (o + 4)).take (14 + total - (o + 4))
    let icmp := beBytes 4 0 ++ body
    let icmp := beBytes 2 0 ++ beBytes 2 (checksum icmp) ++ body
    let head := (f.drop 14).take 8 ++ [64, 1] ++ beBytes 2 0 ++ (f.drop 30).take 4 ++ (f.drop 26).take 4
    let head := beBytes 1 0x45 ++ (head.drop 1).take 1 ++ beBytes 2 (20 + icmp.length) ++ (head.drop 4).take 6 ++ beBytes 2 0 ++ head.drop 12
    let head := head.take 10 ++ beBytes 2 (checksum head) ++ head.drop 12
    if !routed s p (be f 26 4) then count s p D.NET_PORT_RX_FRAMES
    else answer p ((f.drop 6).take 6 ++ beBytes 6 (mac p) ++ beBytes 2 0x0800 ++ head ++ icmp) s
  else otherwise p f s

/-- PTP_RECEIVE (R412): time-stamped some ns into the tick and stored, or lost. -/
def ptp (p off : Nat) (f : List Byte) (s : State) : State :=
  if up s p ∧ isPtp s p f then
    let pos := (State.rNet s D.iNET_RX D.NET_RX_POS).toNat
    let rd := (State.rNet s D.iNET_RX D.NET_RX_RD).toNat
    if (pos + 2 ^ 32 - rd) % 2 ^ 32 = 256 then
      let s := State.incNet s D.iNET_RX D.NET_RX_LOST 1
      if s.net.lostEpisode then s else say { s with net := { s.net with lostEpisode := true } } 6 p
    else
      let t := ingress s p off
      let head := Arith.natLe 1 p ++ Arith.natLe 1 (if 256 < f.length then 1 else 0) ++ Arith.natLe 2 f.length ++ Arith.natLe 4 (t / 2 ^ 32) ++ Arith.natLe 4 t ++ Arith.natLe 4 0
      let e := head ++ f.take 256 ++ List.replicate (256 - f.length) 0
      let s := { s with net := { s.net with rx := Tab.set (fun _ => []) s.net.rx (pos % 256) e, lostEpisode := false } }
      count (State.wNet s D.iNET_RX D.NET_RX_POS (((pos + 1) % 2 ^ 32 : Nat) : Int)) p D.NET_PORT_RX_FRAMES
  else otherwise p f s

/-! ### The phase lock (R414, R415) -/

/-- A measurement is due in the present tick (R414). -/
def measureDue (s : State) : Bool :=
  Arith.bit (sync s D.NET_TSYNC_CTRL).toNat 0 && decide (((s.tick : Int) - sync s D.NET_TSYNC_REF_TICK) % 2000 = 0) && decide (s.net.measured ≠ some s.tick)

/-- PHASE_MEASUREMENT (R414, R415). -/
def measure (s : State) : State :=
  if !measureDue s then s
  else
    let e := ((sync s D.NET_TSYNC_REF_NETCLK) + ((s.tick : Int) - sync s D.NET_TSYNC_REF_TICK) * 500) * 2 ^ 32
    let phi := Arith.toSigned 64 (Arith.toUnsigned 64 ((s.net.clk : Int) - e))
    let sum := s.net.sum + sync s D.NET_TSYNC_KI * phi
    let tune := Arith.clamp 0 0xFFFF (0x8000 + Arith.divRound (sync s D.NET_TSYNC_KP * phi + sum) (2 ^ 40))
    let win := (sync s D.NET_TSYNC_LOCK_WINDOW).toNat
    let size := phi.natAbs
    let near := decide (size ≤ win * 2 ^ 32)
    let n := if near then s.net.inWindow + 1 else 0
    let ends := decide (tune = 0 ∨ tune = 0xFFFF)
    let m := if ends ∧ sync s D.NET_TSYNC_STATE = 1 then s.net.atEnd + 1 else 0
    let s := { s with net := { s.net with sum := sum, inWindow := n, atEnd := m, measured := some s.tick, tuneEpisode := ends && s.net.tuneEpisode } }
    let s := State.wNet (State.wNet s D.iNET_TSYNC D.NET_TSYNC_PHASE (Arith.clamp (-(2 ^ 31)) (2 ^ 31 - 1) (Arith.divRound phi (2 ^ 24)))) D.iNET_TSYNC D.NET_TSYNC_TUNE tune
    let st := sync s D.NET_TSYNC_STATE
    if st = 2 ∧ 4 * win * 2 ^ 32 < size then
      let s := State.incNet (State.wNet s D.iNET_TSYNC D.NET_TSYNC_STATE 1) D.iNET_TSYNC D.NET_TSYNC_UNLOCKS 1
      say { s with net := { s.net with inWindow := 0 } } 7 0
    else if st = 1 ∧ 16 ≤ n then State.wNet s D.iNET_TSYNC D.NET_TSYNC_STATE 2
    else if st = 1 ∧ 16 ≤ m ∧ !s.net.tuneEpisode then say { s with net := { s.net with tuneEpisode := true } } 8 0
    else s

/-- TSYNC_ENABLE (R415). -/
def syncEnable (on : Bool) (s : State) : State :=
  let was := Arith.bit (sync s D.NET_TSYNC_CTRL).toNat 0
  let s := State.wNet s D.iNET_TSYNC D.NET_TSYNC_CTRL (if on then 1 else 0)
  if on then
    if was then s
    else State.wNet { s with net := { s.net with sum := 0, inWindow := 0, atEnd := 0, measured := none, tuneEpisode := false } } D.iNET_TSYNC D.NET_TSYNC_STATE 1
  else State.wNet (State.wNet s D.iNET_TSYNC D.NET_TSYNC_STATE 0) D.iNET_TSYNC D.NET_TSYNC_TUNE 0x8000

/-- REF_TICK or REF_NETCLK was written (R415). -/
def refWritten (s : State) : State :=
  if sync s D.NET_TSYNC_STATE = 0 then s
  else State.wNet { s with net := { s.net with inWindow := 0 } } D.iNET_TSYNC D.NET_TSYNC_STATE 1

/-- NETCLK over one tick: 125 TIME cycles (R13, R407); the timed frames of the tick that is over leave (R410). -/
def tick (s : State) : State :=
  let s := launchDue 1 (launchDue 0 s)
  let s := if s.net.waiting.isEmpty then s else release s
  { s with net := { s.net with clk := (s.net.clk + 125 * (clkReg s D.NET_CLK_INCR).toNat) % 2 ^ 64 } }

end Sys2Proof.Machine.Net
end

