-- ==== Sys2Proof/Machine/Nand.lean ====
section
/-!
DEFINITION. The NAND of the job store (15_stacks_job_store.md R347 to R350, R360 to R363): what may be mounted, slabs and where they lie, free blocks, moving
data, superblocks, checkpoints, the journal and its replay. Targets are numbered 4 × channel + target; a block is target × blocks per target + block; a
physical slab is block × slabs per block + slab.
What the rules leave to the model: log entry 37.
-/
namespace Sys2Proof.Machine.Nand

/-- No NAND: nothing is populated. -/
def none_ : Medium := ⟨[], [], none, none, [], [], [], []⟩

/-- A block as new. -/
def blank : NandBlock := ⟨0, 0, 0, 0, 0, false⟩

/-- An empty directory. -/
def emptyDir : Directory := ⟨[], 0, [], [], 0⟩

/-- A target. -/
def target (m : Medium) (k : Nat) : Option Target := Tab.find m.targets k

/-- A block. -/
def block (m : Medium) (b : Nat) : NandBlock := Tab.get (fun _ => blank) m.blocks b

/-- Change a block. -/
def setBlock (m : Medium) (b : Nat) (x : NandBlock) : Medium := { m with blocks := Tab.set (fun _ => blank) m.blocks b x }

/-- The target whose sizes all targets share (R347). -/
def lead (m : Medium) : Option Target := m.targets.head?.map fun e => e.2

/-- Blocks per target. -/
def perTarget (m : Medium) : Nat := ((lead m).map fun t => t.blocks).getD 0

/-- Data bytes of a page. -/
def pageBytes (m : Medium) : Nat := ((lead m).map fun t => t.pageBytes).getD 0

/-- Data bytes of a block. -/
def blockBytes (m : Medium) : Nat := ((lead m).map fun t => t.pages * t.pageBytes).getD 0

/-- The bytes of a slab (R349). -/
def slabBytes : Nat := 262144

/-- Slabs per block (R349). -/
def perBlock (m : Medium) : Nat := blockBytes m / slabBytes

/-- Slabs of an object of `n` bytes. -/
def slabs (n : Nat) : Nat := (n + 262143) / slabBytes

/-- The target of a block. -/
def targetOf (m : Medium) (b : Nat) : Nat := b / max 1 (perTarget m)

/-- The channel of a block. -/
def channelOf (m : Medium) (b : Nat) : Nat := targetOf m b / 4

/-- The address of a block on its channel. -/
def address (m : Medium) (b : Nat) : Nat := b - 4 * channelOf m b * perTarget m

/-- The block of a physical slab. -/
def blockOf (m : Medium) (p : Nat) : Nat := p / max 1 (perBlock m)

/-! ### What may be mounted (R347, R348) -/

/-- The sizes that all targets must share. -/
def sizes (t : Target) : Nat × Nat × Nat × Nat := (t.pageBytes, t.spareBytes, t.pages, t.blocks)

/-- The geometry of what is populated. -/
def geometry (m : Medium) : Geometry :=
  let s := ((lead m).map sizes).getD (0, 0, 0, 0)
  ⟨m.targets.map fun e => e.1, s.1, s.2.1, s.2.2.1, s.2.2.2⟩

/-- The raw capacity that a store may have: 32 TiB. -/
def maxRaw : Nat := 32 * 2 ^ 40

/-- The channel at which NAND_UNSUPPORTED holds, if it does (R347). -/
def unsupported (m : Medium) : Option Nat :=
  match target m 0 with
  | none => some 0
  | some t =>
    match m.targets.find? fun e => decide (e.2.onfi < 40) || !e.2.nvddr3 || decide (sizes e.2 ≠ sizes t) with
    | some e => some (e.1 / 4)
    | none =>
      if ¬([4096, 8192, 16384].contains t.pageBytes = true) ∨ 9 * t.spareBytes < t.pageBytes ∨ maxRaw < m.targets.length * t.blocks * (t.pages * t.pageBytes) then some 0
      else none

/-- The fastest NV-DDR3 timing mode that a target and 625 MT/s allow, with its rate (R348). -/
def timing (t : Target) : Nat × Nat :=
  t.speeds.zipIdx.foldl (fun best x => if x.1 ≤ 625 ∧ best.2 < x.1 then (x.2, x.1) else best) (0, 0)

/-- The targets of a channel. -/
def onChannel (m : Medium) (ch : Nat) : List (Nat × Target) := m.targets.filter fun e => decide (e.1 / 4 = ch)

/-- The timing mode in use on a channel: that of its slowest target. -/
def mode (m : Medium) (ch : Nat) : Nat :=
  match (onChannel m ch).map fun e => timing e.2 with
  | [] => 0
  | x :: l => (l.foldl (fun a b => if b.2 < a.2 then b else a) x).1

/-- The populated targets in the order slabs rotate over them (R349): across channels in ascending order, then across target numbers. -/
def rotation (m : Medium) : List Nat :=
  (List.range 4).flatMap fun t => (m.targets.filter fun e => decide (e.1 % 4 = t)).map fun e => e.1

/-! ### Good, free and reserved blocks (R350, R360, R361) -/

/-- Blocks of a target. -/
def blocksOf (m : Medium) (k : Nat) : List Nat := Arith.rangeFrom (k * perTarget m) (perTarget m)

/-- A block is bad: marked in the factory, or retired. -/
def bad (m : Medium) (retired : List Nat) (b : Nat) : Bool :=
  ((target m (targetOf m b)).map fun t => t.marks.contains (b % max 1 (perTarget m))).getD true || retired.contains b

/-- Factory-marked blocks of some targets. -/
def factoryBad (l : List (Nat × Target)) : Nat := (l.map fun e => e.2.marks.length).sum

/-- Blocks of a channel retired in use. -/
def grownBad (m : Medium) (retired : List Nat) (ch : Nat) : Nat := (retired.filter fun b => decide (channelOf m b = ch)).length

/-- Good blocks of a channel. -/
def goodOn (m : Medium) (retired : List Nat) (ch : Nat) : Nat := ((onChannel m ch).map fun e => e.2.blocks).sum - factoryBad (onChannel m ch) - grownBad m retired ch

/-- Good blocks of all targets. -/
def good (m : Medium) (retired : List Nat) : Nat := (m.targets.map fun e => e.2.blocks).sum - factoryBad m.targets - retired.length

/-- The first good block of a target. -/
def firstGood (m : Medium) (retired : List Nat) (k : Nat) : Option Nat := if (target m k).isSome then (blocksOf m k).find? fun b => !bad m retired b else none

/-- The highest populated channel. -/
def lastChannel (m : Medium) : Nat := (m.targets.map fun e => e.1 / 4).foldl max 0

/-- The blocks that hold the two superblocks (R361). -/
def superPlaces (m : Medium) (retired : List Nat) : List Nat :=
  (firstGood m retired 0).toList ++ (if lastChannel m = 0 then none else firstGood m retired (4 * lastChannel m)).toList

/-- A block can be written anew. -/
def free (m : Medium) (retired : List Nat) (b : Nat) : Bool := !bad m retired b && (block m b).top == 0 && !(superPlaces m retired).contains b

/-- The free blocks of the store. -/
def freeBlocks (m : Medium) (retired : List Nat) : Nat := (m.targets.map fun e => (blocksOf m e.1).countP (free m retired)).sum

/-- Free blocks lie below `n` per cent of the good ones (R358, R360). -/
def below (n : Nat) (m : Medium) (retired : List Nat) : Bool := decide (100 * freeBlocks m retired < n * good m retired)

/-- The free block of a target with the lowest erase count (R360). -/
def freshBlock (m : Medium) (retired : List Nat) (k : Nat) : Option Nat :=
  ((blocksOf m k).filter (free m retired)).foldl (fun a b => match a with
    | none => some b
    | some x => if (block m b).erases < (block m x).erases then some b else a) none

/-- The block of a target that takes the next slab: the one begun, or a new one. -/
def openBlock (m : Medium) (retired : List Nat) (k : Nat) : Option Nat :=
  ((m.blocks.find? fun e => decide (targetOf m e.1 = k) && decide (0 < e.2.top) && decide (e.2.top < perBlock m) && !bad m retired e.1).map fun e => e.1).or
    (freshBlock m retired k)

/-! ### Placing and moving slabs (R349, R360, R362) -/

/-- Program the next slab of a target. -/
def place (retired : List Nat) (m : Medium) (k : Nat) : Option (Medium × Nat) :=
  (openBlock m retired k).bind fun b =>
    let x := block m b
    if x.top < perBlock m then some (setBlock m b { x with top := x.top + 1 }, b * perBlock m + x.top) else none

/-- The rotation from its `i`-th place on. -/
def from_ (l : List Nat) (i : Nat) : List Nat := if l.length < 2 then l else l.drop (i % l.length) ++ l.take (i % l.length)

/-- Program `n` slabs, the first on the `i`-th target of a rotation: the physical slabs in order, or none where no block is free. A target without room is
passed over. -/
def placeAll (retired : List Nat) (l : List Nat) : Nat → Nat → Medium → Option (Medium × List Nat)
  | 0, _, m => some (m, [])
  | n + 1, i, m =>
    match (from_ l i).findSome? (place retired m) with
    | none => none
    | some r => (placeAll retired l n (i + 1) r.1).map fun x => (x.1, r.2 :: x.2)

/-- Pad the block of the last slab to the end of its wordline group (R362). -/
def pad (m : Medium) (last : Option Nat) : Medium :=
  match last with
  | none => m
  | some p =>
    let b := blockOf m p
    let x := block m b
    let group := max 1 (((target m (targetOf m b)).map fun t => t.group).getD 1)
    let pages := slabBytes / max 1 (pageBytes m)
    let padded := (x.top * pages + group - 1) / group * group
    setBlock m b { x with top := min (perBlock m) ((padded + pages - 1) / max 1 pages) }

/-- Erase a block. -/
def erase (m : Medium) (b : Nat) : Medium := setBlock m b { blank with erases := (block m b).erases + 1 }

/-- The logical slabs whose data a block holds. -/
def validIn (m : Medium) (dir : Directory) (b : Nat) : List Nat := (dir.map.filter fun e => decide (blockOf m e.2 = b)).map fun e => e.1

/-- Program the data of a block elsewhere: where its logical slabs then lie. -/
def moveOut (l : List Nat) (dir : Directory) (b : Nat) (m : Medium) : Option (Medium × List (Nat × Nat)) :=
  let v := validIn m dir b
  -- the block that is emptied takes nothing itself
  let closed := setBlock m b { block m b with top := perBlock m }
  (placeAll dir.retired l v.length ((l.findIdx? fun k => k == targetOf m b).getD 0) closed).map fun r => (r.1, v.zip r.2)

/-- The victim of a garbage collection (R360): the block with the fewest valid slabs, among the full ones that hold fewer than they could. -/
def victim (m : Medium) (dir : Directory) (l : List Nat) : Option Nat :=
  let full := m.blocks.filter fun e => decide (perBlock m ≤ e.2.top) && !bad m dir.retired e.1 && l.contains (targetOf m e.1) && !(superPlaces m dir.retired).contains e.1
  let counted := full.map fun e => (e.1, (validIn m dir e.1).length)
  let best := counted.foldl (fun a x => match a with
    | none => some x
    | some y => if x.2 < y.2 then some x else a) none
  (best.filter fun x => decide (x.2 < perBlock m)).map fun x => x.1

/-! ### The journal (R361 to R363) -/

/-- Logical slabs that are not in use, `n` of them. -/
def freeLogical (dir : Directory) (n : Nat) : List Nat :=
  ((List.range (dir.map.length + n)).filter fun i => !(dir.map.any fun e => e.1 == i)).take n

/-- Whether an object has a key. -/
def isKey (o : StkObj) (kind job layer unit seq : Nat) : Bool :=
  o.kind == kind && o.job == job && o.layer == layer && o.unit == unit && o.seq == seq

/-- Two objects have one key. -/
def sameKey (a b : StkObj) : Bool := isKey a b.kind b.job b.layer b.unit b.seq

/-- Put places into a map. -/
def mapped (l : List (Nat × Nat)) (map : List (Nat × Nat)) : List (Nat × Nat) := l.foldl (fun m e => Tab.ins m e.1 e.2) map

/-- What a record does to the map and the directory. -/
def apply (op : JournalOp) (d : Directory) : Directory :=
  match op with
  | .commit o places => { d with objects := (d.objects.filter fun x => !sameKey x o) ++ [o], nextId := (o.id + 1) % 2 ^ 32, map := mapped places d.map }
  | .delete id => { d with objects := d.objects.filter fun x => x.id != id }
  | .relocate places => { d with map := mapped places d.map }
  | .retire b => if d.retired.contains b then d else { d with retired := d.retired ++ [b], spare := d.spare - 1 }

/-- The slabs of objects that are gone leave the map; `kept` are still read (R352). -/
def sweep (kept : List StkObj) (d : Directory) : Directory :=
  { d with map := d.map.filter fun e => (d.objects ++ kept).any fun o => o.slabs.contains e.1 }

/-- A number for each record type. -/
def opCode : JournalOp → Nat
  | .commit _ _ => 1 | .delete _ => 2 | .relocate _ => 3 | .retire _ => 4

/-- The number of the object or block a record is about. -/
def subject : JournalOp → Nat
  | .commit o _ => o.id
  | .delete id => id
  | .relocate places => (places.head?.map fun e => e.2).getD 0
  | .retire b => b

/-- A record as it is written. -/
def record (seq : Nat) (op : JournalOp) : JournalRecord := ⟨seq, op, Config.journalCrc (opCode op) seq (subject op) % 2 ^ 32, true⟩

/-- The journal length at which a checkpoint is written: 32 MiB. -/
def journalMax : Nat := 32 * 2 ^ 20

/-- The newer of the valid superblocks (R363). -/
def newest (m : Medium) : Option Superblock :=
  match m.superA, m.superB with
  | some a, some b => if a.seq < b.seq then some b else some a
  | some a, none => some a
  | none, b => b

/-- Write a checkpoint, where one is due, and the superblock that was not written last (R361). -/
def checkpointed (due : Bool) (id area journalSeq : Nat) (dir : Directory) (m : Medium) : Medium :=
  let seq := ((newest m).map fun b => b.seq).getD 0 + 1
  let block : Superblock := ⟨seq, id, area, geometry m, seq, Config.checkpointAt seq⟩
  let second := due && decide ((superPlaces m dir.retired).length = 2) && (m.superB.map fun b => b.seq).getD 0 < (m.superA.map fun b => b.seq).getD 0
  let first := due && !second
  let other := if second then m.superA else m.superB
  let kept := m.checkpoints.filter fun c => (other.map fun b => b.checkpoint) == some c.number
  { m with
    superA := if first then some block else m.superA
    superB := if second then some block else m.superB
    checkpoints := if due then kept ++ [⟨seq, dir, journalSeq⟩] else m.checkpoints
    journal := if due then m.journal.filter fun r => kept.any fun c => decide (c.journalSeq ≤ r.seq) else m.journal }

/-- FORMAT (R350): factory marks are read, 7 % of the good blocks are set aside, everything is erased, and a first checkpoint and superblock name the store. -/
def format (id area : Nat) (retired : List Nat) (m : Medium) : Medium × Directory :=
  let dir : Directory := { emptyDir with retired := retired, spare := 7 * good m retired / 100 }
  let wiped : Medium := { m with
    blocks := (m.blocks.map fun e => (e.1, { blank with erases := e.2.erases + (if e.2.top = 0 then 0 else 1) })).filter fun e => decide (e.2 ≠ blank)
    superA := none, superB := none, checkpoints := [], journal := [], loose := [], torn := [] }
  (checkpointed true id area 0 dir wiped, dir)

/-- Replay the records that follow, to the last valid one (R363): the directory and the next sequence number. -/
def replay : List JournalRecord → Nat → Directory → Directory × Nat
  | [], seq, d => (d, seq)
  | r :: l, seq, d => if r.valid ∧ r.seq = seq then replay l ((seq + 1) % 2 ^ 64) (apply r.op d) else (d, seq)

/-- How loading a store ends (R363, R364, R370): no valid superblock; failed with the code of MOUNT_FAIL; loaded. -/
inductive Loaded where
  | unformatted
  | failed (code : Nat)
  | store (id area : Nat) (dir : Directory) (seq len discarded : Nat) (m : Medium)
deriving DecidableEq, Repr

/-- Loading a store (R363): the superblock, its geometry, the checkpoint, the journal; slabs without a commit record go, and blocks that hold a partly
programmed page are closed. -/
def load (m : Medium) : Loaded :=
  match newest m with
  | none => .unformatted
  | some b =>
    if b.geometry.populated.any fun k => (target m k).isNone then .failed 3
    else if geometry m ≠ b.geometry then .failed 2
    else
      match m.checkpoints.find? fun c => c.number == b.checkpoint with
      | none => .failed 4
      | some c =>
        let after := m.journal.filter fun r => decide (c.journalSeq ≤ r.seq)
        let r := replay after c.journalSeq c.dir
        let closed := m.torn.foldl (fun m x => setBlock m x { block m x with top := perBlock m }) m
        .store b.id b.area (sweep [] r.1) r.2 (((after.filter fun x => decide (x.seq < r.2)).map fun x => Config.journalBytes (opCode x.op)).sum) m.loose.length { closed with
          journal := closed.journal.filter fun x => decide (x.seq < r.2), loose := [], torn := [] }

/-- Power is lost (R362): objects being written lose their slabs at the next mount, and each leaves a partly programmed page in a block that was begun. -/
def cut (n pick : Nat) (m : Medium) : Medium :=
  let begun := (m.blocks.filter fun e => decide (0 < e.2.top) && decide (e.2.top < perBlock m)).map fun e => e.1
  { m with loose := m.loose ++ List.replicate n [], torn := if n = 0 then m.torn else m.torn ++ (begun[pick % max 1 begun.length]?).toList }

/-! ### Wear (R360, R366, R369) -/

/-- Erase counts of the good blocks of some targets that were erased. -/
def eraseCounts (m : Medium) (retired : List Nat) (p : Nat → Bool) : List Nat :=
  (m.blocks.filter fun e => p (targetOf m e.1) && !bad m retired e.1).map fun e => e.2.erases

/-- The highest erase count of a channel. -/
def eraseMax (m : Medium) (retired : List Nat) (ch : Nat) : Nat := (eraseCounts m retired fun k => k / 4 == ch).foldl max 0

/-- The mean erase count of a channel's good blocks. -/
def eraseMean (m : Medium) (retired : List Nat) (ch : Nat) : Nat := (eraseCounts m retired fun k => k / 4 == ch).sum / max 1 (goodOn m retired ch)

/-- The mean erase count of the store as a percentage of rated endurance (R366). -/
def lifeUsed (m : Medium) (retired : List Nat) : Nat :=
  let rated := (m.targets.map fun e => (e.2.blocks - e.2.marks.length) * e.2.endurance).sum
  100 * (eraseCounts m retired fun _ => true).sum / max 1 rated

end Sys2Proof.Machine.Nand
end

