-- ==== Sys2Proof/Machine/Stacks.lean ====
section
/-!
DEFINITION. Stacks (15_stacks_job_store.md): the store's states, objects and their commit, the job directory and staging, suspended targets, and the
care of the medium.
What the rules leave to the model: log entry 37.
-/
namespace Sys2Proof.Machine.Stk

/-- A STK_CTRL entry. -/
def ctl (s : State) (sub : Nat) : Nat := (State.rStk s D.iSTK_CTRL sub).toNat

/-- An entry of STK_OBJ as path `p` has it selected (R367). -/
def sel (s : State) (p sub : Nat) : Nat := (Regs.get Dict.stkRows s.stk.regs (Dict.key p D.iSTK_OBJ sub)).toNat

/-- Code of STK_STATUS.STATE (R366). -/
def code : StkMode → Nat
  | .absent => 0 | .mounting => 1 | .mounted => 2 | .readOnly => 3 | .unformatted => 4 | .failed => 5 | .fenced => 6

/-- Enter a store state. -/
def enter (m : StkMode) (s : State) : State := { s with stk := { s.stk with mode := m } }

/-- The store is MOUNTED or READ_ONLY. -/
def up (s : State) : Bool := s.stk.mode == .mounted || s.stk.mode == .readOnly

/-- The directory can be read (R364): mounted, read-only or fenced. -/
def readable (s : State) : Option Store := if up s || s.stk.mode == .fenced then s.stk.store else none

/-- Change the store. -/
def modStore (f : Store → Store) (s : State) : State := { s with stk := { s.stk with store := s.stk.store.map f } }

/-- Change the NAND. -/
def modMedium (f : Medium → Medium) (s : State) : State := { s with stk := { s.stk with medium := f s.stk.medium } }

/-- Blocks retired in use, as the store knows them. -/
def retired (s : State) : List Nat := (s.stk.store.map fun t => t.dir.retired).getD []

/-! ### Space (R349, R350) -/

/-- USED_BYTES: the slabs of the objects, and of those that are gone but still read (R352). -/
def usedBytes (t : Store) : Nat := ((t.dir.objects ++ t.old).map fun o => Nand.slabs o.data.length).sum * Nand.slabBytes

/-- RAW_BYTES. -/
def rawBytes (m : Medium) (t : Store) : Nat := Nand.good m t.dir.retired * Nand.blockBytes m

/-- USABLE_BYTES (R350). -/
def usableBytes (m : Medium) (t : Store) : Nat := 93 * Nand.good m t.dir.retired * Nand.perBlock m * Nand.slabBytes / 100 - t.area

/-- MOUNTED and READ_ONLY follow the space (R350). -/
def settle (s : State) : State :=
  match s.stk.store with
  | none => s
  | some t =>
    if s.stk.mode = .mounted ∧ usableBytes s.stk.medium t < usedBytes t then State.raiseOpen (enter .readOnly s) 0x158 3
    else if s.stk.mode = .readOnly ∧ usedBytes t ≤ usableBytes s.stk.medium t then enter .mounted s
    else s

/-! ### Objects that are read (R352) -/

/-- The object with a key. -/
def find (t : Store) (kind job layer unit seq : Nat) : Option StkObj := t.dir.objects.find? fun o => Nand.isKey o kind job layer unit seq

/-- The object with an identity, also where it is gone and still read. -/
def byId (t : Store) (id : Nat) : Option StkObj := (t.dir.objects ++ t.old).find? fun o => o.id == id

/-- A path or a staging read is in the middle of an object (R352). -/
def beingRead (s : State) (id : Nat) : Bool :=
  (s.stk.readers.any fun r => r.2 == id) || s.stk.progress.any fun p => (p.2.map fun x => x.2.1) == some id

/-! ### Journal and checkpoints (R361) -/

/-- Write a checkpoint. -/
def checkpoint (s : State) : State :=
  match s.stk.store with
  | none => s
  | some t => modStore (fun t => { t with journalLen := 0 }) (modMedium (Nand.checkpointed true t.id t.area t.journalSeq t.dir) s)

/-- One more record in the journal, what it does to the map and the directory, and a checkpoint when the journal reaches 32 MiB. -/
def record (op : JournalOp) (s : State) : State :=
  match s.stk.store with
  | none => s
  | some t =>
    let dir := Nand.apply op t.dir
    let old := t.old ++ t.dir.objects.filter fun o => beingRead s o.id && !dir.objects.any fun x => x.id == o.id
    let dir := Nand.sweep old dir
    let seq := (t.journalSeq + 1) % 2 ^ 64
    let len := t.journalLen + Config.journalBytes (Nand.opCode op)
    let due := decide (Nand.journalMax ≤ len)
    { s with stk := { s.stk with
      store := some { t with dir := dir, old := old, journalSeq := seq, journalLen := if due then 0 else len }
      medium := Nand.checkpointed due t.id t.area seq dir { s.stk.medium with journal := s.stk.medium.journal ++ [Nand.record t.journalSeq op] } } }

/-- Objects that are gone lose their slabs once their readers are over (R352). -/
def release (s : State) : State :=
  match s.stk.store with
  | none => s
  | some t =>
    if t.old.all fun o => beingRead s o.id then s
    else settle (modStore (fun t => let old := t.old.filter fun o => beingRead s o.id; { t with old := old, dir := Nand.sweep old t.dir }) s)

/-! ### Objects (R351 to R353) -/

/-- The object a path has selected (R367). -/
def selected (s : State) (p : Nat) : Option StkObj :=
  (readable s).bind fun t => find t (sel s p D.STK_OBJ_KIND) (sel s p D.STK_OBJ_JOB) (sel s p D.STK_OBJ_LAYER) (sel s p D.STK_OBJ_UNIT) (sel s p D.STK_OBJ_SEQ)

/-- What BLOB_READ of STK_OBJ_DATA returns on a path: the object it reads, as long as that has the selected key, or the selected object (R352). -/
def viewed (s : State) (p : Nat) : Option StkObj :=
  (((Tab.find s.stk.readers p).bind fun id => (readable s).bind fun t => byId t id).filter fun o =>
    Nand.isKey o (sel s p D.STK_OBJ_KIND) (sel s p D.STK_OBJ_JOB) (sel s p D.STK_OBJ_LAYER) (sel s p D.STK_OBJ_UNIT) (sel s p D.STK_OBJ_SEQ)).or (selected s p)

/-- A path is no longer in the middle of an object. -/
def readOver (p : Nat) (s : State) : State := { s with stk := { s.stk with readers := Tab.del s.stk.readers p } }

/-- The logical slabs that bytes `off` to `off + n` of an object lie in, with the pages of each (R360). -/
def covered (m : Medium) (o : StkObj) (off n : Nat) : List (Nat × Nat) :=
  let page := max 1 (Nand.pageBytes m)
  if n = 0 then []
  else (Arith.rangeFrom (off / Nand.slabBytes) ((off + n - 1) / Nand.slabBytes + 1 - off / Nand.slabBytes)).filterMap fun i =>
    o.slabs[i]?.map fun l =>
      (l, (min (off + n) ((i + 1) * Nand.slabBytes) - i * Nand.slabBytes + page - 1) / page - (max off (i * Nand.slabBytes) - i * Nand.slabBytes) / page)

/-- Where a logical slab lies. -/
def placeOf (s : State) (l : Nat) : Option Nat := s.stk.store.bind fun t => Tab.find t.dir.map l

/-- Change a block. -/
def modBlock (b : Nat) (f : NandBlock → NandBlock) (s : State) : State := modMedium (fun m => Nand.setBlock m b (f (Nand.block m b))) s

/-- The blocks that a read touches count its pages (R360). -/
def countReads (l : List (Nat × Nat)) (s : State) : State :=
  l.foldl (fun s x => match placeOf s x.1 with
    | some p => modBlock (Nand.blockOf s.stk.medium p) (fun b => { b with reads := b.reads + x.2 }) s
    | none => s) s

/-- BLOB_READ of STK_OBJ_DATA from an offset (R352): at offset 0 a path begins with the selected object. -/
def readFrom (p off n : Nat) (s : State) : State :=
  let s := if off = 0 then readOver p s else s
  match viewed s p with
  | none => s
  | some o =>
    let s := countReads (covered s.stk.medium o off (min n (o.data.length - off))) s
    { s with stk := { s.stk with readers := Tab.ins s.stk.readers p o.id } }

/-- A path has read to an offset: at the end of the object it is over. -/
def readTo (p upTo : Nat) (s : State) : State :=
  match viewed s p with
  | none => readOver p s
  | some o => if o.data.length ≤ upTo then readOver p s else s

/-- An object does not fit (R350, R370). -/
def full (s : State) (n : Nat) : Bool :=
  match s.stk.store with
  | some t => s.stk.mode != .mounted || decide (usableBytes s.stk.medium t < usedBytes t + Nand.slabs n * Nand.slabBytes)
  | none => true

/-- KINDs a host may write (R353). -/
def hostKind (k : Nat) : Bool := k == 0x10 || k == 0x11 || k == 0x20

/-- DIR (R366). -/
def dirBytes (t : Store) : List Byte :=
  let n := Arith.natLe
  t.dir.objects.flatMap fun o =>
    n 1 o.kind ++ n 1 o.unit ++ n 2 o.seq ++ n 4 o.job ++ n 4 o.layer ++ n 4 o.data.length ++ n 4 (Arith.crc32 o.data) ++ n 4 o.id ++ n 8 o.opTime

/-- The snapshot buffer leaves STORING (R238). -/
def releaseSnap (kind : Nat) (s : State) : State :=
  if kind = 2 ∧ s.grd.snapMode = .storing then { s with grd := { s.grd with snapMode := .ready } } else s

/-- A write of STORE_OBJECT ends (R136, R137): a step that waits for it may complete. -/
def writeOver (w : StkWrite) (s : State) : State :=
  let s := releaseSnap w.kind s
  let s := if w.held = 0 then s else Fol.showEngine (Fol.link s)
  if w.wait then { s with cat := { s.cat with event := true } } else s

/-- Take the data of a source that has completed (R137). -/
def takeSource (s : State) (w : StkWrite) : State × StkWrite :=
  if w.data.isSome then (s, w)
  else if w.kind = 1 then
    if Img.isOpen s w.unit w.frameNo then (s, w)
    else (s, { w with data := some (Tab.get (fun _ => []) s.img.objects w.unit) })
  else if w.kind = 2 ∧ s.grd.snapMode = .ready then
    ({ s with grd := { s.grd with snapMode := .storing } }, { w with data := some ((s.grd.snap.map Grid.snapBytes).getD []) })
  else (s, w)

/-- Sources that have completed hand over their objects. -/
def takeSources (s : State) : State :=
  let r := s.stk.writes.foldl (fun (acc : State × List StkWrite) w => let x := takeSource acc.1 w; (x.1, acc.2 ++ [x.2])) (s, [])
  { r.1 with stk := { r.1.stk with writes := r.2 } }

/-- STORE_OBJECT is refused: Stacks is not mounted (R138). -/
def refuses (s : State) : Bool := !up s

/-- STORE_OBJECT (R137): `extract` is the Ledger export of kind 0x03. -/
def store (kind port : Nat) (wait : Bool) (extract : List Byte) (s : State) : State :=
  let w : StkWrite :=
    { kind := kind, job := ctl s D.STK_CTRL_JOB, layer := State.layerNo s, unit := if kind = 1 then port else 0,
      data := if kind = 3 then some extract else none, frameNo := Img.cam s port D.CAM_FRAME_NO, wait := wait, held := 0, seq := none }
  if s.stk.mode ≠ .mounted then writeOver w (State.raiseOpen s 0x158 2)
  else takeSources { s with stk := { s.stk with writes := s.stk.writes ++ [w] } }

/-- The next SEQ of a key (R351). -/
def nextSeq (t : Store) (kind job layer unit : Nat) : Nat :=
  ((t.dir.objects.filter fun o => o.kind == kind && o.job == job && o.layer == layer && o.unit == unit).map fun o => o.seq).foldl max 0 + 1

/-- Object writes in progress are abandoned (R362, R364). -/
def abandon (s : State) : State :=
  let ws := s.stk.writes
  ws.foldl (fun s w => writeOver w s) { s with stk := { s.stk with writes := [] } }

/-! ### Staging (R354 to R357) -/

/-- A directory image keeps the layout of R354, its layers strictly ascending. -/
def dirOk (d : List Byte) : Bool :=
  let n := Arith.leAt d 8 4
  decide (Arith.leAt d 0 4 = 0x42444B53) && decide (Arith.leAt d 4 2 = 1) && Arith.zeroAt d 6 2 && Arith.zeroAt d 12 4 && decide (1 ≤ n) && decide (n ≤ 1048576) &&
    decide (d.length = 16 + 16 * n) && (List.range (n - 1)).all fun i => decide (Arith.leAt d (16 + 16 * i) 4 < Arith.leAt d (32 + 16 * i) 4)

/-- The layers of the present job: number and context mask. -/
def directory (s : State) : List (Nat × Nat) :=
  match s.stk.store with
  | none => []
  | some t =>
    match find t 0x10 (ctl s D.STK_CTRL_JOB) 0 0 0 with
    | none => []
    | some o => if dirOk o.data then (List.range (Arith.leAt o.data 8 4)).map fun i => (Arith.leAt o.data (16 + 16 * i) 4, Arith.leAt o.data (20 + 16 * i) 12) else []

/-- Stacks stages (R355). -/
def active (s : State) : Bool :=
  decide (ctl s D.STK_CTRL_JOB ≠ 0) && up s && (s.dev.mode == .ready || s.dev.mode.inBuild) && !s.stk.ejected

/-- The lower end of the staging window (R355). -/
def windowLo (s : State) : Nat := if s.dev.mode.inBuild then State.layerNo s else (State.rCat s D.iCAT_CTRL D.CAT_CTRL_FIRST_LAYER).toNat

/-- The upper end of the staging window. -/
def windowHi (s : State) : Nat := windowLo s + ctl s D.STK_CTRL_AHEAD

/-- The directory's layers in the window, ascending. -/
def windowLayers (s : State) : List (Nat × Nat) := (directory s).filter fun e => decide (windowLo s ≤ e.1) && decide (e.1 ≤ windowHi s)

/-- Layers staged in full into a context. -/
def stagedOf (s : State) (c : Nat) : List Nat := Tab.get (fun _ => []) s.stk.staged c

/-- The stream in progress of a context: layer, object, bytes delivered. -/
def progressOf (s : State) (c : Nat) : Option (Nat × Nat × Nat) := Tab.get (fun _ => none) s.stk.progress c

/-- A context holds a layer (R115, R355): whole, declared empty, or consumed. -/
def holds (s : State) (c layer : Nat) : Bool :=
  (State.ctxOf s c).whole.contains layer || (State.ctxOf s c).declared.contains layer || (State.ctxOf s c).doneLayer == some layer

/-- Contexts with FEED = STAGED. -/
def stagedContexts (s : State) : List Nat := (List.range 96).filter fun c => Feed.feedOf s c == 2

/-- What is still to stage in the window, in the order of R355: layer, context, whether a stream. -/
def todo (s : State) : List (Nat × Nat × Bool) :=
  (windowLayers s).flatMap fun e => ((stagedContexts s).filter fun c => !(stagedOf s c).contains e.1).map fun c => (e.1, c, Arith.bit e.2 c)

/-- A piece can go ahead (R355, R356): the context holds every earlier layer of the window, its staging is not stopped, and FREE takes data. -/
def canGo (s : State) (x : Nat × Nat × Bool) : Bool :=
  let earlier := (windowLayers s).filter fun e => decide (e.1 < x.1)
  earlier.all (fun e => holds s x.2.1 e.1) && decide (Tab.get (fun _ => none) s.stk.stopped x.2.1 ≠ some x.1) &&
    (!x.2.2 || decide (32 ≤ State.freeBytes s x.2.1))

/-- The next piece of staging (R355). -/
def next (s : State) : Option (Nat × Nat × Bool) := if active s then (todo s).find? (canGo s) else none

/-- Code of STK_STAGE.STATE (R368). -/
def stageCode (s : State) : Nat :=
  if !active s then 0 else if (todo s).isEmpty then 2 else if (next s).isSome then 1 else 3

/-- The stream of a context and layer, and the bytes of it that were delivered: the object in progress, or the one the directory holds now (R352). -/
def streamOf (s : State) (m c : Nat) : Option (StkObj × Nat) :=
  s.stk.store.bind fun t =>
    match progressOf s c with
    | some (k, id, off) => if k = m then (byId t id).map fun o => (o, off) else (find t 0x11 (ctl s D.STK_CTRL_JOB) m c 0).map fun o => (o, 0)
    | none => (find t 0x11 (ctl s D.STK_CTRL_JOB) m c 0).map fun o => (o, 0)

/-- BYTES_LEFT (R368). -/
def bytesLeft (s : State) : Nat :=
  if active s then ((todo s).map fun x => if x.2.2 then ((streamOf s x.1 x.2.1).map fun d => d.1.data.length - d.2).getD 0 else 0).sum else 0

/-- The staging reads that are queued, in the order of R355: layer, context, logical slab, target. -/
def queuedReads (s : State) : List (Nat × Nat × Nat × Nat) :=
  if active s then (todo s).flatMap fun x =>
    match streamOf s x.1 x.2.1 with
    | some (o, off) =>
      if x.2.2 && canGo s x then
        (o.slabs.drop (off / Nand.slabBytes)).filterMap fun l => (placeOf s l).map fun p => (x.1, x.2.1, l, Nand.targetOf s.stk.medium (Nand.blockOf s.stk.medium p))
      else []
    | none => []
  else []

/-- No staging read is queued on a channel (R358). -/
def quiet (s : State) (ch : Nat) : Bool := (queuedReads s).all fun r => r.2.2.2 / 4 != ch

/-- A program or an erase of priority 2 to 5 may be issued on a target (R359): it can be suspended, or nothing is being staged. -/
def mayProgram (s : State) (k : Nat) : Bool :=
  ((Nand.target s.stk.medium k).map fun t => t.suspend.isSome).getD false || stageCode s == 0 || stageCode s == 2

/-- The targets that priorities 3 to 5 may program now, in the order of rotation. -/
def openTargets (s : State) : List Nat := (Nand.rotation s.stk.medium).filter fun k => mayProgram s k && quiet s (k / 4)

/-- Layers whose staging begins in this tick (R368), and objects whose readers are over (R352). -/
def clock (s : State) : State :=
  let s := release s
  if active s then
    let begun := ((todo s).filter fun x => canGo s x && (Tab.find s.stk.timed x.1).isNone).map fun x => x.1
    if begun.isEmpty then s else { s with stk := { s.stk with timed := begun.foldl (fun t m => Tab.ins t m (s.tick, 0)) s.stk.timed } }
  else s

/-- A layer is staged in full into a context (R355); when it is the last, its time and rate are kept (R368). -/
def markStaged (m c : Nat) (s : State) : State :=
  let l := (stagedOf s c).filter (fun x => decide (windowLo s ≤ x)) ++ [m]
  let s := { s with stk := { s.stk with
    staged := Tab.set (fun _ => []) s.stk.staged c l, progress := Tab.set (fun _ => none) s.stk.progress c none } }
  match Tab.find s.stk.timed m with
  | some (t, bytes) =>
    if (todo s).all (fun x => decide (x.1 ≠ m)) then
      let ticks := max 1 (s.tick - t)
      let s := State.wStk s D.iSTK_STAGE D.STK_STAGE_LAYER_MS ((ticks / 2000 : Nat) : Int)
      State.wStk { s with stk := { s.stk with timed := Tab.del s.stk.timed m } } D.iSTK_STAGE D.STK_STAGE_RATE ((2 * bytes / ticks : Nat) : Int)
    else s
  | none => s

/-- Staging of a context and layer stops (R356). -/
def stop (m c kind : Nat) (s : State) : State :=
  State.raise { s with stk := { s.stk with
    stopped := Tab.set (fun _ => none) s.stk.stopped c (some m), progress := Tab.set (fun _ => none) s.stk.progress c none } }
    0x158 kind (c + 256 * (m % 2 ^ 24))

/-- The reads of a piece meet programs and erases (R359): each target found in one is suspended and counts a wait; the gap of every target read starts again. -/
def meet (waited targets : List Nat) (s : State) : State :=
  targets.eraseDups.foldl (fun s k =>
    let held := (Tab.find s.stk.suspended k).isSome
    let now := !held && waited.contains k && ((Nand.target s.stk.medium k).map fun t => t.suspend.isSome).getD false
    let s := if held || now then { s with stk := { s.stk with suspended := Tab.ins s.stk.suspended k s.tick } } else s
    if now then State.incStk s D.iSTK_STAGE D.STK_STAGE_WAITS 1 else s) s

/-- What ECC met on each channel (R360, R369). -/
def eccCounts (r : StageRead) (s : State) : State :=
  State.forAll (fun ch s => State.incStk (State.incStk s (D.iSTK_NF + ch) D.STK_NF_RETRIES ((r.retries.getD ch 0 : Nat) : Int)) (D.iSTK_NF + ch) D.STK_NF_CORRECTED
    ((r.corrected.getD ch 0 : Nat) : Int)) (List.range 8) s

/-- A read of a block stayed uncorrectable (R370): the channel reports it, and the block's data is to move. -/
def unreadable (b : Nat) (s : State) : State :=
  let ch := Nand.channelOf s.stk.medium b
  let s := State.incStk s (D.iSTK_NF + ch) D.STK_NF_UNCORR 1
  State.raise (modBlock b (fun x => { x with weak := true }) s) (0x150 + ch) 3 (Nand.address s.stk.medium b)

/-- STAGING_READ_COMPLETE (R355, R356, R359, R360): the read of the next piece ends, and what FREE takes of it enters the context. -/
def stageRead (r : StageRead) (s : State) : State :=
  match next s with
  | none => s
  | some (m, c, stream) =>
    if !stream then markStaged m c (Feed.declare c m s)
    else
      match streamOf s m c with
      | none => stop m c 5 s
      | some (o, off) =>
        let n := min (o.data.length - off) (State.freeBytes s c / 32 * 32)
        let read := covered s.stk.medium o off n
        let blocks := read.filterMap fun x => (placeOf s x.1).map (Nand.blockOf s.stk.medium)
        let s := eccCounts r (meet r.waited (blocks.map (Nand.targetOf s.stk.medium)) (countReads read s))
        match r.uncorrectable with
        | some i =>
          let s := match blocks[i % max 1 blocks.length]? with
            | some b => unreadable b s
            | none => s
          stop m c 4 s
        | none =>
          if r.crcBad then stop m c 4 s
          else
            let t := (Tab.find s.stk.timed m).getD (s.tick, 0)
            let s := { s with stk := { s.stk with timed := Tab.ins s.stk.timed m (t.1, t.2 + n) } }
            let s := Feed.staged c ((o.data.drop off).take n) s
            if o.data.length ≤ off + n then markStaged m c s
            else { s with stk := { s.stk with progress := Tab.set (fun _ => none) s.stk.progress c (some (m, o.id, off + n)) } }

/-- A context was flushed (R356): its staging starts again. -/
def flushed (c : Nat) (s : State) : State := State.restage s c

/-- A build ends (R355): a context stages again what it has consumed. -/
def buildOver (s : State) : State :=
  let n := State.layerNo s
  { s with stk := { s.stk with
    timed := []
    staged := (s.stk.staged.map fun e => (e.1, e.2.filter fun m =>
      (State.ctxOf s e.1).whole.contains m || (State.ctxOf s e.1).declared.contains m || (decide (n ≤ m) && (State.ctxOf s e.1).doneLayer != some m))).filter
        fun e => !e.2.isEmpty } }

/-- Another job is staged (R355). -/
def jobChanged (s : State) : State := { s with stk := { s.stk with staged := [], progress := [], stopped := [], timed := [] } }

/-! ### Writing, relocation, garbage collection (R349, R352, R358 to R362) -/

/-- The data of a block goes elsewhere, and the block is erased once the relocate record is written (R362). Nothing changes where no block is free. -/
def relocate (b : Nat) (s : State) : State :=
  match s.stk.store with
  | none => s
  | some t =>
    match Nand.moveOut (openTargets s) t.dir b s.stk.medium with
    | none => s
    | some (m, places) =>
      let s := if places.isEmpty then s else record (.relocate places) { s with stk := { s.stk with medium := m } }
      modMedium (fun m => Nand.erase m b) s

/-- A garbage collection (R360). -/
def collect (s : State) : State :=
  match s.stk.store with
  | none => s
  | some t =>
    match Nand.victim s.stk.medium t.dir (openTargets s) with
    | some b => relocate b s
    | none => s

/-- Urgent garbage collection (R358): free blocks lie below 1 % of the good ones. -/
def urgent (s : State) : Bool := Nand.below 1 s.stk.medium (retired s)

/-- Garbage collections until it is no longer urgent, at most one for each block in use. -/
def makeRoom (s : State) : State := s.stk.medium.blocks.foldl (fun s _ => if urgent s then collect s else s) s

/-- The targets that an object of `n` bytes would be written to next (R349). -/
def writeTargets (s : State) (n : Nat) : List Nat :=
  match s.stk.store with
  | none => []
  | some t => if n = 0 then [] else (Nand.from_ (Nand.rotation s.stk.medium) (Config.firstSlab t.dir.nextId)).take (Nand.slabs n)

/-- A write waits (R358, R359): a staging read is queued on one of its channels, or one of its targets cannot be suspended while a layer is staged. -/
def barred (s : State) (n : Nat) : Bool := (writeTargets s n).any fun k => !mayProgram s k || !quiet s (k / 4)

/-- Program and commit an object (R352, R362): it replaces the one with its key. -/
def commit (kind job layer unit seq : Nat) (data : List Byte) (s : State) : State :=
  let s := if data.isEmpty then s else makeRoom s
  match s.stk.store with
  | none => s
  | some t =>
    let n := Nand.slabs data.length
    match Nand.placeAll t.dir.retired (Nand.rotation s.stk.medium) n (Config.firstSlab t.dir.nextId) s.stk.medium with
    | none => State.raiseOpen s 0x158 2
    | some (m, places) =>
      let o : StkObj := ⟨kind, job, layer, unit, seq, t.dir.nextId, s.ldg.opTime, data, Nand.freeLogical t.dir n⟩
      record (.commit o (o.slabs.zip places)) { s with stk := { s.stk with medium := Nand.pad m places.getLast? } }

/-- A successful BLOB_END of STK_OBJ_DATA on path `p` (R353): commits, waits for its targets (R358, R359), or STORE_FULL. -/
def hostWrite (p : Nat) (data : List Byte) (s : State) : State :=
  let k := sel s p
  if full s data.length then State.raiseOpen s 0x158 2
  else if barred s data.length then
    { s with stk := { s.stk with writes := s.stk.writes ++ [⟨k D.STK_OBJ_KIND, k D.STK_OBJ_JOB, k D.STK_OBJ_LAYER, k D.STK_OBJ_UNIT, some data, 0, false, 0,
      some (k D.STK_OBJ_SEQ)⟩] } }
  else commit (k D.STK_OBJ_KIND) (k D.STK_OBJ_JOB) (k D.STK_OBJ_LAYER) (k D.STK_OBJ_UNIT) (k D.STK_OBJ_SEQ) data s

/-- The writes whose data is complete. -/
def complete (s : State) : List StkWrite := s.stk.writes.filter fun w => w.data.isSome

/-- OBJECT_COMMIT (R352): the commit record of one of the writes whose data is complete. -/
def objectCommit (which : Nat) (s : State) : State :=
  let s := takeSources s
  match (complete s)[which]? with
  | none => s
  | some w =>
    let data := w.data.getD []
    if s.stk.ejected || barred s data.length then s
    else
      let s := { s with stk := { s.stk with writes := s.stk.writes.erase w } }
      if full s data.length then writeOver w (State.raiseOpen s 0x158 2)
      else
        let seq := w.seq.getD ((s.stk.store.map fun t => nextSeq t w.kind w.job w.layer w.unit).getD 1)
        writeOver w (commit w.kind w.job w.layer w.unit seq data s)

/-! ### The states of the store (R363, R364) -/

/-- A channel or Stacks holds fault status. -/
def held (s : State) : Bool := (State.holdsStatus s 0x158) || (List.range 8).any fun c => State.holdsStatus s (0x150 + c)

/-- MOUNT is taken (R362, R364). -/
def canMount (s : State) : Bool :=
  !s.stk.ejected && (s.stk.mode == .absent || ((s.stk.mode == .fenced || s.stk.mode == .failed) && !held s))

/-- MOUNT (R364). -/
def mount (s : State) : State := if canMount s then { s with stk := { s.stk with mode := .mounting, timeouts := [] } } else s

/-- FORMAT is taken (R362, R364). -/
def canFormat (s : State) : Bool :=
  !s.stk.ejected && s.dev.mode == .service && (up s || s.stk.mode == .unformatted || s.stk.mode == .failed)

/-- FORMAT (R350, R364): every object is lost; the new identity and the bytes of journal and checkpoint blocks are free values. NAND that R347 turns away is
left as it is. -/
def format (s : State) : State :=
  if canFormat s then
    let s := abandon s
    let bad := retired s
    let id := State.freeVal s % 2 ^ 64
    let s := State.draw s
    let area := State.freeVal s
    let s := State.draw s
    let s := if (Nand.unsupported s.stk.medium).isNone then modMedium (fun m => (Nand.format id area bad m).1) s else s
    { s with stk := { s.stk with
      mode := .mounting, formatting := true, store := none, timeouts := [], staged := [], progress := [], stopped := [], timed := [], readers := [] } }
  else s

/-- UNMOUNT is taken (R362, R364). -/
def canUnmount (s : State) : Bool := !s.stk.ejected && up s && !s.dev.mode.inBuild

/-- UNMOUNT (R361, R364). -/
def unmount (s : State) : State := if canUnmount s then enter .absent (checkpoint (abandon s)) else s

/-- DELETE of the object that path `p` has selected is taken (R352, R362). -/
def canDelete (s : State) (p : Nat) : Bool :=
  let inWindow := decide (sel s p D.STK_OBJ_KIND = 0x11) && decide (ctl s D.STK_CTRL_JOB ≠ 0) &&
    decide (sel s p D.STK_OBJ_JOB = ctl s D.STK_CTRL_JOB) && decide (windowLo s ≤ sel s p D.STK_OBJ_LAYER) && decide (sel s p D.STK_OBJ_LAYER ≤ windowHi s)
  !s.stk.ejected && up s && !inWindow

/-- DELETE (R352). -/
def delete (p : Nat) (s : State) : State :=
  if canDelete s p then
    match selected s p with
    | some o => settle (record (.delete o.id) s)
    | none => s
  else s

/-- A mount fails (R364). -/
def mountFails (s : State) : State := { s with stk := { s.stk with mode := .failed, store := none } }

/-- MOUNT_COMPLETE (R363, R364): the NAND is checked, and the store it holds is loaded. -/
def mountComplete (r : MountEnd) (s : State) : State :=
  if s.stk.mode ≠ .mounting then s
  else
    let m := if s.stk.formatting then s.stk.medium else r.found.getD s.stk.medium
    let s := State.wStk { s with stk := { s.stk with medium := m, shown := true, formatting := false } } D.iSTK_STATUS D.STK_STATUS_MOUNT_MS (r.ms : Int)
    match Nand.unsupported m with
    | some ch => State.raiseOpen (State.raiseOpen (mountFails s) (0x150 + ch) 5) 0x158 1
    | none =>
      match Nand.load m with
      | .unformatted => { s with stk := { s.stk with mode := .unformatted, store := none } }
      | .failed k => State.raise (mountFails s) 0x158 1 k
      | .store id area dir seq len discarded m =>
        let s := { s with stk := { s.stk with medium := m, mode := .mounted, store := some ⟨id, area, dir, seq, len, []⟩ } }
        let s := State.wStk s D.iSTK_STATUS D.STK_STATUS_DISCARDED (discarded : Int)
        settle (if discarded = 0 then s else State.raise s 0x158 6 discarded)

/-- A 0x158 or channel ERROR was not handled in time (R370). -/
def fence (s : State) : State := if up s then enter .fenced (abandon s) else s

/-- The images that paths write to STK_OBJ_DATA are dropped (R362). -/
def dropUploads (s : State) : State :=
  { s with txn := { s.txn with paths := s.txn.paths.map fun p =>
    (p.1, { p.2 with upload := p.2.upload.filter fun u => u.idx != D.iSTK_OBJ }) } }

/-- EJECT_REQ (R361, R362): operations in flight are over, object writes are abandoned, and a checkpoint is written. -/
def eject (s : State) : State :=
  let s := dropUploads (abandon s)
  let s := if up s then checkpoint s else s
  { s with stk := { s.stk with ejected := true } }

/-- What the NAND holds after a loss of power (R362): an object that was being written has no commit record. -/
def powerCut (s : State) : Nat × Medium :=
  let uploads := s.txn.paths.filter fun p => (p.2.upload.map fun u => u.idx == D.iSTK_OBJ && !u.data.isEmpty).getD false
  let n := if s.stk.mode = .mounted then (complete s).length + uploads.length else 0
  (n, Nand.cut n (State.freeVal s) s.stk.medium)

/-! ### Media care (R359, R360, R370) -/

/-- A block of channel `ch` is retired (R360); `kind` 1 after a program, 2 after an erase. Its data is reprogrammed elsewhere before that. -/
def retire (kind ch block : Nat) (s : State) : State :=
  if 8 ≤ ch then s
  else
    let b := 4 * ch * Nand.perTarget s.stk.medium + block
    let s := State.raise s (0x150 + ch) kind block
    match s.stk.store with
    | none => s
    | some t =>
      if 4 * Nand.perTarget s.stk.medium ≤ block ∨ Nand.bad s.stk.medium t.dir.retired b then s
      else
        let s := match Nand.moveOut (Nand.rotation s.stk.medium) t.dir b s.stk.medium with
          | some (m, places) => if places.isEmpty then s else record (.relocate places) { s with stk := { s.stk with medium := m } }
          | none => s
        settle (record (.retire b) s)

/-- TARGET_TIMEOUT (R370): the target is reset; a second one on it sets the store FAILED. -/
def targetTimeout (ch target block : Nat) (s : State) : State :=
  if 8 ≤ ch ∨ 4 ≤ target then s
  else
    let k := 4 * ch + target
    let again := s.stk.timeouts.contains k
    let s := State.raise { s with stk := { s.stk with suspended := Tab.del s.stk.suspended k } } (0x150 + ch) 4 block
    if again ∧ up s then enter .failed (abandon s)
    else { s with stk := { s.stk with timeouts := if again then s.stk.timeouts else s.stk.timeouts ++ [k] } }

/-- SUSPEND_RESUME (R359): no staging read was queued for the target for RESUME_GAP, or the window is COMPLETE. -/
def suspendResume (ch target : Nat) (s : State) : State :=
  let k := 4 * ch + target
  match Tab.find s.stk.suspended k with
  | some t =>
    if (t + 2 * ctl s D.STK_CTRL_RESUME_GAP ≤ s.tick ∧ (queuedReads s).all fun r => r.2.2.2 != k) ∨ stageCode s = 2 then
      { s with stk := { s.stk with suspended := Tab.del s.stk.suspended k } }
    else s
  | none => s

/-- Background work may be issued (R358): BG_BUDGET of 0 leaves it no bus time. -/
def background (s : State) : Bool := up s && !s.stk.ejected && decide (ctl s D.STK_CTRL_BG_BUDGET ≠ 0)

/-- RETENTION_HOURS in 2^-16 minutes. -/
def retention (s : State) : Nat := ctl s D.STK_CTRL_RETENTION_HOURS * 60 * 65536

/-- A block holds data. -/
def dataBlock (s : State) (b : Nat) : Bool :=
  (s.stk.store.map fun t => !(Nand.validIn s.stk.medium t.dir b).isEmpty && !Nand.bad s.stk.medium t.dir.retired b).getD false

/-- A block's data is to be relocated (R360): retention, read disturb, static wear levelling, or a weak or uncorrectable read. -/
def due (s : State) (b : Nat) : Bool :=
  let x := Nand.block s.stk.medium b
  let rated := ((Nand.target s.stk.medium (Nand.targetOf s.stk.medium b)).map fun t => t.endurance).getD 0
  dataBlock s b && (x.weak || decide (retention s ≤ x.age) || decide (ctl s D.STK_CTRL_RD_LIMIT ≤ x.reads) ||
    decide (rated < 20 * (Nand.eraseMax s.stk.medium (retired s) (Nand.channelOf s.stk.medium b) - x.erases)))

/-- A block is to be patrolled (R360): once per RETENTION_HOURS ÷ 8 of equivalent age. -/
def patrolDue (s : State) (b : Nat) : Bool :=
  let x := Nand.block s.stk.medium b
  dataBlock s b && decide (retention s ≤ 8 * (x.age - x.patrolled))

/-- The read levels of a target are to be calibrated (R360): its temperature has moved by more than CAL_DELTA_T since its last run. -/
def calibrationDue (s : State) (k : Nat) : Bool :=
  match Tab.find s.stk.temps k, Tab.find s.stk.calibrated k with
  | some t, some c => decide (16 * ctl s D.STK_CTRL_CAL_DELTA_T < (t - c).natAbs)
  | some _, none => true
  | none, _ => false

/-- Garbage collection is due in the background (R360). -/
def collectDue (s : State) : Bool := Nand.below 2 s.stk.medium (retired s)

/-- Background work ends (R358, R360): what was not due, or could not be issued, did not run. -/
def care (w : CareWork) (s : State) : State :=
  if !background s then s
  else
    let m := s.stk.medium
    match w with
    | .relocate b => if due s b && (openTargets s).contains (Nand.targetOf m b) then relocate b s else s
    | .patrol b weak =>
      if patrolDue s b && quiet s (Nand.channelOf m b) then
        modBlock b (fun x => { x with patrolled := x.age, reads := x.reads + Nand.blockBytes m / max 1 (Nand.pageBytes m), weak := x.weak || weak }) s
      else s
    | .calibrate k =>
      if calibrationDue s k && quiet s (k / 4) then
        { s with stk := { s.stk with calibrated := Tab.ins s.stk.calibrated k ((Tab.find s.stk.temps k).getD 0) } }
      else s
    | .collect => if collectDue s then collect s else s

/-! ### What waits on a channel (R358) -/

/-- The work of a channel (R358). -/
inductive Work where
  | staging (layer ctx slab : Nat)
  | hostRead (path : Nat)
  | urgentCollection
  | write (kind job layer unit : Nat)
  | relocation (block : Nat)
  | patrol (block : Nat)
  | calibration (target : Nat)
  | collection
deriving DecidableEq, Repr

/-- The priority of a work (R358): 1 is served first. Records and checkpoints, of priority 2, are written with the change they record and never wait. -/
def priority : Work → Nat
  | .staging _ _ _ => 1
  | .hostRead _ | .urgentCollection => 3
  | .write _ _ _ _ => 4
  | .relocation _ | .patrol _ | .calibration _ | .collection => 5

/-- The background work that is due on a channel. -/
def backgroundOn (s : State) (ch : Nat) : List Work :=
  let m := s.stk.medium
  let mine := (m.blocks.map fun e => e.1).filter fun b => Nand.channelOf m b == ch
  ((mine.filter (due s)).map .relocation) ++ ((mine.filter (patrolDue s)).map .patrol) ++
    (((Nand.onChannel m ch).filter fun e => calibrationDue s e.1).map fun e => .calibration e.1) ++ (if collectDue s && !urgent s then [.collection] else [])

/-- The queue of a channel (R358), in the order in which it is served: background work issues nothing while a staging read waits. -/
def queueOf (s : State) (ch : Nat) : List Work :=
  let reads := ((queuedReads s).filter fun r => r.2.2.2 / 4 == ch).map fun r => Work.staging r.1 r.2.1 r.2.2.1
  reads ++
    ((s.stk.readers.filter fun r => ((s.stk.store.bind fun t => byId t r.2).map fun o =>
      o.slabs.any fun l => ((placeOf s l).map fun p => Nand.channelOf s.stk.medium (Nand.blockOf s.stk.medium p)) == some ch).getD false).map fun r => .hostRead r.1) ++
    (if s.stk.store.isSome && urgent s then [.urgentCollection] else []) ++
    (((complete s).filter fun w => (writeTargets s (w.data.getD []).length).any fun k => k / 4 == ch).map fun w => .write w.kind w.job w.layer w.unit) ++
    (if reads.isEmpty && background s then backgroundOn s ch else [])

/-! ### Retention (R360) -/

/-- The growth of the equivalent age in one minute at θ / 16 °C, in 2^-16 minutes (R360): 2^16 · 2^((θ/16 − 40)/10), rounded down. -/
def ageStep (theta : Int) : Nat :=
  let e := theta - 640 + 2560
  let under := fun (g : Nat) => if 0 ≤ e then decide (g ^ 160 ≤ 2 ^ e.toNat) else decide (g = 0)
  (List.range 48).reverse.foldl (fun g i => if under (g + 2 ^ i) then g + 2 ^ i else g) 0

/-- Every block that was programmed grows older by a minute; `board` stands for a target that reports no temperature. -/
def grow (temps : List (Option Int)) (board : Int) (m : Medium) : Medium :=
  { m with blocks := m.blocks.map fun e =>
    (e.1, if e.2.top = 0 then e.2 else { e.2 with age := e.2.age + ageStep ((temps.getD (Nand.targetOf m e.1) none).getD board) }) }

/-- RETENTION_AGE (R360): blocks grow older by a minute at the temperature of each target in 1/16 °C, the care that ended in the minute is done, and a block
that reaches 1.5 × RETENTION_HOURS unrelocated is reported. -/
def retentionAge (temps : List (Option Int)) (done : List CareWork) (board : Int) (s : State) : State :=
  let limit := retention s
  let young := (s.stk.medium.blocks.filter fun e => decide (2 * e.2.age < 3 * limit)).map fun e => e.1
  let reported := temps.zipIdx.filterMap fun x => x.1.map fun t => (x.2, t)
  let s := modMedium (grow temps board) { s with stk := { s.stk with temps := reported.foldl (fun m x => Tab.ins m x.1 x.2) s.stk.temps } }
  let s := done.foldl (fun s w => care w s) s
  let late := young.countP fun b => decide (3 * limit ≤ 2 * (Nand.block s.stk.medium b).age)
  (List.range late).foldl (fun s _ => State.raiseOpen s 0x158 7) s

end Sys2Proof.Machine.Stk
end

