-- ==== Sys2Proof/Machine/Thermal.lean ====
section
/-!
DEFINITION. Temperature and calibration (20_temperature_calibration.md): readings, limits and rates, broken sensors, calibration values and runs.
What the rules leave to the model: log entries 44 and 45.
-/
namespace Sys2Proof.Machine

/-- A sensor that has given no reading yet (log entry 2). -/
def Sensor.init : Sensor := ⟨0, 0, 0, false⟩

namespace Cal

/-- GAIN 2^30 and OFFSET 0 (R471). -/
def unit : Int × Int := (1073741824, 0)

/-- The GAIN and OFFSET of an entry (R471). -/
def entry (v : CalSet) (i : Nat) : Int × Int :=
  match v with
  | .factory =>
    let b := (List.range 8).map fun k => Config.calFactory (8 * i + k)
    (Arith.leIntAt b 0 4, Arith.leIntAt b 4 4)
  | .unity => unit
  | .entries l => l.getD i unit

/-- A raw value corrected by an entry (R471), not yet clamped to a code range. -/
def correctRaw (v : CalSet) (i : Nat) (raw : Rat) : Int :=
  let e := entry v i
  Arith.ratRound (raw * (e.1 : Rat) / 1073741824 + (e.2 : Rat) / 256)

/-- A U16 code corrected by an entry (R471). -/
def correct (v : CalSet) (i raw : Nat) : Nat := (Arith.clamp 0 65535 (correctRaw v i raw)).toNat

/-- The bytes of a set (R471). -/
def bytes (v : CalSet) : List Byte := (List.range 104).flatMap fun i => let e := entry v i; Arith.intLe 4 e.1 ++ Arith.intLe 4 e.2

/-- The set that 832 bytes spell. -/
def ofBytes (b : List Byte) : CalSet := .entries ((List.range 104).map fun i => (Arith.leIntAt b (8 * i) 4, Arith.leIntAt b (8 * i + 4) 4))

/-- The two ideal codes of an entry's loopback points (R469): AIN, AOUT, lamps. -/
def ideal (i : Nat) : Rat × Rat := if i < 24 then (0, 314568 / 5) else if i < 48 then (0x0800, 0xF800) else (200, 3200)

/-- GAIN and OFFSET from the raw codes of the two points (R469, R471): the line through them. -/
def fit (i : Nat) (raw : Int × Int) : Int × Int :=
  let d := ideal i
  if raw.1 = raw.2 then (0, 0)
  else
    let g : Rat := (d.2 - d.1) / ((raw.2 - raw.1 : Int) : Rat)
    (Arith.ratRound (g * 1073741824), Arith.ratRound ((d.1 - (raw.1 : Rat) * g) * 256))

/-- A result lies within the limits of R469. -/
def within (i : Nat) (e : Int × Int) : Bool :=
  decide (1020054733 ≤ e.1) && decide (e.1 ≤ 1127428915) && decide (e.2.natAbs ≤ if i < 64 then 167680 else 20480)

end Cal

namespace Tmp

/-- Sensor `i`. -/
def sensor (s : State) (i : Nat) : Sensor := Tab.get (fun _ => Sensor.init) s.tmp.sensors i

/-- Change sensor `i`. -/
def modSensor (s : State) (i : Nat) (f : Sensor → Sensor) : State :=
  { s with tmp := { s.tmp with sensors := Tab.set (fun _ => Sensor.init) s.tmp.sensors i (f (sensor s i)) } }

/-- Sensor `i` is excluded (R465). -/
def excluded (s : State) (i : Nat) : Bool := Arith.bit (State.rTmp s D.iTMP D.TMP_EXCLUDE).toNat i

/-- The sensors of a group that are not excluded: die 0 to 31, module 32 to 39. -/
def group (s : State) (die : Bool) : List Nat :=
  (if die then List.range 32 else Arith.rangeFrom 32 8).filter fun i => !excluded s i

/-- The hottest sensor of a list, the lowest-numbered of equals. -/
def hottest (s : State) : List Nat → Option Nat
  | [] => none
  | i :: l => match hottest s l with
    | none => some i
    | some j => if (sensor s j).reading ≤ (sensor s i).reading then some i else some j

/-- Tj (R461). -/
def tj (s : State) : Int := ((hottest s (group s true)).map fun i => (sensor s i).reading).getD 0

/-- Tm (R461). -/
def tm (s : State) : Int := ((hottest s (group s false)).map fun i => (sensor s i).reading).getD 0

/-- A temperature event (R474): the hottest sensor of the group and its reading. -/
def say (s : State) (die : Bool) (kind : Nat) : State :=
  let i := (hottest s (group s die)).getD 0
  State.raise s 0x190 kind (i + 65536 * Arith.toUnsigned 16 (sensor s i).reading)

/-- Count a condition that begins. -/
def begins (s : State) : State := State.incTmp s D.iTMP D.TMP_EVENTS 1

/-- Whether a condition is present (R462): it begins at its limit and ends below RELEASE. -/
def present (was : Bool) (t limit release : Int) : Bool := decide (limit ≤ t) || (was && decide (release ≤ t))

/-- The temperature limits are armed from the end of start-up step 1c on (R465, R499). -/
def armed (s : State) : Bool :=
  match s.pwr.boot with
  | some .rails => false | some .firmware => false | some .config => false
  | _ => true

/-- The limits of R462 on the present Tj and Tm. -/
def limits (s : State) : State :=
  if !armed s then s else
  let a := tj s
  let b := tm s
  let wd := present s.tmp.warnDie a 1520 1360
  let cd := present s.tmp.critDie a 1760 1360
  let wm := present s.tmp.warnMod b 1280 1120
  let cm := present s.tmp.critMod b 1440 1120
  let o := s.tmp
  let s := { s with tmp := { s.tmp with warnDie := wd, critDie := cd, warnMod := wm, critMod := cm } }
  let s := if wd && !o.warnDie then say (begins s) true 1 else s
  let s := if cd && !o.critDie then say (begins s) true 2 else s
  let s := if wm && !o.warnMod then say (begins s) false 1 else s
  let s := if cm && !o.critMod then say (begins s) false 2 else s
  if 1920 ≤ a ∧ s.dev.mode ≠ .thermalOff ∧ !(s.raised.any fun m => m.src == 0x190 && m.kind == 6) then say s true 6 else s

/-! ### Calibration runs (R469, R470) -/

/-- The device writes VALUES (R471): in force at once, and into the older copy. -/
def writeValues (v : CalSet) (s : State) : State :=
  { s with tmp := { s.tmp with values := v, older := s.tmp.newer, newer := some v } }

/-- A run begins (R470); one asked for during a run waits for its end. -/
def startRun (k : CalKind) (s : State) : State :=
  if s.tmp.run.isSome then { s with tmp := { s.tmp with again := some k, deferred := false } }
  else
    let s := { s with tmp := { s.tmp with run := some k, unsettled := [], deferred := false } }
    let s := State.wTmp (State.wTmp s D.iCAL D.CAL_FAIL_A 0) D.iCAL D.CAL_FAIL_B 0
    if s.dev.mode.inBuild then { s with cat := { s.cat with calHold := true } } else s

/-- Tj has moved from CAL_LAST_TEMP by more than CAL_DELTA_T (R470). -/
def moved (s : State) : Bool := decide ((State.rTmp s D.iCAL D.CAL_DELTA_T) < (tj s - State.rTmp s D.iCAL D.CAL_LAST_TEMP).natAbs)

/-- The temperature trigger (R470): a run when Tj moves out of CAL_DELTA_T; one that a build put off and that met no boundary runs once the build is over. -/
def trigger (s : State) : State :=
  let falls := moved s && !s.tmp.exceeds
  let s' := { s with tmp := { s.tmp with exceeds := moved s } }
  match s.dev.mode with
  | .building => if falls then { s' with tmp := { s'.tmp with deferred := true } } else s'
  | .paused => if falls then { s' with tmp := { s'.tmp with deferred := true } } else s'
  | .service => if falls || s.tmp.deferred then startRun .temperature s' else s'
  | .ready => if falls || s.tmp.deferred then startRun .temperature s' else s'
  | .safe => if falls || s.tmp.deferred then startRun .temperature s' else s'
  | _ => s

/-- A run that waited for a layer boundary begins (R470). -/
def atBoundary (s : State) : State := if s.tmp.deferred then startRun .temperature s else s

/-- Set the FAIL bit of an entry. -/
def failBit (i : Nat) (s : State) : State :=
  let sub := if i < 64 then D.CAL_FAIL_A else D.CAL_FAIL_B
  State.wTmp s D.iCAL sub ((Arith.setBit (State.rTmp s D.iCAL sub).toNat (i % 64) true : Nat) : Int)

/-- CAL_POINT_TIMEOUT (R469). -/
def pointTimeout (i : Nat) (s : State) : State :=
  if s.tmp.run.isSome ∧ i < 104 then
    State.raise (failBit i { s with tmp := { s.tmp with unsettled := i :: s.tmp.unsettled } }) 0x198 1 i
  else s

/-- The Catalogue issues again (R470). -/
def resumeIssue (s : State) : State := { s with cat := { s.cat with calHold := false } }

/-- The results of a run (R469): raw codes of the two points for entries 0 to 63, GAIN and OFFSET for the sensors. -/
def results (points : List (Int × Int)) : List (Nat × Int × Int) := points.zipIdx.map fun p => (p.2, if p.2 < 64 then Cal.fit p.2 p.1 else p.1)

/-- CAL_RUN_END (R469 to R471): MEASURED is filled; VALUES is written when the run may; a trigger that fell during the run is taken. -/
def runEnd (points : List (Int × Int)) (s : State) : State :=
  match s.tmp.run with
  | none => s
  | some k =>
    let good := (results (points.take 104)).filter fun r => !s.tmp.unsettled.contains r.1
    let s := { s with tmp := { s.tmp with run := none, measured := good.foldl (fun m r => Tab.set (fun _ => Cal.unit) m r.1 r.2) s.tmp.measured } }
    let bad := good.filter fun r => !Cal.within r.1 r.2
    let s := bad.foldl (fun s r => State.raise (failBit r.1 s) 0x198 2 r.1) s
    let s :=
      if k = .manual ∨ State.rTmp s D.iCAL D.CAL_AUTO = 1 then
        let old := s.tmp.values
        let v := CalSet.entries ((List.range 104).map fun i =>
          match good.find? fun r => r.1 == i && Cal.within r.1 r.2 with | some r => r.2 | none => Cal.entry old i)
        let s := State.incTmp (writeValues v s) D.iCAL D.CAL_COUNT 1
        let s := State.wTmp s D.iCAL D.CAL_LAST_OP_TIME (s.ldg.opTime : Int)
        State.wTmp (State.wTmp s D.iCAL D.CAL_LAST_NETCLK ((s.net.clk / 2 ^ 32 : Nat) : Int)) D.iCAL D.CAL_LAST_TEMP (tj s)
      else s
    let s := resumeIssue s
    match s.tmp.again with
    | some k => startRun k { s with tmp := { s.tmp with again := none } }
    | none => s

/-- Entry to SAFE or THERMAL_OFF abandons a run (R470). -/
def abandonRun (s : State) : State := { s with tmp := { s.tmp with run := none, unsettled := [], deferred := false, exceeds := false, again := none } }

/-- A manual run is accepted (R470). -/
def runOk (s : State) : Bool := s.dev.mode == .service

/-- CAL_RUN (R470). -/
def cmdRun (s : State) : State := if runOk s then startRun .manual s else s

/-! ### Readings (R460, R464) -/

/-- SENSOR_READING (R460 to R464, R470): the count of one window of sensor `i`. -/
def reading (i n : Nat) (s : State) : State :=
  if 40 ≤ i then s
  else
    let x := sensor s i
    let same := if x.count = n then x.same + 1 else 1
    let nom := Config.tNom n
    let broken := decide (nom < -880) || decide (2800 < nom) || decide (16 ≤ same)
    let t : Int := if broken then 2400 else Cal.correctRaw s.tmp.values (64 + i) nom
    let s := modSensor s i fun _ => ⟨t, n, same, broken⟩
    let s := if broken && !x.broken then State.raise s 0x190 5 (i + 65536 * Arith.toUnsigned 16 t) else s
    let s := { s with tmp := { s.tmp with maxSeen := max s.tmp.maxSeen (tj s) } }
    trigger (limits s)

/-- RATE_CHECK (R463), every 100 ms. -/
def rateCheck (s : State) : State :=
  let t := tj s
  match (s.tmp.hist[9]?).filter fun _ => armed s with
  | none => { s with tmp := { s.tmp with hist := (t :: s.tmp.hist).take 10 } }
  | some old =>
    let r := t - old
    let cw := if r ≤ 80 then s.tmp.calmWarn + 1 else 0
    let cc := if r ≤ 240 then s.tmp.calmCrit + 1 else 0
    let w := decide (80 < r) || (s.tmp.rateWarn && decide (cw < 10))
    let c := decide (240 < r) || (s.tmp.rateCrit && decide (cc < 10))
    let o := s.tmp
    let s := { s with tmp := { s.tmp with hist := (t :: s.tmp.hist).take 10, calmWarn := cw, calmCrit := cc, rateWarn := w, rateCrit := c } }
    let s := State.wTmp s D.iTMP D.TMP_RATE (Arith.clamp (-32768) 32767 r)
    let s := if w && !o.rateWarn then say (begins s) true 3 else s
    if c && !o.rateCrit then say (begins s) true 4 else s

/-- A condition of source 0x190 is present (R442, R462). -/
def live (s : State) : Bool := s.tmp.warnDie || s.tmp.critDie || s.tmp.warnMod || s.tmp.critMod || s.tmp.rateWarn || s.tmp.rateCrit

/-- A set of exclusions keeps the bounds of R465. -/
def excludeOk (v : Nat) : Bool :=
  decide (v < 2 ^ 40) && decide (((List.range 32).countP fun i => Arith.bit v i) ≤ 8) && decide (((Arith.rangeFrom 32 8).countP fun i => Arith.bit v i) ≤ 4)

/-- TMP_STATUS (R472) without SHUTDOWN_SEEN. -/
def statusWord (s : State) : Nat :=
  let b := fun (c : Bool) (i : Nat) => if c then 2 ^ i else 0
  b (s.tmp.warnDie || s.tmp.warnMod) 0 + b s.tmp.critDie 1 + b s.tmp.critMod 2 + b s.tmp.rateWarn 3 + b s.tmp.rateCrit 4 +
    b ((List.range 40).any fun i => (sensor s i).broken && !excluded s i) 5

end Tmp

end Sys2Proof.Machine
end

