-- ==== Sys2Proof/Machine/Read.lean ====
section
/-!
DEFINITION. Reading the object dictionary: the register file of each block, and the entries whose value the chapters give as the present state of
a unit (02_dictionary.md R32 to R34, R57, and the record tables of the chapters).
-/
namespace Sys2Proof.Machine

/-- The blocks that hold register files. -/
inductive Blk where
  | dev | txn | pwr | ctx | cat | trj | lnd | mpl | grd | lnk | att | img | ilm | fol | stk | ax | net | tmp | flt | ldg
deriving DecidableEq, Repr

namespace Dict

/-- The block that holds an index (R34). -/
def blkOf (idx : Nat) : Option Blk :=
  if decide (0x1000 ≤ idx) && decide (idx ≤ 0x10FF) then some .dev else
  if decide (0x1100 ≤ idx) && decide (idx ≤ 0x11FF) then some .txn else
  if decide (0x1200 ≤ idx) && decide (idx ≤ 0x13FF) then some .pwr else
  if decide (0x2000 ≤ idx) && decide (idx ≤ 0x205F) then some .ctx else
  if decide (0x2200 ≤ idx) && decide (idx ≤ 0x23FF) then some .cat else
  if decide (0x2400 ≤ idx) && decide (idx ≤ 0x25FF) then some .trj else
  if decide (0x2600 ≤ idx) && decide (idx ≤ 0x26FF) then some .lnd else
  if decide (0x2700 ≤ idx) && decide (idx ≤ 0x27FF) then some .mpl else
  if decide (0x2800 ≤ idx) && decide (idx ≤ 0x28FF) then some .grd else
  if decide (0x2900 ≤ idx) && decide (idx ≤ 0x29FF) then some .trj else
  if decide (0x3000 ≤ idx) && decide (idx ≤ 0x30FF) then some .lnk else
  if decide (0x3100 ≤ idx) && decide (idx ≤ 0x31FF) then some .att else
  if decide (0x3200 ≤ idx) && decide (idx ≤ 0x32FF) then some .img else
  if decide (0x3300 ≤ idx) && decide (idx ≤ 0x33FF) then some .ilm else
  if decide (0x3400 ≤ idx) && decide (idx ≤ 0x34FF) then some .fol else
  if decide (0x3500 ≤ idx) && decide (idx ≤ 0x35FF) then some .stk else
  if decide (0x3600 ≤ idx) && decide (idx ≤ 0x36FF) then some .ax else
  if decide (0x3700 ≤ idx) && decide (idx ≤ 0x37FF) then some .net else
  if decide (0x3800 ≤ idx) && decide (idx ≤ 0x39FF) then some .tmp else
  if decide (0x4000 ≤ idx) && decide (idx ≤ 0x40FF) then some .flt else
  if decide (0x4100 ≤ idx) && decide (idx ≤ 0x41FF) then some .ldg else
  none

/-- The rows of a block. -/
def rowsOf : Blk → List Row
  | .dev => devRows
  | .txn => txnRows
  | .pwr => pwrRows
  | .ctx => ctxRows
  | .cat => catRows
  | .trj => trjRows
  | .lnd => lndRows
  | .mpl => mplRows
  | .grd => grdRows
  | .lnk => lnkRows
  | .att => attRows
  | .img => imgRows
  | .ilm => ilmRows
  | .fol => folRows
  | .stk => stkRows
  | .ax => axRows
  | .net => netRows
  | .tmp => tmpRows
  | .flt => fltRows
  | .ldg => ldgRows

end Dict

namespace State

/-- The register file of a block. -/
def regsOf (s : State) : Blk → Regs
  | .dev => s.dev.regs
  | .txn => s.txn.regs
  | .pwr => s.pwr.regs
  | .ctx => s.ctx.regs
  | .cat => s.cat.regs
  | .trj => s.trj.regs
  | .lnd => s.lnd.regs
  | .mpl => s.mpl.regs
  | .grd => s.grd.regs
  | .lnk => s.lnk.regs
  | .att => s.att.regs
  | .img => s.img.regs
  | .ilm => s.ilm.regs
  | .fol => s.fol.regs
  | .stk => s.stk.regs
  | .ax => s.ax.regs
  | .net => s.net.regs
  | .tmp => s.tmp.regs
  | .flt => s.flt.regs
  | .ldg => s.ldg.regs

/-- Replace the register file of a block. -/
def setRegs (s : State) (m : Regs) : Blk → State
  | .dev => { s with dev := { s.dev with regs := m } }
  | .txn => { s with txn := { s.txn with regs := m } }
  | .pwr => { s with pwr := { s.pwr with regs := m } }
  | .ctx => { s with ctx := { s.ctx with regs := m } }
  | .cat => { s with cat := { s.cat with regs := m } }
  | .trj => { s with trj := { s.trj with regs := m } }
  | .lnd => { s with lnd := { s.lnd with regs := m } }
  | .mpl => { s with mpl := { s.mpl with regs := m } }
  | .grd => { s with grd := { s.grd with regs := m } }
  | .lnk => { s with lnk := { s.lnk with regs := m } }
  | .att => { s with att := { s.att with regs := m } }
  | .img => { s with img := { s.img with regs := m } }
  | .ilm => { s with ilm := { s.ilm with regs := m } }
  | .fol => { s with fol := { s.fol with regs := m } }
  | .stk => { s with stk := { s.stk with regs := m } }
  | .ax => { s with ax := { s.ax with regs := m } }
  | .net => { s with net := { s.net with regs := m } }
  | .tmp => { s with tmp := { s.tmp with regs := m } }
  | .flt => { s with flt := { s.flt with regs := m } }
  | .ldg => { s with ldg := { s.ldg with regs := m } }

end State

/-- A path that nothing has used: the mailbox is always open, a session is not (R35). -/
def Path.init (p : Nat) : Path :=
  { isOpen := p == 0, lastSeq := none, lastResp := [], ip := 0, port := 0, keepAlive := 0, lastValid := 0, openIp := 0, openPort := 0, openSeq := 0,
    openTick := 0, txn := none, lastTxn := 0, expired := false, copying := false, upload := none }

namespace State

/-- An access path (R35). -/
def pathOf (s : State) (p : Nat) : Path := Tab.get Path.init s.txn.paths p

/-- Change an access path. -/
def modPath (s : State) (p : Nat) (f : Path → Path) : State :=
  { s with txn := { s.txn with paths := Tab.set Path.init s.txn.paths p (f (pathOf s p)) } }

end State

namespace Dict

/-- Records that each access path has for itself (R53, R54, R367, R419, R442). -/
def bankOf (path idx : Nat) : Nat :=
  if idx = D.iTXN_CTRL ∨ idx = D.iSTK_OBJ ∨ idx = D.iNET_TX ∨ idx = D.iFLT_SRC then path else 0

/-- The row of an entry, in the whole dictionary. -/
def rowAt (idx sub : Nat) : Option Row := (blkOf idx).bind fun b => find (rowsOf b) idx sub

/-- An index is assigned (R34). -/
def assigned (idx : Nat) : Bool :=
  match blkOf idx with
  | some b => (rowsOf b).any fun r => decide (r.idx ≤ idx) && decide (idx < r.idx + r.count)
  | none => false

end Dict

namespace Read

/-- What the register file holds for an entry. -/
def stored (s : State) (path idx sub : Nat) : Int :=
  match Dict.blkOf idx with
  | some b => Regs.get (Dict.rowsOf b) (State.regsOf s b) (Dict.key (Dict.bankOf path idx) idx sub)
  | none => 0

/-- The address of a fault of the dictionary (R68): the path, and the TXN_ID of its open transaction. -/
def txnAddress (s : State) (p : Nat) : Nat := p + 256 * (((State.pathOf s p).txn.map fun t => t.id % 2 ^ 24).getD 0)

/-- A message word (R422). -/
def msgWord (sev src kind addr : Nat) : Nat := sev * 2 ^ 48 + kind * 2 ^ 42 + src * 2 ^ 32 + addr

/-- A source reports its condition as present (R436, R443): a lane that is in use and not UP, a temperature condition, the interlock. -/
def live (s : State) (src : Nat) : Bool :=
  if decide (0xA0 ≤ src) && decide (src < 0xD0) then
    (State.laneOf s (src - 0xA0)).mode != .disabled && (State.laneOf s (src - 0xA0)).mode != .up
  else if src = 0x190 then Tmp.live s
  else if src = 0x1F0 then s.pwr.interlock
  else false

/-- A fence of a channel stands, is taken in, or waits to be (R190, R432). -/
def chFenced (s : State) (c : Nat) : Bool :=
  State.chOf s c == .fenced || s.lnd.fences.contains c || (s.lnd.active.toList ++ s.lnd.queued).any fun r => r.ch == c && r.fence

/-- A context is fenced by the messages of a source (R201, R370). -/
def ctxFencedBy (s : State) (src : Nat) : Bool := s.ctx.tab.any fun e => e.2.fenced && e.2.fencedBy == src

/-- The unit of a source is fenced (R432). -/
def unitFenced (s : State) (src : Nat) : Bool :=
  if src < 96 then (State.ctxOf s src).fenced
  else if decide (0x80 ≤ src) && decide (src < 0x98) then chFenced s (src - 0x80)
  else if decide (0xA0 ≤ src) && decide (src < 0xD0) then chFenced s ((src - 0xA0) % 24)
  else if decide (0xD0 ≤ src) && decide (src < 0xE8) then (State.loopOf s (src - 0xD0)).mode == .fenced
  else if src = 0xF0 then s.grd.mode == .fenced
  else if src = 0xF8 then ctxFencedBy s src
  else if decide (0x100 ≤ src) && decide (src < 0x104) then (Ilm.portOf s (src - 0x100)).fenced
  else if decide (0x110 ≤ src) && decide (src < 0x128) then (Feat.unit s (src - 0x110)).fenced
  else if decide (0x130 ≤ src) && decide (src < 0x140) then (Ilm.lampOf s (src - 0x130)).mode == .fenced
  else if decide (0x150 ≤ src) && decide (src < 0x159) then (s.stk.mode == .fenced && (State.srcOf s src).fenced) || ctxFencedBy s src
  else if decide (0x160 ≤ src) && decide (src < 0x168) then (Ax.axis s (src - 0x160)).mode == .fenced
  else if decide (0x168 ≤ src) && decide (src < 0x170) then (Ax.enc s (src - 0x168)).mode == .fenced
  else if decide (0x170 ≤ src) && decide (src < 0x180) then (Ax.cmp s (src - 0x170)).mode == .fenced
  else if src = 0x1B0 then s.txn.fenced
  else false

/-- FLT_SRC.STATUS (R442). -/
def srcStatus (s : State) (src : Nat) : Nat :=
  let f := State.srcOf s src
  (if f.active then f.sev else 0) + 4 * b2n f.active + 8 * b2n f.window.isSome + 16 * b2n f.acked + 32 * b2n (unitFenced s src) + 64 * b2n (live s src)

/-- The sources that the collector knows something of. -/
def srcCount (s : State) (p : FltSrc → Bool) : Nat := s.flt.srcs.countP fun e => p e.2

/-- The sequencer flags (R129); a fence that the Catalogue has still to take in (R127) sets DEGRADED already (R192). -/
def seqFlags (s : State) : Nat :=
  Arith.bits (Arith.setBit (State.rCat s D.iCAT_STATUS D.CAT_STATUS_FLAGS).toNat 2
      (Arith.bit (State.rCat s D.iCAT_STATUS D.CAT_STATUS_FLAGS).toNat 2 || !s.cat.newFences.isEmpty)) 2 0 + 8 * (State.layerNo s % 2) +
    16 * Arith.bits (State.rCat s D.iCAT_CTRL D.CAT_CTRL_HOST_FLAGS).toNat 3 0

/-- CAT_STATUS.LOOPS (R141). -/
def loopWord (s : State) : Nat :=
  ((List.range 4).map fun l => let v := Tab.get (fun _ => ⟨false, 0, 0⟩) s.cat.loops l; if v.active then v.count % 65536 * 2 ^ (16 * l) else 0).sum

/-- Code of CAT_STATUS.STATE (R139). -/
def catCode : CatMode → Nat
  | .idle => 0 | .issue => 1 | .wait => 2 | .held => 3

/-- Code of CHS_STATE (R142). -/
def chCode : ChMode → Nat
  | .disabled => 0 | .idle => 1 | .started => 2 | .done => 3 | .fenced => 4

/-- The channels in a state, one bit each. -/
def chWord (s : State) (m : ChMode) : Nat := ((List.range 24).map fun c => if State.chOf s c = m then 2 ^ c else 0).sum

/-- Code of TRJ_STATUS.MOTION (R168). -/
def motionCode : Motion → Nat
  | .rest => 0 | .move => 1 | .hold => 2 | .stop => 3

/-- The engine state in the present tick (R168): a boundary hold that is planned ahead begins where the path planned so far ends, and an engine whose path is
over without a stripe is at REST. -/
def motionNow (s : State) (c : Nat) : Motion :=
  let e := State.engOf s c
  let ahead := decide ((s.tick : Rat) < ((e.timeline.map Geo.phaseEnd).foldl max 0))
  match e.motion with
  | .hold => if ahead && (e.why == .plume || e.why == .underrun || e.why == .mismatch || e.why == .pause) then .move else .hold
  | .move => if !ahead && e.plan.isNone then .rest else .move
  | m => m

/-- TRJ_STATUS (R169): FE_ACTIVE where the checks of R160 and R161 read the channel's samples. -/
def trjStatus (s : State) (c : Nat) : Nat :=
  let e := State.engOf s c
  motionCode (motionNow s c) + 8 * b2n e.gate + 16 * b2n (!State.legacy s c && State.laneUp s c && Eng.follows s c && !e.past.isEmpty) + 32 * b2n e.driftValid + 64 * b2n (State.legacy s c)

/-- The blue LED is lit (R491, R502): a requested removal has completed, or the core rails are off. -/
def safeToRemove (s : State) : Bool := s.pwr.removed || !s.pwr.rails

/-- PWR_STATUS.FLAGS (R507). -/
def pwrFlags (s : State) : Nat :=
  b2n s.pwr.main + 2 * b2n s.pwr.prechargeFail + 4 * b2n s.pwr.uvBelow + s.pwr.outstanding + 64 * b2n s.pwr.recovery + 128 * b2n s.pwr.fallback

/-- The newest THERMAL_SHUTDOWN record of the pinned region (R468). -/
def shutdownSeq (s : State) : Option Nat :=
  ((s.ldg.slots.filter fun e => Arith.bit e.2.flags 1 && decide (e.2.trigger = 5)).map fun e => e.2.seq).foldl
    (fun m q => match m with | some a => some (if decide ((q + 2 ^ 32 - a) % 2 ^ 32 < 2 ^ 31) then q else a) | none => some q) none

/-- SHUTDOWN_SEEN (R468). -/
def shutdownSeen (s : State) : Bool :=
  match shutdownSeq s with
  | some q => (match s.tmp.acked with | some a => decide (0 < (q + 2 ^ 32 - a) % 2 ^ 32) && decide ((q + 2 ^ 32 - a) % 2 ^ 32 < 2 ^ 31) | none => true)
  | none => false

/-- Entries of records 0x1000 to 0x11FF that are not stored. -/
def devValue (s : State) (path idx sub : Nat) : Option Int :=
  let n := fun (v : Nat) => some (v : Int)
  let pending := s.txn.queue
  if idx = D.iDEV_STATE then
    if sub = D.DEV_STATE_STATE then n s.dev.mode.code else if sub = D.DEV_STATE_PREV_STATE then n s.dev.prev.code
    else if sub = D.DEV_STATE_TICK then n s.tick else if sub = D.DEV_STATE_BTICK then n s.btick else none
  else if idx = D.iDEV_IDENT then if sub = D.DEV_IDENT_FW_VERSION then n s.dev.fwRunning.version else none
  else if idx = D.iDEV_CFG then
    if sub = D.DEV_CFG_SAVED_CRC then n (if s.dev.savedA.valid then s.dev.savedA.crc else if s.dev.savedB.valid then s.dev.savedB.crc else 0) else none
  else if idx = D.iTXN_CTRL then
    let t := (State.pathOf s path).txn
    if sub = D.TXN_CTRL_STATE then n (b2n t.isSome) else if sub = D.TXN_CTRL_COUNT then n ((t.map fun t => t.writes.length).getD 0)
    else if sub = D.TXN_CTRL_TXN_ID then t.map fun t => (t.id : Int) else if sub = D.TXN_CTRL_PATH then n path else none
  else if idx = D.iTXN_PENDING then
    if sub = D.TXN_PENDING_COUNT then n pending.length
    else if sub = D.TXN_PENDING_OLDEST_ID then n (((pending.map fun t => t.id).head?).getD 0) else none
  else if decide (D.iTXN_PATH ≤ idx) && decide (idx < D.iTXN_PATH + 5) then
    let p := idx - D.iTXN_PATH
    let x := State.pathOf s p
    if sub = D.TXN_PATH_STATE then n (if x.isOpen then if x.txn.isSome then 2 else 1 else 0)
    else if sub = D.TXN_PATH_TXN_ID then n ((x.txn.map fun t => t.id).getD 0)
    else if sub = D.TXN_PATH_COUNT then n ((x.txn.map fun t => t.writes.length).getD 0)
    else if sub = D.TXN_PATH_IDLE_MS then n (min (2 ^ 32 - 1) ((s.tick - x.lastTxn) / 2000))
    else if sub = D.TXN_PATH_REMOTE_IP then n x.ip else if sub = D.TXN_PATH_REMOTE_PORT then n x.port else none
  else none

/-- Entries of records 0x1200 to 0x27FF that are not stored. -/
def jobValue (s : State) (idx sub : Nat) : Option Int :=
  let n := fun (v : Nat) => some (v : Int)
  if idx = D.iPWR_STATUS then if sub = D.PWR_STATUS_FLAGS then n (pwrFlags s) else none
  else if idx = D.iCLK_STATUS then if sub = D.CLK_STATUS_LOCKED then n (b2n s.dev.pllLocked)
    else if sub = D.CLK_STATUS_REFCLK_PPB ∧ 2000000 ≤ s.tick then some (Config.refclkPpb (s.tick / 2000000)).toInt else none
  else if decide (D.iCTX ≤ idx) && decide (idx < D.iCTX + 96) then
    let c := idx - D.iCTX
    if sub = D.CTX_LIVE_MEMBERS && decide (c < 24) then
      n (State.memberWord (if State.chOf s c == .disabled || State.chOf s c == .fenced then [] else [c]))
    else if sub = D.CTX_STATE then n (State.ctxCode (State.ctxOf s c).mode) else if sub = D.CTX_LIVE then n (State.liveWord s c)
    else if sub = D.CTX_FREE then n (State.freeBytes s c) else none
  else if idx = D.iCAT_CTRL then if sub = D.CAT_CTRL_ENTRIES then n s.cat.image.length else none
  else if idx = D.iCAT_STATUS then
    if sub = D.CAT_STATUS_STATE then n (catCode s.cat.mode) else if sub = D.CAT_STATUS_STARTED then n (chWord s .started)
    else if sub = D.CAT_STATUS_DONE then n (chWord s .done) else if sub = D.CAT_STATUS_FLAGS then n (seqFlags s)
    else if sub = D.CAT_STATUS_LOOPS then n (loopWord s) else none
  else if decide (D.iCHS ≤ idx) && decide (idx < D.iCHS + 24) then if sub = D.CHS_STATE then n (chCode (State.chOf s (idx - D.iCHS))) else none
  else if decide (D.iHDP ≤ idx) && decide (idx < D.iHDP + 24) then
    if sub = D.HDP_D_H && State.legacy s (idx - D.iHDP) then n (State.delayOf s (idx - D.iHDP)) else none
  else if decide (D.iTRJ ≤ idx) && decide (idx < D.iTRJ + 24) then if sub = D.TRJ_STATUS then n (trjStatus s (idx - D.iTRJ)) else none
  else if decide (D.iCOR ≤ idx) && decide (idx < D.iCOR + 24) then
    if sub = D.COR_TABLE_CRC then
      n (Arith.crc32 (Blob.toList (Tab.get (fun _ => ⟨792588, []⟩) s.trj.blobs (Dict.key 0 idx D.COR_TABLE))))
    else none
  else if idx = D.iLND then
    if sub = D.LND_STATUS then n (Lend.statusWord s) else if sub = D.LND_ROTATION then n (State.layerNo s % 24) else none
  else if decide (D.iLNDC ≤ idx) && decide (idx < D.iLNDC + 24) then
    let c := idx - D.iLNDC
    if sub = D.LNDC_RANK then n (State.rankOf s c) else if sub = D.LNDC_REMAIN then n (min (Lend.remain s c (State.layerNo s)) 0xFFFFFFFF)
    else if sub = D.LNDC_PACE then n (min (Lend.pace s c) 0xFFFFFFFF) else if sub = D.LNDC_LAG then n (min (Lend.lag s c) 0xFFFFFFFF) else none
  else none

/-- Entries of records 0x2800 to 0x35FF that are not stored. -/
def unitValue (s : State) (path idx sub : Nat) : Option Int :=
  let n := fun (v : Nat) => some (v : Int)
  let crc := fun (b : Blob) => n (Arith.crc32 (Blob.toList b))
  if idx = D.iGRD_CFG then
    if sub = D.GRD_CFG_SNAP_STATE then n (Grid.snapCode s.grd.snapMode) else if sub = D.GRD_CFG_SNAP_DIGEST then n (Grid.snapDigest s) else none
  else if idx = D.iGRD_SWEEP then
    if sub = D.GRD_SWEEP_STATE then n (Grid.modeCode s.grd.mode) else if sub = D.GRD_SWEEP_PENDING then n (Grid.pending s) else none
  else if decide (D.iGRD_CURVE ≤ idx) && decide (idx < D.iGRD_CURVE + 64) then
    if sub = D.GRD_CURVE_CRC then crc (Grid.curve s (idx - D.iGRD_CURVE)) else none
  else if decide (D.iGRD_MODEL ≤ idx) && decide (idx < D.iGRD_MODEL + 16) then
    if sub = D.GRD_MODEL_CRC then crc (Grid.model s (idx - D.iGRD_MODEL)) else none
  else if decide (D.iCAM ≤ idx) && decide (idx < D.iCAM + 4) then
    let p := idx - D.iCAM
    if sub = D.CAM_STATE then n (Img.stateCode s p) else if sub = D.CAM_RAW_FREE then n (2 - Img.rawUsed s p) else none
  else if idx = D.iIMG then if sub = D.IMG_BACKLOG then n (Img.backlog s) else none
  else if idx = D.iSTK_STATUS then
    let t := Stk.readable s
    let g := fun (f : Store → Nat) => n ((t.map f).getD 0)
    if sub = D.STK_STATUS_STATE then n (Stk.code s.stk.mode) else if sub = D.STK_STATUS_STORE_ID then g fun t => t.id
    else if sub = D.STK_STATUS_RAW_BYTES then g (Stk.rawBytes s.stk.medium) else if sub = D.STK_STATUS_USABLE_BYTES then g (Stk.usableBytes s.stk.medium)
    else if sub = D.STK_STATUS_USED_BYTES then g Stk.usedBytes else if sub = D.STK_STATUS_OBJECTS then g fun t => t.dir.objects.length
    else if sub = D.STK_STATUS_SPARE_PERMILLE then g fun t => 1000 * t.dir.spare / max 1 (Nand.good s.stk.medium t.dir.retired)
    else if sub = D.STK_STATUS_LIFE_USED then g fun t => min 255 (Nand.lifeUsed s.stk.medium t.dir.retired) else none
  else if idx = D.iSTK_OBJ then
    let o := Stk.selected s path
    if sub = D.STK_OBJ_FOUND then n (b2n o.isSome) else if sub = D.STK_OBJ_LENGTH then n ((o.map fun o => o.data.length).getD 0)
    else if sub = D.STK_OBJ_CRC then n ((o.map fun o => Arith.crc32 o.data).getD 0) else if sub = D.STK_OBJ_ID then n ((o.map fun o => o.id).getD 0)
    else none
  else if idx = D.iSTK_STAGE then
    if sub = D.STK_STAGE_STATE then n (Stk.stageCode s) else if sub = D.STK_STAGE_WINDOW_LO then n (if Stk.active s then Stk.windowLo s else 0)
    else if sub = D.STK_STAGE_WINDOW_HI then n (if Stk.active s then min (Stk.windowHi s) (2 ^ 32 - 1) else 0) else if sub = D.STK_STAGE_BYTES_LEFT then n (Stk.bytesLeft s) else none
  else if decide (D.iSTK_NF ≤ idx) && decide (idx < D.iSTK_NF + 8) then
    let ch := idx - D.iSTK_NF
    let m := if s.stk.shown then s.stk.medium else Nand.none_
    let bad := Stk.retired s
    let l := Nand.onChannel m ch
    let g := fun (p : Target → Nat) => n ((l.head?.map fun e => p e.2).getD 0)
    if sub = D.STK_NF_TARGETS then n (l.map fun e => 2 ^ (e.1 % 4)).sum else if sub = D.STK_NF_PAGE_BYTES then g fun t => t.pageBytes
    else if sub = D.STK_NF_PAGES then g fun t => t.pages else if sub = D.STK_NF_BLOCKS then g fun t => t.blocks
    else if sub = D.STK_NF_GOOD then n (Nand.goodOn m bad ch) else if sub = D.STK_NF_BAD_FACTORY then n (Nand.factoryBad l)
    else if sub = D.STK_NF_BAD_GROWN then n (Nand.grownBad m bad ch) else if sub = D.STK_NF_ERASE_MAX then n (Nand.eraseMax m bad ch)
    else if sub = D.STK_NF_ERASE_MEAN then n (Nand.eraseMean m bad ch) else if sub = D.STK_NF_MODE then n (Nand.mode m ch)
    else if sub = D.STK_NF_TEMP then
      match (l.filterMap fun e => Tab.find s.stk.temps e.1) with
      | [] => n 0
      | x :: r => some (r.foldl max x)
    else none
  else none

/-- Entries of records 0x3600 to 0x41FF that are not stored. -/
def sysValue (s : State) (path idx sub : Nat) : Option Int :=
  let n := fun (v : Nat) => some (v : Int)
  if decide (D.iAX ≤ idx) && decide (idx < D.iAX + 8) then
    let x := Ax.axis s (idx - D.iAX)
    if sub = D.AX_POSITION then some x.pos else if sub = D.AX_SPEED_NOW then some (Ax.speedNow s (idx - D.iAX)) else if sub = D.AX_STATE then n (Ax.modeCode x.mode)
    else if sub = D.AX_LIVE then n (Ax.liveWord s (idx - D.iAX)) else if sub = D.AX_STEPS then n x.steps else none
  else if decide (D.iENC ≤ idx) && decide (idx < D.iENC + 8) then
    let x := Ax.enc s (idx - D.iENC)
    if sub = D.ENC_COUNT then some x.count else if sub = D.ENC_SPEED then some x.speed else if sub = D.ENC_LIVE then n (Ax.encLive x)
    else if sub = D.ENC_STATE then n (Ax.encCode x.mode) else none
  else if idx = D.iGEAR then
    if decide (1 ≤ sub) && decide ((sub - 1) % 8 = 7) then n (Ax.gearStatus s ((sub - 1) / 8)) else none
  else if decide (D.iCMP ≤ idx) && decide (idx < D.iCMP + 16) then
    if sub = D.CMP_STATE then n (Ax.cmpCode (Ax.cmp s (idx - D.iCMP)).mode) else none
  else if decide (D.iNET_PORT ≤ idx) && decide (idx < D.iNET_PORT + 2) then
    if sub = D.NET_PORT_MAC then n (Net.mac (idx - D.iNET_PORT)) else none
  else if idx = D.iNET_CLK then if sub = D.NET_CLK_NETCLK then n s.net.clk else none
  else if idx = D.iTMP then
    if sub = D.TMP_JUNCTION then some (Tmp.tj s) else if sub = D.TMP_MODULE then some (Tmp.tm s)
    else if sub = D.TMP_STATUS then n (Tmp.statusWord s + 64 * b2n (shutdownSeen s)) else if sub = D.TMP_MAX_SEEN then some s.tmp.maxSeen
    else if sub = D.TMP_SHUTDOWN_SEQ then n ((shutdownSeq s).getD 0)
    else if decide (D.TMP_TEMP ≤ sub) && decide (sub < D.TMP_TEMP + 40) then some (Tmp.sensor s (sub - D.TMP_TEMP)).reading else none
  else if idx = D.iFLT_CTRL then
    if sub = D.FLT_CTRL_ACTIVE then n (srcCount s fun f => f.active) else if sub = D.FLT_CTRL_OPEN then n (srcCount s fun f => f.window.isSome)
    else if sub = D.FLT_CTRL_LOG_POS then n s.flt.logPos else none
  else if idx = D.iFLT_FIRST then if sub = D.FLT_FIRST_VALID then n (b2n s.flt.firstValid) else none
  else if idx = D.iFLT_PIN then if sub = D.FLT_PIN_PIN then n (b2n s.flt.pin) else none
  else if idx = D.iFLT_SRC then
    let f := State.srcOf s (stored s path idx D.FLT_SRC_SELECT).toNat
    if sub = D.FLT_SRC_STATUS then n (srcStatus s (stored s path idx D.FLT_SRC_SELECT).toNat) else if sub = D.FLT_SRC_LAST_MSG then n f.lastMsg
    else if sub = D.FLT_SRC_LAST_TICK then n f.lastTick else if sub = D.FLT_SRC_MESSAGES then n f.messages
    else if sub = D.FLT_SRC_RECOVERIES then n f.recoveries else if sub = D.FLT_SRC_ESCALATIONS then n f.escalations
    else if sub = D.FLT_SRC_WINDOW_LEFT then n ((f.window.map fun w => (w.2.1 - s.tick + 1) / 2).getD 0) else none
  else if idx = D.iLDG_STATUS then
    if sub = D.LDG_STATUS_OP_TIME then n s.ldg.opTime else if sub = D.LDG_STATUS_POWER_CYCLES then n s.ldg.cycles
    else if sub = D.LDG_STATUS_LAST_SEQ then n (s.ldg.lastSeq.getD 0) else if sub = D.LDG_STATUS_PINNED_USED then n s.ldg.pinnedUsed
    else if sub = D.LDG_STATUS_SPARE_USED then n s.ldg.spareUsed else if sub = D.LDG_STATUS_STAGED then n s.ldg.staging.length
    else if sub = D.LDG_STATUS_FLAGS then n (b2n s.ldg.frozen.isSome + 2 * b2n s.ldg.degraded + 4 * b2n (decide (256 ≤ s.ldg.pinnedUsed))) else none
  else none

/-- The value of a numeric entry as a read returns it over a path (R32, R57). -/
def value (s : State) (path idx sub : Nat) : Int :=
  let o := if idx < 0x1200 then devValue s path idx sub else if idx < 0x2800 then jobValue s idx sub
    else if idx < 0x3600 then unitValue s path idx sub else sysValue s path idx sub
  match o with
  | some v => (match Dict.rowAt idx sub with | some r => Dict.norm r.ty v | none => v)
  | none => stored s path idx sub

end Read

end Sys2Proof.Machine
end

