-- ==== Sys2Proof/Machine/Ledger.lean ====
section
/-!
DEFINITION. The Ledger: records, merging, freeze, retired slots and the shadow, checkpoints, export (19_ledger.md R444 to R459).
What the rules leave to the model: log entry 43.
-/
namespace Sys2Proof.Machine

/-- What a slot that was never written reads as (log entry 8). -/
def LdgRec.blank : LdgRec :=
  { seq := 0, opTime := 0, cycles := 0, netclk := 0, trigger := 0, source := 0, times := 0, flags := 0, lastOp := 0, lastNetclk := 0, msg := 0, tick := 0,
    layer := 0, snap := [] }

namespace Ldg

/-- An entry of LDG_CTRL. -/
def ctl (s : State) (sub : Nat) : Nat := (State.rLdg s D.iLDG_CTRL sub).toNat

/-- NETCLK as a record keeps it (R446). -/
def clock (s : State) : Nat := Net.ns s % 2 ^ 32

/-- The type code of an entry (R33). -/
def tyCode : Dict.Ty → Nat
  | .bool => 1 | .u8 => 2 | .u16 => 3 | .u32 => 4 | .u64 => 5 | .i16 => 6 | .i32 => 7 | .i64 => 8 | .f32 => 9 | .str => 10 | .blob => 11

/-- One snapshot field (R446, R458): index, subindex, type code and the value in 4 bytes. -/
def field (s : State) (sel : Nat) : Nat × Nat × Nat × Nat :=
  let idx := sel / 65536
  let sub := sel / 256 % 256
  match Dict.rowAt idx sub with
  | some r => if sel = 0 then (0, 0, 0, 0) else (idx, sub, tyCode r.ty, Arith.toUnsigned (Dict.width r.ty) (Read.value s 0 idx sub) % 2 ^ 32)
  | none => (0, 0, 0, 0)

/-- The snapshot of an event (R449). -/
def snapshot (s : State) : List (Nat × Nat × Nat × Nat) :=
  (List.range 24).map fun i => field s (State.rLdg s D.iLDG_SNAP_SEL (D.LDG_SNAP_SEL + i)).toNat

/-- A record of an event in the present CORE cycle (R446), without its SEQ and its flags. -/
def record (s : State) (trigger source msg : Nat) : LdgRec :=
  { seq := 0, opTime := s.ldg.opTime, cycles := s.ldg.cycles, netclk := clock s, trigger := trigger, source := source, times := 1, flags := 0,
    lastOp := s.ldg.opTime, lastNetclk := clock s, msg := msg, tick := s.tick,
    layer := if s.dev.mode.inBuild then State.layerNo s else 2 ^ 32 - 1, snap := snapshot s }

/-- The bytes of a record (R446). -/
def bytes (r : LdgRec) : List Byte :=
  let a := Arith.natLe 4 r.seq ++ Arith.natLe 8 r.opTime ++ Arith.natLe 4 r.cycles ++ Arith.natLe 4 r.netclk ++ Arith.natLe 2 r.trigger ++ Arith.natLe 2 r.source ++
    Arith.natLe 2 r.times ++ Arith.natLe 2 r.flags ++ Arith.natLe 8 r.lastOp ++ Arith.natLe 4 r.lastNetclk ++ Arith.natLe 8 r.msg ++ Arith.natLe 8 r.tick ++
    Arith.natLe 4 r.layer
  let b := ((r.snap ++ List.replicate 24 (0, 0, 0, 0)).take 24).flatMap fun (f : Nat × Nat × Nat × Nat) =>
    Arith.natLe 2 f.1 ++ Arith.natLe 1 f.2.1 ++ Arith.natLe 1 f.2.2.1 ++ Arith.natLe 4 f.2.2.2
  a ++ Arith.natLe 4 (Arith.crc32 (a ++ b)) ++ b

/-- The record of a slot as the memory holds it. -/
def slot (s : State) (n : Nat) : LdgRec := Tab.get (fun _ => LdgRec.blank) s.ldg.slots n

/-- Store a record in the cells of a slot. -/
def store (s : State) (n : Nat) (r : LdgRec) : State :=
  { s with ldg := { s.ldg with slots := Tab.set (fun _ => LdgRec.blank) s.ldg.slots n r } }

/-- A record goes to the volatile shadow (R455). -/
def toShadow (s : State) (n : Nat) (r : LdgRec) : State :=
  let s := if s.ldg.shadow.length < 16 then s else State.incLdg s D.iLDG_STATUS D.LDG_STATUS_SHADOW_LOST 1
  let s := State.raiseIf s (!s.ldg.degraded) 0x1A0 2 n
  let l := s.ldg.shadow.drop (s.ldg.shadow.length - 15)
  { s with ldg := { s.ldg with shadow := l ++ [r], degraded := true, mergeInto := none } }

/-- The cells that a slot uses now (R455). -/
def cellsOf (s : State) (n : Nat) : Nat := Tab.get (fun i => i) s.ldg.moved n

/-- Write a record to a slot, with readback (R455); whether the write failed. -/
def put (s : State) (n : Nat) (r : LdgRec) : State × Bool :=
  if s.ldg.bad.contains (cellsOf s n) then
    let s := State.raise s 0x1A0 1 n
    let spare := 264 + s.ldg.spareUsed
    if s.ldg.spareUsed < 512 then
      let s := { s with ldg := { s.ldg with spareUsed := s.ldg.spareUsed + 1, moved := Tab.set (fun i => i) s.ldg.moved n spare } }
      if s.ldg.bad.contains spare then (toShadow s n r, true) else (store s spare r, true)
    else (toShadow s n r, true)
  else (store s (cellsOf s n) r, false)

/-- The SEQ of the next record (R447). -/
def nextSeq (s : State) : Nat := match s.ldg.lastSeq with | some q => (q + 1) % 2 ^ 32 | none => 1

/-- Write a new record: pinned while a pinned slot is free, else in the ring (R445, R447, R450). -/
def fresh (s : State) (pinned : Bool) (r : LdgRec) : State × Bool :=
  let q := nextSeq s
  let toPin := pinned && decide (s.ldg.pinnedUsed < 256)
  let n := if toPin then s.ldg.pinnedUsed else 776 + s.ldg.ringNext % 31992
  let r := { r with seq := q, flags := r.flags + b2n s.ldg.stepped + 2 * b2n toPin + 4 * b2n (pinned && !toPin) }
  let s := { s with ldg := { s.ldg with lastSeq := some q, stepped := false, mergeInto := if pinned then none else some n } }
  let s := if toPin then { s with ldg := { s.ldg with pinnedUsed := s.ldg.pinnedUsed + 1 } }
    else { s with ldg := { s.ldg with ringNext := s.ldg.ringNext + 1 } }
  put s n r

/-- After a write: the first failure of a BOOT period also writes a LEDGER_FAIL record (R448, R455). -/
def afterWrite (x : State × Bool) : State :=
  if x.2 && !x.1.ldg.sawFail then
    let s := { x.1 with ldg := { x.1.ldg with sawFail := true } }
    (fresh s true (record s 8 0 0)).1
  else x.1

/-- Write a pinned record at once (R445, R452). -/
def pinned (trigger source msg : Nat) (s : State) : State := afterWrite (fresh s true (record s trigger source msg))

/-- A record merges into the one written last (R450). -/
def mergeSlot (s : State) (r : LdgRec) : Option Nat :=
  match s.ldg.mergeInto with
  | some n =>
    let o := slot s (cellsOf s n)
    if !s.ldg.stepped && decide (o.trigger = r.trigger) && decide (o.source = r.source) && decide (o.times + r.times ≤ 0xFFFF) then some n else none
  | none => none

/-- Write an ordinary record, merging where R450 allows it. -/
def writeOrd (s : State) (r : LdgRec) : State :=
  match mergeSlot s r with
  | some n =>
    let o := slot s (cellsOf s n)
    let s := State.incLdg s D.iLDG_STATUS D.LDG_STATUS_MERGES 1
    afterWrite (put s n { o with times := o.times + r.times, lastOp := r.lastOp, lastNetclk := r.lastNetclk })
  | none => afterWrite (fresh s false r)

/-- An ordinary event during a freeze enters the staging queue (R452). -/
def stage (s : State) (r : LdgRec) : State :=
  match s.ldg.staging.getLast? with
  | some o =>
    if !s.ldg.stepped && decide (o.trigger = r.trigger) && decide (o.source = r.source) && decide (o.times < 0xFFFF) then
      let o := { o with times := o.times + 1, lastOp := r.lastOp, lastNetclk := r.lastNetclk }
      State.incLdg { s with ldg := { s.ldg with staging := s.ldg.staging.dropLast ++ [o] } } D.iLDG_STATUS D.LDG_STATUS_MERGES 1
    else if s.ldg.staging.length < 64 then
      { s with ldg := { s.ldg with staging := s.ldg.staging ++ [{ r with flags := b2n s.ldg.stepped }], stepped := false } }
    else State.incLdg s D.iLDG_STATUS D.LDG_STATUS_STAGE_LOST 1
  | none => { s with ldg := { s.ldg with staging := [{ r with flags := b2n s.ldg.stepped }], stepped := false } }

/-- An ordinary event (R448). -/
def ordinary (trigger source msg : Nat) (s : State) : State :=
  let r := record s trigger source msg
  if s.ldg.frozen.isSome then stage s r else writeOrd s r

/-! ### Freeze (R452) -/

/-- Write one staged record: a TIME_STEP it carries stands for itself. -/
def unstage (s : State) (r : LdgRec) : State :=
  let r' := { r with flags := 8 }
  if Arith.bit r.flags 0 then writeOrd { s with ldg := { s.ldg with stepped := true } } r' else writeOrd s r'

/-- UNFREEZE: the staging queue is written in order. -/
def unfreeze (s : State) : State :=
  if s.ldg.frozen.isSome then
    let q := s.ldg.staging
    let late := s.ldg.stepped
    let s := q.foldl unstage { s with ldg := { s.ldg with frozen := none, staging := [], stepped := q.isEmpty && late } }
    { s with ldg := { s.ldg with stepped := s.ldg.stepped || late } }
  else s

/-- FREEZE. -/
def freeze (s : State) : State := if s.ldg.frozen.isSome then s else { s with ldg := { s.ldg with frozen := some s.tick } }

/-- FREEZE_MAX is over. -/
def freezeOver (s : State) : Bool := match s.ldg.frozen with | some t => decide (t + 2000 * ctl s D.LDG_CTRL_FREEZE_MAX ≤ s.tick) | none => false

/-- FREEZE_EXPIRED (R452, R459); no slot is concerned, so the address is free. -/
def freezeExpired (s : State) : State := if freezeOver s then unfreeze (State.raiseOpen s 0x1A0 3) else s

/-- MARK (R448). -/
def mark (s : State) : State := ordinary 9 0 (ctl s D.LDG_CTRL_MARK_VALUE) s

/-! ### Operating time (R451) -/

/-- Write a checkpoint into the older slot. -/
def checkpoint (s : State) : State :=
  let c := (s.ldg.opTime, s.ldg.cycles, s.ldg.lastSeq.getD 0)
  let s := { s with ldg := { s.ldg with checkAt := s.ldg.opTime } }
  if s.ldg.newerB then { s with ldg := { s.ldg with checkA := c, newerB := false } } else { s with ldg := { s.ldg with checkB := c, newerB := true } }

/-- The 60 s of R451 are over. -/
def checkDue (s : State) : Bool := decide (s.ldg.checkAt + 60000 ≤ s.ldg.opTime)

/-- LEDGER_CHECKPOINT. -/
def checkpointDue (s : State) : State := if checkDue s then checkpoint s else s

/-- One tick of operating time. -/
def tick (s : State) : State :=
  if s.ldg.opTicks + 1 < 2000 then { s with ldg := { s.ldg with opTicks := s.ldg.opTicks + 1 } }
  else { s with ldg := { s.ldg with opTicks := 0, opTime := s.ldg.opTime + 1 } }

/-- The later of two operating times with their SEQ (R447): across a wrap of SEQ the times order. -/
def later (a b : Nat × Nat) : Nat × Nat := if a.1 < b.1 ∨ a.1 = b.1 ∧ (b.2 + 2 ^ 32 - a.2) % 2 ^ 32 < 2 ^ 31 then b else a

/-- The highest valid SEQ that the memory holds (R447): of its records and of the checkpoints that were written. -/
def highestSeq (s : State) : Option Nat :=
  let checks := ([s.ldg.checkA, s.ldg.checkB].filter fun c => c.2.1 ≠ 0).map fun c => (c.1, c.2.2)
  match checks ++ s.ldg.slots.map fun e => (e.2.opTime, e.2.seq) with
  | [] => none
  | x :: l => some (l.foldl later x).2

/-- BOOT (R447, R448, R451, R455): what the memory holds stays, the volatile part is lost, and the BOOT record is written. -/
def boot (s : State) : State :=
  let last := (s.ldg.slots.map fun e => max e.2.opTime e.2.lastOp).foldl max 0
  let op := max (max s.ldg.checkA.1 s.ldg.checkB.1) last
  let lost := s.ldg.staging.length
  let s := { s with ldg := { s.ldg with
      regs := [], mergeInto := none, stepped := false, staging := [], frozen := none, shadow := [],
      degraded := s.ldg.degraded && decide (512 ≤ s.ldg.spareUsed), sawFatal := false, sawFail := false, opTime := op, opTicks := 0,
      cycles := (s.ldg.cycles + 1) % 2 ^ 32, checkAt := op, lastSeq := highestSeq s } }
  let s := checkpoint (State.wLdg s D.iLDG_STATUS D.LDG_STATUS_STAGE_LOST (lost : Nat))
  ordinary 4 0 0 s

/-! ### Reading (R453, R454) -/

/-- The bytes of a slot as stored. -/
def slotBytes (s : State) (n : Nat) : List Byte :=
  let check := fun (c : Nat × Nat × Nat) => (List.range 256).map fun i => Config.checkpointByte c.1 c.2.1 c.2.2 i
  if n = 256 then check s.ldg.checkA else if n = 257 then check s.ldg.checkB
  else match Tab.find s.ldg.slots n with | some r => bytes r | none => List.replicate 256 0

/-- LDG_SHADOW. -/
def shadowBytes (s : State) : List Byte :=
  (List.range 16).flatMap fun i => match s.ldg.shadow[i]? with | some r => bytes r | none => List.replicate 256 0

/-- Records in SEQ order: the oldest first (R447). -/
def inOrder (s : State) (l : List LdgRec) : List LdgRec :=
  let age := fun (r : LdgRec) => (s.ldg.lastSeq.getD 0 + 2 ^ 32 - r.seq) % 2 ^ 32
  l.mergeSort fun a b => decide (age b ≤ age a)

/-- The cells hold a valid record: none of a slot that was retired (R455). -/
def inUse (s : State) (n : Nat) : Bool :=
  if 264 ≤ n ∧ n < 776 then s.ldg.moved.any fun e => e.2 == n else cellsOf s n == n

/-- A Ledger export (R454). -/
def exported (s : State) : List Byte :=
  let all := (s.ldg.slots.filter fun e => inUse s e.1).map fun e => e.2
  let pin := inOrder s (all.filter fun r => Arith.bit r.flags 1)
  let ring := inOrder s (all.filter fun r => !Arith.bit r.flags 1)
  let sh := s.ldg.shadow.map fun r => { r with flags := r.flags + 16 }
  Arith.natLe 4 0x5247444C ++ Arith.natLe 2 1 ++ Arith.natLe 2 pin.length ++ Arith.natLe 4 (pin.length + ring.length + sh.length) ++
    Arith.natLe 4 ((ring.head?.map fun r => r.seq).getD 0) ++ Arith.natLe 4 (s.ldg.lastSeq.getD 0) ++ Arith.natLe 8 s.ldg.opTime ++ Arith.natLe 4 0 ++
    (pin ++ ring ++ sh).flatMap bytes

end Ldg

end Sys2Proof.Machine
end

