-- ==== Sys2Proof/Machine/Loop.lean ====
section
/-!
DEFINITION. The melt-pool loops (08_meltpool_loop.md): the power command, the measured variable, the control law, plausibility and misses, coefficient
set swaps and the loop states.
What the rules leave to the model: log entry 28.
-/
namespace Sys2Proof.Machine

namespace Mpl

/-- A loop register. -/
def reg (s : State) (c sub : Nat) : Int := State.rMpl s (D.iMPL + c) sub

/-- Write a loop register. -/
def put (s : State) (c sub : Nat) (v : Int) : State := State.wMpl s (D.iMPL + c) sub v

/-- An entry of the coefficient set in force. -/
def coef (s : State) (c sub : Nat) : Int := State.rMpl s (D.iMPLC + State.coefOf s c) sub

/-- MPL_CTRL.VAR (R203). -/
def var (s : State) (c : Nat) : Nat := Arith.bits (reg s c D.MPL_CTRL).toNat 3 2

/-- Code of a loop state. -/
def code : LoopMode → Nat
  | .off => 0 | .openHost => 1 | .closed => 2 | .openFallback => 3 | .fenced => 4

/-- A loop event (R222): its message and its bit of FLAGS. -/
def say (s : State) (c kind addr : Nat) : State :=
  State.raise (put s c D.MPL_FLAGS ((Arith.setBit (reg s c D.MPL_FLAGS).toNat (kind - 1) true : Nat) : Int)) (0xD0 + c) kind addr

/-- BTICK of a tag tick of a channel, as message addresses give it (R222). -/
def addrOf (s : State) (c k : Nat) : Nat := (((State.engOf s c).past.find? fun p => p.k == k).map fun p => p.bt).getD (State.btickOf s k) % 2 ^ 32

/-- The factor 1 + I (R210). -/
def openFactor (i : Int) : Nat := (Arith.divRound (2 ^ 30 + i) (2 ^ 15)).toNat

/-- A factor comes into force at the next tick (R206). -/
def setNext (s : State) (c v : Nat) : State := State.modLoop s c fun l => { l with next := some v }

/-- The factor set for this tick comes into force. -/
def takeNext (c : Nat) (s : State) : State :=
  match (State.loopOf s c).next with
  | some v => put (State.modLoop s c fun l => { l with next := none }) c D.MPL_FACTOR (v : Int)
  | none => s

/-- Enter a loop state; a fall-back counts (R217). -/
def enter (s : State) (c : Nat) (m : LoopMode) : State :=
  let s := put (State.modLoop s c fun l => { l with mode := m }) c D.MPL_STATE (code m : Int)
  let s := if m = .openFallback then State.incMpl s (D.iMPL + c) D.MPL_FALLBACKS 1 else s
  setNext s c (if m = .off then 0x8000 else openFactor (reg s c D.MPL_INTEGRAL))

/-- Both run counts to 0 (R217). -/
def clearRuns (s : State) (c : Nat) : State :=
  State.modLoop (put (put s c D.MPL_MISS_RUN 0) c D.MPL_IMPL_RUN 0) c fun l => { l with implSaid := false, lostSaid := false }

/-- The loop closes (R217). -/
def close (s : State) (c : Nat) : State := clearRuns (enter s c .closed) c

/-- Whether the loop runs open: OPEN_HOST, OPEN_FALLBACK or FENCED. -/
def isOpen (m : LoopMode) : Bool := m == .openHost || m == .openFallback || m == .fenced

/-! ### Power command (R202) -/

/-- The command of a tick and whether it was clamped: 1 low, 2 high. -/
def command (pseg ff mp pMin pMax : Nat) : Nat × Nat :=
  if pseg = 0 then (0, 0)
  else
    let raw := (Arith.divRound ((pseg * ff * mp : Nat) : Int) (2 ^ 30)).toNat
    let lim := min raw 0xFFFF
    if pMax < lim then (pMax, 2) else if lim < pMin then (pMin, 1) else (lim, if 0xFFFF < raw then 2 else 0)

/-- The gate is off throughout tick `k`. -/
def gateOff (e : Engine) (k : Nat) : Bool :=
  !Eng.gateAt e (125 * k) && !e.edges.any fun d => d.on && decide (125 * k ≤ d.at4) && decide (d.at4 < 125 * (k + 1))

/-- The loop state at the composition of tick `k` is kept until that tick is over (R219). -/
def keepOpen (k c : Nat) (s : State) : State :=
  if s.dev.mode.inBuild && State.chOf s c != .disabled then
    let m := (State.loopOf s c).mode
    State.modLoop s c fun l => { l with opens := Tab.ins (l.opens.filter fun x => decide (s.tick ≤ x.1)) k (m != .closed) }
  else s

/-- FLAGS bit 3 of the digest record of the present tick (R219): the loop state at its composition, or the present one where the tick was composed outside
the build. -/
def openFlag (s : State) (c : Nat) : Bool := (Tab.find (State.loopOf s c).opens s.tick).getD ((State.loopOf s c).mode != .closed)

/-- Compose the command for tick `k` on channel `c` (R202). -/
def compose (k c : Nat) (s : State) : State :=
  let e := State.engOf s c
  match e.slots.find? fun d => d.k == k && d.power.isNone with
  | none => s
  | some d =>
    let mp := (reg s c D.MPL_FACTOR).toNat
    let r := if gateOff e k then (0, 0) else command d.pseg d.ff mp d.par.pMin d.par.pMax
    let s := State.setEng s c { e with slots := Arith.updWhere (fun x => x.k == k) (fun x => { x with power := some r.1, mp := mp, clamp := r.2 }) e.slots }
    if r.2 = 0 then s else State.incMpl s (D.iMPL + c) D.MPL_PWR_CLAMPS 1

/-! ### Integral and law (R208, R209) -/

/-- Set AW; reaching HIGH or LOW raises INTEGRAL_SAT (R222). -/
def setAw (s : State) (c aw k : Nat) : State :=
  let old := (reg s c D.MPL_AW).toNat
  let s := put s c D.MPL_AW (aw : Int)
  if aw ≠ 0 ∧ aw ≠ old then say s c 7 (addrOf s c k) else s

/-- The step of an update after the anti-windup rules, and the AW state it leaves (R209): `aw` 0 NONE, 1 HIGH, 2 LOW. -/
def lawStep (ki e : Int) (aw clamp : Nat) (pwrAw : Bool) : Int × Nat :=
  let st := Arith.divRound (ki * e) (2 ^ 10)
  let st := if (aw = 1 ∧ 0 < st) ∨ (aw = 2 ∧ st < 0) then 0 else st
  let st := if pwrAw ∧ ((clamp = 2 ∧ 0 < st) ∨ (clamp = 1 ∧ st < 0)) then 0 else st
  (st, if (aw = 1 ∧ st < 0) ∨ (aw = 2 ∧ 0 < st) then 0 else aw)

/-- The integral held to ±I_MAX, and the AW state (R209). -/
def lawClamp (iMax i : Int) (aw : Nat) : Int × Nat :=
  let r := if iMax ≤ i then (iMax, 1) else (i, aw)
  if r.1 ≤ -iMax then (-iMax, 2) else r

/-- The factor of an update, when it computes one (R209). -/
def lawFactor (band delta i e : Int) : Option Nat :=
  if band < e then some (Arith.divRound ((2 ^ 30 + i) * (2 ^ 16 - delta)) (2 ^ 31)).toNat
  else if e < -band then some (Arith.divRound ((2 ^ 30 + i) * (2 ^ 16 + delta)) (2 ^ 31)).toNat
  else none

/-- UPDATE of R209 for a sample `x` of past tick `p`. -/
def update (s : State) (c : Nat) (p : Past) (x : Nat) : State :=
  let e : Int := (x : Int) - (p.setpoint : Int)
  let aw := (reg s c D.MPL_AW).toNat
  let st := lawStep (coef s c D.MPLC_KI) e aw p.clamp (Arith.bit (reg s c D.MPL_CTRL).toNat 6)
  let r := lawClamp (coef s c D.MPLC_I_MAX) (reg s c D.MPL_INTEGRAL + st.1) st.2
  let s := put s c D.MPL_AW (st.2 : Int)
  let s := setAw (put s c D.MPL_INTEGRAL r.1) c r.2 p.k
  let band := coef s c D.MPLC_BAND
  let s := if band < e then State.incMpl s (D.iMPL + c) D.MPL_ABOVE 1 else if e < -band then State.incMpl s (D.iMPL + c) D.MPL_BELOW 1 else s
  match lawFactor band (coef s c D.MPLC_DELTA) r.1 e with
  | some v => setNext s c v
  | none => s

/-! ### Samples (R203 to R207, R213 to R215) -/

/-- The sample of the loop variable tagged with a past tick: none when it is no sample tick, else the value when it is present (R203). A sample that arrives
after its consumption tick, and every sample of a variable that the channel's start found unavailable, is absent (R204, R205). -/
def sample (s : State) (c : Nat) (p : Past) : Option (Option Nat) :=
  let k := p.k
  if var s c = 2 ∧ !p.tag then none
  else if (State.loopOf s c).unavailable = some (var s c) then some none
  else
    match var s c with
    | 0 =>
      if decide (Arith.bit (State.rAtt s (D.iAIO + c) D.AIO_CTRL).toNat 0) then
        some (Tab.find (State.attOf s (State.rAtt s (D.iAIO + c) D.AIO_AIN_SEL).toNat).ain k)
      else some ((Tab.find (State.attOf s c).fb k).bind fun f => if Arith.bit f.status 3 then some f.pdA else none)
    | 1 => some ((Tab.find (State.attOf s c).fb k).bind fun f => if Arith.bit f.status 4 then some f.pdB else none)
    | _ => some ((Tab.find (State.loopOf s c).area k).bind fun a => if a.1 ≤ p.due then a.2 else none)

/-- An AIN sample of 0x0000 or 0xFFFF is consumed (R294): AIN_OVERRANGE once per episode. -/
def overrange (s : State) (c x : Nat) : State :=
  if var s c = 0 ∧ Arith.bit (State.rAtt s (D.iAIO + c) D.AIO_CTRL).toNat 0 then
    if x = 0 ∨ x = 65535 then
      if (State.attOf s c).ainEpisode then s
      else State.raise (State.modAtt s c fun a => { a with ainEpisode := true }) (0xA0 + c) 0x17 (Att.tickLow s)
    else State.modAtt s c fun a => { a with ainEpisode := false }
  else s

/-- A miss (R215). -/
def miss (s : State) (c k : Nat) : State :=
  let run := (reg s c D.MPL_MISS_RUN).toNat
  let s := State.incMpl s (D.iMPL + c) D.MPL_MISSES 1
  if 64 ≤ run then s
  else
    let s := put s c D.MPL_MISS_RUN ((run + 1 : Nat) : Int)
    let s := if run = 0 then say s c 1 (addrOf s c k) else s
    if run + 1 = 64 then
      if (State.loopOf s c).mode = .closed then enter (say s c 2 (addrOf s c k)) c .openFallback
      else if (State.loopOf s c).lostSaid then s
      else say (State.modLoop s c fun l => { l with lostSaid := true }) c 6 (addrOf s c k)
    else s

/-- The plausibility test (R213, R214). -/
def plausible (s : State) (c : Nat) (p : Past) (x : Nat) : State :=
  let ex := Grid.xExp s p.model p.power p.tpred
  let s := put s c D.MPL_LAST_EXPECT (ex : Int)
  if (coef s c D.MPLC_WINDOW).toNat < ((x : Int) - (ex : Int)).natAbs then
    let run := min 65535 ((reg s c D.MPL_IMPL_RUN).toNat + 1)
    let s := put s c D.MPL_IMPL_RUN (run : Int)
    if (coef s c D.MPLC_COUNT).toNat ≤ run then
      if (State.loopOf s c).mode = .closed then put (enter (say s c 3 (addrOf s c p.k)) c .openFallback) c D.MPL_IMPL_RUN 0
      else if (State.loopOf s c).implSaid then s
      else say (State.modLoop s c fun l => { l with implSaid := true }) c 5 (addrOf s c p.k)
    else s
  else State.modLoop (put s c D.MPL_IMPL_RUN 0) c fun l => { l with implSaid := false }

/-- A present, loop-active sample (R209, R214, R215). -/
def present (s : State) (c : Nat) (p : Past) (x : Nat) : State :=
  let s := State.modLoop (put s c D.MPL_MISS_RUN 0) c fun l => { l with lostSaid := false }
  let s := overrange s c x
  let s := put (put s c D.MPL_LAST_MEAS (x : Int)) c D.MPL_LAST_ERR ((x : Int) - (p.setpoint : Int))
  let s := if (State.loopOf s c).mode = .closed then update s c p x else s
  let s := if (reg s c D.MPL_AW).toNat ≠ 0 then State.incMpl s (D.iMPL + c) D.MPL_SAT_TICKS 1 else s
  plausible s c p x

/-- The sample of the past tick `p` is consumed (R205, R207, R219): a fenced or disabled channel processes none. -/
def take (s : State) (c : Nat) (p : Past) : State :=
  let s := Att.modPast s c p.k fun x => { x with loopDone := true }
  if (State.loopOf s c).mode = .off ∨ State.chOf s c = .disabled ∨ State.chOf s c = .fenced ∨ !p.active then s
  else
    match sample s c p with
    | none => s
    | some none => miss s c p.k
    | some (some x) => present s c p x

/-- The oldest past tick whose sample falls due by tick `t`. -/
def due (s : State) (c t : Nat) : Option Past := (State.engOf s c).past.find? fun p => !p.loopDone && decide (p.due ≤ t)

/-- LOOP_SAMPLE_CONSUME (R205): the next sample due in the present tick. -/
def consume (c : Nat) (s : State) : State := match due s c s.tick with | some p => take s c p | none => s

/-- Every sample of a channel due by tick `t`, in ascending tag order. -/
def consumeAll (t c : Nat) (s : State) : State :=
  ((State.engOf s c).past.filter fun p => !p.loopDone && decide (p.due ≤ t)).foldl (fun s p => take s c p) s

/-! ### Coefficient sets (R211, R212) -/

/-- The four steps of R212 on the set in force. -/
def swapSteps (s : State) (c : Nat) : State :=
  let m := coef s c D.MPLC_I_MAX
  let i := reg s c D.MPL_INTEGRAL
  let s := if Arith.bit (reg s c D.MPL_CTRL).toNat 4 then put (put s c D.MPL_INTEGRAL 0) c D.MPL_AW 0
    else if m < i then setAw (put s c D.MPL_INTEGRAL m) c 1 s.tick
    else if i < -m then setAw (put s c D.MPL_INTEGRAL (-m)) c 2 s.tick
    else s
  let s := State.modLoop (put s c D.MPL_IMPL_RUN 0) c fun l => { l with implSaid := false }
  if isOpen (State.loopOf s c).mode then setNext s c (openFactor (reg s c D.MPL_INTEGRAL)) else s

/-- A set comes into force on a channel (R211, R212). -/
def swapTo (s : State) (c n : Nat) : State :=
  if n = State.coefOf s c then s else swapSteps (put s c D.MPL_COEF (n : Int)) c

/-- A phase begins the motion of a segment item (R146, R211): the jump of a SEGMENT_JUMP, a run-up, or a mark. An implicit jump is no phase of an item. -/
def names (e : Engine) (p : Phase) : Bool :=
  p.kind == .runUp || p.kind == .mark ||
    (p.kind == .jump && (((Eng.stripeOf e p.serial).bind fun r => r.items[p.item]?).map fun it => match it with | .jump .. => true | _ => false).getD false)

/-- The set named by a segment item whose motion started in the tick before the present one (R211). -/
def swapDue (c : Nat) (s : State) : State :=
  let b := s.tick - 1
  let e := State.engOf s c
  match (((e.trail ++ if e.stopRun.isSome then [] else e.timeline)).filter fun p => decide (Arith.ratFloor p.start = (b : Int)) && names e p).getLast? with
  | some p => swapTo s c p.par.coef
  | none => s

/-- A change applies to the record of set `n` (R212): it acts on the loops that have it in force. -/
def setChanged (n : Nat) (s : State) : State :=
  (List.range 24).foldl (fun s c => if State.coefOf s c = n then swapSteps s c else s) s

/-! ### States (R204, R217, R218) -/

/-- A head or photodiode attachment supplies the variable (R204). -/
def varOk (s : State) (c : Nat) : Bool :=
  match var s c with
  | 0 => Arith.bit (State.rAtt s (D.iAIO + c) D.AIO_CTRL).toNat 0 || (!State.legacy s c && decide (State.rLnk s (D.iLNK + c) D.LNK_PROTOCOL ≠ 0))
  | 1 => State.hasZ s c
  | _ => State.hasZ s c && Arith.bit (State.rImg s (D.iMPF + c) D.MPF_CTRL).toNat 0

/-- The check when a channel starts in a layer (R204). -/
def startCheck (c : Nat) (s : State) : State :=
  let m := (State.loopOf s c).mode
  let ok := varOk s c
  let s := State.modLoop s c fun l => { l with unavailable := if m = .off ∨ ok then none else some (var s c) }
  if m = .off ∨ ok then s
  else
    let s := say s c 4 (State.btickLow s)
    if m = .closed then enter s c .openFallback else s

/-- MODE is applied (R217). -/
def applyMode (c : Nat) (s : State) : State :=
  let m := (State.loopOf s c).mode
  let free := m != .fenced || !State.holdsStatus s (0xD0 + c)
  match Arith.bits (reg s c D.MPL_CTRL).toNat 1 0 with
  | 0 => if m != .off && free then enter s c .off else s
  | 1 => if m != .openHost && free then enter s c .openHost else s
  | _ => if m = .off ∨ m = .openHost then close s c else s

/-- RECLOSE is carried out (R217, R218). -/
def recloseNow (c : Nat) (s : State) : State :=
  match (State.loopOf s c).mode with
  | .openFallback => close s c
  | .fenced => if State.holdsStatus s (0xD0 + c) then s else close s c
  | _ => s

/-- RESET_INTEGRAL is carried out (R218). -/
def resetNow (c : Nat) (s : State) : State :=
  let s := put (put s c D.MPL_INTEGRAL 0) c D.MPL_AW 0
  if isOpen (State.loopOf s c).mode then setNext s c 0x8000 else s

/-- MPL_CMD (R218): deferred to the next LAYER apply point while BUILDING or PAUSED. -/
def cmd (c v : Nat) (s : State) : State :=
  if s.dev.mode.inBuild then
    State.modLoop s c fun l => { l with reclose := l.reclose || v == 1, resetI := l.resetI || v == 2 }
  else if v = 1 then recloseNow c s else resetNow c s

/-- The commands that wait are carried out at a LAYER apply point (R218). -/
def applyPoint (c : Nat) (s : State) : State :=
  let l := State.loopOf s c
  let s := State.modLoop s c fun l => { l with reclose := false, resetI := false }
  let s := if l.resetI then resetNow c s else s
  if l.reclose then recloseNow c s else s

/-- The commands that wait are carried out at a layer boundary (R217, R218): the variable check runs before the reclose, so that a fallen-back loop without
its variable stays. -/
def applyBoundary (c : Nat) (s : State) : State :=
  applyPoint c (if (State.loopOf s c).mode = .openFallback ∧ !varOk s c then State.modLoop s c fun l => { l with reclose := false } else s)

/-- The reclose of a layer boundary (R217): with RECLOSE_AT_LAYER a fallen-back loop whose variable is available closes. -/
def boundary (c : Nat) (s : State) : State :=
  if (State.loopOf s c).mode = .openFallback ∧ Arith.bit (reg s c D.MPL_CTRL).toNat 5 ∧ varOk s c then close s c else s

/-- START_BUILD on a loop (R208, R211). -/
def startBuild (c : Nat) (s : State) : State :=
  let w := put s c
  let s := put (put (put (w D.MPL_INTEGRAL 0) c D.MPL_AW 0) c D.MPL_FACTOR 0x8000) c D.MPL_COEF 0
  State.modLoop s c fun l => { l with next := none, area := [], unavailable := none }

/-- The loop is fenced (R217). -/
def fence (c : Nat) (s : State) : State := if (State.loopOf s c).mode = .fenced then s else enter s c .fenced

end Mpl

end Sys2Proof.Machine
end

