-- ==== Sys2Proof/Machine/Apply.lean ====
section
/-!
DEFINITION. What an applied write does: the value reaches its entry, and the unit that the entry configures follows (02_dictionary.md R55, R60, and the
entries of the chapters). The cross-entry checks of R59. The saved set of R53.
What the rules leave to the model: log entries 13 and 47.
-/
namespace Sys2Proof.Machine

/-! ### Catalogue images (R124 to R126) -/

namespace CatImg

/-- The 16 bytes of an entry (R124). -/
def bytes (e : CatEntry) : List Byte := Arith.natLe 1 e.op ++ Arith.natLe 1 e.a ++ Arith.natLe 2 e.b ++ Arith.natLe 4 e.c ++ Arith.natLe 4 e.d ++ Arith.natLe 4 e.e

/-- The entry of 16 bytes. -/
def entryOf (bs : List Byte) : CatEntry :=
  ⟨Arith.leAt bs 0 1, Arith.leAt bs 1 1, Arith.leAt bs 2 2, Arith.leAt bs 4 4, Arith.leAt bs 8 4, Arith.leAt bs 12 4⟩

/-- The entries of an image. -/
def entries (bs : List Byte) : List CatEntry := (List.range (bs.length / 16)).map fun i => entryOf (bs.drop (16 * i))

/-- The source codes of WAIT_INPUT (R125). -/
def inputOk (n : Nat) : Bool := decide (n < 0x18) || (decide (0x20 ≤ n) && decide (n < 0x24))

/-- Every OP is listed, every reserved field is 0, every operand lies within its range, every target below the entry count (R125, R126). -/
def entryOk (n : Nat) (e : CatEntry) : Bool :=
  let z := fun (v : Nat) => decide (v = 0)
  let le := fun (v m : Nat) => decide (v ≤ m)
  match e.op with
  | 0x01 => z e.a && z e.b && decide (0 < e.c) && decide (e.c < 2 ^ 24) && z e.d && z e.e
  | 0x02 => z e.a && le e.b 1 && decide (e.c < 2 ^ 24) && (decide (0 < e.c) || decide (e.b = 1)) && z e.e
  | 0x10 => le e.a 7 && le e.b 1
  | 0x11 => decide (0 < e.a) && z e.b && z e.c && z e.e
  | 0x12 => le e.a 7 && decide (e.b % 256 ≤ 7) && le e.b 0x107 && decide (1 ≤ e.d) && z e.e
  | 0x20 => le e.a 3 && le e.b 7 && z e.c && z e.d && z e.e
  | 0x21 => le e.a 3 && z e.b && decide (e.c < 2 ^ 16) && z e.d && z e.e
  | 0x22 => z e.a && le e.b 3 && z e.c && z e.d && z e.e
  | 0x23 => decide (1 ≤ e.a) && le e.a 3 && le e.b 1 && (if e.a = 1 then le e.c 3 else z e.c) && z e.d && z e.e
  | 0x30 => z e.a && z e.b && decide (1 ≤ e.c) && le e.c 2000000000 && z e.d && z e.e
  | 0x31 => inputOk e.a && le e.b 3 && z e.c && z e.e
  | 0x40 => z e.a && z e.b && z e.c && z e.d && z e.e
  | 0x50 => le e.a 3 && decide (e.c < n) && z e.d && z e.e
  | 0x51 => z e.a && z e.b && decide (e.c < n) && z e.d && z e.e
  | 0x52 => le e.a 7 && le e.b 1 && decide (e.c < n) && z e.d && z e.e
  | 0x7F => z e.a && z e.b && z e.c && z e.d && z e.e
  | _ => false

/-- A valid image (R126). -/
def ok (bs : List Byte) : Bool :=
  decide (bs.length % 16 = 0) && decide (16 ≤ bs.length) && decide (bs.length ≤ 65536) && (entries bs).all (entryOk (bs.length / 16))

end CatImg

namespace Apply

/-- The unit of a record that is repeated from `base` on. -/
def unit (base count idx : Nat) : Option Nat := if decide (base ≤ idx) && decide (idx < base + count) then some (idx - base) else none

/-- Store a number in the register of an entry. -/
def rawNum (path idx sub : Nat) (v : Int) (s : State) : State :=
  match Dict.blkOf idx with
  | some b => State.setRegs s (Regs.set (Dict.rowsOf b) (State.regsOf s b) (Dict.key (Dict.bankOf path idx) idx sub) v) b
  | none => s

/-- What an unlisted BLOB of the correction and grid records reads as (R164, R245). -/
def blobDflt (k : Nat) : Blob :=
  let idx := k / 256 % 65536
  if decide (D.iCOR ≤ idx) && decide (idx < D.iCOR + 24) then ⟨792588, []⟩
  else if decide (D.iGRD_CURVE ≤ idx) && decide (idx < D.iGRD_CURVE + 64) then Grid.curveDflt
  else if decide (D.iGRD_MODEL ≤ idx) && decide (idx < D.iGRD_MODEL + 16) then Grid.modelDflt
  else Blob.empty

/-- Store the bytes of a STR or of a BLOB that is kept as such. -/
def rawBlob (idx sub : Nat) (b : Blob) (s : State) : State :=
  let k := Dict.key 0 idx sub
  match Dict.blkOf idx with
  | some .dev => { s with dev := { s.dev with blobs := Tab.set blobDflt s.dev.blobs k b } }
  | some .cat =>
    let bs := Blob.toList b
    State.wCat { s with cat := { s.cat with image := CatImg.entries bs } } D.iCAT_CTRL D.CAT_CTRL_IMAGE_CRC (if bs.isEmpty then 0 else (Arith.crc32 bs : Nat))
  | some .trj => { s with trj := { s.trj with blobs := Tab.set blobDflt s.trj.blobs k b } }
  | some .grd => { s with grd := { s.grd with blobs := Tab.set blobDflt s.grd.blobs k b } }
  | some .img => { s with img := { s.img with blobs := Tab.set blobDflt s.img.blobs k b } }
  | some .fol => { s with fol := { s.fol with blobs := Tab.set blobDflt s.fol.blobs k b } }
  | _ => s

/-! ### What follows an applied write -/

/-- Run one operation where bit 0 of a value is 1, another where it is 0. -/
def gate (v : Int) (on off : State → State) (s : State) : State := if Arith.bit v.toNat 0 then on s else off s

/-- A value with bit 0 as it was: the operation that follows sets it. -/
def keep0 (old v : Int) : Int := v - v % 2 + old % 2

/-- CHS_ENABLE is applied as 1 (R143): a DISABLED channel becomes IDLE, and its private context leaves PARKED. -/
def channelOn (c : Nat) (s : State) : State :=
  let s := State.wCat s (D.iCHS + c) D.CHS_ENABLE 1
  if State.chOf s c = .disabled then
    let s := Lnk.channelEnabled c (State.setCh s c .idle)
    let x := State.ctxOf s c
    let s := if x.mode = .parked ∧ !x.fenced ∧ Arith.bit (State.ctxReg s c D.CTX_CTRL) 0 then State.setCtxMode s c .enabled else s
    Lend.refreshShared c s
  else s

/-- With PLM_ENABLE = 0 every plume hold ends in the tick of the apply (R188): the candidate's run-up starts at the commit horizon. -/
def plumeOff (s : State) : State :=
  State.forAll (fun c s =>
    let k := s.tick + Eng.horizon
    if (State.engOf s c).plumeHeld then
      Grid.feedForward (Eng.commitTo (State.modEng (Lend.carry c s) c fun e => { e with plumeHeld := false, slots := e.slots.filter fun d => decide (d.k < k) }) c k) c k
    else s) (State.byRank s) s

/-- Entries of the contexts, the channels, exposure and Lending. -/
def jobHook (idx sub : Nat) (old v : Int) (s : State) : Option State :=
  match unit D.iCTX 96 idx with
  | some n =>
    if sub = D.CTX_CTRL then some (gate v (Feed.enable n) (Feed.disable n) (rawNum 0 idx sub (keep0 old v) s))
    else if sub = D.CTX_MEMBERS then some (Lend.refreshLive n (rawNum 0 idx sub v s))
    else none
  | none =>
  match unit D.iCHS 24 idx with
  | some c => if sub = D.CHS_ENABLE then some (gate v (channelOn c) (fun s => Lend.disable s c) s) else none
  | none =>
  match unit D.iCOR 24 idx with
  | some _ => if sub = D.COR_FIELD_HALF then some (Lend.reachStart (rawNum 0 idx sub v s)) else none
  | none =>
  if idx = D.iREG then some (Lend.reachStart (rawNum 0 idx sub v s))
  else if idx = D.iLND then if sub = D.LND_REACH_MARGIN then some (Lend.reachStart (rawNum 0 idx sub v s)) else none
  else if idx = D.iPLM then
    if sub = D.PLM_ENABLE ∧ v = 0 then some (plumeOff (rawNum 0 idx sub v s))
    else if sub = D.PLM_FLOW_ANGLE then
      let f := Plume.flow v.toNat
      some (State.wLnd (State.wLnd (rawNum 0 idx sub v s) idx D.PLM_FLOW_X f.1) idx D.PLM_FLOW_Y f.2)
    else none
  else match unit D.iLNDC 24 idx with
    | some _ => if sub = D.LNDC_REACH_ENABLE then some (Lend.reachStart (rawNum 0 idx sub v s)) else none
    | none => none

/-- The channel whose attachment an entry selects (R3): SRC_ATTACH or XY_SELECT. -/
def attachOf (idx sub : Nat) : Option Nat :=
  match unit D.iSRC 24 idx with
  | some c => if sub = D.SRC_ATTACH then some c else none
  | none => match unit D.iXY 8 idx with
    | some c => if sub = D.XY_SELECT then some c else none
    | none => none

/-- The present state bars an entry from a new value when a transaction applies (R3, R100; log entry 13): an attachment while its channel is not DISABLED,
a ring size while the ring is not empty, and the position of an axis in motion (R399). -/
def barred (s : State) (idx sub : Nat) : Bool :=
  match attachOf idx sub with
  | some c => State.chOf s c != .disabled
  | none => match unit D.iCTX 96 idx with
    | some n => sub == D.CTX_RING_SIZE && State.ctxReg s n D.CTX_WP != State.ctxReg s n D.CTX_RM
    | none => match unit D.iAX 8 idx with
      | some a => sub == D.AX_POSITION && !Ax.standstill s a
      | none => false

/-- Entries of the melt-pool loops, the grid, the lanes, the camera ports, the lamps and Folio. -/
def unitHook (idx sub : Nat) (old v : Int) (s : State) : Option State :=
  match unit D.iMPL 24 idx with
  | some c => if sub = D.MPL_CTRL then some (Mpl.applyMode c (rawNum 0 idx sub v s)) else none
  | none =>
  match unit D.iMPLC 32 idx with
  | some n => some (Mpl.setChanged n (rawNum 0 idx sub v s))
  | none =>
  match unit D.iLNK 48 idx with
  | some m => if sub = D.LNK_CTRL then some (gate v (Lnk.enable m) (Lnk.disable m) (rawNum 0 idx sub (keep0 old v) s)) else none
  | none =>
  match unit D.iCAM 4 idx with
  | some p => if sub = D.CAM_CTRL then some (gate v (Img.enable p) (Img.disable p) (rawNum 0 idx sub v s)) else none
  | none =>
  match unit D.iILM 16 idx with
  | some l => if sub = D.ILM_ENABLE then some (gate v (Ilm.enable l) (Ilm.disable l) s) else none
  | none =>
  match unit D.iMPF 24 idx with
  | some n =>
    if sub = D.MPF_CTRL then
      some (gate v id (fun s => Feat.modUnit s n fun u => { u with fenced := u.fenced && State.holdsStatus s (0x110 + n) }) (rawNum 0 idx sub v s))
    else none
  | none =>
  if idx = D.iFOL then
    if sub = D.FOL_ENABLE then some (gate v Fol.enable Fol.disable s)
    else if sub = D.FOL_BUF_COUNT then some (Fol.showEngine (rawNum 0 idx sub v s))
    else none
  else if idx = D.iGRD_CFG ∧ Grid.geometrySubs.contains sub then
    let s := rawNum 0 idx sub v s
    let s := if v = old then s else Grid.geometryChanged s
    some (if sub = D.GRD_CFG_EQ then s else Lend.reachStart s)
  else if idx = D.iSTK_CTRL ∧ sub = D.STK_CTRL_JOB ∧ v ≠ old then some (Stk.jobChanged (rawNum 0 idx sub v s))
  else none

/-- Exclusions that change are recorded (R448, R465), and the limits see the sensors that remain. -/
def exclude (old v : Nat) (s : State) : State :=
  let s := State.wTmp s D.iTMP D.TMP_EXCLUDE (v : Int)
  let s := State.forAll (fun i s => if Arith.bit old i = Arith.bit v i then s else Ldg.ordinary 6 i 0 s) (List.range 40) s
  Tmp.limits s

/-- Entries of the axes, encoders, compare units, network, time, temperature and ERR_N (R437). -/
def sysHook (idx sub : Nat) (old v : Int) (s : State) : Option State :=
  match unit D.iAX 8 idx with
  | some a =>
    if sub = D.AX_CTRL then
      let s := if Arith.bit old.toNat 7 = Arith.bit v.toNat 7 then s else Ax.invertInputs a s
      some (gate v (Ax.enable a) (Ax.disable a) (rawNum 0 idx sub (keep0 old v) s))
    else if sub = D.AX_SPEED ∨ sub = D.AX_ACCEL ∨ sub = D.AX_DECEL then some (Ax.profileWrite a sub v s)
    else if sub = D.AX_JOG_SPEED then some (Ax.jogSpeed a v s)
    else if sub = D.AX_POSITION then some (Ax.modAxis s a fun x => { x with pos := v })
    else none
  | none =>
  match unit D.iENC 8 idx with
  | some e =>
    if sub = D.ENC_CTRL then some (gate v (Ax.encEnable e) (Ax.encDisable e) (rawNum 0 idx sub v s))
    else if sub = D.ENC_COUNT then some (Ax.modEnc s e fun x => { x with count := v })
    else none
  | none =>
  match unit D.iCMP 16 idx with
  | some u => if sub = D.CMP_POSITION then some (Ax.cmpPosition u v s) else none
  | none =>
  if idx = D.iGEAR then if 1 ≤ sub then some (Ax.gearWrite ((sub - 1) / 8) ((sub - 1) % 8) v s) else none
  else if D.iNET_PORT ≤ idx ∧ idx < D.iNET_PORT + 2 then
    if sub = D.NET_PORT_CTRL then some (Net.portCtrl (idx - D.iNET_PORT) (Arith.bit v.toNat 0) (rawNum 0 idx sub v s)) else none
  else if idx = D.iNET_CLK then if sub = D.NET_CLK_NETCLK then some (Net.write v.toNat s) else none
  else if idx = D.iNET_TSYNC then
    if sub = D.NET_TSYNC_CTRL then some (Net.syncEnable (Arith.bit v.toNat 0) s)
    else if sub = D.NET_TSYNC_REF_TICK ∨ sub = D.NET_TSYNC_REF_NETCLK then some (Net.refWritten (rawNum 0 idx sub v s))
    else none
  else if idx = D.iTMP then if sub = D.TMP_EXCLUDE then some (exclude old.toNat v.toNat s) else none
  else if idx = D.iFLT_PIN then some (Flt.pin (rawNum 0 idx sub v s))
  else none

/-- A number reaches its entry. -/
def num (path idx sub : Nat) (v : Int) (s : State) : State :=
  let old := Read.value s path idx sub
  if barred s idx sub then s
  else match jobHook idx sub old v s with
  | some t => t
  | none =>
  match unitHook idx sub old v s with
  | some t => t
  | none =>
  match sysHook idx sub old v s with
  | some t => t
  | none => rawNum path idx sub v s

/-- The bytes of a STR or a BLOB reach their entry. -/
def bytes (path idx sub : Nat) (b : Blob) (s : State) : State :=
  if idx = D.iDEV_FW then
    { s with dev := { s.dev with fwStoring := some ⟨0, true, some b⟩, fwPath := path } }
  else if idx = D.iCAL then Tmp.writeValues (Cal.ofBytes (Blob.toList b)) s
  else if idx = D.iSTK_OBJ then Stk.hostWrite path (Blob.toList b) s
  else match unit D.iCOR 24 idx with
    | some _ => State.incTrj (rawBlob idx sub b s) idx D.COR_TABLE_LOADS 1
    | none => rawBlob idx sub b s

/-- A value reaches its entry. -/
def val (path idx sub : Nat) (v : Val) (s : State) : State :=
  match v with
  | .num n => num path idx sub n s
  | .bytes b => bytes path idx sub b s

/-! ### Cross-entry checks (R59) -/

/-- The entries as they would stand, without what follows. -/
def preview (path : Nat) (l : List Staged) (s : State) : State :=
  l.foldl (fun s w => match w.val with | .num n => rawNum path w.idx w.sub n s | .bytes b => rawBlob w.idx w.sub b s) s

/-- A member set, RING_SIZE and ENABLE of a context agree (R100). -/
def ctxOk (s : State) (n sub : Nat) : Bool :=
  let ok := State.membersOk (State.ctxReg s n D.CTX_MEMBERS)
  if sub = D.CTX_MEMBERS then ok || decide (n < 24)
  else if sub = D.CTX_CTRL then decide (n < 24) || ok || !Arith.bit (State.ctxReg s n D.CTX_CTRL) 0
  else if sub = D.CTX_RING_SIZE then decide (((List.range 96).map fun m => State.ctxReg s m D.CTX_RING_SIZE).sum ≤ 16384)
  else true

/-- The checks that an entry takes part in hold of the values that stand. -/
def consistent (s : State) (idx sub : Nat) : Bool :=
  match unit D.iPS 256 idx with
  | some n => decide (State.rTrj s (D.iPS + n) D.PS_P_MIN ≤ State.rTrj s (D.iPS + n) D.PS_P_MAX)
  | none =>
  match unit D.iCTX 96 idx with
  | some n => ctxOk s n sub
  | none =>
  match unit D.iCAM 4 idx with
  | some p =>
    if sub = D.CAM_WIDTH ∨ sub = D.CAM_HEIGHT ∨ sub = D.CAM_DEFECT_MAP then
      Img.defectsOk (Img.blob s p D.CAM_DEFECT_MAP) (Img.cam s p D.CAM_WIDTH) (Img.cam s p D.CAM_HEIGHT)
    else true
  | none =>
  match unit D.iMPF 24 idx with
  | some n => Feat.settingsOk s n
  | none =>
  match unit D.iAX 8 idx with
  | some a =>
    if sub = D.AX_SPEED ∨ sub = D.AX_STEP_WIDTH ∨ sub = D.AX_JOG_SPEED then
      Ax.speedOk s a (Ax.reg s a D.AX_SPEED) && Ax.speedOk s a (Ax.reg s a D.AX_JOG_SPEED)
    else true
  | none =>
  if idx = D.iGRD_CFG ∨ idx = D.iGRD_SWEEP then Grid.cfgOk s
  else if idx = D.iFOL then
    decide (Fol.ctl s D.FOL_BUF_SIZE * Fol.ctl s D.FOL_BUF_COUNT ≤ 536870912)
  else true

/-! ### Apply points (R60 to R62) -/

/-- The classes of R34: LAYER, FRAME and FREE. -/
inductive Class where
  | layer | frame | free
deriving DecidableEq, Repr

/-- The apply class of an index (R34). -/
def classOf (idx : Nat) : Class :=
  if decide (0x3200 ≤ idx) && decide (idx < 0x3220) then .frame
  else if decide (0x3300 ≤ idx) && decide (idx < 0x3400) then .frame
  else if decide (0x2000 ≤ idx) && decide (idx < 0x3400) then .layer
  else if decide (0x3600 ≤ idx) && decide (idx < 0x3700) then .layer
  else .free

/-- Where pending writes apply: LAST_APPLY_POINT (R65). -/
inductive Point where
  | commit | boundary | step | frame | transition
deriving DecidableEq, Repr

/-- Code of LAST_APPLY_POINT. -/
def Point.code : Point → Nat
  | .commit => 0 | .boundary => 1 | .step => 2 | .frame => 3 | .transition => 4

/-- Writes leave a transaction and apply; a transaction with no write left is fully applied and leaves the queue (R65). -/
def some_ (pt : Point) (sel : Staged → Bool) (t : Txn) (s : State) : State :=
  let s := (t.writes.filter sel).foldl (fun s w => val t.path w.idx w.sub w.val s) s
  let left := t.writes.filter fun w => !sel w
  if left.isEmpty then
    let s := { s with txn := { s.txn with queue := s.txn.queue.filter fun q => q.id != t.id } }
    let s := State.wTxn s D.iTXN_PENDING D.TXN_PENDING_LAST_APPLIED_ID (t.id : Int)
    let s := State.wTxn s D.iTXN_PENDING D.TXN_PENDING_LAST_APPLY_BTICK (if s.dev.mode.inBuild then (s.btick : Int) else 0)
    State.wTxn s D.iTXN_PENDING D.TXN_PENDING_LAST_APPLY_POINT (pt.code : Int)
  else { s with txn := { s.txn with queue := Arith.updWhere (fun q => q.id == t.id) (fun q => { q with writes := left }) s.txn.queue } }

/-- Every pending transaction applies the writes of a selection, in TXN_ID order (R61). -/
def all (pt : Point) (sel : Staged → Bool) (s : State) : State :=
  s.txn.queue.foldl (fun s t => if t.writes.any sel then some_ pt sel t s else s) s

/-- The LAYER-class writes of every pending transaction (R61, R62). -/
def layer (pt : Point) (s : State) : State := all pt (fun w => classOf w.idx == .layer) s

/-- The port whose frame starts a FRAME-class entry waits for (R60): its own port, the in-line port for IMG_ and ILM_; none for the ports' idle. -/
def portOf (s : State) (idx : Nat) : Nat := match unit D.iCAM 4 idx with | some p => p | none => Img.img s D.IMG_INLINE

/-- The FRAME-class writes that the start of a frame on port `p` lets apply (R60). -/
def frame (p : Nat) (s : State) : State := all .frame (fun w => classOf w.idx == .frame && portOf s w.idx == p) s

/-- The start of a TRIG tick (R60, R324), before port `p` raises TRIG: the frame starts of all ports that raise TRIG in this tick are applied once, then the
staged lamp values become live. -/
def frameStart (p : Nat) (s : State) : State :=
  let e : SyncEdge := match s.img.sync with | some e => if e.tick = s.tick then e else ⟨s.tick, [], false⟩ | none => ⟨s.tick, [], false⟩
  let ports := (List.range 4).filter fun q =>
    (q == p || (Ilm.portOf s q).mode == .armed && (Ilm.portOf s q).event) && !e.ports.contains q
  let s := State.forAll frame ports s
  let moves := (e.ports.isEmpty && decide (Ilm.glob s D.ILMG_APPLY_PENDING = 1)) || (e.moved && !ports.isEmpty)
  let s := { s with img := { s.img with sync := some { e with ports := e.ports ++ ports, moved := moves } } }
  if moves then Ilm.transfer s else s

/-- Which writes apply at once at a commit (R60). -/
def atCommit (s : State) (w : Staged) : Bool :=
  match classOf w.idx with
  | .free => true
  | .layer => !s.dev.mode.inBuild
  | .frame => !s.dev.mode.inBuild && (Ilm.portOf s (portOf s w.idx)).mode != .exposing && (Ilm.portOf s (portOf s w.idx)).mode != .receiving &&
      (Ilm.portOf s (portOf s w.idx)).mode != .armed && (Ilm.portOf s (portOf s w.idx)).mode != .processing

end Apply

end Sys2Proof.Machine
end

