-- ==== Sys2Proof/Machine/Sequencer.lean ====
section
/-!
DEFINITION. The device states (01_architecture.md R21 to R25, R30) and the Catalogue (05_catalogue_sequencer.md R124 to R145, R525, R526): layers, steps,
build control.
What the rules leave to the model: log entries 9, 20 and 22.
-/
namespace Sys2Proof.Machine

namespace Seq

/-! ### Flags and device states -/

/-- Set or clear sequencer flag `i` (R129). -/
def setFlag (i : Nat) (b : Bool) (s : State) : State :=
  State.wCat s D.iCAT_STATUS D.CAT_STATUS_FLAGS ((Arith.setBit (State.rCat s D.iCAT_STATUS D.CAT_STATUS_FLAGS).toNat i b : Nat) : Int)

/-- A sequencer flag (R129). -/
def flag (s : State) (i : Nat) : Bool := Arith.bit (Read.seqFlags s) i

/-- Quiet periods run in this state (R434). -/
def quietRuns (m : Mode) : Bool := m == .ready || m == .building || m == .paused

/-- The quiet periods of the sources that hold status start again (R434). -/
def restartQuiet (s : State) : State :=
  State.forAll (fun k s => State.modSrc s k fun f => { f with quietFrom := s.tick, quietTicks := 2000 * (State.rFlt s D.iFLT_CTRL D.FLT_CTRL_QUIET).toNat }) ((s.flt.srcs.filter fun e => e.2.active).map fun e => e.1) s

/-- A transition of the device state (R21, R438, R448). -/
def setMode (m : Mode) (reason : Nat) (s : State) : State :=
  if s.dev.mode = m then s
  else
    let old := s.dev.mode
    let s := Ldg.ordinary 3 (m.code + 256 * reason) 0 s
    let s := { s with dev := { s.dev with mode := m, prev := old }, flt := { s.flt with transitions := s.flt.transitions + 1 } }
    let s := State.wDev s D.iDEV_STATE D.DEV_STATE_LAST_REASON (reason : Int)
    let s := if quietRuns m && !quietRuns old then restartQuiet s else s
    Flt.pin (if Arith.bit (State.bar0 s 0x108) 1 then State.irq s 3 else s)

/-- A state command is refused (R22). -/
def refuseCmd (code : Nat) (s : State) : State := State.wDev s D.iDEV_STATE D.DEV_STATE_LAST_REFUSED (code : Int)

/-! ### Stripes of a channel at PAUSE, STOP, SAFE (R144, R525) -/

/-- The stripes of a channel of which no set-point has been sent. -/
def unsent (s : State) (c : Nat) : List StripeRun :=
  (State.engOf s c).stripes.filter fun r => match r.kFirst with | none => r.kLast.isNone | some k => decide (s.tick + State.delayOf s c < k)

/-- Take back what was planned of the stripes not yet begun (R525): the channel holds where the stripe it sends ends. Marks of them that have passed their
check stay committed (R184). -/
def takeBack (c : Nat) (s : State) : State :=
  let u := unsent s c
  let e := State.engOf s c
  let mine := fun (n : Nat) => u.any fun r => r.serial == n
  let from0 := ((u.filterMap fun r => r.kFirst).foldl min (s.tick + Eng.horizon + 1))
  let gone := (e.slots.filter fun d => decide (from0 ≤ d.k)).map fun d => d.k
  let slots := e.slots.filter fun d => decide (d.k < from0)
  let tl := e.timeline.filter fun p => !mine p.serial
  let stripes := e.stripes.map fun r =>
    if mine r.serial then
      { r with kFirst := none, kLast := none, cleared := r.cleared ++ (e.cmarks.filter fun m => m.serial == r.serial).map fun m => m.item }
    else r
  let e := { e with
    timeline := tl
    slots := slots
    edges := e.edges.filter fun d => !mine d.serial
    stripes := stripes
    cmarks := (Eng.heldMarks { e with cmarks := e.cmarks.filter fun m => mine m.serial } 0 e.pos) ++ e.cmarks.filter fun m => !mine m.serial
    due := e.due.filter fun d => !mine d.2.2.2.2
    paces := e.paces.take (e.paces.length - u.countP fun r => r.kLast.isSome)
    pos := if tl.isEmpty then ((slots.getLast?).map fun d => d.pos).getD e.pos else e.pos
    plan := match e.plan with | some p => if mine p.serial then none else some p | none => none
    plumeHeld := e.plumeHeld && !(e.plan.map fun p => mine p.serial).getD true }
  let s := State.forAll (fun k s => Eng.commit s c k) gone (State.setEng s c e)
  Mpl.compose (s.tick + State.delayOf s c + 1) c s

/-- PAUSE on a started channel (R23, R525): it keeps a stripe it has chosen and begins it after RESUME. -/
def pauseChannel (c : Nat) (s : State) : State :=
  if Eng.faultHeld (State.engOf s c) then s
  else
    let s := takeBack c s
    State.modEng s c fun e =>
      match Eng.unbegun e with
      | some r => if e.plan.isNone then { e with plan := some (Eng.planOf r), motion := .hold, why := .pause } else e
      | none => e

/-- RESUME on a started channel (R23, R489). -/
def resumeChannel (c : Nat) (s : State) : State :=
  State.modEng s c fun e =>
    if e.why = .pause then { e with motion := .move, why := .none } else if e.why = .interlock then { e with why := .fault } else e

/-- A channel that has stopped, or stops now, gives its stripes back (R144). -/
def abandonChannel (c : Nat) (s : State) : State :=
  let s := Eng.stopNow s c .fault
  let s := Lend.classifyAll s c s.tick (((State.engOf s c).blockFrom).getD ((s.tick + 1) * 125)) true false
  { s with cat := { s.cat with stopping := s.cat.stopping.filter (· != c) } }

/-- STOP on a started channel (R525): it finishes the stripe it sends; one not begun goes back to its context. -/
def stopChannel (c : Nat) (s : State) : State :=
  if Eng.faultHeld (State.engOf s c) then abandonChannel c s
  else
    let s := takeBack c s
    let u := unsent s c
    let e := { State.engOf s c with resume := none }
    let s := u.foldl (fun s r => Lend.classify s c s.tick ((s.tick + 1) * 125) true e ((u.head?.map fun x => x.serial != r.serial).getD false) r) s
    let s := State.modEng s c fun e => { e with
      stripes := e.stripes.filter fun r => !u.any fun x => x.serial == r.serial
      why := if e.why = .pause then .none else e.why }
    if (State.engOf s c).stripes.isEmpty then s
    else { s with cat := { s.cat with stopping := if s.cat.stopping.contains c then s.cat.stopping else s.cat.stopping ++ [c] } }

/-- A channel that finishes its stripe after a STOP has come to rest, or a fault has stopped it inside (R144, R525). -/
def settleStop (c : Nat) (s : State) : State :=
  let e := State.engOf s c
  if !s.cat.stopping.contains c then s
  else if Eng.faultHeld e then abandonChannel c s
  else if e.stripes.isEmpty && e.plan.isNone then { s with cat := { s.cat with stopping := s.cat.stopping.filter (· != c) } }
  else s

/-! ### Leaving a build -/

/-- The channels of the layer become IDLE (R139, R143). -/
def idleAll (s : State) : State :=
  State.forAll (fun c s => if State.chOf s c = .started ∨ State.chOf s c = .done then State.setCh s c .idle else s) (List.range 24) s

/-- Fences since the last action set DEGRADED (R127 step 2, R129). -/
def takeFences (s : State) : State :=
  if s.cat.newFences.isEmpty then s else setFlag 2 true { s with cat := { s.cat with newFences := [] } }

/-- What Lending keeps per layer starts again, and members kept out come back (R99, R179, R197). -/
def clearLayer (s : State) : State :=
  State.forAll Lend.refreshLive (Arith.rangeFrom 24 72) (Lend.forget { s with lnd := { s.lnd with counters := [], barred := [] } })

/-- The Catalogue goes to IDLE and the layer is abandoned (R139); the pending LAYER writes apply in the new state (R62). -/
def leaveBuild (m : Mode) (reason : Nat) (s : State) : State :=
  let s := takeFences s
  let s := idleAll s
  let s := { s with
    cat := { s.cat with mode := .idle, waiting := none, event := false, calHold := false, stageLate := false, inLayer := [], boundaryAt := none }
    dev := { s.dev with spanOpen := false }
    stk := { s.stk with writes := s.stk.writes.map fun w => { w with wait := false } } }
  let s := State.wCat s D.iCAT_STATUS D.CAT_STATUS_LAYER_OPEN 0
  let s := clearLayer (setMode m reason s)
  let s := State.forAll Mpl.applyPoint (List.range 24) (Apply.layer .transition s)
  Stk.buildOver (Ilm.leaveBuild (Grid.leaveBuild s))

/-- STOP and HALT (R23, R139, R525). HALT with channels STARTED and a layer open stops them and abandons the layer as STOP does (R23 and R139 do not say; DESIGN
CHOICE: log entry 20). -/
def endBuild (reason : Nat) (s : State) : State := leaveBuild .ready reason (State.forAll stopChannel (State.startedSet s) s)

/-- Entry to SAFE (R23, R144, R380, R470): started channels stop at once, axes stop by quick stop, a calibration run and the start-up are abandoned. -/
def enterSafe (reason : Nat) (s : State) : State :=
  if s.dev.mode = .safe ∨ s.dev.mode = .thermalOff then s
  else
    let s := State.forAll abandonChannel (State.startedSet s ++ s.cat.stopping) s
    let s := if s.dev.mode.inBuild then leaveBuild .safe reason s else setMode .safe reason s
    let s := Tmp.resumeIssue (Tmp.abandonRun (Ax.quickStopAll s))
    let s := if s.pwr.boot.isSome ∧ s.stk.mode = .mounting then Stk.enter .absent s else s
    { s with pwr := { s.pwr with boot := none } }

/-! ### Layers (R130, R131, R526) -/

/-- Close the report of the layer that ends (R30, R31). -/
def closeReport (s : State) : State :=
  let w := fun s sub (v : Int) => State.wDev s D.iDEV_DET sub v
  let b := State.rDev s D.iDEV_DET D.DEV_DET_LIVE_BREAK
  let s := w (w s D.DEV_DET_LAYER (State.layerNo s : Int)) D.DEV_DET_IN_ENVELOPE (if b = 0 then 1 else 0)
  let s := w (w s D.DEV_DET_BREAK b) D.DEV_DET_FIRST_BREAK_BTICK (if b = 0 then 0 else (s.dev.liveFirst : Int))
  let s := w (w s D.DEV_DET_OUT_DIGEST (s.dev.digest : Int)) D.DEV_DET_LIVE_BREAK 0
  { s with dev := { s.dev with spanOpen := false, gridDigestDue := some (State.layerNo s) } }

/-- A layer boundary (R61, R127 step 1, R131): pending LAYER writes apply, the layer number advances, DONE channels become IDLE. -/
def boundary (s : State) : State :=
  let n := State.rCat s D.iCAT_STATUS D.CAT_STATUS_LAYER
  let s := closeReport s
  let s := State.forAll Mpl.applyBoundary (List.range 24) (Apply.layer .boundary s)
  let s := State.forAll Mpl.boundary (List.range 24) s
  let s := if State.rCat s D.iCAT_CTRL D.CAT_CTRL_LAST_LAYER = n ∧ n ≠ 0xFFFFFFFF then setFlag 0 true s else s
  let s := State.wCat s D.iCAT_STATUS D.CAT_STATUS_LAYER (n + 1)
  let s := State.incCat (State.wCat s D.iCAT_STATUS D.CAT_STATUS_LAYER_OPEN 0) D.iCAT_STATUS D.CAT_STATUS_LAYERS_DONE 1
  let s := State.forAll (fun c s => if State.chOf s c = .done then State.setCh s c .idle else s) (List.range 24) s
  let s := { s with cat := { s.cat with inLayer := [], boundaryAt := none, event := s.cat.event || (s.cat.waiting.map fun e => e.op == 0x40).getD false } }
  Tmp.atBoundary (clearLayer s)

/-- The started set of the open layer is empty in the tick that ends: the boundary falls in the next one (R131). -/
def boundaryDue (s : State) : Bool := s.dev.mode.inBuild && State.layerOpen s && (State.startedSet s).isEmpty

/-- The tick of the boundary is fixed when the started set is empty. -/
def fixBoundary (s : State) : State := if boundaryDue s then { s with cat := { s.cat with boundaryAt := some (s.tick + 1) } } else s

/-- The boundary of the open layer falls in the present tick (R61, R131). -/
def boundaryNow (s : State) : Bool := boundaryDue s && s.cat.boundaryAt == some s.tick

/-- The channels of a mask that START_EXPOSURE would start (R116, R130). -/
def toStart (s : State) (mask : Nat) : List Nat := (List.range 24).filter fun c => Arith.bit mask c && State.chOf s c == .idle

/-- The contexts a channel reads: its private one and the enabled shared ones it is a member of. -/
def readable (s : State) (c : Nat) : List Nat := c :: (State.sharedOf s c).filter fun n => (State.ctxOf s n).mode == .enabled

/-- A context of the layer is fed by the host (R30): one that is ENABLED and that a channel of these reads. -/
def hostFed (s : State) (cs : List Nat) : Bool :=
  cs.any fun c => (readable s c).any fun n => (State.ctxOf s n).mode == .enabled && Feed.feedOf s n != 2

/-- A context holds a layer whole (R115). -/
def wholeIn (s : State) (n layer : Nat) : Bool :=
  (State.ctxOf s n).whole.contains layer || (State.ctxOf s n).declared.contains layer || (State.ctxOf s n).doneLayer == some layer

/-- The lowest STAGED context that keeps START_EXPOSURE waiting (R116). -/
def lateCtx (s : State) (mask : Nat) : Option Nat :=
  (List.range 96).find? fun n => Feed.feedOf s n == 2 && !wholeIn s n (State.layerNo s) && (toStart s mask).any fun c => (readable s c).contains n

/-- A channel is not started (R130, R145). -/
def skip (c : Nat) (s : State) : State :=
  let s := State.wCat s D.iCAT_STATUS D.CAT_STATUS_SKIPPED
    ((Arith.setBit (State.rCat s D.iCAT_STATUS D.CAT_STATUS_SKIPPED).toNat c true : Nat) : Int)
  State.raise s (0x80 + c) 0x3D (State.rCat s D.iCAT_STATUS D.CAT_STATUS_PC).toNat

/-- An IDLE channel starts in the present layer (R130, R143, R204), and what R288 counts on a STARTED channel begins anew. -/
def startChannel (c : Nat) (s : State) : State :=
  let n0 := State.layerNo s
  let s := State.wCat (State.wCat (State.setCh s c .started) (D.iCHS + c) D.CHS_LAYER (n0 : Int)) (D.iCHS + c) D.CHS_START_BTICK (s.btick : Int)
  let s := State.modAtt s c fun a => { a with hbRun := 0, emRun := 0 }
  let s := State.modEng (Lnk.wakeUp c s) c fun e => { e with
    why := .none, motion := if e.motion = .stop then .stop else .rest, mismatch := false, underrun := false, force := false, blockFrom := none
    resume := none }
  let s := Mpl.startCheck c { s with cat := { s.cat with inLayer := if s.cat.inLayer.contains c then s.cat.inLayer else s.cat.inLayer ++ [c] } }
  match Lend.otherLayer s c n0 with
  | some l => Lend.mismatch s c l
  | none => s

/-- One channel of the mask (R130). -/
def startOne (c : Nat) (s : State) : State :=
  match State.chOf s c with
  | .idle => startChannel c s
  | .started => s
  | _ => skip c s

/-- The per-layer counters of Lending are 0 at the start of a layer (R199). -/
def clearCounts (c : Nat) (s : State) : State :=
  [D.LNDC_STRIPES, D.LNDC_SHARED, D.LNDC_REPLAYS, D.LNDC_HOLDS, D.LNDC_HOLD_TICKS, D.LNDC_FREEZE_TICKS].foldl
    (fun s sub => State.wLnd s (D.iLNDC + c) sub 0) s

/-- START_EXPOSURE completes (R130, R31): the layer opens with the first one. -/
def startLayer (mask : Nat) (s : State) : State :=
  let s := if State.layerOpen s then s
    else State.wCat (State.forAll clearCounts (List.range 24) { s with dev := { s.dev with spanOpen := true, digest := 0 }, cat := { s.cat with inLayer := [] } })
      D.iCAT_STATUS D.CAT_STATUS_LAYER_OPEN 1
  let fed := hostFed s (toStart s mask)
  let s := State.forAll startOne ((List.range 24).filter fun c => Arith.bit mask c) s
  let s := if fed then State.breakEnv s 0 else s
  if State.rLnd s D.iLND D.LND_MODE = 1 then State.breakEnv s 3 else s

/-! ### Steps (R125 to R138) -/

/-- Hand over to an entry, which is issued in the following tick (R127); HELD while PAUSED (R139). -/
def goto (n : Nat) (s : State) : State :=
  { s with cat := { s.cat with
    next := n, waiting := none, event := false, stageLate := false, mode := if s.dev.mode = .paused then .held else .issue } }

/-- The step at hand waits (R139). -/
def waitOn (e : CatEntry) (s : State) : State := { s with cat := { s.cat with mode := .wait, waiting := some e } }

/-- The condition of a waiting step holds (R132 to R137). -/
def met (s : State) (e : CatEntry) : Bool :=
  match e.op with
  | 0x01 => (lateCtx s e.c).isNone
  | 0x02 => if e.b % 2 = 1 then !State.layerOpen s else !((State.startedSet s).any fun c => Arith.bit e.c c)
  | 0x11 => (List.range 8).all fun a => !Arith.bit e.a a || Ax.standstill s a
  | 0x20 => Img.captureOver s e.a && decide (s.cat.issued < s.tick)
  | 0x22 => s.grd.snapMode != .armed && s.grd.snapMode != .capturing && s.grd.snapMode != .compressing
  | 0x23 => s.cat.event
  | 0x30 => decide (s.cat.issued + e.c ≤ s.tick)
  | 0x31 =>
    if e.a < 0x18 then s.ax.now.contains e.a
    else if Arith.bit e.b 1 then s.cat.event
    else Tab.get (fun _ => false) s.cat.seqIn (e.a - 0x20) == Arith.bit e.b 0
  | 0x40 => s.cat.event
  | _ => true

/-- The opcodes with a timeout (R125). -/
def timed (op : Nat) : Bool := op == 0x02 || op == 0x11 || op == 0x31

/-- The timeout of a waiting step has expired (R132, R134). -/
def expired (s : State) (e : CatEntry) : Bool := timed e.op && decide (e.d ≠ 0) && decide (s.cat.issued + e.d ≤ s.tick)

/-- A step that waits, or its condition met at issue, completes by its condition. -/
def complete (e : CatEntry) (s : State) : State :=
  let s := if e.op = 0x01 then startLayer e.c s else s
  let s := if timed e.op then setFlag 1 false s else s
  goto (s.cat.next + 1) s

/-- The waiting step ends by its timeout. -/
def timeOut (s : State) : State := goto (s.cat.next + 1) (setFlag 1 true s)

/-- Evaluate the waiting step (R127 step 3). -/
def evaluate (s : State) : State :=
  match s.cat.waiting with
  | some e => if met s e then complete e s else if expired s e then timeOut s else s
  | none => s

/-- Issue a step that may wait: it completes at once when its condition holds (R139). -/
def await (e : CatEntry) (s : State) : State := if met s e then complete e s else waitOn e s

/-- A unit cannot take a step (R138): the message from its source; the step completes without effect. -/
def refuseStep (src op : Nat) (s : State) : State := State.raise s src 0x3F (s.cat.next % 65536 + 65536 * op)

/-- START_EXPOSURE is issued (R116, R130): the break record of the layer it opens begins. -/
def stepStart (e : CatEntry) (s : State) : State :=
  let s := if State.layerOpen s then s else State.wDev { s with dev := { s.dev with liveFirst := 0 } } D.iDEV_DET D.DEV_DET_LIVE_BREAK 0
  match lateCtx s e.c with
  | none => complete e s
  | some n =>
    let s := waitOn e s
    State.raise { s with cat := { s.cat with stageLate := true } } n 3 (State.layerNo s)

/-- AXIS_MOVE (R135, R138). -/
def stepMove (e : CatEntry) (s : State) : State :=
  let t := Ax.resolve s e.a (Arith.bit e.b 0) (Arith.toSigned 32 e.c)
  let s := if Ax.moveOk s e.a t then Ax.move e.a t e.d e.e s else Ax.refuse s e.a (s.cat.next % 65536 + 65536 * 0x10)
  goto (s.cat.next + 1) s

/-- GEAR_SET (R135, R138, R387). -/
def stepGear (e : CatEntry) (s : State) : State :=
  let off := Arith.bit e.b 8
  let s := if Ax.gearStepOk s e.a off then Ax.gearSet e.a (e.b % 8) off (Arith.toSigned 32 e.c) e.d s
    else Ax.refuse s e.a (s.cat.next % 65536 + 65536 * 0x12)
  goto (s.cat.next + 1) s

/-- CAPTURE (R136, R138): FRAME-class writes of the port apply at its frame start (R60). -/
def stepCapture (e : CatEntry) (s : State) : State :=
  if Img.canCapture s e.a then
    let s := if Arith.bit e.b 0 then Img.arm e.a (Arith.bit e.b 2) s else Img.trig e.a (Arith.bit e.b 2) (Apply.frameStart e.a s)
    if Arith.bit e.b 1 then waitOn e s else goto (s.cat.next + 1) s
  else goto (s.cat.next + 1) (refuseStep (0x100 + e.a) 0x20 s)

/-- STROBE (R136, R138, R322). -/
def stepStrobe (e : CatEntry) (s : State) : State :=
  let s := match Ilm.blocked s e.c with
    | some l => refuseStep (0x130 + l) 0x21 s
    | none => Ilm.strobe e.a e.c s
  goto (s.cat.next + 1) s

/-- GRID_SNAPSHOT (R137, R138). -/
def stepSnapshot (e : CatEntry) (s : State) : State :=
  if Grid.snapOk s then
    let s := Fol.gridSnapshot (Arith.bit e.b 0) s
    if Arith.bit e.b 1 then waitOn e s else goto (s.cat.next + 1) s
  else goto (s.cat.next + 1) (refuseStep 0xF0 0x22 s)

/-- STORE_OBJECT (R137, R138). -/
def stepStore (e : CatEntry) (s : State) : State :=
  if Stk.refuses s then goto (s.cat.next + 1) (refuseStep 0x158 0x23 s)
  else
    let w := Arith.bit e.b 0
    let s := if w then waitOn e s else goto (s.cat.next + 1) s
    Stk.store e.a e.c w (if e.a = 3 then Ldg.exported s else []) s

/-- APPLY_TXN (R133). -/
def stepApply (e : CatEntry) (s : State) : State :=
  if State.layerOpen s then waitOn e s
  else goto (s.cat.next + 1) (State.forAll Mpl.applyPoint (List.range 24) (Apply.layer .step s))

/-- LOOP (R128). -/
def stepLoop (e : CatEntry) (s : State) : State :=
  let pc := s.cat.next
  let dflt : LoopLvl := ⟨false, 0, 0⟩
  let old := Tab.get (fun _ => dflt) s.cat.loops e.a
  let l : LoopLvl := if !old.active || old.owner != pc then ⟨true, e.b, pc⟩ else old
  let put := fun (v : LoopLvl) => { s with cat := { s.cat with loops := Tab.set (fun _ => dflt) s.cat.loops e.a v } }
  if e.b = 0 then goto e.c (put l)
  else if 0 < (l.count + 65535) % 65536 then goto e.c (put { l with count := (l.count + 65535) % 65536 })
  else goto (pc + 1) (put { l with count := 0, active := false })

/-- Issue a step (R127): PC and STEP_BTICK report it. -/
def issue (e : CatEntry) (s : State) : State :=
  let s := State.wCat (State.wCat s D.iCAT_STATUS D.CAT_STATUS_PC (s.cat.next : Int)) D.iCAT_STATUS D.CAT_STATUS_STEP_BTICK (s.btick : Int)
  let s := { s with cat := { s.cat with issued := s.tick, event := false, waiting := none, stageLate := false } }
  match e.op with
  | 0x01 => stepStart e s
  | 0x10 => stepMove e s
  | 0x12 => stepGear e s
  | 0x20 => stepCapture e s
  | 0x21 => stepStrobe e s
  | 0x22 => stepSnapshot e s
  | 0x23 => stepStore e s
  | 0x40 => stepApply e s
  | 0x50 => stepLoop e s
  | 0x51 => goto e.c s
  | 0x52 => goto (if flag s e.a == Arith.bit e.b 0 then e.c else s.cat.next + 1) s
  | 0x7F => endBuild 2 s
  | _ => await e s

/-- The Catalogue may issue a step now (R127, R139, R470). -/
def canIssue (s : State) : Bool := s.dev.mode == .building && s.cat.mode == .issue && !s.cat.calHold

/-- The entry that the image holds next; past the last one, HALT (R126). -/
def entryAt (s : State) (n : Nat) : CatEntry := (s.cat.image[n]?).getD ⟨0x7F, 0, 0, 0, 0, 0⟩

/-- The Catalogue has not acted in the present tick: it acts once per tick (R127). -/
def mayAct (s : State) : Bool := s.dev.mode.inBuild && s.cat.acted != some s.tick

/-- The action of the present tick is taken. -/
def acts (s : State) : State := { s with cat := { s.cat with acted := some s.tick } }

/-- A step given from outside in place of the entry at hand, when the Catalogue may issue one in this tick. -/
def give (e : CatEntry) (s : State) : State := if mayAct s && canIssue s then issue e (acts s) else s

/-- The Catalogue action of a tick (R127). -/
def action (s : State) : State :=
  if s.dev.mode.inBuild then
    let s := acts s
    let s := takeFences (if boundaryNow s then boundary s else s)
    match s.cat.waiting with
    | some _ => evaluate s
    | none =>
      if s.dev.mode = .paused ∧ s.cat.mode = .issue then { s with cat := { s.cat with mode := .held } }
      else if canIssue s then issue (entryAt s s.cat.next) s
      else s
  else s

/-- The sampled levels of SEQ_IN0 to SEQ_IN3 (R134); a transition to the level a step waits for is its event. -/
def sample (levels : Nat) (s : State) : State :=
  let hit := match s.cat.waiting with
    | some e =>
      e.op == 0x31 && decide (0x20 ≤ e.a) && Arith.bit e.b 1 && decide (s.cat.issued < s.tick) && (Arith.bit levels (e.a - 0x20) == Arith.bit e.b 0) &&
        (Tab.get (fun _ => false) s.cat.seqIn (e.a - 0x20) != Arith.bit e.b 0)
    | none => false
  let s := State.forAll (fun i s => { s with cat := { s.cat with seqIn := Tab.set (fun _ => false) s.cat.seqIn i (Arith.bit levels i) } }) (List.range 4) s
  { s with cat := { s.cat with event := s.cat.event || hit } }

/-! ### State commands (R21 to R24) -/

/-- GO_READY is taken: no source holds an uncleared fault status. -/
def canReady (s : State) : Bool := s.dev.mode == .service && s.flt.srcs.all fun e => !e.2.active

/-- START_BUILD is taken: a valid image is loaded. -/
def canStart (s : State) : Bool := s.dev.mode == .ready && !s.cat.image.isEmpty

/-- START_BUILD (R23, R139): BTICK and the Catalogue start at 0. -/
def startBuild (s : State) : State :=
  let s := setMode .building 1 { s with btick := 0 }
  let w := fun s sub (v : Int) => State.wCat s D.iCAT_STATUS sub v
  let s := w (w (w s D.CAT_STATUS_PC 0) D.CAT_STATUS_STEP_BTICK 0) D.CAT_STATUS_LAYER (State.rCat s D.iCAT_CTRL D.CAT_CTRL_FIRST_LAYER)
  let s := setFlag 2 false (setFlag 0 false (w (w s D.CAT_STATUS_LAYER_OPEN 0) D.CAT_STATUS_LAYERS_DONE 0))
  let s := { s with
    cat := { s.cat with
      mode := .issue, next := 0, waiting := none, event := false, loops := [], calHold := s.tmp.run.isSome, stageLate := false, newFences := [], inLayer := []
      boundaryAt := none, acted := none }
    dev := { s.dev with spanOpen := false, liveFirst := 0, digest := 0, gridDigestDue := none } }
  let s := clearLayer (State.wDev s D.iDEV_DET D.DEV_DET_LIVE_BREAK 0)
  let s := State.forAll (fun c s =>
    let s := State.wCat s (D.iCHS + c) D.CHS_LAYERS 0
    let s := State.modEng s c fun e => { e with dtheta := 0, driftAbsent := 0, driftValid := false, driftDone := none, past := [] }
    Mpl.startBuild c s) (List.range 24) s
  Grid.startBuild s

/-- PAUSE (R23). -/
def pause (s : State) : State :=
  let s := State.forAll pauseChannel (State.startedSet s) (State.breakEnv s 5)
  let s := setMode .paused 1 s
  if s.cat.mode = .issue then { s with cat := { s.cat with mode := .held } } else s

/-- RESUME is taken (R23, R489). -/
def canResume (s : State) : Bool := s.dev.mode == .paused && !s.pwr.interlock

/-- RESUME (R23, R139). -/
def resume (s : State) : State :=
  let s := State.forAll resumeChannel (State.startedSet s) (setMode .building 1 s)
  if s.cat.mode = .held then { s with cat := { s.cat with mode := .issue } } else s

/-- Whether a state command is accepted now (R22, R23). -/
def cmdOk (s : State) (code : Nat) : Bool :=
  match code with
  | 1 => canReady s
  | 2 => s.dev.mode == .ready || s.dev.mode == .safe
  | 3 => canStart s
  | 4 => s.dev.mode == .building
  | 5 => canResume s
  | 6 => s.dev.mode.inBuild
  | 7 => s.dev.mode != .safe && s.dev.mode != .thermalOff
  | _ => false

/-- A state command that is accepted. -/
def obey (code : Nat) (s : State) : State :=
  match code with
  | 1 => setMode .ready 1 s
  | 2 => setMode .service 1 s
  | 3 => startBuild s
  | 4 => pause s
  | 5 => resume s
  | 6 => endBuild 1 s
  | _ => enterSafe 1 s

/-- A state command (R22, R23). -/
def command (code : Nat) (s : State) : State := if cmdOk s code then obey code s else refuseCmd code s

/-! ### The laser interlock (R489) -/

/-- The hardware path of the interlock makes every source lane that carries SP1 replace the next block it sends with an override (R285, R489): the first block
that starts after the 4 ns point, at 12.5 line bits a step and 256 line bits a block. A block that leaves in the present tick counts at once. -/
def hwOverride (at4 c : Nat) (s : State) : State :=
  if State.laneUp s (24 + c) then
    let p := 25 * (at4 % 125) / 512 + 1
    let k := at4 / 125
    let place := if p < Lnk.groupBlocks 1 then (k, p) else (k + 1, 0)
    State.modAtt (if place.1 = s.tick then State.incAtt s (D.iSRC + c) D.SRC_OVERRIDES 1 else s) c fun a =>
      { a with overrideHw := some (place.1, place.2, (s.tick + State.delayOf s c) % 65536) }
  else s

/-- LASER_INTERLOCK_N is asserted (R23, R156, R489): the hardware path drives every gate off, at a 4 ns point of the present tick that the spec does not fix
(a free value: log entry 22); a build is PAUSED; INTERLOCK_ASSERTED is raised once start-up step 2 has loaded the configuration. -/
def interlock (s : State) : State :=
  if s.pwr.interlock then s
  else
    let s := { s with pwr := { s.pwr with interlock := true } }
    if !s.pwr.rails then s
    else
      let early := s.dev.mode == .boot && !s.pwr.served
      let s := State.raiseIf s (!early) 0x1F0 1 s.tick
      let s := State.breakEnv s 4
      let at4 := 125 * s.tick + State.freeVal s % 125
      let s := State.forAll (hwOverride at4) (List.range 24) s
      let s := State.forAll (fun c s => Eng.stopFrom s c at4 .interlock) (State.startedSet s ++ s.cat.stopping) (State.draw s)
      if s.dev.mode = .building then
        let s := setMode .paused 3 s
        if s.cat.mode = .issue then { s with cat := { s.cat with mode := .held } } else s
      else s

/-- LASER_INTERLOCK_N is released (R489). -/
def release (s : State) : State := { s with pwr := { s.pwr with interlock := false } }

end Seq

end Sys2Proof.Machine
end

