-- ==== Sys2Proof/Machine/Collector.lean ====
section
/-!
DEFINITION. The fault collector (18_faults.md): severities, collection, reactions, handling windows, fences, recovery and clearing, ERR_N, the BAR0 fault
registers; the thermal shutdown (20_temperature_calibration.md R466).
What the rules leave to the model: log entries 10, 16 and 42.
-/
namespace Sys2Proof.Machine

namespace Flt

/-- The kinds of a source at ERROR, CRITICAL and FATAL; every other kind is a NOTICE (the fault tables of the chapters). -/
structure Sev where
  error : List Nat
  critical : List Nat
  fatal : List Nat
deriving DecidableEq, Repr

/-- The severities of a source (R97, R123, R145, R172, R201, R222, R246, R270, R299, R320, R332, R346, R370, R403, R404, R421, R443, R459, R474, R68, R511). -/
def sevOf (src : Nat) : Sev :=
  let er := fun (l : List Nat) => (⟨l, [], []⟩ : Sev)
  if src < 0x60 then er ([1, 2, 3, 4, 5] ++ Arith.rangeFrom 0x10 13)
  else if src < 0x98 then ⟨[1, 2, 3, 0x3E], [4, 5], []⟩
  else if src < 0xD0 then er ([1, 3, 4, 6, 7, 9, 0x10, 0x11, 0x12, 0x15, 0x16] ++ Arith.rangeFrom 0x20 5)
  else if src < 0xE8 then er [2, 3, 4]
  else if src = 0xF0 then er [1]
  else if src = 0xF8 then er [3]
  else if src < 0x104 then er [1, 4, 5]
  else if src < 0x130 then er []
  else if src < 0x140 then er [1, 2, 3]
  else if src = 0x140 then er []
  else if src < 0x158 then er [3, 4, 5]
  else if src = 0x158 then er [1, 2, 4, 5]
  else if src < 0x168 then er [1, 2, 3, 5, 6]
  else if src < 0x170 then er [3, 4]
  else if src < 0x180 then er [2]
  else if src = 0x190 then ⟨[2, 4, 5], [], [6]⟩
  else if src = 0x198 then er [3]
  else if src = 0x1A0 then er [2]
  else if src = 0x1B0 then ⟨[4, 5, 6], [7], []⟩
  else if src = 0x1C0 then ⟨[3], [], [4, 6]⟩
  else if src = 0x1C8 then ⟨[], [], [1, 2]⟩
  else if src = 0x1D0 then ⟨[], [], [2, 3]⟩
  else if src = 0x1D8 then ⟨[], [], [2]⟩
  else if src = 0x1F0 then ⟨[], [], [3]⟩
  else er []

/-- The severity of a kind from a source: 0 NOTICE, 1 ERROR, 2 CRITICAL, 3 FATAL (R422). STEP_REFUSED is an ERROR from any unit (R145). -/
def severity (src kind : Nat) : Nat :=
  let v := sevOf src
  if kind = 0x3F then 1 else if v.fatal.contains kind then 3 else if v.critical.contains kind then 2 else if v.error.contains kind then 1 else 0

/-- The severity of a message. -/
def sev (m : Msg) : Nat := severity m.src m.kind

/-- The message word (R422). -/
def word (m : Msg) : Nat := Read.msgWord (sev m) m.src m.kind m.addr

/-- The order of collection (R424): descending severity, ascending source, ascending kind. -/
def before (a b : Msg) : Bool :=
  decide (sev b < sev a) || (sev a == sev b && (decide (a.src < b.src) || (a.src == b.src && decide (a.kind ≤ b.kind))))

/-- Put a message into its place; equal ones keep their order. -/
def insert (m : Msg) : List Msg → List Msg
  | [] => [m]
  | x :: l => if before x m then x :: insert m l else m :: x :: l

/-- The messages of a CORE cycle in order. -/
def sort (l : List Msg) : List Msg := l.foldl (fun a m => insert m a) []

/-! ### Records (R425, R426, R438) -/

/-- Write one log entry (R426): `flags` is byte 6. -/
def logEntry (addr src kind flags : Nat) (s : State) : State :=
  let e := Arith.natLe 4 addr ++ Arith.natLe 2 (src + 1024 * kind) ++ Arith.natLe 1 flags ++ [0] ++ Arith.natLe 8 s.tick
  { s with flt := { s.flt with log := Tab.set (fun _ => []) s.flt.log (s.flt.logPos % 256) e, logPos := (s.flt.logPos + 1) % 2 ^ 32 } }

/-- Latch the first fault (R425, R440). -/
def latch (m : Msg) (s : State) : State :=
  let w := fun s sub (v : Int) => State.wFlt s D.iFLT_FIRST sub v
  let s := { s with flt := { s.flt with firstValid := true } }
  let s := w (w (w s D.FLT_FIRST_MSG (word m : Int)) D.FLT_FIRST_TICK (s.tick : Int)) D.FLT_FIRST_BTICK (s.btick : Int)
  let s := w (w s D.FLT_FIRST_STATE (s.dev.mode.code : Int)) D.FLT_FIRST_LAYER (if s.dev.mode.inBuild then (State.layerNo s : Int) else 0xFFFFFFFF)
  w s D.FLT_FIRST_SAME_CYCLE 1

/-- First-fault capture of a message (R425); `here`: the capture was latched in the present CORE cycle. -/
def first (here : Bool) (m : Msg) (s : State) : State × Bool :=
  if s.flt.firstValid then
    let s := State.incFlt (State.wFlt s D.iFLT_FIRST D.FLT_FIRST_OVERFLOW 1) D.iFLT_FIRST D.FLT_FIRST_LATER 1
    (if here then State.incFlt s D.iFLT_FIRST D.FLT_FIRST_SAME_CYCLE 1 else s, here)
  else (latch m s, true)

/-- The severity counter of a severity (R439). -/
def counter : Nat → Nat
  | 0 => D.FLT_CTRL_NOTICES
  | 1 => D.FLT_CTRL_ERRORS
  | 2 => D.FLT_CTRL_CRITICALS
  | _ => D.FLT_CTRL_FATALS

/-- The Ledger record of a message (R448, R466). -/
def ledger (m : Msg) (s : State) : State :=
  let src := m.src + 1024 * m.kind
  if m.src = 0x190 ∧ m.kind = 6 then Ldg.pinned 5 src (word m) { s with ldg := { s.ldg with sawFatal := true } }
  else if sev m = 3 ∧ !s.ldg.sawFatal then Ldg.pinned 2 src (word m) { s with ldg := { s.ldg with sawFatal := true } }
  else if (State.rLdg s D.iLDG_CTRL D.LDG_CTRL_MIN_SEV).toNat ≤ sev m then Ldg.ordinary 1 src (word m) s
  else s

/-- A message is recorded: the log, the first fault, the counters, the source, the Ledger, the interrupt. -/
def record (x : State × Bool) (m : Msg) : State × Bool :=
  let s := logEntry m.addr m.src m.kind (sev m) x.1
  let f := first x.2 m s
  let s := State.incFlt f.1 D.iFLT_CTRL (counter (sev m)) 1
  let s := State.modSrc s m.src fun u => { u with lastMsg := word m, lastTick := s.tick, messages := min (2 ^ 32 - 1) (u.messages + 1) }
  let s := ledger m s
  (if decide (1 ≤ sev m) && Arith.bit (State.bar0 s 0x108) 0 then State.irq s 2 else s, f.2)

/-! ### ERR_N (R437) -/

/-- A message of ERROR or higher asserts ERR_N for 20 T. -/
def assert (s : State) : State :=
  let s := { s with flt := { s.flt with minUntil := some (s.tick + 20) } }
  if Arith.bit (State.rFlt s D.iFLT_PIN D.FLT_PIN_CTRL).toNat 0 then State.wFlt s D.iFLT_PIN D.FLT_PIN_LEVEL 1 else s

/-- The end of the 20 T. -/
def minEnd (s : State) : State :=
  match s.flt.minUntil with
  | some t => if t ≤ s.tick then pin { s with flt := { s.flt with minUntil := none } } else s
  | none => s

/-! ### Fences (R432, R433) -/

/-- The source has fenced its unit. -/
def markFence (src : Nat) (s : State) : State := State.modSrc s src fun u => { u with fenced := true }

/-- A context is fenced and set PARKED (R123). -/
def fenceCtx (n src : Nat) (s : State) : State :=
  if 96 ≤ n then s else Lend.parkPrivate (State.modCtx s n fun c => { c with fenced := true, fencedBy := src }) n

/-- A channel is fenced (R143, R190, R433): in a build Lending takes the fence in; else it is FENCED at once. -/
def fenceChannel (c src : Nat) (s : State) : State :=
  if State.chOf s c = .disabled then s
  else
    let s := markFence src s
    if s.dev.mode.inBuild then Lend.raiseFence s c
    else
      let s := if s.cat.stopping.contains c then Seq.abandonChannel c s else s
      Lend.refreshShared c (Lend.parkPrivate (State.setCh s c .fenced) c)

/-- Fence the unit that a source and kind name (R432). -/
def fence (src kind addr : Nat) (s : State) : State :=
  if src < 96 then fenceCtx src src s
  else if src < 0x98 then fenceChannel (src - 0x80) src s
  else if src < 0xD0 then fenceChannel ((src - 0xA0) % 24) src s
  else if src < 0xE8 then Mpl.fence (src - 0xD0) s
  else if src = 0xF0 then Grid.fence s
  else if src = 0xF8 then fenceCtx (addr % 256) src s
  else if src < 0x104 then Img.fence (src - 0x100) s
  else if decide (0x110 ≤ src) && decide (src < 0x128) then Feat.fence (src - 0x110) s
  else if decide (0x130 ≤ src) && decide (src < 0x140) then Ilm.fence (src - 0x130) s
  else if decide (0x150 ≤ src) && decide (src < 0x159) then
    if src = 0x158 ∧ (kind = 4 ∨ kind = 5) then fenceCtx (addr % 256) src s else Stk.fence (markFence src s)
  else if decide (0x160 ≤ src) && decide (src < 0x168) then Ax.fence (src - 0x160) s
  else if decide (0x168 ≤ src) && decide (src < 0x170) then Ax.encFence (src - 0x168) s
  else if decide (0x170 ≤ src) && decide (src < 0x180) then Ax.cmpFence (src - 0x170) s
  else if src = 0x1B0 ∧ kind = 7 then { s with txn := { s.txn with fenced := true } }
  else s

/-! ### Thermal shutdown (R466) -/

/-- Entry to THERMAL_OFF: gates off, quick stop, every transaction lost, the core rails off. -/
def thermalOff (s : State) : State :=
  if s.dev.mode = .thermalOff then s
  else
    let s := State.forAll (fun c s => Eng.stopNow s c .fault) (State.startedSet s ++ s.cat.stopping) s
    let s := Ilm.allOff (Ax.quickStopAll s)
    let s := { s with txn := { s.txn with queue := [], paths := s.txn.paths.map fun p => (p.1, { p.2 with txn := none, copying := false }) } }
    let s := if s.dev.mode.inBuild then Seq.leaveBuild .thermalOff 4 s else Seq.setMode .thermalOff 4 s
    let s := Tmp.abandonRun { s with cat := { s.cat with stopping := [] } }
    let s := State.wPwr s D.iPWR_STATUS D.PWR_STATUS_LAST_STOP 5
    { s with pwr := { s.pwr with rails := false, boot := none }, dev := { s.dev with pllLocked := false, spanOpen := false } }

/-! ### Reactions (R427 to R429) -/

/-- Status of a source is set by a message of ERROR or higher (R428). -/
def hold (m : Msg) (s : State) : State :=
  State.modSrc s m.src fun u => { u with active := true, sev := max u.sev (sev m) }

/-- Every message restarts the quiet period of its source (R434). -/
def restart (m : Msg) (s : State) : State :=
  State.modSrc s m.src fun u => { u with quietFrom := s.tick, quietTicks := 2000 * (State.rFlt s D.iFLT_CTRL D.FLT_CTRL_QUIET).toNat }

/-- The unit that a source and kind name is fenced already (R370, R429, R432): for Lending and for a stream that cannot be staged, the context in the address. -/
def fencedAlready (src kind addr : Nat) (s : State) : Bool :=
  if src = 0xF8 ∨ src = 0x158 ∧ (kind = 4 ∨ kind = 5) then (State.ctxOf s (addr % 256)).fenced
  else if src = 0x158 then s.stk.mode == .fenced
  else Read.unitFenced s src

/-- An ERROR opens a window (R429). -/
def openWindow (m : Msg) (s : State) : State :=
  if (State.srcOf s m.src).window.isSome || fencedAlready m.src m.kind m.addr s then s
  else
    State.modSrc s m.src fun u => { u with
      window := some (s.tick, s.tick + 2 * (State.rFlt s D.iFLT_CTRL D.FLT_CTRL_WINDOW).toNat, word m), acked := false }

/-- The reaction of one message (R427). -/
def react (m : Msg) (s : State) : State :=
  let s := restart m s
  if sev m = 0 then s
  else
    let s := assert (State.breakEnv (hold m s) 1)
    if sev m = 1 then openWindow m s
    else if sev m = 2 then fence m.src m.kind m.addr s
    else if m.src = 0x190 ∧ m.kind = 6 then thermalOff s
    else Seq.enterSafe 4 s

/-- Collect until no message waits, by fuel: reactions of the cycle may raise messages of the same cycle. -/
def collectGo : Nat → Bool → State → State
  | 0, _, s => s
  | n + 1, here, s =>
    match s.raised with
    | [] => s
    | _ :: _ =>
      let l := sort s.raised
      let r := l.foldl record ({ s with raised := [] }, here)
      collectGo n r.2 (l.foldl (fun s m => react m s) r.1)

/-- The collection of a CORE cycle (R424). -/
def collect (s : State) : State := if s.raised.isEmpty then s else pin (collectGo 8 false s)

/-! ### Correctable errors (R443) -/

/-- A correctable error of a source is absorbed within a second of the last one that was raised (R443). -/
def absorbed (s : State) (src : Nat) : Bool :=
  match Tab.find s.flt.corrected src with | some k => decide (s.tick < k + 2000000) | none => false

/-- DRAM_CORRECTED and SRAM_CORRECTED (R443): raised at most once a second for each source. -/
def corrected (src addr : Nat) (s : State) : State :=
  if absorbed s src then s else State.raise { s with flt := { s.flt with corrected := Tab.ins s.flt.corrected src s.tick } } src 1 addr

/-! ### Windows, recovery, clearing (R429 to R436) -/

/-- A window expires unacknowledged (R431): a log entry; the unit is fenced and the escalation counted, unless the unit is fenced already or the source has none
to fence (R459, R474, R511). -/
def escalate (src : Nat) (s : State) : State :=
  match (State.srcOf s src).window with
  | some w =>
    if w.2.1 ≤ s.tick then
      let kind := Arith.bits w.2.2 47 42
      let addr := w.2.2 % 2 ^ 32
      let s := State.modSrc s src fun u => { u with window := none, acked := false }
      let s := logEntry addr src kind (1 + 4) s
      if fencedAlready src kind addr s then s
      else
        let s := fence src kind addr s
        if fencedAlready src kind addr s then
          State.incFlt (State.modSrc s src fun u => { u with escalations := min 65535 (u.escalations + 1) }) D.iFLT_CTRL D.FLT_CTRL_ESCALATIONS 1
        else s
    else s
  | none => s

/-- A source's status clears by itself (R434). -/
def recoverDue (s : State) (src : Nat) : Bool :=
  let u := State.srcOf s src
  u.active && u.window.isNone && Seq.quietRuns s.dev.mode && decide (u.quietFrom + u.quietTicks ≤ s.tick)

/-- The recovery of a source (R434). -/
def recover (src : Nat) (s : State) : State :=
  if recoverDue s src then
    let u := State.srcOf s src
    let s := State.modSrc s src fun u => { u with active := false, sev := 0, recoveries := min 65535 (u.recoveries + 1) }
    let s := State.incFlt s D.iFLT_CTRL D.FLT_CTRL_RECOVERIES 1
    logEntry (u.lastMsg % 2 ^ 32) src (Arith.bits u.lastMsg 47 42) (u.sev + 8) s
  else s

/-- The sources the collector knows of. -/
def known (s : State) : List Nat := s.flt.srcs.map fun e => e.1

/-- What falls due in the collector by the present tick. -/
def due (s : State) : State := minEnd (State.forAll recover (known s) (State.forAll escalate (known s) s))

/-- An acknowledgement (R430): closes the open window of a source. -/
def ack (src : Nat) (s : State) : State :=
  if (State.srcOf s src).window.isSome then Att.acked src (State.modSrc s src fun u => { u with window := none, acked := true }) else s

/-- A clear of a source is taken: its condition is not present (R436). -/
def clearOk (s : State) (src : Nat) : Bool := !Read.live s src

/-- A clear (R436). -/
def clear (src : Nat) (s : State) : State :=
  let u := State.srcOf s src
  if clearOk s src && (u.active || u.window.isSome) then
    let s := if u.window.isSome then Att.acked src s else s
    let s := State.modSrc s src fun u => { u with active := false, sev := 0, window := none, acked := u.acked && u.window.isNone }
    logEntry (u.lastMsg % 2 ^ 32) src (Arith.bits u.lastMsg 47 42) (u.sev + 16) s
  else s

/-- ACK_ALL (R430). -/
def ackAll (s : State) : State := State.forAll ack (known s) s

/-- CLEAR_ALL (R436). -/
def clearAll (s : State) : State := State.forAll clear (known s) s

/-- REARM (R425). -/
def rearm (s : State) : State :=
  let w := fun s sub => State.wFlt s D.iFLT_FIRST sub 0
  let s := { s with flt := { s.flt with firstValid := false } }
  w (w (w s D.FLT_FIRST_OVERFLOW) D.FLT_FIRST_LATER) D.FLT_FIRST_SAME_CYCLE

/-- FLT_CTRL.CMD (R439). -/
def cmd (v : Nat) (s : State) : State := if v = 1 then rearm s else if v = 2 then ackAll s else if v = 3 then clearAll s else s

/-- An FLT_ACK write is ignored (R438). -/
def ignored (s : State) : State := State.incFlt s D.iFLT_CTRL D.FLT_CTRL_ACK_IGNORED 1

/-- A write of FLT_ACK (R438), after the collection of its CORE cycle (R430). -/
def ackWrite (v : Nat) (s : State) : State :=
  let src := v % 1024
  let s := collect s
  if !Instr.assigned src then ignored s
  else
    let s := if Arith.bit v 16 then ack src s else s
    if Arith.bit v 17 then (if clearOk s src then clear src s else ignored s) else s

/-! ### BAR0 fault and state registers (R438) -/

/-- The open windows, the oldest first: opening tick, source, message word, expiry. -/
def windows (s : State) : List (Nat × Nat × Nat × Nat) :=
  (s.flt.srcs.filterMap fun e => e.2.window.map fun w => (w.1, e.1, w.2.2, w.2.1)).mergeSort fun a b => decide (a.1 < b.1) || (a.1 == b.1 && decide (a.2.1 ≤ b.2.1))

/-- FLT_OPEN: eight slots of 16 bytes. -/
def openBytes (s : State) : List Byte :=
  let l := ((windows s).take 8).flatMap fun w => Arith.natLe 8 w.2.2.1 ++ Arith.natLe 4 w.1 ++ Arith.natLe 4 (w.2.2.2 - s.tick)
  l ++ List.replicate (128 - l.length) 0

/-- A register at 0x0100 to 0x01FF of BAR0; reserved offsets read 0. -/
def bar0 (s : State) (off : Nat) : Nat :=
  if off = 0x104 then
    min 65535 (windows s).length + 2 ^ 16 * b2n s.flt.firstValid + 2 ^ 17 * (State.rFlt s D.iFLT_FIRST D.FLT_FIRST_OVERFLOW).toNat +
      2 ^ 18 * b2n s.flt.pin + 2 ^ 19 * b2n (s.dev.mode == .safe)
  else if off = 0x108 then State.bar0 s off
  else if off = 0x10C then s.flt.logPos
  else if off = 0x110 then
    s.dev.mode.code + 256 * s.dev.prev.code + 65536 * (State.rDev s D.iDEV_STATE D.DEV_STATE_LAST_REASON).toNat
  else if off = 0x114 then s.flt.transitions % 2 ^ 32
  else if 0x180 ≤ off then Arith.leAt (openBytes s) (off - 0x180) 4
  else 0

/-- FLT_SUMMARY and FLT_FENCED: one bit for each source. -/
def bitmap (p : Nat → Bool) : List Byte := (List.range 128).map fun i => BitVec.ofNat 8 (((List.range 8).map fun b => if p (8 * i + b) then 2 ^ b else 0).sum)

/-- FLT_LOG (R426): 4096 bytes. -/
def logBytes (s : State) : List Byte :=
  (List.range 256).flatMap fun i => let e := Tab.get (fun _ => []) s.flt.log i; if e.isEmpty then List.replicate 16 0 else e

end Flt

end Sys2Proof.Machine
end

