-- ==== Sys2Proof/Machine/Saved.lean ====
section
/-!
DEFINITION. The saved set in the boot store (02_dictionary.md R53): what a SAVE keeps, and what BOOT loads.
What the rules leave to the model: log entry 14.
-/
namespace Sys2Proof.Machine.Saved

/-- Entries that the set never holds (R53). -/
def excluded (idx : Nat) : Bool :=
  idx == D.iDEV_FW || decide (0x3900 ≤ idx) && decide (idx < 0x3A00) || idx == D.iTXN_CTRL || idx == D.iSTK_OBJ || idx == D.iNET_TX || idx == D.iFLT_SRC

/-- An access code whose entries are saved. -/
def kept : Dict.Acc → Bool
  | .rw => true | .rwt => true | .rws => true | _ => false

/-- The entries of a block's register file that are saved. -/
def ofBlock (s : State) (b : Blk) : Regs :=
  (State.regsOf s b).filter fun e =>
    let idx := e.1 / 256 % 65536
    decide (e.1 < 2 ^ 24) && !excluded idx && (match Dict.find (Dict.rowsOf b) idx (e.1 % 256) with | some r => kept r.acc | none => false)

/-- The blocks in order of their indices, but for the parameter sets (R34). -/
def blocks : List Blk := [.dev, .txn, .pwr, .ctx, .cat, .trj, .lnd, .mpl, .grd, .lnk, .att, .img, .ilm, .fol, .stk, .ax, .net, .tmp, .flt, .ldg]

/-- Values that units hold themselves: positions, counts and NETCLK. -/
def homes (s : State) : Regs :=
  ((List.range 8).map fun a => (Dict.key 0 (D.iAX + a) D.AX_POSITION, (Ax.axis s a).pos)) ++
    ((List.range 8).map fun e => (Dict.key 0 (D.iENC + e) D.ENC_COUNT, (Ax.enc s e).count)) ++ [(Dict.key 0 D.iNET_CLK D.NET_CLK_NETCLK, (s.net.clk : Int))]

/-- The numeric entries of the set that differ from their defaults. -/
def regs (s : State) : Regs :=
  (homes s).foldl (fun m e => Tab.set (fun _ => 0) m e.1 e.2) ((blocks.flatMap (ofBlock s)).foldl (fun m e => Tab.ins m e.1 e.2) [])

/-- The STR and BLOB entries of the set that differ from their defaults. -/
def blobs (s : State) : Tab Blob :=
  (s.dev.blobs ++ s.trj.blobs ++ s.grd.blobs ++ s.img.blobs).foldl (fun m e => Tab.ins m e.1 e.2)
    (if s.cat.image.isEmpty then [] else [(Dict.key 0 D.iCAT_CTRL D.CAT_CTRL_IMAGE, Blob.ofList (s.cat.image.flatMap CatImg.bytes))])

/-- The set a SAVE writes; its check is a free value, since no rule gives the layout of the set (log entry 7). -/
def take (s : State) : SavedSet := { valid := true, regs := regs s, blobs := blobs s, crc := State.freeVal s % 2 ^ 32 }

/-- CFG_SAVE (R53): the older copy is written. A SAVE while another runs takes its place with the values of now, and an ERASE lets a running SAVE complete (R53 does
not say; DESIGN CHOICE: log entry 14). -/
def save (path : Nat) (s : State) : State :=
  State.draw (State.wDev { s with dev := { s.dev with saving := some (take s), savePath := path } } D.iDEV_CFG D.DEV_CFG_RESULT 1)

/-- CFG_SAVE_COMPLETE (R53, R68). -/
def saveEnd (ok : Bool) (s : State) : State :=
  match s.dev.saving with
  | none => s
  | some t =>
    let s := { s with dev := { s.dev with saving := none } }
    if ok then
      let s := { s with dev := { s.dev with savedA := t, savedB := s.dev.savedA } }
      State.wDev (State.incDev s D.iDEV_CFG D.DEV_CFG_SAVE_COUNT 1) D.iDEV_CFG D.DEV_CFG_RESULT 2
    else State.raise (State.wDev s D.iDEV_CFG D.DEV_CFG_RESULT 3) 0x1B0 4 (Read.txnAddress s s.dev.savePath)

/-- An entry of the newer valid set, or its default. -/
def valueOf (s : State) (idx sub : Nat) : Int :=
  let d := match Dict.rowAt idx sub with | some r => Dict.dfltOf r idx sub | none => 0
  let set := if s.dev.savedA.valid then s.dev.savedA.regs else if s.dev.savedB.valid then s.dev.savedB.regs else []
  Tab.get (fun _ => d) set (Dict.key 0 idx sub)

/-- CFG_ERASE (R53): no copy passes its check afterwards. -/
def erase (s : State) : State :=
  { s with dev := { s.dev with savedA := { s.dev.savedA with valid := false }, savedB := { s.dev.savedB with valid := false } } }

/-- When an entry of the set is put in force: plain entries first, then CHS_ENABLE, then the entries that start a unit; lanes wait for step 5 (R499). -/
def rank (k : Nat) : Nat :=
  let idx := k / 256 % 65536
  let sub := k % 256
  let at_ := fun (base count x : Nat) => (Apply.unit base count idx).isSome && sub == x
  if at_ D.iCHS 24 D.CHS_ENABLE then 1
  else if at_ D.iCTX 96 D.CTX_CTRL || at_ D.iMPL 24 D.MPL_CTRL || at_ D.iCAM 4 D.CAM_CTRL || at_ D.iILM 16 D.ILM_ENABLE || at_ D.iMPF 24 D.MPF_CTRL ||
      at_ D.iFOL 1 D.FOL_ENABLE || at_ D.iAX 8 D.AX_CTRL || at_ D.iENC 8 D.ENC_CTRL || at_ D.iNET_TSYNC 1 D.NET_TSYNC_CTRL then 2
  else if at_ D.iLNK 48 D.LNK_CTRL then 3
  else 0

/-- Put the entries of one rank in force. -/
def load1 (t : SavedSet) (r : Nat) (s : State) : State :=
  (t.regs.filter fun e => rank e.1 == r).foldl (fun s e =>
    if r = 3 then Apply.rawNum 0 (e.1 / 256 % 65536) (e.1 % 256) e.2 s else Apply.num 0 (e.1 / 256 % 65536) (e.1 % 256) e.2 s) s

/-- Put a set in force over the defaults (R53). -/
def load (t : SavedSet) (s : State) : State :=
  let s := t.blobs.foldl (fun s e => Apply.rawBlob (e.1 / 256 % 65536) (e.1 % 256) e.2 s) s
  load1 t 3 (load1 t 2 (load1 t 1 (load1 t 0 s)))

/-- The newer copy that passes its check; CFG_LOAD_FAIL when neither does (R53, R68). -/
def loadNewest (s : State) : State :=
  if s.dev.savedA.valid then load s.dev.savedA s
  else if s.dev.savedB.valid then load s.dev.savedB s
  else State.raise s 0x1B0 5 0

end Sys2Proof.Machine.Saved
end

