-- ==== Sys2Proof/Machine/Blobs.lean ====
section
/-!
DEFINITION. Reading entries over a path (02_dictionary.md R43 to R45, R51, R52): numbers, strings and BLOBs, and what reading clears.
What the rules leave to the model: log entries 3 and 7.
-/
namespace Sys2Proof.Machine

namespace Obj

/-- HW_REV of the module (R51): a letter and a digit. -/
def hwRev : List Byte := [BitVec.ofNat 8 (65 + (Config.hwRev 0).toNat % 26), BitVec.ofNat 8 (48 + (Config.hwRev 1).toNat % 10)]

/-- The characters of a serial number (R51). -/
def serialChar (n : Nat) : Byte := let k := n % 37; BitVec.ofNat 8 (if k < 10 then 48 + k else if k < 36 then 55 + k else 45)

/-- SERIAL of the module (R51): 1 to 16 characters. -/
def serial : List Byte := (List.range (1 + Config.serialLen % 16)).map fun i => serialChar (Config.serial i).toNat

/-- The running firmware image (R52): its length, and its bytes from an offset. -/
def fwSlice (s : State) (o n : Nat) : List Byte :=
  match s.dev.fwRunning.bytes with
  | some b => Blob.slice b o n
  | none =>
    if s.pwr.recovery then (List.range (min n (Config.recoveryLen - o))).map fun i => Config.recoveryByte (o + i)
    else (List.range (min n (Config.fwLen - o))).map fun i => Config.fwByte (o + i)

/-- The reach map (R198): 4 bytes a tile, channels ascending, padded with 0xFF. -/
def reachBytes (s : State) : List Byte :=
  (List.range (Grid.nTiles s)).flatMap fun t =>
    ((Tab.get (fun _ => []) s.lnd.reach t).map fun c => BitVec.ofNat 8 c).take 4 ++
      List.replicate (4 - (Tab.get (fun _ => []) s.lnd.reach t).length) 0xFF

/-- Slots of the Ledger from an offset (R453). -/
def ledgerSlice (s : State) (o n : Nat) : List Byte :=
  let last := min (o + n) 8388608
  if last ≤ o then []
  else ((Arith.rangeFrom (o / 256) ((last + 255) / 256 - o / 256)).flatMap (Ldg.slotBytes s)).drop (o % 256) |>.take (last - o)

/-- BLOBs of records 0x1000 to 0x2FFF. -/
def jobBytes (s : State) (idx sub : Nat) : List Byte :=
  if idx = D.iDEV_IDENT then
    if sub = D.DEV_IDENT_HW_REV then hwRev else if sub = D.DEV_IDENT_SERIAL then serial
    else Blob.toList (Tab.get Apply.blobDflt s.dev.blobs (Dict.key 0 idx sub))
  else if idx = D.iCAT_CTRL then s.cat.image.flatMap CatImg.bytes
  else if idx = D.iLND then reachBytes s
  else if idx = D.iGRD_CFG then
    match s.grd.snap with
    | some p => if s.grd.snapMode = .ready ∨ s.grd.snapMode = .storing then Grid.snapBytes p else []
    | none => []
  else
    match Dict.blkOf idx with
    | some .trj => Blob.toList (Tab.get Apply.blobDflt s.trj.blobs (Dict.key 0 idx sub))
    | some .grd => Blob.toList (Tab.get Apply.blobDflt s.grd.blobs (Dict.key 0 idx sub))
    | _ => []

/-- BLOBs of records 0x3000 to 0x41FF. -/
def unitBytes (s : State) (path idx sub : Nat) : List Byte :=
  match Apply.unit D.iCAM 4 idx with
  | some p => if sub = D.CAM_FRAME then Tab.get (fun _ => []) s.img.objects p else Blob.toList (Img.blob s p sub)
  | none =>
  match Apply.unit D.iMPF 24 idx with
  | some n => Feat.logBytes s n
  | none =>
  match Apply.unit D.iFOLJ 4 idx with
  | some i => if sub = D.FOLJ_INPUT then Fol.inputOf s i else (Fol.slotOf s i).output
  | none =>
  if idx = D.iSTK_STATUS then (match Stk.readable s with | some t => Stk.dirBytes t | none => [])
  else if idx = D.iSTK_OBJ then (match Stk.viewed s path with | some o => o.data | none => [])
  else if idx = D.iNET_TX then Net.doneBytes s path
  else if idx = D.iNET_RX then Net.ringBytes s
  else if idx = D.iFLT_CTRL then
    if sub = D.FLT_CTRL_SUMMARY then Flt.bitmap (State.holdsStatus s) else if sub = D.FLT_CTRL_FENCED then Flt.bitmap (Read.unitFenced s)
    else Flt.logBytes s
  else if idx = D.iLDG_STATUS then Ldg.shadowBytes s
  else if idx = D.iCAL then
    if sub = D.CAL_VALUES then Cal.bytes s.tmp.values
    else (List.range 104).flatMap fun i => let e := Tab.get (fun _ => Cal.unit) s.tmp.measured i; Arith.intLe 4 e.1 ++ Arith.intLe 4 e.2
  else []

/-- `n` bytes of a STR or BLOB entry from offset `o`, cut at its length. -/
def slice (s : State) (path idx sub o n : Nat) : List Byte :=
  if idx = D.iDEV_FW then fwSlice s o n
  else if idx = D.iLDG_CTRL then ledgerSlice s o n
  else ((if idx < 0x3000 then jobBytes s idx sub else unitBytes s path idx sub).drop o).take n

/-- A read of an RC entry clears it (R9): the highest temperature starts again from the present one (R472). -/
def clear (path idx sub : Nat) (s : State) : State :=
  match Dict.rowAt idx sub with
  | some r =>
    if r.acc = .rc then
      if idx = D.iFLT_SRC then State.modSrc s (Read.stored s path idx D.FLT_SRC_SELECT).toNat fun f => { f with messages := 0 }
      else if idx = D.iTMP ∧ sub = D.TMP_MAX_SEEN then { s with tmp := { s.tmp with maxSeen := Tmp.tj s } }
      else Apply.rawNum path idx sub (Dict.dfltOf r idx sub) s
    else s
  | none => s

end Obj

end Sys2Proof.Machine
end

