-- ==== Sys2Proof/Machine/Write.lean ====
section
/-!
DEFINITION. Writing the object dictionary (02_dictionary.md R33, R44 to R46, R53 to R66): the checks of a write in their order, commands,
staging, locks, commit, rollback and timeouts.
What the rules leave to the model: log entries 10, 11, 13 and 50.
-/
namespace Sys2Proof.Machine

/-- The status codes of R46. -/
inductive Answer where
  | ok | noEntry | noSub | readRefused | writeRefused | typeMismatch | range | state | noTxn | txnConflict | txnFull | txnOpen | pendingFull
  | inconsistent | txnExpired | blobSeq | blobCheck | badSeq | noSession | version | badOpcode | busy | internal
deriving DecidableEq, Repr

/-- The number of a status code (R46). -/
def Answer.code : Answer → Nat
  | .ok => 0x00 | .noEntry => 0x01 | .noSub => 0x02 | .readRefused => 0x03 | .writeRefused => 0x04 | .typeMismatch => 0x05 | .range => 0x06
  | .state => 0x07 | .noTxn => 0x08 | .txnConflict => 0x09 | .txnFull => 0x0A | .txnOpen => 0x0B | .pendingFull => 0x0C | .inconsistent => 0x0D
  | .txnExpired => 0x0E | .blobSeq => 0x0F | .blobCheck => 0x10 | .badSeq => 0x11 | .noSession => 0x12 | .version => 0x13 | .badOpcode => 0x14
  | .busy => 0x15 | .internal => 0x16

namespace Write

/-! ### Which entry, and whether it takes writes -/

/-- The dictionary answers (R499, R501): the core rails are on and start-up step 2 is done. -/
def answers (s : State) : Bool := s.pwr.rails && s.pwr.served && s.dev.mode != .thermalOff

/-- The row of an entry, or the status of its absence (R34, R46, R500). -/
def lookup (s : State) (idx sub : Nat) : Except Answer Dict.Row :=
  if s.pwr.recovery && idx != D.iDEV_IDENT && idx != D.iDEV_FW && idx != D.iDEV_STATE then .error .noEntry
  else if !Dict.assigned idx then .error .noEntry
  else match Dict.rowAt idx sub with
    | some r => .ok r
    | none => .error .noSub

/-- The writes that start-up allows (R501), and DEV_STATE.CMD, whose SAFE R23 takes in BOOT and whose other codes R22 refuses (log entry 50). -/
def inBoot (idx sub : Nat) : Bool :=
  idx == D.iTXN_CTRL || (idx == D.iDEV_STATE && sub == D.DEV_STATE_CMD) || (idx == D.iFLT_CTRL && sub == D.FLT_CTRL_CMD) || (idx == D.iFLT_SRC && (sub == D.FLT_SRC_SELECT || sub == D.FLT_SRC_CMD)) ||
    (idx == D.iFLT_PIN && sub == D.FLT_PIN_LEVEL) || (idx == D.iTMP && sub == D.TMP_CMD)

/-- MEMBERS of a private context is never written (R99). -/
def fixed (idx sub : Nat) : Bool := decide (D.iCTX ≤ idx) && decide (idx < D.iCTX + 24) && sub == D.CTX_MEMBERS

/-! ### Limits (R33) -/

/-- Limits of single entries that their width and range do not give. A snapshot selection that names a WO entry is refused like one that names no entry, since
nothing reads it (R458 does not say; DESIGN CHOICE: log entry 43). -/
def entryOk (idx sub : Nat) (v : Int) : Bool :=
  if idx = D.iFLT_SRC ∧ sub = D.FLT_SRC_SELECT then Instr.assigned v.toNat
  else if idx = D.iLDG_SNAP_SEL ∧ sub ≠ 0 then
    v == 0 || (match Dict.rowAt (v.toNat / 65536) (v.toNat / 256 % 256) with
      | some r => decide (v.toNat % 256 = 0) && decide (0 < Dict.width r.ty) && decide (Dict.width r.ty ≤ 32) && r.acc != .wo
      | none => false)
  else if idx = D.iTMP ∧ sub = D.TMP_EXCLUDE then Tmp.excludeOk v.toNat
  else if (Apply.unit D.iENC 8 idx).isSome ∧ sub = D.ENC_CTRL then decide (idx - D.iENC = 6 ∨ idx - D.iENC = 7) || Arith.bits v.toNat 3 2 == 0
  else if (Apply.unit D.iCAM 4 idx).isSome ∧ sub = D.CAM_CTRL then decide (Arith.bits v.toNat 12 8 < 0x18 ∨ Arith.bits v.toNat 12 8 = 0x1F)
  else true

/-- A number lies within the limits of its entry (R33). -/
def numOk (r : Dict.Row) (idx sub : Nat) (v : Int) : Bool :=
  decide (Dict.tyMin r.ty ≤ v) && decide (v ≤ Dict.tyMax r.ty) && (r.ty != .f32 || (Arith.f32OfBits v.toNat).isSome) && Dict.chkOk r.chk v && entryOk idx sub v

/-- The bytes of a STR or a BLOB lie within the limits of their entry: the image checks of the chapters. -/
def bytesOk (s : State) (path idx sub : Nat) (b : Blob) : Bool :=
  if idx = D.iDEV_IDENT then decide (b.len ≤ 32)
  else if idx = D.iCAT_CTRL then CatImg.ok (Blob.toList b)
  else if idx = D.iCAL then b.len == 832
  else if idx = D.iSTK_OBJ then Stk.hostKind (Stk.sel s path D.STK_OBJ_KIND)
  else if idx = D.iNET_TX then Net.lengthOk b.len
  else if (Apply.unit D.iCOR 24 idx).isSome then b.len == 792588
  else if (Apply.unit D.iGRD_CURVE 64 idx).isSome then Grid.curveOk (Blob.toList b)
  else if (Apply.unit D.iGRD_MODEL 16 idx).isSome then Grid.modelOk (Blob.toList b)
  else match Apply.unit D.iCAM 4 idx with
    | some p => Img.imageOk s p sub b
    | none => true

/-- A value lies within the limits of its entry. -/
def valOk (s : State) (r : Dict.Row) (path idx sub : Nat) (v : Val) : Bool :=
  match v with
  | .num n => numOk r idx sub n
  | .bytes b => bytesOk s path idx sub b

/-- A value has the kind of its entry: a number, or bytes. -/
def kindOk (r : Dict.Row) (v : Val) : Bool :=
  match v with
  | .num _ => r.ty != .str && r.ty != .blob
  | .bytes _ => r.ty == .str || r.ty == .blob

/-- The BLOBs that carry data objects (R56). -/
def dataBlob (idx sub : Nat) : Bool :=
  (idx == D.iSTK_OBJ && sub == D.STK_OBJ_DATA) || ((Apply.unit D.iFOLJ 4 idx).isSome && sub == D.FOLJ_INPUT)

/-! ### Locks (R58) -/

/-- A record is locked against a path: by a committed transaction, or by another path's open one. -/
def locked (s : State) (path idx : Nat) : Bool :=
  s.txn.queue.any (fun t => t.writes.any fun w => w.idx == idx) ||
    s.txn.paths.any fun e => e.1 != path && ((e.2.txn.map fun t => t.writes.any fun w => w.idx == idx).getD false)

/-! ### Conditions of units (STATE) -/

/-- Writes that a commit refuses with STATE (R59, R100, R224): a ring size while the ring is not empty, and grid geometry. -/
def commitBarred (s : State) (idx sub : Nat) : Bool :=
  match Apply.unit D.iCTX 96 idx with
  | some n => sub == D.CTX_RING_SIZE && State.ctxReg s n D.CTX_WP != State.ctxReg s n D.CTX_RM
  | none => idx == D.iGRD_CFG && Grid.geometrySubs.contains sub && Grid.geometryLocked s

/-- Writes to the job model's entries that the present state refuses (R100, R224, R268, R271); `plain`: not through a transaction. -/
def jobState (s : State) (plain : Bool) (idx sub : Nat) (v : Int) : Bool :=
  let old := Read.value s 0 idx sub
  match Apply.unit D.iCTX 96 idx with
  | some n =>
    let off := (State.ctxOf s n).mode == .disabled
    if sub = D.CTX_MEMBERS then plain && !off
    else if sub = D.CTX_RING_SIZE then (plain && !off) || commitBarred s idx sub
    else if sub = D.CTX_CTRL then plain && !off && Arith.bits v.toNat 3 2 != Arith.bits old.toNat 3 2
    else false
  | none =>
  match Apply.unit D.iLNK 48 idx with
  | some m => sub == D.LNK_CTRL && !Arith.bit v.toNat 0 && Lnk.started s m
  | none =>
  match Apply.unit D.iSRC 24 idx with
  | some _ => Apply.barred s idx sub
  | none =>
  match Apply.unit D.iXY 8 idx with
  | some _ => Apply.barred s idx sub
  | none => commitBarred s idx sub

/-- Writes to the entries of imaging, Folio, Stacks, axes, encoders and compare units that the present state refuses. -/
def unitState (s : State) (idx sub : Nat) (v : Int) : Bool :=
  let old := Read.value s 0 idx sub
  match Apply.unit D.iCAM 4 idx with
  | some _ => sub == D.CAM_CTRL && Arith.bit old.toNat 0 && (Arith.bit v.toNat 1 != Arith.bit old.toNat 1)
  | none =>
  match Apply.unit D.iAX 8 idx with
  | some a => (sub == D.AX_TARGET && (Ax.axis s a).mode == .moving) || (sub == D.AX_POSITION && !Ax.standstill s a)
  | none =>
  match Apply.unit D.iENC 8 idx with
  | some e => sub == D.ENC_COUNT && Ax.gearedTo s e
  | none =>
  match Apply.unit D.iCMP 16 idx with
  | some u => sub == D.CMP_MODE && ((Ax.cmp s u).mode == .armed || (Ax.cmp s u).mode == .behind)
  | none =>
  match Apply.unit D.iFOLJ 4 idx with
  | some i => sub == D.FOLJ_INPUT && !Fol.startFree s i
  | none =>
  if idx = D.iIMG then sub == D.IMG_INLINE && !Img.inlineFree s
  else if idx = D.iFOL then (sub == D.FOL_BUF_SIZE || sub == D.FOL_BUF_COUNT) && Fol.allocated s
  else if idx = D.iSTK_CTRL then (sub == D.STK_CTRL_JOB || sub == D.STK_CTRL_AHEAD) && s.dev.mode.inBuild
  else if idx = D.iSTK_OBJ then sub == D.STK_OBJ_DATA && (s.stk.mode != .mounted || s.stk.ejected)
  else false

/-- A write is refused with STATE by the unit it concerns. -/
def refused (s : State) (plain : Bool) (idx sub : Nat) (v : Val) : Bool :=
  let n := match v with | .num n => n | .bytes _ => 0
  jobState s plain idx sub n || unitState s idx sub n

/-! ### Transactions (R54 to R64) -/

/-- LAST_RESULT and TXN_ID of a path (R54). -/
def putCtrl (path sub v : Nat) (s : State) : State := Apply.rawNum path D.iTXN_CTRL sub (v : Int) s

/-- The open transaction of a path is rolled back (R63, R67). -/
def rollback (p : Nat) (s : State) : State :=
  match (State.pathOf s p).txn with
  | some _ => State.incTxn (State.modPath s p fun x => { x with txn := none }) D.iTXN_STATS D.TXN_STATS_ROLLBACKS 1
  | none => s

/-- TXN_BEGIN (R55). -/
def begin_ (p : Nat) (s : State) : State × Answer :=
  match (State.pathOf s p).txn with
  | some _ => (s, .txnOpen)
  | none =>
    let id := s.txn.nextId
    let s := State.modPath s p fun x => { x with txn := some ⟨id, p, []⟩ }
    ({ s with txn := { s.txn with nextId := (id + 1) % 2 ^ 32 } }, .ok)

/-- The access code of a staged write is RWS. -/
def isRws (w : Staged) : Bool := match Dict.rowAt w.idx w.sub with | some r => r.acc == .rws | none => false

/-- A staged write is a BLOB. -/
def isBlob (w : Staged) : Bool := match Dict.rowAt w.idx w.sub with | some r => r.ty == .blob | none => false

/-- A staged value is itself a valid one (R59, R100): a staged member set. -/
def stagedOk (w : Staged) : Bool :=
  match w.val with
  | .num v => !((Apply.unit D.iCTX 96 w.idx).isSome && w.sub == D.CTX_MEMBERS) || State.membersOk v.toNat
  | .bytes _ => true

/-- The cross-entry checks of a transaction (R59), on the values that stand once it and all before it apply. -/
def crossOk (s : State) (t : Txn) : Bool :=
  let after := Apply.preview t.path t.writes (s.txn.queue.foldl (fun s q => Apply.preview q.path q.writes s) s)
  t.writes.all fun w => stagedOk w && Apply.consistent after w.idx w.sub

/-- A transaction goes into the queue in TXN_ID order (R61). -/
def enqueue (t : Txn) : List Txn → List Txn
  | [] => [t]
  | q :: l => if t.id < q.id then t :: q :: l else q :: enqueue t l

/-- TXN_COMMIT (R59, R60, R62). -/
def commit (p : Nat) (s : State) : State × Answer :=
  match (State.pathOf s p).txn with
  | none => (s, .noTxn)
  | some t =>
    if !crossOk s t then (s, .inconsistent)
    else if (t.writes.any isRws && s.dev.mode != .service) || t.writes.any (fun w => commitBarred s w.idx w.sub) then (s, .state)
    else if 8 ≤ s.txn.queue.length then (s, .pendingFull)
    else
      let now := Apply.atCommit s
      let s := State.modPath s p fun x => { x with txn := none, copying := t.writes.any isBlob }
      let s := putCtrl p D.TXN_CTRL_TXN_ID t.id { s with txn := { s.txn with queue := enqueue t s.txn.queue } }
      (Apply.some_ .commit now t s, .ok)

/-- TXN_CTRL.CMD (R54, R64): TXN_EXPIRED is answered once. -/
def txnCmd (p v : Nat) (s : State) : State × Answer :=
  let x := State.pathOf s p
  let s := State.modPath s p fun x => { x with lastTxn := s.tick }
  let r : State × Answer :=
    if v = 0 ∨ 3 < v then (s, .range)
    else if x.expired then (State.modPath s p fun x => { x with expired := false }, .txnExpired)
    else if v = 1 then begin_ p s
    else if v = 2 then commit p s
    else if x.txn.isSome then (rollback p s, .ok)
    else (s, .noTxn)
  (putCtrl p D.TXN_CTRL_LAST_RESULT r.2.code r.1, r.2)

/-- The open transaction of a path has been idle for TXN_TIMEOUT (R64). -/
def timeoutDue (s : State) (p : Nat) : Bool :=
  (State.pathOf s p).txn.isSome && decide ((State.pathOf s p).lastTxn + 2000 * (State.rTxn s 0x1101 1).toNat ≤ s.tick)

/-- A transaction rolls back by its timeout (R64, R66, R68). -/
def timeout (p : Nat) (s : State) : State :=
  if timeoutDue s p then
    let s := State.raise s 0x1B0 1 (Read.txnAddress s p)
    let s := State.incTxn s (D.iTXN_PATH + p) D.TXN_PATH_TIMEOUTS 1
    State.modPath (rollback p s) p fun x => { x with expired := true }
  else s

/-- The copy of a commit's large BLOBs ends (R59). -/
def copyEnd (p : Nat) (s : State) : State := if p < 5 then State.modPath s p fun x => { x with copying := false } else s

/-! ### Commands: WO entries -/

/-- Take an operation when a condition holds, else answer STATE. -/
def when (b : Bool) (f : State → State) (s : State) : State × Answer := if b then (f s, .ok) else (s, .state)

/-- AX_CMD (R380, R399). -/
def axisCmd (a v : Nat) (s : State) : State × Answer :=
  match v with
  | 1 => (Ax.cmdStop false a s, .ok)
  | 2 => (Ax.cmdStop true a s, .ok)
  | 3 => when (Ax.startOk s a) (Ax.cmdHome a) s
  | 4 => when (Ax.startOk s a) (Ax.cmdJog a) s
  | 5 => when (Ax.moveOk s a (Ax.reg s a D.AX_TARGET)) (Ax.cmdMove a) s
  | 6 => when (Ax.gearOk s a) (Ax.gearEngage a) s
  | 7 => when (Ax.devOk s) (Ax.gearDisengage a) s
  | _ => when (Ax.devOk s && (Ax.axis s a).gear.isSome) (Ax.armSwitch a) s

/-- GRD_CMD (R226, R238). -/
def gridCmd (v : Nat) (s : State) : State × Answer :=
  match v with
  | 1 => when (Grid.resetOk s) Grid.cmdReset s
  | 2 => when (Grid.snapOk s) (Fol.gridSnapshot false) s
  | 3 => when (Grid.snapOk s) (Fol.gridSnapshot true) s
  | _ => (Fol.gridRelease s, .ok)

/-- FOLJ_CMD (R338, R345). -/
def folioCmd (i v : Nat) (s : State) : State × Answer :=
  if v = 1 then
    if !Fol.startFree s i then (s, .state) else if !Fol.inputOk s i then (s, .range) else (Fol.start i s, .ok)
  else (Fol.cmd i v s, .ok)

/-- STK_CMD (R364, R365). -/
def storeCmd (p v : Nat) (s : State) : State × Answer :=
  match v with
  | 1 => when (Stk.canMount s) Stk.mount s
  | 2 => when (Stk.canUnmount s) Stk.unmount s
  | 3 => when (Stk.canFormat s) Stk.format s
  | _ => when (Stk.canDelete s p) (Stk.delete p) s

/-- FLT_SRC.CMD (R430, R436, R442). -/
def sourceCmd (p v : Nat) (s : State) : State × Answer :=
  let src := (Read.stored s p D.iFLT_SRC D.FLT_SRC_SELECT).toNat
  if v = 1 then (Flt.ack src s, .ok) else when (Flt.clearOk s src) (Flt.clear src) s

/-- DEV_CFG.CMD (R53). -/
def configCmd (p v : Nat) (s : State) : State × Answer :=
  when (s.dev.mode == .service || s.dev.mode == .ready) (if v = 1 then Saved.save p else Saved.erase) s

/-- LNK_CMD (R267, R268). -/
def laneCmd (m v : Nat) (s : State) : State × Answer := when (Lnk.cmdOk s m) (if v = 1 then Lnk.retrain m else Lnk.cmdRelearn m) s

/-- CMP_CMD (R398, R402). -/
def compareCmd (u v : Nat) (s : State) : State × Answer := (if v = 1 then Ax.cmpArm u s else Ax.cmpDisarm u s, .ok)

/-- ILM_CMD (R324, R326). -/
def lampCmd (v : Nat) (s : State) : State × Answer := if v = 1 then (Ilm.apply s, .ok) else when (Ilm.probeOk s) Ilm.probeAll s

/-- LDG_CMD (R448, R452). -/
def ledgerCmd (v : Nat) (s : State) : State × Answer := (if v = 1 then Ldg.freeze s else if v = 2 then Ldg.unfreeze s else Ldg.mark s, .ok)

/-- TMP_CMD = ACK_SHUTDOWN (R468): the newest shutdown record is acknowledged. -/
def ackShutdown (s : State) : State := { s with tmp := { s.tmp with acked := match Read.shutdownSeq s with | some q => some q | none => s.tmp.acked } }

/-- The number written to the command entry of a unit that the table repeats. -/
def unitCommand (idx n : Nat) (s : State) : State × Answer :=
  match Apply.unit D.iCTX 96 idx with
  | some c => when (Feed.flushOk s c) (fun s => Stk.flushed c (Feed.flush c s)) s
  | none =>
  match Apply.unit D.iMPL 24 idx with
  | some c => (Mpl.cmd c n s, .ok)
  | none =>
  match Apply.unit D.iLNK 48 idx with
  | some m => laneCmd m n s
  | none =>
  match Apply.unit D.iFOLJ 4 idx with
  | some i => folioCmd i n s
  | none =>
  match Apply.unit D.iAX 8 idx with
  | some a => axisCmd a n s
  | none =>
  match Apply.unit D.iCMP 16 idx with
  | some u => compareCmd u n s
  | none => (s, .ok)

/-- The number written to a command entry is carried out (R9, R55); a command of the device state or of the collector is evaluated after
the collection of its CORE cycle (R24, R425, R430). -/
def command (path idx : Nat) (v : Int) (s : State) : State × Answer :=
  let n := v.toNat
  if idx = D.iDEV_STATE then (let s := Flt.collect s; (Seq.command n s, if Seq.cmdOk s n then .ok else .state))
  else if idx = D.iDEV_CFG then configCmd path n s
  else if idx = D.iTXN_CTRL then txnCmd path n s
  else if idx = D.iGRD_CFG then gridCmd n s
  else if idx = D.iILMG then lampCmd n s
  else if idx = D.iSTK_CTRL then storeCmd path n s
  else if idx = D.iNET_CLK then (Net.servo v s, .ok)
  else if idx = D.iFLT_CTRL then (Flt.cmd n (Flt.collect s), .ok)
  else if idx = D.iFLT_SRC then sourceCmd path n (Flt.collect s)
  else if idx = D.iLDG_CTRL then ledgerCmd n s
  else if idx = D.iTMP then (ackShutdown s, .ok)
  else if idx = D.iCAL then when (Tmp.runOk s) Tmp.cmdRun s
  else unitCommand idx n s

/-- A WO entry is written. -/
def execute (path idx : Nat) (v : Val) (s : State) : State × Answer :=
  match v with
  | .num n => command path idx n s
  | .bytes b => when (Net.canQueue s path) (Net.enqueue path (Blob.toList b)) s

/-! ### One write -/

/-- Write LAYER-class entries in a build without a break (R30): axes, encoders and compare units do not shape the exposure. -/
def offPoint (idx : Nat) : Bool := Apply.classOf idx == .layer && idx < 0x3600

/-- A write that takes effect at once (R55, R59): conditions, cross-entry checks, then the value. -/
def plain (path idx sub : Nat) (v : Val) (s : State) : State × Answer :=
  if refused s true idx sub v then (s, .state)
  else
    let w : Staged := ⟨idx, sub, v⟩
    if !(stagedOk w && Apply.consistent (Apply.preview path [w] s) idx sub) then (s, .range)
    else
      let t := Apply.val path idx sub v s
      (if s.dev.mode.inBuild && offPoint idx then State.offPoint t else t, .ok)

/-- Staged writes with one put in: a second write to the same entry replaces the first (R57). -/
def put (w : Staged) : List Staged → List Staged
  | [] => [w]
  | x :: l => if x.idx = w.idx ∧ x.sub = w.sub then w :: l else x :: put w l

/-- A write is staged in the open transaction (R57); a unit that limits the write to certain states refuses it here (R9; log entry 13), but for what the commit
checks. -/
def stage (path : Nat) (w : Staged) (t : Txn) (s : State) : State × Answer :=
  let l := put w t.writes
  if refused s false w.idx w.sub w.val && !commitBarred s w.idx w.sub then (s, .state)
  else if 4096 < l.length then (s, .txnFull)
  else (State.modPath s path fun x => { x with txn := some { t with writes := l }, lastTxn := s.tick }, .ok)

/-- A write that neither runs at once as a command nor carries a data object (R55, R64). -/
def byAccess (r : Dict.Row) (path idx sub : Nat) (v : Val) (s : State) : State × Answer :=
  let x := State.pathOf s path
  if r.acc = .rws ∧ s.dev.mode ≠ .service then (s, .state)
  else if x.expired then (State.modPath s path fun x => { x with expired := false }, .txnExpired)
  else match x.txn with
    | some t => stage path ⟨idx, sub, v⟩ t s
    | none => if r.acc = .rwt then (s, .noTxn) else plain path idx sub v s

/-- A value whose kind fits its entry (R33, R55 to R58). -/
def checked (r : Dict.Row) (path idx sub : Nat) (v : Val) (s : State) : State × Answer :=
  if !valOk s r path idx sub v then
    (if idx = D.iTXN_CTRL then putCtrl path D.TXN_CTRL_LAST_RESULT Answer.range.code (State.modPath s path fun x => { x with lastTxn := s.tick }) else s, .range)
  else if dataBlob idx sub then plain path idx sub v s
  else if locked s path idx then (State.incTxn s D.iTXN_STATS D.TXN_STATS_CONFLICTS 1, .txnConflict)
  else if r.acc = .wo then execute path idx v s
  else byAccess r path idx sub v s

/-- A write of an entry over a path: every check in its order (R9, R33, R34, R44, R46, R55, R501); `fits`: its type and length (R44). -/
def writeAs (fits : Dict.Row → Bool) (path idx sub : Nat) (v : Val) (s : State) : State × Answer :=
  if s.txn.fenced then (s, .internal)
  else match lookup s idx sub with
    | .error e => (s, e)
    | .ok r =>
      if s.dev.mode = .boot ∧ !inBoot idx sub then (s, .state)
      else if r.acc = .ro ∨ r.acc = .rc ∨ fixed idx sub then (s, .writeRefused)
      else if !(fits r && kindOk r v) then (s, .typeMismatch)
      else checked r path idx sub v s

/-- A write whose value comes with its right type. -/
def write (path idx sub : Nat) (v : Val) (s : State) : State × Answer := writeAs (fun _ => true) path idx sub v s

/-- An entry is applied with its bit 0 set or cleared (R55): a write that takes effect at once, once start-up is over. -/
def enable (idx sub : Nat) (on : Bool) (s : State) : State :=
  if answers s && s.dev.mode != .boot && !s.pwr.recovery then
    (plain 0 idx sub (.num ((Arith.setBit (Read.value s 0 idx sub).toNat 0 on : Nat) : Int)) s).1
  else s

end Write

end Sys2Proof.Machine
end

