-- ==== Sys2Proof/Machine/Paths.lean ====
section
/-!
DEFINITION. The access paths (02_dictionary.md R35 to R50): DDP frames and sessions, the mailbox and the registers of BAR0.
What the rules leave to the model: log entries 11 and 12.
-/
namespace Sys2Proof.Machine

namespace Ddp

/-! ### Frames (R37, R38) -/

/-- The header of a request (R38). -/
structure Head where
  version : Nat
  opcode : Nat
  session : Nat
  seq : Nat
  length : Nat
deriving DecidableEq, Repr

/-- The header fields of a frame. -/
def head (b : List Byte) : Head := ⟨Arith.leAt b 2 1, Arith.leAt b 3 1, Arith.leAt b 4 2, Arith.leAt b 6 2, Arith.leAt b 10 2⟩

/-- The header checks of a datagram (R37, R38): its size, MAGIC, and the fields that a request leaves 0. -/
def headOk (b : List Byte) : Bool :=
  decide (16 ≤ b.length) && decide (b.length ≤ 16 + 1440) && decide (Arith.leAt b 0 2 = 0xD3D0) && Arith.zeroAt b 8 2 && Arith.zeroAt b 12 4

/-- The bytes a UDP checksum covers: the pseudo header of UDP over IPv4, the UDP header and the payload. -/
def covered (dg : Datagram) : List Byte :=
  let n := 8 + dg.bytes.length
  Net.beBytes 4 dg.ip ++ Net.beBytes 4 dg.dstIp ++ Net.beBytes 2 17 ++ Net.beBytes 2 n ++ Net.beBytes 2 dg.port ++ Net.beBytes 2 dg.dstPort ++ Net.beBytes 2 n ++
    Net.beBytes 2 dg.sum ++ dg.bytes

/-- The UDP checksum is there and right (R37). -/
def sumOk (dg : Datagram) : Bool := decide (dg.sum ≠ 0) && Net.checksum (covered dg) == 0

/-- The device drops a datagram (R37). -/
def dropped (dg : Datagram) : Bool := !sumOk dg || !headOk dg.bytes

/-- A datagram is for DDP (R37, R405): to the address of its port, which is up and has one, and to UDP port 41760. -/
def forDdp (s : State) (dg : Datagram) : Bool :=
  Net.up s dg.eth && decide (dg.dstIp ≠ 0) && decide (Net.port s dg.eth D.NET_PORT_IP = (dg.dstIp : Int)) && decide (dg.dstPort = 41760)

/-- A response frame (R38). -/
def frame (h : Head) (session : Nat) (a : Answer) (body : List Byte) (s : State) : List Byte :=
  Arith.natLe 2 0xD3D0 ++ Arith.natLe 1 1 ++ Arith.natLe 1 h.opcode ++ Arith.natLe 2 session ++ Arith.natLe 2 h.seq ++ Arith.natLe 1 a.code ++ Arith.natLe 1 1 ++
    Arith.natLe 2 body.length ++ Arith.natLe 4 s.tick ++ body

/-- An answer leaves to the source of its request by the port where it arrived (R39), where a reply to it can leave (R416); the newest 16 are kept. -/
def send (dg : Datagram) (b : List Byte) (s : State) : State :=
  if !Net.routed s dg.eth dg.ip then s else
  let l := s.txn.sent ++ [⟨dg.ip, dg.port, dg.eth, b⟩]
  Net.count { s with txn := { s.txn with sent := l.drop (l.length - 16) } } dg.eth D.NET_PORT_TX_FRAMES

/-! ### Operations (R43 to R45) -/

/-- What one operation answers: the state after it, the frame's status, and the response body. -/
structure Done where
  state : State
  answer : Answer
  body : List Byte
deriving DecidableEq, Repr

/-- The bytes of a value, padded to a multiple of 4. -/
def padded (b : List Byte) : List Byte := b ++ List.replicate ((4 - b.length % 4) % 4) 0

/-- The value of an entry over a path as bytes (R33). -/
def valueBytes (s : State) (r : Dict.Row) (path idx sub : Nat) : List Byte :=
  if r.ty = .str then Obj.slice s path idx sub 0 255 else Arith.intLe (Dict.width r.ty / 8) (Read.value s path idx sub)

/-- A read access: TXN_CTRL counts as activity (R64), an RC entry clears (R9). -/
def touch (path idx sub : Nat) (s : State) : State :=
  Obj.clear path idx sub (if idx = D.iTXN_CTRL then State.modPath s path fun x => { x with lastTxn := s.tick } else s)

/-- One read item (R43): its result item. -/
def readItem (path idx sub : Nat) (s : State) : State × List Byte :=
  let out := fun (a : Answer) (ty : Nat) (b : List Byte) =>
    Arith.natLe 2 idx ++ Arith.natLe 1 sub ++ Arith.natLe 1 a.code ++ Arith.natLe 1 ty ++ [0] ++ Arith.natLe 2 b.length ++ padded b
  match Write.lookup s idx sub with
  | .error e => (s, out e 0 [])
  | .ok r =>
    if r.acc = .wo then (s, out .readRefused 0 [])
    else if r.ty = .blob then (s, out .typeMismatch 0 [])
    else (touch path idx sub s, out .ok (Ldg.tyCode r.ty) (valueBytes s r path idx sub))

/-- The read items of a body in order, while their result items fit into a body of `cap` bytes; an item that no longer fits is not read (log entry 11). -/
def readItems (cap path : Nat) : Nat → List Byte → State → State × List Byte
  | 0, _, s => (s, [])
  | n + 1, b, s =>
    if b.length < 4 then (s, [])
    else
      let r := readItem path (Arith.leAt b 0 2) (Arith.leAt b 2 1) s
      if cap < r.2.length then (s, [])
      else
        let t := readItems (cap - r.2.length) path n (b.drop 4) r.1
        (t.1, r.2 ++ t.2)

/-- One write item (R42 to R44): index, subindex, type, value bytes. -/
structure Item where
  idx : Nat
  sub : Nat
  ty : Nat
  bytes : List Byte
deriving DecidableEq, Repr

/-- The write items of a body, or none where they do not fill it; by fuel. -/
def parseItems : Nat → List Byte → Option (List Item)
  | 0, b => if b.isEmpty then some [] else none
  | n + 1, b =>
    if b.isEmpty then some []
    else
      let len := Arith.leAt b 4 2
      let size := 8 + (len + 3) / 4 * 4
      if b.length < 8 ∨ b.length < size then none
      else (parseItems n (b.drop size)).map fun l => ⟨Arith.leAt b 0 2, Arith.leAt b 2 1, Arith.leAt b 3 1, (b.drop 8).take len⟩ :: l

/-- The type and the length of a write item fit an entry (R44). -/
def fits (w : Item) (r : Dict.Row) : Bool :=
  r.ty != .blob && decide (Ldg.tyCode r.ty = w.ty) && (if r.ty = .str then decide (w.bytes.length ≤ 255) else decide (w.bytes.length = Dict.width r.ty / 8))

/-- The value of a write item under the type of its code. -/
def itemVal (w : Item) : Val :=
  if w.ty = 0x0A then .bytes (Blob.ofList w.bytes)
  else if w.ty = 0x06 ∨ w.ty = 0x07 ∨ w.ty = 0x08 then .num (Arith.toSigned (8 * w.bytes.length) (Arith.leNat w.bytes))
  else .num (Arith.leNat w.bytes : Int)

/-- The write items in order: one status item each. -/
def writeItems (path : Nat) : List Item → State → State × List Byte
  | [], s => (s, [])
  | w :: l, s =>
    let r := Write.writeAs (fits w) path w.idx w.sub (itemVal w) s
    let t := writeItems path l r.1
    (t.1, Arith.natLe 2 w.idx ++ Arith.natLe 1 w.sub ++ Arith.natLe 1 r.2.code ++ t.2)

/-- BLOB_READ (R45); `cap`: the largest body of the path. -/
def blobRead (cap path : Nat) (b : List Byte) (s : State) : Done :=
  let idx := Arith.leAt b 0 2
  let sub := Arith.leAt b 2 1
  match Write.lookup s idx sub with
  | .error e => ⟨s, e, []⟩
  | .ok r =>
    if r.acc = .wo then ⟨s, .readRefused, []⟩
    else if r.ty ≠ .blob then ⟨s, .typeMismatch, []⟩
    else
      let off := Arith.leAt b 4 4
      let n := min cap (Arith.leAt b 8 2)
      let s := if idx = D.iSTK_OBJ then Stk.readFrom path off n s else s
      ⟨if idx = D.iSTK_OBJ then Stk.readTo path (off + n) s else s, .ok, Obj.slice s path idx sub off n⟩

/-- BLOB_WRITE (R45). -/
def blobWrite (path : Nat) (b : List Byte) (s : State) : Done :=
  let idx := Arith.leAt b 0 2
  let sub := Arith.leAt b 2 1
  let off := Arith.leAt b 4 4
  match Write.lookup s idx sub with
  | .error e => ⟨s, e, []⟩
  | .ok r =>
    if r.ty ≠ .blob then ⟨s, .typeMismatch, []⟩
    else if s.dev.mode = .boot then ⟨s, .state, []⟩
    else
      let old := match (State.pathOf s path).upload with | some u => if u.idx = idx ∧ u.sub = sub then u.data else [] | none => []
      if off = old.length then ⟨State.modPath s path fun x => { x with upload := some ⟨idx, sub, old ++ b.drop 8⟩ }, .ok, []⟩
      else ⟨State.modPath s path fun x => { x with upload := none }, .blobSeq, []⟩

/-- BLOB_END (R45): length and CRC-32, then one write of the entry. -/
def blobEnd (path : Nat) (b : List Byte) (s : State) : Done :=
  let idx := Arith.leAt b 0 2
  let sub := Arith.leAt b 2 1
  match Write.lookup s idx sub with
  | .error e => ⟨s, e, []⟩
  | .ok r =>
    if r.ty ≠ .blob then ⟨s, .typeMismatch, []⟩
    else
      let img := match (State.pathOf s path).upload with | some u => if u.idx = idx ∧ u.sub = sub then u.data else [] | none => []
      let s := State.modPath s path fun x => { x with upload := none }
      if img.length = Arith.leAt b 4 4 ∧ Arith.crc32 img = Arith.leAt b 8 4 then
        let w := Write.write path idx sub (.bytes (Blob.ofList img)) s
        ⟨w.1, w.2, []⟩
      else ⟨s, .blobCheck, []⟩

/-- The opcode exists and the body has its shape (R46 BAD_OPCODE). -/
def shapeOk (op : Nat) (b : List Byte) : Bool :=
  if op = 0x01 then b.length == 4
  else if op = 0x02 ∨ op = 0x03 then b.isEmpty
  else if op = 0x10 then decide (b.length % 4 = 0) && decide (4 ≤ b.length) && decide (b.length ≤ 256)
  else if op = 0x11 then !b.isEmpty && (parseItems 64 b).isSome
  else if op = 0x20 ∨ op = 0x22 then b.length == 12
  else if op = 0x21 then decide (8 ≤ b.length)
  else false

/-- One operation over a path (R43 to R45); OPEN and CLOSE belong to sessions. -/
def operate (cap path op : Nat) (b : List Byte) (s : State) : Done :=
  if op = 0x10 then let r := readItems cap path 64 b s; ⟨r.1, .ok, r.2⟩
  else if op = 0x11 then
    match parseItems 64 b with
    | some l => let r := writeItems path l s; ⟨r.1, .ok, r.2⟩
    | none => ⟨s, .badOpcode, []⟩
  else if op = 0x20 then blobRead cap path b s
  else if op = 0x21 then blobWrite path b s
  else if op = 0x22 then blobEnd path b s
  else ⟨s, .ok, []⟩

/-! ### Sessions (R39 to R42) -/

/-- A session closes (R42): its transaction rolls back and its unfinished image goes. -/
def closePath (p : Nat) (s : State) : State :=
  State.modPath (Stk.readOver p (Write.rollback p s)) p fun x => { Path.init p with ip := x.ip, port := x.port, lastTxn := x.lastTxn, copying := x.copying }

/-- The lowest free session. -/
def freeSession (s : State) : Option Nat := [1, 2, 3, 4].find? fun p => !(State.pathOf s p).isOpen

/-- The session that an OPEN repeats (R41): same source and SEQ, answered within the last second. -/
def repeated (dg : Datagram) (seq : Nat) (s : State) : Option Nat :=
  [1, 2, 3, 4].find? fun p =>
    let x := State.pathOf s p
    x.isOpen && x.openIp == dg.ip && x.openPort == dg.port && x.openSeq == seq && decide (s.tick ≤ x.openTick + 2000000)

/-- OPEN (R41). -/
def openSession (dg : Datagram) (h : Head) (s : State) : State :=
  let keep := Arith.leAt dg.bytes 16 2
  if keep < 100 ∨ 60000 < keep ∨ Arith.leAt dg.bytes 18 2 ≠ 0 then send dg (frame h 0 .range [] s) s
  else match repeated dg h.seq s with
    | some p => send dg (frame h p .ok [] s) (State.modPath s p fun x => { x with openTick := s.tick })
    | none =>
      match freeSession s with
      | none => send dg (frame h 0 .noSession [] s) s
      | some p =>
        let r := frame h p .ok [] s
        let s := State.modPath s p fun x => { Path.init p with
          isOpen := true, lastSeq := some h.seq, lastResp := r, ip := dg.ip, port := dg.port, keepAlive := keep, lastValid := s.tick, openIp := dg.ip
          openPort := dg.port, openSeq := h.seq, openTick := s.tick, lastTxn := x.lastTxn, copying := x.copying }
        send dg r s

/-- A request of a session is carried out, or answered from the stored response (R40, R42, R59). -/
def inSession (p : Nat) (dg : Datagram) (h : Head) (s : State) : State :=
  let x := State.pathOf s p
  let body := dg.bytes.drop 16
  let seen := fun (s : State) => State.modPath s p fun x => { x with ip := dg.ip, port := dg.port, lastValid := s.tick }
  if x.lastSeq = some h.seq then send dg x.lastResp (State.incTxn (seen s) D.iTXN_STATS D.TXN_STATS_RETRIES 1)
  else if x.lastSeq.map (fun q => (q + 1) % 65536) ≠ some h.seq then
    send dg (frame h h.session .badSeq [] s) (State.modPath s p fun x => { x with ip := dg.ip, port := dg.port })
  else if x.copying then send dg (frame h h.session .busy [] s) (seen s)
  else if h.opcode = 0x02 then send dg (frame h h.session .ok [] s) (closePath p (seen s))
  else
    let d := operate 1440 p h.opcode body (seen s)
    let r := frame h h.session d.answer d.body s
    send dg r (State.modPath d.state p fun x => { x with lastSeq := some h.seq, lastResp := r })

/-- A frame that passed the checks of R37 is answered (R38 to R42, R69). -/
def take (dg : Datagram) (s : State) : State :=
  let h := head dg.bytes
  let body := dg.bytes.drop 16
  if s.txn.fenced then send dg (frame h h.session .internal [] s) s
  else if h.version ≠ 1 then send dg (frame h h.session .version [] s) s
  else if h.length ≠ body.length ∨ !shapeOk h.opcode body then send dg (frame h h.session .badOpcode [] s) s
  else if h.opcode = 0x01 then openSession dg h s
  else if 1 ≤ h.session ∧ h.session ≤ 4 ∧ (State.pathOf s h.session).isOpen then inSession h.session dg h s
  else send dg (frame h h.session .noSession [] s) s

/-- A session has received no valid request for KEEPALIVE_MS (R42). -/
def lostDue (s : State) (p : Nat) : Bool :=
  decide (1 ≤ p) && decide (p ≤ 4) && (State.pathOf s p).isOpen && decide ((State.pathOf s p).lastValid + 2000 * (State.pathOf s p).keepAlive ≤ s.tick)

/-- SESSION_LOST (R42, R68). -/
def lost (p : Nat) (s : State) : State :=
  if lostDue s p then closePath p (State.raise s 0x1B0 2 (Read.txnAddress s p)) else s

end Ddp

namespace Mbx

/-- A doorbell (R47, R48): the request is submitted, or the doorbell is ignored while BUSY. -/
def doorbell (word : Nat) (s : State) : State :=
  if !Write.answers s then s
  else if s.txn.busy then State.raise { s with txn := { s.txn with overrun := true } } 0x1B0 3 (Read.txnAddress s 0)
  else State.setBar0 { s with txn := { s.txn with busy := true, done := false } } 0 (word % 65536)

/-- The bytes of the request buffer. -/
def request (s : State) (o n : Nat) : List Byte := (List.range n).map fun i => Tab.get (fun _ => 0) s.txn.req (o + i)

/-- The request in the buffer is answered (R40, R46, R48, R59): the response and the state after it. -/
def answer (s : State) : State × List Byte :=
  let hb := request s 0 16
  let h := { Ddp.head hb with seq := State.bar0 s 0 % 65536 }
  let x := State.pathOf s 0
  let out := fun (a : Answer) => (s, Ddp.frame h h.session a [] s)
  if s.txn.fenced then out .internal
  else if Arith.leAt hb 0 2 ≠ 0xD3D0 ∨ 16368 < h.length ∨ h.opcode = 0x01 ∨ h.opcode = 0x02 then out .badOpcode
  else if h.version ≠ 1 then out .version
  else
    let body := request s 16 h.length
    if !Ddp.shapeOk h.opcode body then out .badOpcode
    else if x.lastSeq = some h.seq then (State.incTxn s D.iTXN_STATS D.TXN_STATS_RETRIES 1, x.lastResp)
    else if x.lastSeq.isSome ∧ x.lastSeq.map (fun q => (q + 1) % 65536) ≠ some h.seq then out .badSeq
    else if x.copying then out .busy
    else
      let d := Ddp.operate 16368 0 h.opcode body s
      let r := Ddp.frame h h.session d.answer d.body s
      (State.modPath d.state 0 fun x => { x with lastSeq := some h.seq, lastResp := r }, r)

/-- The mailbox completes the request it is BUSY with (R47, R48, R50). -/
def serve (s : State) : State :=
  if s.txn.busy then
    let r := answer s
    let s := State.setBar0 { r.1 with txn := { r.1.txn with resp := r.2, busy := false, done := true } } 0xC (State.bar0 s 0 % 65536)
    if Arith.bit (State.bar0 s 8) 0 then State.irq s 0 else s
  else s

/-- A host's write, when the dictionary answers, over a path that is open and copies no commit (R59); a request that the mailbox is BUSY with comes first
(R24, R36). -/
def host (path idx sub : Nat) (v : Val) (s : State) : State :=
  if Write.answers s && decide (path < 5) then
    let s := serve s
    if (State.pathOf s path).isOpen && !(State.pathOf s path).copying then (Write.write path idx sub v s).1 else s
  else s

/-- The same of a number. -/
def num (path idx sub : Nat) (v : Int) (s : State) : State := host path idx sub (.num v) s

/-- A datagram (R37 to R42, R405): one that is not for DDP is dropped by its port; a request that the mailbox is BUSY with comes first (R24, R36). -/
def receive (dg : Datagram) (s : State) : State :=
  if !Write.answers s then s
  else if !Ddp.forDdp s dg then Net.drop dg.eth false s
  else
    let s := Net.count s dg.eth D.NET_PORT_RX_FRAMES
    if Ddp.dropped dg then State.incTxn s D.iTXN_STATS D.TXN_STATS_BAD_FRAMES 1 else Ddp.take dg (serve s)

/-- MBX_STATUS (R47). -/
def status (s : State) : Nat := b2n s.txn.busy + 2 * b2n s.txn.done + 4 * b2n s.txn.overrun

/-- A read of MBX_STATUS clears OVERRUN (R47). -/
def statusRead (s : State) : State := if Write.answers s then { s with txn := { s.txn with overrun := false } } else s

/-- A link-down, a function-level reset or PERST_N (R49, R50, R506). -/
def linkReset (s : State) : State :=
  let s := State.modPath (Stk.readOver 0 (Write.rollback 0 s)) 0 fun x => { x with lastSeq := none, lastResp := [] }
  State.setBar0 { s with txn := { s.txn with busy := false, done := false } } 0xC 0

end Mbx

namespace Bar0

/-- NTC_SIZE takes a value (R117). -/
def sizeOk (s : State) (v : Nat) : Bool := !Arith.bit (State.bar0 s 0x8C) 0 && decide (64 ≤ v) && decide (v ≤ 65536) && decide (v = 2 ^ v.log2)

/-- Waiting notices go out when the ring has room again (R118). -/
def drain (s : State) : State := if Arith.bit (State.bar0 s 0x8C) 0 then State.ringDrain s s.ctx.waiting else s

/-- The word is kept in the request buffer (R47). -/
def toRequest (o v : Nat) (s : State) : State :=
  let cells := ((Arith.natLe 4 v).zipIdx).foldl (fun m c => Tab.set (fun _ => 0) m (o + c.2) c.1) s.txn.req
  { s with txn := { s.txn with req := cells } }

/-- A 32-bit write of a BAR0 register (R47, R117, R438); reserved offsets and registers that are only read ignore it. -/
def write (off v : Nat) (s : State) : State :=
  let v := v % 2 ^ 32
  if !Write.answers s then s
  else if off = 0x0 then Mbx.doorbell v s
  else if off = 0x8 then State.setBar0 s off (v % 2)
  else if off = 0x40 then Feed.dmaDoorbell s v
  else if off = 0x80 then State.setBar0 s off (v - v % 64)
  else if off = 0x84 then State.setBar0 s off v
  else if off = 0x88 then if sizeOk s v then State.setBar0 s off v else s
  else if off = 0x8C then drain (State.setBar0 s off (v % 4))
  else if off = 0x94 then drain (State.setBar0 s off v)
  else if off = 0x100 then Flt.ackWrite v s
  else if off = 0x108 then State.setBar0 s off (v % 4)
  else if 0x800 ≤ off ∧ off < 0x4800 ∧ off % 4 = 0 then toRequest (off - 0x800) v s
  else s

/-- What a 32-bit read of BAR0 returns (R47, R117, R438); what reading clears is MBX_STATUS_READ and NTC_LOST_READ. -/
def read (s : State) (off : Nat) : Nat :=
  if off = 0x4 then Mbx.status s
  else if off = 0x8 ∨ off = 0xC then State.bar0 s off
  else if 0x80 ≤ off ∧ off ≤ 0x98 ∧ off % 4 = 0 then State.bar0 s off
  else if 0x100 ≤ off ∧ off < 0x200 then Flt.bar0 s off
  else if 0x800 ≤ off ∧ off < 0x4800 then Arith.leNat (Mbx.request s (off - 0x800) 4)
  else if 0x8000 ≤ off ∧ off < 0xC000 then Arith.leAt s.txn.resp (off - 0x8000) 4
  else 0

/-- A read of NTC_LOST clears it (R117). -/
def lostRead (s : State) : State := if Write.answers s then State.setBar0 s 0x98 0 else s

end Bar0

end Sys2Proof.Machine
end

