-- ==== Sys2Proof/Machine/Power.lean ====
section
/-!
DEFINITION. Input power, insertion, ENABLE, start-up, removal, input loss and the clocks (01_architecture.md R20, R23; 22_power_hotplug_startup.md R492 to
R511; 20_temperature_calibration.md R467).
What the rules leave to the model: log entries 15, 16, 17 and 18.
-/
namespace Sys2Proof.Machine

namespace Pwr

/-- Write an entry of PWR_STATUS. -/
def put (sub v : Nat) (s : State) : State := State.wPwr s D.iPWR_STATUS sub (v : Int)

/-! ### BOOT (R23, R447, R471, R498, R499) -/

/-- The core domain starts from reset: what the boot store, the Ledger memory, the NAND, the inputs and the standby domain hold stays. -/
def fresh (s : State) : State :=
  let r := State.reset
  let cut := Stk.powerCut s
  { r with
    dev := { r.dev with
      regs := s.dev.regs.filter fun e => e.1 == Dict.key 0 D.iDEV_CFG D.DEV_CFG_SAVE_COUNT
      savedA := s.dev.savedA, savedB := s.dev.savedB, fwNewer := s.dev.fwNewer, fwOlder := s.dev.fwOlder }
    ldg := s.ldg
    tmp := { r.tmp with acked := s.tmp.acked, newer := s.tmp.newer, older := s.tmp.older, values := ((s.tmp.newer <|> s.tmp.older).getD .unity) }
    stk := { r.stk with medium := cut.2 }
    pwr := { r.pwr with
      regs := s.pwr.regs.filter fun e => e.1 / 256 % 65536 == D.iPWR_STATUS
      precharge := s.pwr.precharge, prechargeFail := s.pwr.prechargeFail, standby := s.pwr.standby, main := s.pwr.main, enable := s.pwr.enable
      latch := s.pwr.latch, interlock := s.pwr.interlock, powers := s.pwr.powers, powerHigh := s.pwr.powerHigh, uvBelow := s.pwr.uvBelow }
    free := if cut.1 = 0 then s.free else (State.draw s).free, pending := s.pending }

/-- The transition to BOOT (R23, R448): `why` is LAST_START. -/
def boot (why : Nat) (s : State) : State := put D.PWR_STATUS_LAST_START why (Ldg.boot (fresh s))

/-- A rise of ENABLE counts once the standby domain is ready and the main switch is closed (R498, R505); in THERMAL_OFF the sensors decide (R467). -/
def accept (s : State) : State :=
  if s.pwr.riseHeld && s.pwr.standby && s.pwr.main && s.dev.mode != .thermalOff then boot (if s.pwr.returned then 3 else 2) s else s

/-! ### Insertion (R495) -/

/-- PRECHARGE_START: level 2 mates. -/
def prechargeStart (s : State) : State :=
  if s.pwr.precharge then s else put D.PWR_STATUS_STANDBY_MS 0 { s with pwr := { s.pwr with precharge := true, prechargeFail := false, returned := false } }

/-- STANDBY_START: the bulk reaches 38.0 V. -/
def standbyStart (s : State) : State :=
  if s.pwr.precharge && !s.pwr.standby then accept { s with pwr := { s.pwr with standby := true } } else s

/-- MAIN_SWITCH_CLOSE. -/
def mainClose (s : State) : State :=
  if s.pwr.precharge && !s.pwr.prechargeFail && !s.pwr.main then accept { s with pwr := { s.pwr with main := true } } else s

/-- PRECHARGE_FAIL: the main switch stays open. -/
def prechargeFail (s : State) : State :=
  if s.pwr.precharge && !s.pwr.main then { s with pwr := { s.pwr with prechargeFail := true } } else s

/-! ### ENABLE (R498) -/

/-- ENABLE_RISE: accepted, or held until the module can start; it is no start of R505. -/
def enableRise (s : State) : State :=
  if s.pwr.enable then s else accept { s with pwr := { s.pwr with enable := true, riseHeld := true, returned := false } }

/-- ENABLE_GLITCH. -/
def enableGlitch (s : State) : State := State.incPwr s D.iPWR_STATUS D.PWR_STATUS_ENABLE_GLITCHES 1

/-- A sensor is excluded under the saved set (R467). -/
def savedExcluded (s : State) (i : Nat) : Bool := Arith.bit (Saved.valueOf s D.iTMP D.TMP_EXCLUDE).toNat i

/-- Every sensor that the saved set does not exclude reads below its RELEASE value (R462, R467). -/
def released (s : State) (readings : List Int) : Bool :=
  readings.zipIdx.all fun r => savedExcluded s r.2 || decide (r.1 < if r.2 < 32 then 1360 else 1120)

/-- THERMAL_EXIT_CHECK (R467): after a rise of ENABLE or a power cycle in THERMAL_OFF. -/
def exitCheck (readings : List Int) (s : State) : State :=
  if s.dev.mode == .thermalOff && s.pwr.enable && s.pwr.riseHeld && s.pwr.standby && s.pwr.main then
    if released s readings then boot 4 s else { s with pwr := { s.pwr with riseHeld := false } }
  else s

/-! ### Removal (R502, R503) -/

/-- The core rails go off: the core domain stands still until the next BOOT. -/
def railsOff (s : State) : State :=
  { s with pwr := { s.pwr with rails := false, served := false, boot := none }, dev := { s.dev with pllLocked := false, spanOpen := false } }

/-- EJECT_REQ from the latch, or from ENABLE (R502; `off`: the rails go off when the removal ends); also while the removal of an earlier one is pending. The
snapshot of its record is taken before the device enters SAFE (R449). -/
def eject (off : Bool) (s : State) : State :=
  if !s.pwr.rails then s
  else
    let s := Flt.collect s
    if s.dev.mode = .thermalOff then s
    else
      let s := Ax.quickStopAll (Seq.enterSafe 5 (Ldg.ordinary 7 0 0 s))
      let s := Stk.eject (Ldg.checkpoint s)
      let s := State.forAll Write.rollback (List.range 5) s
      Flt.pin { s with pwr := { s.pwr with removal := some (s.pwr.removal.getD false || off), removed := false, outstanding := 0 } }

/-- EJECT_REQ from the latch (R490, R502). -/
def ejectReq (s : State) : State := eject false { s with pwr := { s.pwr with latch := true } }

/-- ENABLE_FALL (R498). -/
def enableFall (s : State) : State :=
  if !s.pwr.enable then s
  else
    let s := { s with pwr := { s.pwr with enable := false, riseHeld := false } }
    if s.dev.mode = .thermalOff ∨ !s.pwr.rails then s else eject true (put D.PWR_STATUS_LAST_STOP 1 s)

/-- EJECT_LATCH_CLOSED (R490). -/
def latchClosed (s : State) : State := { s with pwr := { s.pwr with latch := false, removed := false } }

/-- SAFE_TO_REMOVE (R502): the checkpoints are written and the axes rest, or 200 ms are over; with the lever back at CLOSED it stays dark (R490). -/
def safeToRemove (ckptDone : Bool) (ms : Nat) (s : State) : State :=
  match s.pwr.removal with
  | none => s
  | some off =>
    let rest := Ax.allRest s
    if ckptDone && rest || decide (200 ≤ ms) then
      let w := 8 * b2n (!ckptDone) + 16 * b2n (!rest)
      let s := { s with pwr := { s.pwr with removal := none, removed := off || s.pwr.latch, outstanding := if w = 0 then 0 else w + 32 } }
      let s := put D.PWR_STATUS_EJECT_MS (min 65535 ms) s
      let s := Flt.collect (if w = 0 then s else State.raise s 0x1C0 5 (Read.pwrFlags s))
      if off then railsOff s else s
    else s

/-! ### Input (R494, R504, R505) -/

/-- Code of LAST_STOP. -/
def causeCode : LossCause → Nat
  | .underVoltage => 2 | .overVoltage => 3 | .overCurrent => 4

/-- INPUT_LOSS (R504): the core rails go off at once, so no message is collected and no record is written. -/
def inputLoss (cause : LossCause) (s : State) : State :=
  if !s.pwr.main then s
  else
    let s := State.incPwr (put D.PWR_STATUS_LAST_STOP (causeCode cause) s) D.iPWR_STATUS D.PWR_STATUS_INPUT_LOSSES 1
    let s := railsOff { s with raised := [] }
    { s with pwr := { s.pwr with main := false, holdUp := true, riseHeld := false, removal := none } }

/-- HOLD_UP_EXHAUSTED (R504). -/
def holdUpOver (s : State) : State :=
  if s.pwr.holdUp then { s with pwr := { s.pwr with holdUp := false, standby := false, precharge := false } } else s

/-- INPUT_RETURN (R505): insertion runs again from the start of the standby domain. -/
def inputReturn (enableHigh : Bool) (s : State) : State :=
  if s.pwr.main then s
  else { s with pwr := { s.pwr with
    precharge := true, prechargeFail := false, standby := false, holdUp := false, enable := enableHigh, riseHeld := enableHigh, returned := true } }

/-- POWER_MEASUREMENT (R494, R507, R511): one measurement of 1 ms. -/
def measure (mv ma mw : Nat) (s : State) : State :=
  let l := (mw :: s.pwr.powers).take 100
  let mean := (Arith.divRound l.sum l.length).toNat
  let s := put D.PWR_STATUS_PIN mean (put D.PWR_STATUS_IIN ma (put D.PWR_STATUS_VIN mv s))
  let s := put D.PWR_STATUS_PIN_MAX (max mean (State.rPwr s D.iPWR_STATUS D.PWR_STATUS_PIN_MAX).toNat) s
  let s := if s.pwr.standby && !s.pwr.rails then State.incPwr s D.iPWR_STATUS D.PWR_STATUS_STANDBY_MS 1 else s
  let below := decide ((mv : Int) < State.rPwr s D.iPWR_CFG D.PWR_CFG_UV_WARN)
  let high := decide (State.rPwr s D.iPWR_CFG D.PWR_CFG_P_WARN < (mean : Int))
  let s := State.raiseIf s (s.pwr.rails && below && !s.pwr.uvBelow) 0x1C0 1 mv
  let s := State.raiseIf s (s.pwr.rails && high && !s.pwr.powerHigh) 0x1C0 2 mean
  { s with pwr := { s.pwr with powers := l, powerHigh := high, uvBelow := below } }

/-! ### Start-up (R499 to R501, R508) -/

/-- A step has taken `us`: its duration is kept (R508). -/
def took (sub us : Nat) (s : State) : State :=
  { State.wPwr s D.iPWR_START sub (us : Int) with pwr := { (State.wPwr s D.iPWR_START sub (us : Int)).pwr with spent := s.pwr.spent + us } }

/-- The time since the step in progress began, in µs: 2 T each. -/
def since (s : State) : Nat := (s.tick - s.pwr.stepTick) / 2

/-- A step begins. -/
def step (b : BootStep) (s : State) : State := { s with pwr := { s.pwr with boot := some b, stepTick := s.tick } }

/-- Steps 5 and 6: every enabled lane enters SEEK, and the device enters SERVICE. -/
def finish (s : State) : State :=
  let s := if s.pwr.recovery then s
    else State.forAll (fun m s => if Arith.bit (Lnk.reg s m D.LNK_CTRL) 0 then Lnk.enable m s else s) (List.range 48) s
  let s := State.wPwr s D.iPWR_START D.PWR_START_TOTAL (s.pwr.spent : Int)
  Flt.pin (Seq.setMode .service 0 { s with pwr := { s.pwr with boot := none, stepTick := s.tick } })

/-- Step 4: the store is mounted when STK_MOUNT_AT_START is 1. -/
def toMount (s : State) : State :=
  if Stk.ctl s D.STK_CTRL_MOUNT_AT_START = 1 ∧ Stk.canMount s then Stk.mount (step .mount s) else finish s

/-- Step 3: the power-up calibration when CAL_AT_POWERUP is 1. -/
def toCal (s : State) : State :=
  if State.rTmp s D.iCAL D.CAL_AT_POWERUP = 1 then Tmp.startRun .powerUp (step .cal s) else toMount s

/-- Step 1b (R500): the newer valid image, else the older, else the recovery image, whose build number no rule gives. -/
def firmware (s : State) : State :=
  if s.dev.fwNewer.valid then { s with dev := { s.dev with fwRunning := s.dev.fwNewer } }
  else if s.dev.fwOlder.valid then { s with dev := { s.dev with fwRunning := s.dev.fwOlder }, pwr := { s.pwr with fallback := true } }
  else
    State.draw { s with dev := { s.dev with fwRunning := ⟨State.freeVal s % 65536, true, none⟩ }, pwr := { s.pwr with recovery := true } }

/-- Step 1c (R53, R465, R471): the saved set, the calibration values, the reach map; the recovery image enables nothing. -/
def config (s : State) : State :=
  let s := State.raiseIf s (s.tmp.newer.isNone && s.tmp.older.isNone) 0x198 3 0
  if s.pwr.recovery then s else Lend.reachStart (Saved.loadNewest s)

/-- Step 2 has ended: the dictionary answers (R500, R501, R511). -/
def serve (s : State) : State :=
  let s := { s with pwr := { s.pwr with served := true } }
  let s := State.raiseIf s s.pwr.fallback 0x1C0 3 (State.rPwr s D.iPWR_STATUS D.PWR_STATUS_VIN).toNat
  let s := State.raiseIf s s.pwr.interlock 0x1F0 1 s.tick
  if s.pwr.recovery then finish s else toCal s

/-- A timed step ends in its time. -/
def stepDone (us : Nat) (s : State) : State :=
  match s.pwr.boot with
  | some .rails => step .firmware (took D.PWR_START_RAILS us s)
  | some .firmware => step .config (firmware (took D.PWR_START_FIRMWARE us s))
  | some .config => step .pll (config (took D.PWR_START_CONFIG us s))
  | some .pll =>
    let s := State.wPwr (took D.PWR_START_PLL us s) D.iCLK_STATUS D.CLK_STATUS_LOCK_US (us : Int)
    step .dram { s with dev := { s.dev with pllLocked := true } }
  | some .dram => serve (took D.PWR_START_DRAM us s)
  | _ => s

/-- A timed step fails: a rail, the root PLL, a DRAM channel. -/
def stepFailed (addr : Nat) (s : State) : State :=
  match s.pwr.boot with
  | some .rails => put D.PWR_STATUS_LAST_STOP 6 (railsOff (Flt.collect (State.raise s 0x1C0 4 (addr % 256))))
  | some .pll => State.raise s 0x1C8 1 0
  | some .dram => State.raise s 0x1D0 3 (addr % 256)
  | _ => s

/-- START_UP_STEP_COMPLETE (R499). -/
def stepEnd (r : StepEnd) (s : State) : State :=
  match r with
  | .done us => stepDone us s
  | .failed a => stepFailed a s

/-- The calibration run of step 3 has ended (R499, R508). -/
def calEnd (s : State) : State :=
  if s.pwr.boot = some .cal ∧ s.tmp.run.isNone then toMount (took D.PWR_START_CAL (since s) s) else s

/-- The mount of step 4 has ended. -/
def mountEnd (s : State) : State :=
  if s.pwr.boot = some .mount ∧ s.stk.mode ≠ .mounting then finish { s with pwr := { s.pwr with spent := s.pwr.spent + since s } } else s

/-! ### Clocks and memories (R20, R443, R516) -/

/-- The root PLL has no lock: logic of its own drives every gate off. -/
def lockLost (kind : Nat) (s : State) : State :=
  let s := if s.dev.pllLocked then State.incPwr s D.iCLK_STATUS D.CLK_STATUS_UNLOCKS 1 else s
  let s := State.raise { s with dev := { s.dev with pllLocked := false } } 0x1C8 kind 0
  State.forAll (fun c s => Eng.stopNow s c .fault) (State.startedSet s ++ s.cat.stopping) s

/-! ### Firmware (R52) -/

/-- FW_STORE_COMPLETE: the new image takes the older one's place; its version is a free value with MAJOR of 1 or more (R51). -/
def fwStored (r : FwResult) (s : State) : State :=
  match s.dev.fwStoring with
  | none => s
  | some i =>
    let s := { s with dev := { s.dev with fwStoring := none } }
    match r with
    | .stored =>
      let img : FwImage := ⟨imageVersion (State.freeVal s), true, i.bytes⟩
      State.wDev (State.draw { s with dev := { s.dev with fwNewer := img, fwOlder := s.dev.fwNewer } }) D.iDEV_FW D.DEV_FW_STATUS 1
    | .badSignature => State.wDev s D.iDEV_FW D.DEV_FW_STATUS 2
    | .writeFailed => State.raise (State.wDev s D.iDEV_FW D.DEV_FW_STATUS 3) 0x1B0 6 (Read.txnAddress s s.dev.fwPath)

end Pwr

end Sys2Proof.Machine
end

