-- ==== Sys2Proof/Machine/Receive.lean ====
section
/-!
DEFINITION. What arrives on a lane in a tick (10_akzi_lanes.md R250 to R262): the receiver's line bits become blocks, and the blocks drive bring-up, loss,
freezing, drift and the frames of the protocols.
What the rules leave to the model: log entries 7 and 30.
-/
namespace Sys2Proof.Machine

namespace Lnk

/-- Change the block side of a lane's receiver. -/
def modBlocks (s : State) (m : Nat) (f : RxBlocks → RxBlocks) : State := State.modLane s m fun l => { l with blocks := f l.blocks }

/-- The payload bits of one block pass while the receiver has no use for them: its scrambler runs on (R250). -/
def skipBlock (m : Nat) (s : State) : State := modBlocks s m fun x => { x with scram := x.scram.map (scramRun 240) }

/-- The bytes of a received payload (R250), and the descrambler behind it: while the first TRAIN block of a training is awaited, a payload that is one under
a register of all ones sets the register. -/
def descramble (x : RxBlocks) (bits : List Bool) : List Byte × RxBlocks :=
  let fresh := bytesOf (scramble scramOnes bits)
  if x.await && blockOk fresh && typeOf fresh == 0x12 then (fresh, { x with scram := some (scramRun 240 scramOnes), await := false })
  else (bytesOf (scrambled x.scram bits), { x with scram := x.scram.map (scramRun 240) })

/-- Loss of marker lock (R262): four markers missing in a row. -/
def markerMissing (m : Nat) (s : State) : State :=
  let s := modBlocks s m fun x => { x with miss := x.miss + 1, places := 0 }
  if 4 ≤ (State.laneOf s m).blocks.miss then lost m 1 (modBlocks s m fun x => { x with miss := 0 }) else s

/-- A marker in its place (R259): 64 in a row lock the receiver. The SERIAL of HOTPLUG is that of the last CAP block, and open before any (log entry 7). -/
def markerFound (m : Nat) (s : State) : State :=
  let s := modBlocks s m fun x => { x with miss := 0, places := x.places + 1 }
  let x := (State.laneOf s m).blocks
  if (State.laneOf s m).mode = .seek ∧ x.places = 64 then
    match x.serial with
    | some v => markerLock m v s
    | none => markerLock m (State.freeVal s) (State.draw s)
  else s

/-- IDLE blocks in a row (R255): a block of another TYPE lets the receiver adapt again. -/
def idleCount (m : Nat) (ok idle : Bool) (s : State) : State :=
  if !ok then s
  else if !idle then unfreeze s m
  else
    let s := modBlocks s m fun x => { x with idle := x.idle + 1 }
    if idleMax ≤ (State.laneOf s m).blocks.idle then freezeNow m s else s

/-- The equaliser after a block (R254, R256): an error-free block updates it while it adapts, and 256 blocks out of guard in a row relearn the lane. -/
def adapt (m : Nat) (ok : Bool) (eq : Option Nat) (s : State) : State :=
  if frozen s m then s
  else
    let s := match eq with | some v => if ok then put s m D.LNK_EQ (eqWord v) else s | none => s
    let v := reg s m D.LNK_EQ
    if (State.laneOf s m).mode = .up ∧ outOfGuard s m v then
      let s := modBlocks s m fun x => { x with guard := x.guard + 1 }
      if 256 ≤ (State.laneOf s m).blocks.guard then drift m v (modBlocks s m fun x => { x with guard := 0 }) else s
    else modBlocks s m fun x => { x with guard := 0 }

/-- The error test is over (R259): every block taken and the far end's verdict known, or one block error too many, or a far end that failed. -/
def testOver (l : Lane) : Option (Nat × Bool) :=
  if l.testMax < l.blocks.errors then some (l.blocks.errors, true)
  else if l.blocks.verdict = some false then some (l.blocks.errors, false)
  else if testLen ≤ l.blocks.tests ∧ l.blocks.verdict = some true then some (l.blocks.errors, true)
  else none

/-- A block of the error test (R259 steps 5 and 6). -/
def testBlock (m : Nat) (ok : Bool) (b : List Byte) (rtd : Nat) (s : State) : State :=
  let said := (dataOf b).getD 0 0
  let s :=
    if ok && typeOf b == 0x11 then
      if said = 2 then modBlocks s m fun x => { x with verdict := some true }
      else if said = 3 then modBlocks s m fun x => { x with verdict := some false }
      else s
    else if (State.laneOf s m).blocks.tests < testLen then modBlocks s m fun x => { x with tests := x.tests + 1, errors := x.errors + b2n (!ok) }
    else s
  match testOver (State.laneOf s m) with
  | some v => testVerdict m v.1 v.2 rtd s
  | none => s

/-- A frame of the lane's protocol (R274, R281): its KIND says which. -/
def frameIn (m : Nat) (d : List Byte) (s : State) : State :=
  match Arith.leAt d 0 1 with
  | 0x81 => Att.upstream m d 0 s
  | 0x82 => Att.tileHdr m d s
  | 0x83 => Att.tileChunk m d s
  | _ => s

/-- What an error-free block does in the state of its lane (R259, R261). -/
def blockIn (m : Nat) (b : List Byte) (s : State) : State :=
  let l := State.laneOf s m
  match l.mode with
  | .seek => if typeOf b = 0x10 then modBlocks s m fun x => { x with serial := some (Arith.leAt (dataOf b) 10 4) } else s
  | .cap => capBlock m b s
  | .step => if l.phase = .echo ∧ typeOf b = 0x11 ∧ infoOf b = l.tryRate then stepEcho m s else s
  | .up => if typeOf b = 0x01 then frameIn m (dataOf b) s else s
  | .relearn => s
  | .disabled => s

/-- A block has been received (R249): in error or not. -/
def received (m : Nat) (eq : Option Nat) (rtd : Nat) (ok : Bool) (b : List Byte) (s : State) : State :=
  let s := if ok then goodBlock m s else badBlocks m 1 s
  let s := adapt m ok eq (idleCount m ok (typeOf b == 0x00) s)
  if (State.laneOf s m).mode = .step ∧ (State.laneOf s m).phase = .test then testBlock m ok b rtd s
  else if ok then blockIn m b s
  else s

/-- One event of the line side. A block that a stuffing violation falls in is in error (R249). -/
def lineEvent (m rtd : Nat) (eq : Option Nat) (ev : RxEvent) (s : State) : State :=
  match ev with
  | .inPlace => markerFound m s
  | .found => modBlocks s m fun x => { x with miss := 0, places := 0 }
  | .missing => markerMissing m s
  | .skipped => skipBlock m s
  | .violation inBlock => if inBlock then received m eq rtd false [] (skipBlock m s) else s
  | .block bits =>
    let r := descramble (State.laneOf s m).blocks bits
    received m eq rtd (blockOk r.1) r.1 (modBlocks s m fun _ => r.2)

/-- An error-free block takes the next values of the equaliser. -/
def eqAfter (s : State) (m : Nat) (ev : RxEvent) (eq : List Nat) : List Nat :=
  match ev with
  | .block bits => if blockOk (descramble (State.laneOf s m).blocks bits).1 && !frozen s m then eq.tail else eq
  | _ => eq

/-- The events of a tick in order. A lane that enters SEEK or changes its rate looks for its first marker anew: what is left of the tick is not taken. -/
def lineEvents (m rtd : Nat) : List RxEvent → List Nat → State → State
  | [], _, s => s
  | ev :: l, eq, s =>
    let t := lineEvent m rtd eq.head? ev s
    let same := fun x y : Lane => (x.mode == .seek) == (y.mode == .seek) && x.rate == y.rate
    if same (State.laneOf s m) (State.laneOf t m) then lineEvents m rtd l (eqAfter s m ev eq) t else t

/-- What a lane receives in a tick (R253, R254, R262): a training that has lasted its ticks ends, a loss of phase lock loses the lane, and the line bits are
taken. A DISABLED lane receives nothing. -/
def receive (r : LaneRx) (s : State) : State :=
  let m := r.lane
  if 48 ≤ m ∨ (State.laneOf s m).mode = .disabled then s
  else
    let s := put s m D.LNK_LIVE (Arith.setBit (reg s m D.LNK_LIVE) 2 r.phase)
    if !r.phase then lost m 3 (State.modLane s m fun l => { l with line := lineStart (l.rate.getD 0) })
    else
      let s := trainingEnd m (reg s m D.LNK_EQ) r.rtd s
      let x := rxBits ((State.laneOf s m).rate.getD 0) (State.laneOf s m).line r.bits
      lineEvents m r.rtd x.2 r.eq (State.modLane s m fun l => { l with line := x.1 })

/-- Everything that arrives on the lanes in a tick. -/
def receiveAll (l : List LaneRx) (s : State) : State := l.foldl (fun s r => receive r s) s

end Lnk

end Sys2Proof.Machine
end

