-- ==== Sys2Proof/Machine/Tick.lean ====
section
/-!
DEFINITION. The exposure tick (01_architecture.md R13 to R17, R30, R31): what is left of a tick when it ends, the clocks, and the per-tick work of every
block in the tick that begins. Work that a row of the table names is done by that row in the tick it falls due, or else when the tick ends (log entry 9).
What the rules leave to the model: log entries 9, 22, 25 and 47.
-/
namespace Sys2Proof.Machine

namespace Tick

/-- The VEC clock runs (R13, R18, R499): the core rails are on, the root PLL has locked since they came on, and the device is not in THERMAL_OFF. -/
def runs (s : State) : Bool :=
  s.pwr.rails && s.dev.mode != .thermalOff &&
    match s.pwr.boot with
    | some .rails => false | some .firmware => false | some .config => false | some .pll => false
    | _ => true

/-! ### The digest (R31) -/

/-- The command of the present tick (R202). -/
def powerNow (s : State) (c : Nat) : Nat := (((State.engOf s c).slots.find? fun d => d.k == s.tick).bind fun d => d.power).getD 0

/-- The record of a channel that is not started in the layer. -/
def idleRecord : List Byte := List.replicate 13 0 ++ [0xFF, 0, 0]

/-- The 4 ns step of the first edge of a kind in tick `k`, 0xFF where there is none. -/
def edgeStep (e : Engine) (k : Nat) (on : Bool) : Nat :=
  ((e.edges.find? fun d => d.on == on && decide (d.at4 / 125 = k)).map fun d => d.at4 % 125).getD 0xFF

/-- The record of a channel of the layer in the present tick. -/
def liveRecord (s : State) (c : Nat) : List Byte :=
  let e := State.engOf s c
  let k := s.tick
  let d := e.slots.find? fun d => d.k == k
  let hu := (d.map fun d => d.hu).getD e.hu
  let flags := b2n (Eng.gateAt e (125 * k + 124)) + 2 * b2n ((d.map fun d => d.plume).getD false) + 4 * b2n ((d.map fun d => d.kind == .runUp).getD false) +
    8 * b2n (Mpl.openFlag s c)
  Arith.intLe 3 hu.x ++ Arith.intLe 3 hu.y ++ Arith.intLe 3 (if State.hasZ s c then hu.z else 0) ++ Arith.natLe 2 (powerNow s c) ++
    [BitVec.ofNat 8 (edgeStep e k true), BitVec.ofNat 8 (edgeStep e k false), BitVec.ofNat 8 ((d.map fun d => d.ctx).getD 255), BitVec.ofNat 8 flags, 0]

/-- The record of a channel (R31): a channel started in the layer keeps its own to the end of the span; while it sends no set-point the last one sent stands. -/
def digestRecord (s : State) (c : Nat) : List Byte := if s.cat.inLayer.contains c then liveRecord s c else idleRecord

/-- The digest takes the records of the present tick while the span of a layer is open. -/
def digest (s : State) : State :=
  if s.dev.spanOpen then
    { s with dev := { s.dev with digest := (List.range 24).foldl (fun d c => Arith.crc64Run d (digestRecord s c)) s.dev.digest } }
  else s

/-! ### The end of a tick -/

/-- Samples whose tick of consumption is the present one, and hand-overs, are consumed (R16). -/
def consumeRest (c : Nat) (s : State) : State :=
  let s := Att.stAll s.tick c (Att.fbAll s.tick c s)
  Mpl.consumeAll s.tick c (Feat.handOvers c s.tick (Att.drift c s))

/-- An armed camera port whose event has come raises TRIG in the tick that consumed it (R301). -/
def armedTrig (p : Nat) (s : State) : State :=
  if (Ilm.portOf s p).mode == .armed && (Ilm.portOf s p).event then Img.trig p (Ilm.portOf s p).folio (Apply.frameStart p s) else s

/-- An owed ITEMS notice goes out at the end of its interval (R118). -/
def owedNotice (n : Nat) (s : State) : State :=
  if (State.ctxOf s n).noticeOwed && State.noticeRipe s n && !State.ringFull s then State.itemsNotice s n else s

/-- What falls due on the access paths (R42, R47, R64). -/
def paths (s : State) : State :=
  State.forAll Ddp.lost [1, 2, 3, 4] (State.forAll Write.timeout (List.range 5) (Flt.collect (Mbx.serve s)))

/-- What falls due in imaging, illumination and Folio (R301, R303, R323, R326, R340). -/
def pictures (s : State) : State :=
  let s := State.forAll Img.timeoutDue (List.range 4) (State.forAll armedTrig (List.range 4) s)
  Fol.waitExpiry (Fol.refresh <| State.forAll Ilm.probe (List.range 16) (State.forAll Ilm.pulseEnd (List.range 16) s))

/-- The rest of the present tick's work. -/
def endOf (s : State) : State :=
  let s := State.forAll consumeRest (List.range 24) (paths s)
  let s := State.forAll (fun c s => Feed.ackDue c (Att.atRest c (Eng.plumeLong c s))) (List.range 24) s
  let s := Grid.catchUp 40000 s.btick s
  let s := Net.evaluate 1 (Net.evaluate 0 (Net.measure (Stk.clock (Stk.takeSources (pictures s)))))
  let s := State.forAll owedNotice (List.range 96) (Ldg.checkpointDue (Ldg.freezeExpired s))
  Seq.fixBoundary (digest (Flt.collect (Flt.due (Flt.collect s))))

/-! ### The clocks -/

/-- TICK advances by one, BTICK with it during a build (R13, R14), NETCLK by 125 TIME cycles, and the operating time. -/
def advance (s : State) : State :=
  Ldg.tick (Net.tick { s with tick := s.tick + 1, btick := if s.dev.mode.inBuild then s.btick + 1 else s.btick })

/-! ### Inputs -/

/-- The converted samples of AIN 0 to 23 of the tick that is over (R294, R471); none while a calibration run uses the converters. -/
def analogIn (l : List Nat) (s : State) : State :=
  if s.tmp.run.isSome then s
  else ((l.take 24).zipIdx).foldl (fun s v => Att.ainSample v.2 (Cal.correct s.tmp.values v.2 (v.1 % 65536)) s) s

/-- The readback of the interlock path differs from the pin (R443, R489): bit 0 of the address is the pin level, high when released, bit 1 the readback. -/
def readback (ok : Bool) (s : State) : State := State.raiseIf s (!ok) 0x1F0 3 (if s.pwr.interlock then 2 else 1)

/-- The dictionary engine found an internal failure in the tick (R46, R68, R69): it is fenced once. No request is behind it, so the address names path 0. -/
def dictFault (ok : Bool) (s : State) : State := State.raiseIf s (!ok && Write.answers s && !s.txn.fenced) 0x1B0 7 (Read.txnAddress s 0)

/-- The inputs of a tick. -/
def inputs (inp : TickIn) (s : State) : State :=
  dictFault inp.dictOk (readback inp.readbackOk (analogIn inp.ain (Ax.tick (Seq.sample inp.seqIn s))))

/-! ### Channels -/

/-- Put an edge in its place among edges. -/
def insEdge (x : Edge) : List Edge → List Edge
  | [] => [x]
  | y :: l => if x.at4 ≤ y.at4 then x :: y :: l else y :: insEdge x l

/-- The gate edges inside tick `k`, in order. -/
def edgesIn (e : Engine) (k : Nat) : List Edge :=
  (e.edges.filter fun d => decide (125 * k < d.at4) && decide (d.at4 < 125 * (k + 1))).foldr insEdge []

/-- The on-intervals of tick `k` in 4 ns steps from its start: from `from0`, where the gate is on or off. -/
def onGo (k : Nat) : Bool → Nat → List Edge → List (Nat × Nat)
  | on, from0, [] => if on then [(from0, 125)] else []
  | on, from0, x :: l =>
    let t := x.at4 - 125 * k
    (if on && !x.on then [(from0, t)] else []) ++ onGo k x.on (if on && x.on then from0 else t) l

/-- The on-intervals of tick `k`. -/
def onParts (e : Engine) (k : Nat) : List (Nat × Nat) := onGo k (Eng.gateAt e (125 * k)) 0 (edgesIn e k)

/-- The plate position at an instant of tick `k`: on the committed path, also where a stop has dropped it, or between the set-points beyond it. -/
def posAt (e : Engine) (k : Nat) (t : Rat) : Pt :=
  let here := fun l => (Geo.phaseAt l t).filter fun p => decide (t ≤ Geo.phaseEnd p)
  match (here e.timeline).orElse fun _ => here e.trail with
  | some p => Geo.phasePos p t
  | none =>
    match e.slots.find? fun d => d.k == k, e.slots.find? fun d => d.k == k + 1 with
    | some a, some b => Geo.along a.pos b.pos 1 (t - (k : Rat))
    | some a, none => a.pos
    | none, _ => e.pos

/-- The deposit of the tick that is over (R227, R228): its gate-on time, and the position at the midpoint of the span in which the gate was on. -/
def depositOf (c : Nat) (s : State) : State :=
  let k := s.tick - 1
  let e := State.engOf s c
  match onParts e k with
  | [] => s
  | a :: l =>
    let tau := 4 * ((a :: l).map fun x => x.2 - x.1).sum
    let last := ((a :: l).getLast?.map fun x => x.2).getD a.2
    let p := posAt e k (((250 * k + a.1 + last : Nat) : Rat) / 250)
    Grid.deposit s c (s.btick - 1) (((e.slots.find? fun d => d.k == k).bind fun d => d.power).getD 0) tau p.x p.y

/-- The channel runs: it is STARTED, finishes a stripe after a STOP, or moves. -/
def live (s : State) (c : Nat) : Bool :=
  State.chOf s c == .started || s.cat.stopping.contains c || (State.engOf s c).motion != .rest || (State.engOf s c).stopRun.isSome

/-- What a channel keeps of the tick that is over (R16, R205, R227). -/
def record (c : Nat) (s : State) : State :=
  if live s c || (State.lanesOf s c).any (State.laneUp s) then depositOf c (Att.recordPast c s) else s

/-- The head frames of a STARTED channel have begun (R130, R258): 65 ticks after its start at the earliest, so that 64 groups of WAKE blocks come before them,
unless its engine still brings an earlier stop to its end. -/
def begun (s : State) (c : Nat) : Bool :=
  State.chOf s c != .started || s.cat.stopping.contains c || (State.engOf s c).motion == .stop || decide (Eng.startOf s c + 65 ≤ s.btick)

/-- The head frame for tick `k` leaves on the head lane of a channel (R258, R277): the engine moves, holds or stops, or the channel is STARTED, and its
first set-point has left. From an EJECT_REQ on every head lane repeats the last set-point sent (R502). -/
def headSends (s : State) (c k : Nat) : Bool :=
  !State.legacy s c && State.laneUp s c &&
    ((live s c && begun s c && (State.engOf s c).slots.any fun d => decide (d.k ≤ k)) || ((s.pwr.removal.isSome || s.pwr.removed) && (State.engOf s c).posSet))

/-- TAG of the firmware's override block that the source lane of a channel sends in the present tick (R285). -/
def fwOverride (s : State) (c : Nat) : Option Nat := ((State.attOf s c).overrideAt.filter fun o => o.1 == s.tick).map fun o => o.2

/-- TAG of the hardware path's override block at group position 0 of the present tick (R285). -/
def hwFirst (s : State) (c : Nat) : Option Nat :=
  ((State.attOf s c).overrideHw.filter fun o => o.1 == s.tick && o.2.1 == 0).map fun o => o.2.2

/-- The command frame leaves on the source lane of a channel (R283): in every group while the lane is UP with SP1, unless the hardware path puts its override
in the place of the frame (R285, R299). -/
def sourceSends (s : State) (c : Nat) : Bool := State.laneUp s (24 + c) && ((hwFirst s c).isNone || (fwOverride s c).isSome)

/-- The override blocks that leave at the start of the present tick count (R285, R296, R299). -/
def sendOverrides (c : Nat) (s : State) : State :=
  if State.laneUp s (24 + c) then State.incAtt s (D.iSRC + c) D.SRC_OVERRIDES (((fwOverride s c).toList ++ (hwFirst s c).toList).length : Nat) else s

/-- The frames for tick `k` leave on the lanes of a channel (R15, R280, R283): the heartbeat of its source, and the frames that carry CLEAR_FAULT. -/
def sendFrames (c k : Nat) (s : State) : State :=
  let h := headSends s c k
  let r := sourceSends s c
  if h || r then
    State.modAtt s c fun a => { a with
      headCmd := h && decide (0 < a.headClear)
      srcCmd := r && decide (0 < a.srcClear)
      hbNow := a.hb
      headClear := if h then a.headClear - 1 else a.headClear
      srcClear := if r then a.srcClear - 1 else a.srcClear
      hb := if r then (a.hb + 1) % 256 else a.hb
      hbSent := if r then min 20 (a.hbSent + 1) else a.hbSent }
  else s

/-- What falls due on a lane in the tick that begins (R257, R259): the rate switch of a step, a refresh burst. -/
def lane (m : Nat) (s : State) : State := Lnk.burst m (Lnk.switchDue m s)

/-- The DAC code of AOUT n (R292): a line from AOUT_ZERO to AOUT_FS over the command; 0 without an analog source. -/
def aoutCode (s : State) (c : Nat) : Nat :=
  if State.analog s c then
    let z := State.rAtt s (D.iAIO + c) D.AIO_AOUT_ZERO
    (z + Arith.divRound ((powerNow s c : Int) * (State.rAtt s (D.iAIO + c) D.AIO_AOUT_FS - z)) 65535).toNat
  else 0

/-- The high time of PWM n in 4 ns steps (R293), fixed at the first tick of a period. -/
def pwmHigh (s : State) (c old : Nat) : Nat :=
  let period := (State.rAtt s (D.iAIO + c) D.AIO_PWM_PERIOD).toNat
  if !Arith.bit (State.rAtt s (D.iAIO + c) D.AIO_CTRL).toNat 1 then 0
  else if s.tick % max 1 period = 0 then (Arith.divRound ((powerNow s c * period * 125 : Nat) : Int) 65535).toNat
  else old

/-- The set-point, the gate, AOUT and PWM of a channel in the present tick (R15, R292, R293). -/
def applyNow (c : Nat) (s : State) : State :=
  let e := State.engOf s c
  let hu := ((e.slots.find? fun d => d.k == s.tick).map fun d => d.hu).getD e.hu
  let s := State.setEng s c { e with hu := hu, gate := Eng.gateAt e (125 * s.tick - 1) }
  let s := State.wAtt s (D.iAIO + c) D.AIO_AOUT_CODE (aoutCode s c : Int)
  State.modAtt s c fun a => { a with pwmHigh := pwmHigh s c a.pwmHigh }

/-- Gate-on edges of tick `k` that may not be sent, each with the gate-off that belongs to it. -/
def unsetEdges (e : Engine) (k : Nat) : Engine :=
  let ons := e.edges.filter fun d => d.on && decide (125 * k ≤ d.at4) && decide (d.at4 < 125 * (k + 1))
  ons.foldl (fun e d =>
    let after := (e.edges.filter fun x => !x.on && decide (d.at4 ≤ x.at4)).foldr insEdge []
    { e with edges := e.edges.filter fun x => x != d && some x != after.head? }) e

/-- While the lanes of a channel are not ready, the frame for tick `k` carries power 0 and no gate edge (R265); while a fault forces the gate off, or
the interlock is asserted, it carries no gate-on edge (R152). -/
def guardFrame (c k : Nat) (s : State) : State :=
  if State.ready s c then if (State.engOf s c).force || s.pwr.interlock then State.modEng s c fun e => unsetEdges e k else s
  else
    State.modEng s c fun e => { unsetEdges e k with
      slots := Arith.updWhere (fun x => x.k == k && !State.analog s c) (fun x => { x with power := x.power.map fun _ => 0 }) e.slots }

/-- Geometry for tick `t + 64` is committed, the command for tick `t + D_h + 1` composed, and the frames for tick `t + D_h` leave (R16). -/
def pipeline (c : Nat) (s : State) : State :=
  let k := s.tick + Eng.horizon
  let s := if live s c then
      let s := if (State.engOf s c).posSet then s else State.modEng s c fun e => { e with pos := fieldCentre s c }
      Grid.feedForward (Eng.commitTo s c k) c k
    else s
  let s := Mpl.compose (s.tick + State.delayOf s c + 1) c (Mpl.keepOpen (s.tick + State.delayOf s c + 1) c s)
  let k := s.tick + State.delayOf s c
  let s := if live s c || (State.lanesOf s c).any (State.laneUp s) then Feat.schedule c k (headSends s c k) s else s
  applyNow c (sendFrames c k (sendOverrides c (guardFrame c k s)))

/-- An XY2-100 frame is complete every 20 ticks (R289). -/
def xyFrame (p : Nat) (s : State) : State :=
  if State.legacy s p && decide (s.tick % 20 = 0) then
    State.wAtt s (D.iXY + p) D.XY_FRAMES ((State.rAtt s (D.iXY + p) D.XY_FRAMES + 1) % 2 ^ 32)
  else s

/-! ### The tick -/

/-- Conditions of the envelope that hold for as long as they stand (R27, R30). -/
def envelope (s : State) : State :=
  let s := if s.pwr.interlock then State.breakEnv s 4 else s
  let s := if State.layerOpen s && !Arith.bit (State.rDev s D.iDEV_DET D.DEV_DET_LIVE_BREAK).toNat 0 && Seq.hostFed s (State.startedSet s) then State.breakEnv s 0 else s
  if State.rLnd s D.iLND D.LND_MODE = 1 then State.breakEnv s 3 else s

/-- The decisions of a tick (R10, R127, R178): the Catalogue first, then Lending. -/
def decide_ (s : State) : State :=
  let s := Lend.action (envelope (Seq.action s))
  State.forAll (fun c s => Att.tryResume c (Att.atRest c (Seq.settleStop c (Eng.recordStop c s)))) (List.range 24) s

/-- The work of every channel in the tick. -/
def channels (s : State) : State :=
  let s := State.forAll pipeline (List.range 24) (State.forAll lane (List.range 48) s)
  let s := State.forAll xyFrame (List.range 8) s
  State.forAll (fun c s => Eng.prune (Feed.moveCursors c (Feed.consumeDue c s)) c) (List.range 24) s

/-- What the tick that begins takes over from the one before: inputs, what the channels keep, the factors and coefficient sets that come into force. -/
def begin_ (inp : TickIn) (s : State) : State :=
  let s := State.forAll record (List.range 24) (inputs inp s)
  State.forAll (fun c s => Mpl.swapDue c (Mpl.takeNext c s)) (List.range 24) (Grid.finishDue s)

/-- One tick: what is left of the tick that ends, the clocks, and the work of the one that begins. Nothing in it moves TICK a second time (R13). -/
def tick (inp : TickIn) (s : State) : State :=
  if runs s then
    let e := endOf (Lnk.receiveAll inp.rx s)
    let a := advance e
    let r := if runs a then Flt.pin (Flt.collect (channels (decide_ (begin_ inp a)))) else a
    { r with tick := s.tick + 1 }
  else s

end Tick

end Sys2Proof.Machine
end

