-- ==== Sys2Proof/Machine/Out.lean ====
section
/-!
DEFINITION. What leaves the module, as functions of the state: frames on the lanes (10_akzi_lanes.md R249, R252, R258, R259; 11_head_source_protocols.md
R272 to R293), pins (12 to 16, R437, R487), LEDs (R491). No step reads them.
What the rules leave to the model: log entry 46.
-/
namespace Sys2Proof.Machine

namespace Out

/-! ### Frames to heads and sources -/

/-- The set-point of a channel for tick `k`. -/
def slotAt (s : State) (c k : Nat) : Option Slot := (State.engOf s c).slots.find? fun d => d.k == k

/-- The tile that the frame for tick `k` triggers (R277, R313). -/
def tileAt (s : State) (c k : Nat) : Option TileSlot := (Feat.unit s c).sched.find? fun t => t.start == k

/-- The set-point before tick `k`: the one sent again when there is none for `k` (R159). -/
def slotBefore (s : State) (c k : Nat) : Option Slot := ((State.engOf s c).slots.filter fun d => decide (d.k < k)).getLast?

/-- The set-point frame for tick `k` (R277): the previous set-point again where there is no new one; HOLD says that a set-point is repeated. -/
def headFrame (s : State) (c k : Nat) : List Byte :=
  let d := slotAt s c k
  let hu := ((d.orElse fun _ => slotBefore s c k).map fun d => d.hu).getD (State.engOf s c).hu
  let hold := (d.map fun d => d.rep).getD true
  let tile := tileAt s c k
  let two := State.hasZ s c
  [1, BitVec.ofNat 8 (b2n hold + 2 * b2n (two && tile.isSome))] ++ Arith.natLe 2 (k % 65536) ++ Arith.intLe 3 hu.x ++ Arith.intLe 3 hu.y ++
    Arith.intLe 3 (if two then hu.z else 0) ++ [BitVec.ofNat 8 (State.delayOf s c)] ++ Arith.natLe 2 (Att.hdp s c D.HDP_LINK_DELAY) ++
    Arith.natLe 2 (if two then (tile.map fun t => t.exposure).getD 0 else 0) ++ [BitVec.ofNat 8 (b2n (State.attOf s c).headCmd)] ++
    List.replicate 7 0

/-- The command frame for tick `k` (R283); on a lane that no attachment uses, POWER 0 and no edges (R272). -/
def sourceFrame (s : State) (c k : Nat) : List Byte :=
  let e := State.engOf s c
  let used := !State.analog s c
  let edge := fun on => if used then Tick.edgeStep e k on else 0xFF
  let pw := if used then ((slotAt s c k).bind fun d => d.power).getD 0 else 0
  [1, BitVec.ofNat 8 (b2n (used && Eng.gateAt e (125 * k)))] ++ Arith.natLe 2 (k % 65536) ++ Arith.natLe 2 pw ++
    [BitVec.ofNat 8 (edge true), BitVec.ofNat 8 (edge false), BitVec.ofNat 8 (State.delayOf s c), BitVec.ofNat 8 (State.attOf s c).hbNow] ++
    Arith.natLe 2 (Att.src s c D.SRC_LINK_DELAY) ++ [BitVec.ofNat 8 (b2n (State.attOf s c).srcCmd)] ++ List.replicate 13 0

/-- An override block (R285): TAG is the last tick already sent. -/
def override (tag : Nat) : List Byte := [2, 0] ++ Arith.natLe 2 tag ++ List.replicate 22 0

/-- The data word of an XY2-100 frame (R290). -/
def xyWord (hu : Int) : Nat := (Arith.clamp 0 65535 (Arith.divRound hu 256 + 32768)).toNat

/-- The 20 bits of an XY2-100 frame (R289), the first sent in bit 19: control bits 0b001, the word, even parity. -/
def xyBits (hu : Int) : Nat :=
  let w := 2 ^ 17 + 2 * xyWord hu
  w + b2n (!Att.parityOk w)

/-- The set-point whose frame an XY port sends in the present tick (R289, R290): that of the next tick with TICK mod 20 = 0, or the last one held. -/
def xyAt (s : State) (c : Nat) : Hu := ((slotAt s c (20 * (s.tick / 20 + 1))).map fun d => d.hu).getD (State.engOf s c).hu

/-- SYNC, CHAN1 and CHAN2 of an XY port in the present tick (R289): bit 1 + TICK mod 20 of the frame, SYNC low for the last. -/
def xyPins (s : State) (c : Nat) : Bool × Bool × Bool :=
  if s.pwr.rails && State.legacy s c then
    let i := s.tick % 20
    (i != 19, Arith.bit (xyBits (xyAt s c).x) (19 - i), Arith.bit (xyBits (xyAt s c).y) (19 - i))
  else (false, false, false)

/-! ### Blocks on a lane -/

/-- A DATA block at group position `p` (R249, R273): INFO is its position, its place in the frames of the tick in units of 26 bytes. -/
def dataBlock (p : Nat) (d : List Byte) : List Byte := Lnk.block 0x01 p d

/-- A block without DATA (R249). -/
def bare (type : Nat) : List Byte := Lnk.block type 0 []

/-- What the source lane of a channel sends at group position `p` (R283, R285, R299): an override stands ahead of the command frame. The block of the hardware
path takes the place of the one it meets; an override of the firmware that it meets follows it. -/
def sourceBlock (s : State) (c p : Nat) : List Byte :=
  let hw := (State.attOf s c).overrideHw.filter fun o => o.1 == s.tick
  let first := (Tick.hwFirst s c).toList ++ (Tick.fwOverride s c).toList
  let blocks := first.map override ++ if Tick.sourceSends s c then [sourceFrame s c (s.tick + State.delayOf s c)] else []
  match hw.filter fun o => o.2.1 == p with
  | some o => dataBlock p (override o.2.2)
  | none => (blocks[p]?.map (dataBlock p)).getD (bare 0x00)

/-- Whether a lane fills its free positions with WAKE (R257, R258): in a refresh burst, or from the tick after its channel's start to its first head frame. -/
def wakes (s : State) (m p : Nat) : Bool :=
  Lnk.inBurst (State.laneOf s m) s.tick p ||
    (decide (m < 24) && State.chOf s m == .started && decide ((State.rCat s (D.iCHS + m) D.CHS_START_BTICK).toNat < s.btick) &&
      !Tick.headSends s m (s.tick + State.delayOf s m))

/-- The block lane `m` sends at group position `p` of the present tick (R249, R252, R257 to R259, R273); none from a DISABLED lane, and none behind the last
position of its rate. -/
def laneBlock (s : State) (m p : Nat) : Option (List Byte) :=
  let l := State.laneOf s m
  let k := s.tick + State.delayOf s m
  let cap := Lnk.block 0x10 0 ((List.range 26).map (Config.capByte m))
  if Lnk.groupBlocks (l.rate.getD 0) ≤ p ∨ !s.pwr.rails then none
  else match l.mode with
  | .disabled => none
  | .seek => some cap
  | .cap => some cap
  | .relearn => some (bare 0x12)
  | .step => some (if l.phase = .echo ∨ l.switchAt.isSome then Lnk.block 0x11 l.tryRate ((List.range 26).map Config.stepByte) else bare 0x12)
  | .up =>
    if State.rLnk s (D.iLNK + m) D.LNK_PROTOCOL = 0 then some (bare 0x00)
    else if 24 ≤ m then some (sourceBlock s (m - 24) p)
    else if p = 0 ∧ Tick.headSends s m k then some (dataBlock 0 (headFrame s m k))
    else some (bare (if wakes s m p then 0x13 else 0x00))

/-- The scrambler of a lane at the first payload bit of the present tick's group (R250): it runs from the first TRAIN block of the latest training on, and not
at all from SEEK to the first training. -/
def scrambler (s : State) (m : Nat) : Option Nat :=
  let l := State.laneOf s m
  l.scramFrom.map fun k => Lnk.scramRun (240 * Lnk.groupBlocks (l.rate.getD 0) * (s.tick - k)) Lnk.scramOnes

/-- The line bits lane `m` sends in the present tick (R249 to R252); none from a DISABLED lane. -/
def laneLine (s : State) (m : Nat) : List Bool :=
  let l := State.laneOf s m
  let r := l.rate.getD 0
  if l.mode = .disabled ∨ !s.pwr.rails then []
  else Lnk.lineBits r s.tick (Lnk.txMarker l s.tick) (scrambler s m) ((List.range (Lnk.groupBlocks r)).filterMap (laneBlock s m))

/-! ### Pins -/

/-- GATE n of a channel at a 4 ns point (R292, R489): low without an analog source, with the interlock asserted, with the rails off and without a root PLL
lock (R20). -/
def gatePin (s : State) (c at4 : Nat) : Bool :=
  s.pwr.rails && s.dev.pllLocked && !s.pwr.interlock && State.analog s c && Eng.gateAt (State.engOf s c) at4

/-- The code on AOUT n (R292, R471): corrected by its calibration entry. -/
def aoutPin (s : State) (c : Nat) : Nat := if s.pwr.rails && State.analog s c then Cal.correct s.tmp.values (24 + c) (Tick.aoutCode s c) else 0

/-- The high time of the present PWM period on PWM n in 4 ns steps (R293, R489). -/
def pwmPin (s : State) (c : Nat) : Nat := if s.pwr.rails && !s.pwr.interlock then (State.attOf s c).pwmHigh else 0

/-- TRIG and STROBE_SYNC of a camera port (R301). -/
def trigPin (s : State) (p : Nat) : Bool := s.pwr.rails && decide (s.tick < (Ilm.portOf s p).trigUntil)

/-- STROBE_SYNC of a camera port (R301). -/
def syncPin (s : State) (p : Nat) : Bool := s.pwr.rails && decide (s.tick < (Ilm.portOf s p).syncUntil)

/-- The current of lamp `l` in 0.25 mA (R321, R323). -/
def lampPin (s : State) (l : Nat) : Nat := if !s.pwr.rails then 0 else ((Ilm.lampOf s l).pulse.map fun p => if s.tick < p.stop then p.current else 0).getD 0

/-- STEP of an axis at a 4 ns point (R373). -/
def stepPin (s : State) (a at4 : Nat) : Bool := s.pwr.rails && decide (at4 < (Ax.axis s a).stepUntil)

/-- DIR of an axis at a 4 ns point (R373): high for the positive direction unless DIR_INVERT is 1. The direction of the step to come stands DIR_SETUP
before its rising edge, once STEP is low. -/
def dirPin (s : State) (a at4 : Nat) : Bool :=
  let x := Ax.axis s a
  let dir := match x.event with
    | some ev =>
      if ev.isStep ∧ x.stepUntil ≤ at4 ∧ Arith.ratRound ev.ideal ≤ ((at4 + (Ax.reg s a D.AX_DIR_SETUP).toNat / 4 : Nat) : Int) then ev.dir else x.dir
    | none => x.dir
  s.pwr.rails && (decide (0 ≤ dir) != Arith.bit (Ax.reg s a D.AX_CTRL).toNat 2)

/-- EN and SHORT of an axis (R381, R382). -/
def enPin (s : State) (a : Nat) : Bool := s.pwr.rails && Ax.enOf (Ax.axis s a)

/-- SHORT of an axis. -/
def shortPin (s : State) (a : Nat) : Bool := s.pwr.rails && Ax.shortOf s a

/-- CMP OUT of a compare unit at a 4 ns point (R395). -/
def cmpPin (s : State) (u at4 : Nat) : Bool := s.pwr.rails && decide (at4 < (Ax.cmp s u).pulseUntil)

/-- ERR_N is asserted, that is low (R437): with the core rails off only in THERMAL_OFF, by the standby domain (R487). -/
def errPin (s : State) : Bool := if s.pwr.rails then s.flt.pin else s.dev.mode == .thermalOff

/-- The code on REF_TUNE, of 65,536 steps of 3.3 V (R414, R487). -/
def refTunePin (s : State) : Nat := if s.pwr.rails then (Net.sync s D.NET_TSYNC_TUNE).toNat else 0

/-! ### LEDs (R491) -/

/-- The patterns of the front LEDs. -/
inductive Led where
  | off | on | blink1Hz | blink4Hz
  /-- On, dark for 100 ms each second. -/
  | onDark
  /-- Two flashes of 100 ms each second. -/
  | twoFlashes
deriving DecidableEq, Repr

/-- For 500 ms from an accepted rise of ENABLE all four LEDs light: the time of the start-up steps, and of what follows, in µs. -/
def ledTest (s : State) : Bool := s.pwr.rails && decide (s.pwr.spent + (s.tick - s.pwr.stepTick) / 2 < 500000)

/-- PWR: off without 48 V; 1 Hz in standby; on with the core rails. -/
def ledPwr (s : State) : Led := if ledTest s then .on else if s.pwr.rails && s.dev.mode != .thermalOff then .on else if s.pwr.standby then .blink1Hz else .off

/-- RUN: the device state. -/
def ledRun (s : State) : Led :=
  if ledTest s then .on
  else if !s.pwr.rails then .off
  else match s.dev.mode with
    | .boot => .blink4Hz | .service => .blink1Hz | .ready => .on | .building => .onDark | .paused => .twoFlashes | .safe => .off | .thermalOff => .off

/-- FAULT: a source holds status, or SAFE; 4 Hz in THERMAL_OFF. -/
def ledFault (s : State) : Led :=
  if ledTest s then .on
  else if s.dev.mode = .thermalOff then .blink4Hz
  else if s.pwr.rails && (s.dev.mode == .safe || s.flt.srcs.any fun e => e.2.active) then .on else .off

/-- SAFE_TO_REMOVE. -/
def ledRemove (s : State) : Led := if ledTest s || Read.safeToRemove s then .on else .off

end Out

end Sys2Proof.Machine
end

