-- ==== Sys2Proof/Machine/Act.lean ====
section
/-!
DEFINITION. How a command acts: it leaves the queue alone, no command but TICK and the start-up moves TICK (R13), and the core domain works while its
rails are on (R499). Commands on units that do not exist, and events that cannot arise, change nothing (log entry 1).
What the rules leave to the model: log entry 1.
-/
namespace Sys2Proof.Machine

/-- The outcome of a command that may also move TICK: the state after an operation, with the queue as it was. -/
def run (f : State → State) (s : State) : Host.Outcome State Fault Refusal := .next { f s with pending := s.pending }

/-- The outcome of a command of the standby domain, of the inputs or of the supply: TICK stays (R13). -/
def always (f : State → State) (s : State) : Host.Outcome State Fault Refusal := .next { f s with tick := s.tick, pending := s.pending }

/-- The outcome of a command of the core domain: nothing happens while the core rails are off. -/
def act (f : State → State) (s : State) : Host.Outcome State Fault Refusal := if s.pwr.rails then always f s else .next s

/-- The same of a command on unit `i` of `n`. -/
def actOn (i n : Nat) (f : State → State) (s : State) : Host.Outcome State Fault Refusal := if i < n then act f s else .next s

end Sys2Proof.Machine
end

