-- ==== Sys2Proof/Machine/CmdAxes.lean ====
section
/-!
DEFINITION. Axes, encoders and compare units (16_machine_axes.md).
-/
namespace Sys2Proof.Machine

/-- A command of an axis over path 0 (R380, R399). -/
def axisCommand (a : Nat) (v : Int) (s : State) : State := Mbx.num 0 (D.iAX + a) D.AX_CMD v s

/-- A write of SPEED, ACCEL or DECEL (R377, R378). -/
def axisProfile (a sub : Nat) (v : Int) (s : State) : State :=
  if sub = D.AX_SPEED ∨ sub = D.AX_ACCEL ∨ sub = D.AX_DECEL then Mbx.num 0 (D.iAX + a) sub v s else s

/-- AX_MOVE (R376). -/
def execAxMove (axis : Nat) (s : State) : Host.Outcome State Fault Refusal := actOn axis 8 (axisCommand axis 5) s

/-- AX_STOP (R380). -/
def execAxStop (axis : Nat) (s : State) : Host.Outcome State Fault Refusal := actOn axis 8 (axisCommand axis 1) s

/-- AX_QUICK_STOP (R380). -/
def execAxQuickStop (axis : Nat) (s : State) : Host.Outcome State Fault Refusal := actOn axis 8 (axisCommand axis 2) s

/-- AX_HOME (R385). -/
def execAxHome (axis : Nat) (s : State) : Host.Outcome State Fault Refusal := actOn axis 8 (axisCommand axis 3) s

/-- AX_JOG (R379). -/
def execAxJog (axis : Nat) (s : State) : Host.Outcome State Fault Refusal := actOn axis 8 (axisCommand axis 4) s

/-- AX_GEAR_ENGAGE (R387). -/
def execAxGearEngage (axis : Nat) (s : State) : Host.Outcome State Fault Refusal := actOn axis 8 (axisCommand axis 6) s

/-- AX_GEAR_DISENGAGE (R380). -/
def execAxGearDisengage (axis : Nat) (s : State) : Host.Outcome State Fault Refusal := actOn axis 8 (axisCommand axis 7) s

/-- AX_GEAR_ARM_SWITCH (R389). -/
def execAxGearArmSwitch (axis : Nat) (s : State) : Host.Outcome State Fault Refusal := actOn axis 8 (axisCommand axis 8) s

/-- AXIS_ENABLE (R382). -/
def execAxisEnable (axis : Nat) (s : State) : Host.Outcome State Fault Refusal := actOn axis 8 (Write.enable (D.iAX + axis) D.AX_CTRL true) s

/-- AXIS_DISABLE (R382). -/
def execAxisDisable (axis : Nat) (s : State) : Host.Outcome State Fault Refusal := actOn axis 8 (Write.enable (D.iAX + axis) D.AX_CTRL false) s

/-- AX_PROFILE_WRITE (R378). -/
def execAxProfileWrite (axis sub : Nat) (v : Int) (s : State) : Host.Outcome State Fault Refusal := actOn axis 8 (axisProfile axis sub v) s

/-- JOG_SPEED_WRITE (R379). -/
def execJogSpeedWrite (axis : Nat) (v : Int) (s : State) : Host.Outcome State Fault Refusal := actOn axis 8 (Mbx.num 0 (D.iAX + axis) D.AX_JOG_SPEED v) s

/-- STEP_PULSE (R373). -/
def execStepPulse (axis : Nat) (s : State) : Host.Outcome State Fault Refusal := actOn axis 8 (Ax.stepPulse axis) s

/-- WAKE_DELAY_ELAPSED (R375). -/
def execWakeDelayElapsed (axis : Nat) (s : State) : Host.Outcome State Fault Refusal := actOn axis 8 (Ax.wakeOver axis) s

/-- STANDSTILL_DELAY_ELAPSED (R381). -/
def execStandstillDelayElapsed (axis : Nat) (s : State) : Host.Outcome State Fault Refusal := actOn axis 8 (Ax.standstillOver axis) s

/-- SWITCH_INPUT_EDGE (R383). -/
def execSwitchInputEdge (axis input : Nat) (level : Bool) (s : State) : Host.Outcome State Fault Refusal := actOn axis 8 (fun s => if input < 3 then Ax.switchEdge axis input level s else s) s

/-- HOLDOFF_END (R383). -/
def execHoldoffEnd (axis input : Nat) (s : State) : Host.Outcome State Fault Refusal := actOn axis 8 (fun s => if input < 3 then Ax.holdoffEnd axis input s else s) s

/-- ENCODER_EDGE (R390). -/
def execEncoderEdge (enc at4 : Nat) (a b z : Bool) (s : State) : Host.Outcome State Fault Refusal := actOn enc 8 (Ax.edge enc at4 a b z) s

/-- ENCODER_INDEX (R392). -/
def execEncoderIndex (enc : Nat) (s : State) : Host.Outcome State Fault Refusal := actOn enc 8 (Ax.index enc) s

/-- ENCODER_TOOTH (R393). -/
def execEncoderTooth (enc at4 : Nat) (s : State) : Host.Outcome State Fault Refusal := actOn enc 8 (Ax.tooth enc at4) s

/-- ENCODER_SPEED_TIMEOUT (R394). -/
def execEncoderSpeedTimeout (enc : Nat) (s : State) : Host.Outcome State Fault Refusal := actOn enc 8 (Ax.speedTimeout enc) s

/-- CMP_ARM (R396). -/
def execCmpArm (unit : Nat) (s : State) : Host.Outcome State Fault Refusal := actOn unit 16 (Mbx.num 0 (D.iCMP + unit) D.CMP_CMD 1) s

/-- CMP_DISARM (R398). -/
def execCmpDisarm (unit : Nat) (s : State) : Host.Outcome State Fault Refusal := actOn unit 16 (Mbx.num 0 (D.iCMP + unit) D.CMP_CMD 2) s

/-- CMP_POSITION_WRITE (R396). -/
def execCmpPositionWrite (unit : Nat) (v : Int) (s : State) : Host.Outcome State Fault Refusal := actOn unit 16 (Mbx.num 0 (D.iCMP + unit) D.CMP_POSITION v) s

/-- CMP_PULSE_END (R395). -/
def execCmpPulseEnd (unit : Nat) (s : State) : Host.Outcome State Fault Refusal := actOn unit 16 (Ax.pulseEnd unit) s

end Sys2Proof.Machine
end

