-- ==== Sys2Proof/Machine/CmdCatalogue.lean ====
section
/-!
DEFINITION. The steps of the Catalogue (05_catalogue_sequencer.md).
-/
namespace Sys2Proof.Machine

/-- An entry of the Catalogue's format, issued in place of the entry at hand (R124 to R127): one that keeps the operand ranges of its OP. -/
def giveEntry (e : CatEntry) (s : State) : State :=
  if CatImg.entryOk 4096 e && decide (CatImg.entryOf (CatImg.bytes e) = e) then Seq.give e s else s

/-- The condition of the waiting step holds (R127, R139). -/
def waitingMet (s : State) : State :=
  match s.cat.waiting with
  | some e => if Seq.mayAct s && Seq.met s e then Seq.complete e (Seq.acts s) else s
  | none => s

/-- The timeout of the waiting step is over and its condition does not hold (R132, R134). -/
def waitingOver (s : State) : State :=
  match s.cat.waiting with
  | some e => if Seq.mayAct s && !Seq.met s e && Seq.expired s e then Seq.timeOut (Seq.acts s) else s
  | none => s

/-- The boundary of the open layer, in the tick after its started set emptied (R61, R127 steps 1 to 3, R131). -/
def boundaryStep (s : State) : State :=
  if Seq.mayAct s && Seq.boundaryNow s then Seq.evaluate (Seq.takeFences (Seq.boundary (Seq.acts s))) else s

/-- START_EXPOSURE (R130). -/
def execStartExposure (mask : Nat) (s : State) : Host.Outcome State Fault Refusal := act (giveEntry ⟨0x01, 0, 0, mask, 0, 0⟩) s

/-- WAIT_EXPOSURE (R132). -/
def execWaitExposure (layer : Bool) (mask timeout : Nat) (s : State) : Host.Outcome State Fault Refusal := act (giveEntry ⟨0x02, 0, layer.toNat, mask, timeout, 0⟩) s

/-- AXIS_MOVE (R135). -/
def execAxisMove (axis : Nat) (relative : Bool) (target : Int) (speed accel : Nat) (s : State) : Host.Outcome State Fault Refusal := act (giveEntry ⟨0x10, axis, relative.toNat, Arith.toUnsigned 32 target, speed, accel⟩) s

/-- AXIS_WAIT (R134). -/
def execAxisWait (mask timeout : Nat) (s : State) : Host.Outcome State Fault Refusal := act (giveEntry ⟨0x11, mask, 0, 0, timeout, 0⟩) s

/-- GEAR_SET (R387). -/
def execGearSet (axis enc : Nat) (disengage : Bool) (num : Int) (den : Nat) (s : State) : Host.Outcome State Fault Refusal := act (giveEntry ⟨0x12, axis, enc + 256 * disengage.toNat, Arith.toUnsigned 32 num, den, 0⟩) s

/-- CAPTURE (R136). -/
def execCapture (port : Nat) (armed wait folio : Bool) (s : State) : Host.Outcome State Fault Refusal := act (giveEntry ⟨0x20, port, armed.toNat + 2 * wait.toNat + 4 * folio.toNat, 0, 0, 0⟩) s

/-- STROBE (R322). -/
def execStrobe (port mask : Nat) (s : State) : Host.Outcome State Fault Refusal := act (giveEntry ⟨0x21, port, 0, mask, 0, 0⟩) s

/-- GRID_SNAPSHOT (R238). -/
def execGridSnapshot (folio wait : Bool) (s : State) : Host.Outcome State Fault Refusal := act (giveEntry ⟨0x22, 0, folio.toNat + 2 * wait.toNat, 0, 0, 0⟩) s

/-- STORE_OBJECT (R137). -/
def execStoreObject (kind : Nat) (wait : Bool) (port : Nat) (s : State) : Host.Outcome State Fault Refusal := act (giveEntry ⟨0x23, kind, wait.toNat, port, 0, 0⟩) s

/-- CAT_WAIT_TICKS (R125). -/
def execCatWaitTicks (count : Nat) (s : State) : Host.Outcome State Fault Refusal := act (giveEntry ⟨0x30, 0, 0, count, 0, 0⟩) s

/-- WAIT_INPUT (R134). -/
def execWaitInput (source : Nat) (level edge : Bool) (timeout : Nat) (s : State) : Host.Outcome State Fault Refusal := act (giveEntry ⟨0x31, source, level.toNat + 2 * edge.toNat, 0, timeout, 0⟩) s

/-- APPLY_TXN (R133). -/
def execApplyTxn (s : State) : Host.Outcome State Fault Refusal := act (giveEntry ⟨0x40, 0, 0, 0, 0, 0⟩) s

/-- LOOP (R128). -/
def execLoop (level count target : Nat) (s : State) : Host.Outcome State Fault Refusal := act (giveEntry ⟨0x50, level, count, target, 0, 0⟩) s

/-- JUMP (R125). -/
def execJump (target : Nat) (s : State) : Host.Outcome State Fault Refusal := act (giveEntry ⟨0x51, 0, 0, target, 0, 0⟩) s

/-- BRANCH_FLAG (R129). -/
def execBranchFlag (flag : Nat) (sense : Bool) (target : Nat) (s : State) : Host.Outcome State Fault Refusal := act (giveEntry ⟨0x52, flag, sense.toNat, target, 0, 0⟩) s

/-- HALT (R23). -/
def execHalt (s : State) : Host.Outcome State Fault Refusal := act (giveEntry ⟨0x7F, 0, 0, 0, 0, 0⟩) s

/-- WAIT_STEP_COMPLETE (R127). -/
def execWaitStepComplete (s : State) : Host.Outcome State Fault Refusal := act waitingMet s

/-- WAIT_TIMEOUT (R132). -/
def execWaitTimeout (s : State) : Host.Outcome State Fault Refusal := act waitingOver s

/-- LAYER_BOUNDARY (R131). -/
def execLayerBoundary (s : State) : Host.Outcome State Fault Refusal := act boundaryStep s

end Sys2Proof.Machine
end

