-- ==== Sys2Proof/Machine/CmdDevice.lean ====
section
/-!
DEFINITION. TICK, the interlock and the state commands (01_architecture.md).
-/
namespace Sys2Proof.Machine

/-- The release of the interlock is taken (R443, R489): 200 T without an assertion are over. -/
def interlockReleased (s : State) : State :=
  Seq.release (State.raiseIf s (s.pwr.interlock && s.pwr.rails) 0x1F0 2 s.tick)

/-- A state command over path 0 (R21, R23). -/
def stateCommand (code : Int) (s : State) : State := Mbx.num 0 D.iDEV_STATE D.DEV_STATE_CMD code s

/-- TICK (R13). -/
def execTick (inp : TickIn) (s : State) : Host.Outcome State Fault Refusal := run (Tick.tick inp) s

/-- LASER_INTERLOCK_ASSERT (R489). -/
def execLaserInterlockAssert (s : State) : Host.Outcome State Fault Refusal := always Seq.interlock s

/-- INTERLOCK_RELEASE (R489). -/
def execInterlockRelease (s : State) : Host.Outcome State Fault Refusal := always interlockReleased s

/-- GO_READY (R23). -/
def execGoReady (s : State) : Host.Outcome State Fault Refusal := act (stateCommand 1) s

/-- GO_SERVICE (R23). -/
def execGoService (s : State) : Host.Outcome State Fault Refusal := act (stateCommand 2) s

/-- START_BUILD (R23). -/
def execStartBuild (s : State) : Host.Outcome State Fault Refusal := act (stateCommand 3) s

/-- PAUSE (R23). -/
def execPause (s : State) : Host.Outcome State Fault Refusal := act (stateCommand 4) s

/-- RESUME (R23). -/
def execResume (s : State) : Host.Outcome State Fault Refusal := act (stateCommand 5) s

/-- STOP (R525). -/
def execStop (s : State) : Host.Outcome State Fault Refusal := act (stateCommand 6) s

/-- SAFE (R144). -/
def execSafe (s : State) : Host.Outcome State Fault Refusal := act (stateCommand 7) s

end Sys2Proof.Machine
end

