-- ==== Sys2Proof/Machine/CmdEngine.lean ====
section
/-!
DEFINITION. Channels, engines and Lending (06_trajectory_correction.md, 07_lending_overlap.md).
-/
namespace Sys2Proof.Machine

/-- A channel plans its path: it is STARTED in a build, or finishes a stripe after a STOP (R178, R525). -/
def plans (s : State) (c : Nat) : Bool := (State.chOf s c == .started && s.dev.mode.inBuild) || s.cat.stopping.contains c

/-- What a channel plans next for the path at the commit horizon, when it can plan: the plan and its stripe (R146). -/
def planning (s : State) (c : Nat) : Option (Plan × StripeRun) :=
  let e := State.engOf s c
  if plans s c && !Eng.filled e (s.tick + Eng.horizon) then
    match e.plan with
    | some p => (Eng.stripeOf e p.serial).map fun r => (p, r)
    | none => none
  else none

/-- The segment item that is next, when no part of a wait is left and no plume check holds it (R79, R186). -/
def nextSeg (s : State) (c : Nat) : Option Item :=
  match planning s c with
  | some (p, r) => if p.waitLeft = 0 && !(State.engOf s c).plumeHeld then (Eng.nextTick r p.item).bind fun i => r.items[i]? else none
  | none => none

/-- The next phases of a channel are planned (R146, R149). -/
def planNext (c : Nat) (s : State) : State := Eng.planStep s c (s.tick + Eng.horizon)

/-- The next item is planned when it is of a kind. -/
def planIf (kind : Item → Bool) (c : Nat) (s : State) : State := if ((nextSeg s c).map kind).getD false then planNext c s else s

/-- A wait is planned: the next item, or what a stop left of one (R89, R157). -/
def planWaits (c : Nat) (s : State) : State :=
  match planning s c with
  | some (p, _) => if 0 < p.waitLeft then planNext c s else planIf (fun i => match i with | .waitTicks _ => true | _ => false) c s
  | none => s

/-- The committed path ends by the horizon, and what follows starts at the next tick boundary (R146). -/
def planAfter (c : Nat) (s : State) : State :=
  let e := State.engOf s c
  if (planning s c).isSome && !e.timeline.isEmpty && !e.plumeHeld && decide (Eng.lastEnd e ≤ ((s.tick + Eng.horizon : Nat) : Rat)) then planNext c s else s

/-- The plume check of the chain that is next (R185): its run-up start has been reached in the plan. -/
def planCheck (c : Nat) (s : State) : State :=
  match planning s c with
  | some (p, _) => if p.atRunUp && !(State.engOf s c).plumeHeld then planNext c s else s
  | none => s

/-- The set-point of a channel that runs is late (R159). -/
def lateSetPoint (c wait : Nat) (s : State) : State := if Tick.live s c then Eng.late s c wait else s

/-- CHS_ENABLE (R143). -/
def execChsEnable (ch : Nat) (s : State) : Host.Outcome State Fault Refusal := actOn ch 24 (Write.enable (D.iCHS + ch) D.CHS_ENABLE true) s

/-- CHS_DISABLE (R527). -/
def execChsDisable (ch : Nat) (s : State) : Host.Outcome State Fault Refusal := actOn ch 24 (Write.enable (D.iCHS + ch) D.CHS_ENABLE false) s

/-- STRIPE_DECISION (R180). -/
def execStripeDecision (ch : Nat) (s : State) : Host.Outcome State Fault Refusal := actOn ch 24 (fun s => Lend.decision s ch) s

/-- SEGMENT_MARK (R75). -/
def execSegmentMark (ch : Nat) (s : State) : Host.Outcome State Fault Refusal := actOn ch 24 (planIf (fun i => match i with | .mark .. => true | _ => false) ch) s

/-- SEGMENT_JUMP (R77). -/
def execSegmentJump (ch : Nat) (s : State) : Host.Outcome State Fault Refusal := actOn ch 24 (planIf (fun i => match i with | .jump .. => true | _ => false) ch) s

/-- SEGMENT_MARK_EXT (R78). -/
def execSegmentMarkExt (ch : Nat) (s : State) : Host.Outcome State Fault Refusal := actOn ch 24 (planIf (fun i => match i with | .markExt .. => true | _ => false) ch) s

/-- WAIT_TICKS (R89). -/
def execWaitTicks (ch : Nat) (s : State) : Host.Outcome State Fault Refusal := actOn ch 24 (planWaits ch) s

/-- PHASE_END (R146). -/
def execPhaseEnd (ch : Nat) (s : State) : Host.Outcome State Fault Refusal := actOn ch 24 (planAfter ch) s

/-- TRJ_LATE (R159). -/
def execTrjLate (ch wait : Nat) (s : State) : Host.Outcome State Fault Refusal := actOn ch 24 (lateSetPoint ch wait) s

/-- ENGINE_AT_REST (R156). -/
def execEngineAtRest (ch : Nat) (s : State) : Host.Outcome State Fault Refusal := actOn ch 24 (Att.atRest ch) s

/-- DRIFT_UPDATE (R165). -/
def execDriftUpdate (ch : Nat) (s : State) : Host.Outcome State Fault Refusal := actOn ch 24 (Att.drift ch) s

/-- FEEDBACK_CONSUME (R160). -/
def execFeedbackConsume (ch : Nat) (s : State) : Host.Outcome State Fault Refusal := actOn ch 24 (Att.fbConsume ch) s

/-- PLUME_CHECK (R185). -/
def execPlumeCheck (ch : Nat) (s : State) : Host.Outcome State Fault Refusal := actOn ch 24 (planCheck ch) s

/-- PLUME_HOLD_LONG (R188). -/
def execPlumeHoldLong (ch : Nat) (s : State) : Host.Outcome State Fault Refusal := actOn ch 24 (Eng.plumeLong ch) s

/-- REPLAN_COMPLETE (R192). -/
def execReplanComplete (s : State) : Host.Outcome State Fault Refusal := act Lend.replanOver s

/-- REACH_MAP_COMPLETE (R175). -/
def execReachMapComplete (s : State) : Host.Outcome State Fault Refusal := act Items.reachDone s

end Sys2Proof.Machine
end

