-- ==== Sys2Proof/Machine/CmdFaults.lean ====
section
/-!
DEFINITION. Faults, the Ledger, temperature and calibration (18_faults.md, 19_ledger.md, 20_temperature_calibration.md).
-/
namespace Sys2Proof.Machine

/-- A command of the fault collector over path 0 (R425, R430, R436). -/
def faultCommand (v : Int) (s : State) : State := Mbx.num 0 D.iFLT_CTRL D.FLT_CTRL_CMD v s

/-- A command of the Ledger over path 0 (R448, R452). -/
def ledgerCommand (v : Int) (s : State) : State := Mbx.num 0 D.iLDG_CTRL D.LDG_CTRL_CMD v s

/-- FAULT_COLLECT (R424). -/
def execFaultCollect (s : State) : Host.Outcome State Fault Refusal := act Flt.collect s

/-- ESCALATION (R431). -/
def execEscalation (src : Nat) (s : State) : Host.Outcome State Fault Refusal := act (Flt.escalate src) s

/-- RECOVERY (R434). -/
def execRecovery (src : Nat) (s : State) : Host.Outcome State Fault Refusal := act (Flt.recover src) s

/-- ERR_N_MIN_END (R437). -/
def execErrNMinEnd (s : State) : Host.Outcome State Fault Refusal := act Flt.minEnd s

/-- FLT_SRC_ACK (R430). -/
def execFltSrcAck (path : Nat) (s : State) : Host.Outcome State Fault Refusal := act (Mbx.num path D.iFLT_SRC D.FLT_SRC_CMD 1) s

/-- FLT_SRC_CLEAR (R436). -/
def execFltSrcClear (path : Nat) (s : State) : Host.Outcome State Fault Refusal := act (Mbx.num path D.iFLT_SRC D.FLT_SRC_CMD 2) s

/-- FLT_ACK_ACK (R438). -/
def execFltAckAck (src : Nat) (s : State) : Host.Outcome State Fault Refusal := actOn src 1024 (Bar0.write 0x100 (src + 0x10000)) s

/-- FLT_ACK_CLEAR (R438). -/
def execFltAckClear (src : Nat) (s : State) : Host.Outcome State Fault Refusal := actOn src 1024 (Bar0.write 0x100 (src + 0x20000)) s

/-- FLT_REARM (R425). -/
def execFltRearm (s : State) : Host.Outcome State Fault Refusal := act (faultCommand 1) s

/-- FLT_ACK_ALL (R430). -/
def execFltAckAll (s : State) : Host.Outcome State Fault Refusal := act (faultCommand 2) s

/-- FLT_CLEAR_ALL (R436). -/
def execFltClearAll (s : State) : Host.Outcome State Fault Refusal := act (faultCommand 3) s

/-- LDG_FREEZE (R452). -/
def execLdgFreeze (s : State) : Host.Outcome State Fault Refusal := act (ledgerCommand 1) s

/-- LDG_UNFREEZE (R452). -/
def execLdgUnfreeze (s : State) : Host.Outcome State Fault Refusal := act (ledgerCommand 2) s

/-- FREEZE_EXPIRED (R452). -/
def execFreezeExpired (s : State) : Host.Outcome State Fault Refusal := act Ldg.freezeExpired s

/-- LDG_MARK (R448). -/
def execLdgMark (s : State) : Host.Outcome State Fault Refusal := act (ledgerCommand 3) s

/-- LEDGER_CHECKPOINT (R451). -/
def execLedgerCheckpoint (s : State) : Host.Outcome State Fault Refusal := act Ldg.checkpointDue s

/-- SENSOR_READING (R460). -/
def execSensorReading (sensor count : Nat) (s : State) : Host.Outcome State Fault Refusal := actOn sensor 40 (Tmp.reading sensor count) s

/-- RATE_CHECK (R463). -/
def execRateCheck (s : State) : Host.Outcome State Fault Refusal := act Tmp.rateCheck s

/-- TMP_ACK_SHUTDOWN (R468). -/
def execTmpAckShutdown (s : State) : Host.Outcome State Fault Refusal := act (Mbx.num 0 D.iTMP D.TMP_CMD 1) s

/-- TMP_EXCLUDE_WRITE (R465). -/
def execTmpExcludeWrite (v : Nat) (s : State) : Host.Outcome State Fault Refusal := act (Mbx.num 0 D.iTMP D.TMP_EXCLUDE (v : Int)) s

/-- CAL_RUN (R470). -/
def execCalRun (s : State) : Host.Outcome State Fault Refusal := act (Mbx.num 0 D.iCAL D.CAL_CMD 1) s

/-- CAL_POINT_TIMEOUT (R469). -/
def execCalPointTimeout (entry : Nat) (s : State) : Host.Outcome State Fault Refusal := actOn entry 104 (Tmp.pointTimeout entry) s

/-- CAL_RUN_END (R470). -/
def execCalRunEnd (points : List (Int × Int)) (s : State) : Host.Outcome State Fault Refusal := act (fun s => Pwr.calEnd (Tmp.runEnd points s)) s

end Sys2Proof.Machine
end

