-- ==== Sys2Proof/Machine/CmdFeed.lean ====
section
/-!
DEFINITION. Contexts and their feeds (04_stream_contexts.md, 05_catalogue_sequencer.md).
-/
namespace Sys2Proof.Machine

/-- ITEM_ACCEPT (R94). -/
def execItemAccept (ctx : Nat) (units : List Byte) (s : State) : Host.Outcome State Fault Refusal := actOn ctx 96 (Feed.itemAccept ctx units) s

/-- WINDOW_WRITE (R111). -/
def execWindowWrite (offset : Nat) (data : List Byte) (s : State) : Host.Outcome State Fault Refusal := act (fun s => Feed.windowWrite s offset data) s

/-- CTX_DMA_DOORBELL (R117). -/
def execCtxDmaDoorbell (word : Nat) (s : State) : Host.Outcome State Fault Refusal := act (Bar0.write 0x40 word) s

/-- DMA_FETCH (R112). -/
def execDmaFetch (ctx : Nat) (desc data : List Byte) (err : Bool) (s : State) : Host.Outcome State Fault Refusal := actOn ctx 96 (fun s => Feed.dmaFetch s ctx desc data err) s

/-- CTX_ENABLE (R122). -/
def execCtxEnable (ctx : Nat) (s : State) : Host.Outcome State Fault Refusal := actOn ctx 96 (Write.enable (D.iCTX + ctx) D.CTX_CTRL true) s

/-- CTX_DISABLE (R122). -/
def execCtxDisable (ctx : Nat) (s : State) : Host.Outcome State Fault Refusal := actOn ctx 96 (Write.enable (D.iCTX + ctx) D.CTX_CTRL false) s

/-- CTX_FLUSH (R119). -/
def execCtxFlush (ctx : Nat) (s : State) : Host.Outcome State Fault Refusal := actOn ctx 96 (Mbx.num 0 (D.iCTX + ctx) D.CTX_CMD 1) s

/-- STRIPE_ACK (R106). -/
def execStripeAck (ch : Nat) (s : State) : Host.Outcome State Fault Refusal := actOn ch 24 (Feed.ackDue ch) s

/-- HEAD_LATE (R123). -/
def execHeadLate (ch ctx wait : Nat) (s : State) : Host.Outcome State Fault Refusal := actOn ch 24 (fun s => if ctx < 96 then Feed.headLate ch ctx wait s else s) s

/-- ITEMS_NOTICE (R118). -/
def execItemsNotice (ctx : Nat) (s : State) : Host.Outcome State Fault Refusal := actOn ctx 96 (Tick.owedNotice ctx) s

/-- NTC_LOST_READ (R117). -/
def execNtcLostRead (s : State) : Host.Outcome State Fault Refusal := act Bar0.lostRead s

end Sys2Proof.Machine
end

