-- ==== Sys2Proof/Machine/CmdGrid.lean ====
section
/-!
DEFINITION. Melt-pool loops and the Interlayer grid (08_meltpool_loop.md, 09_thermal_grid.md).
-/
namespace Sys2Proof.Machine

/-- A late deposit or a tile not written in time (R229, R231). -/
def lateOnGrid (deposit : Bool) (cell amount : Nat) (s : State) : State := if deposit then Grid.lateDeposit s cell amount else Grid.lateTile s

/-- A command of the grid over path 0 (R226, R238). -/
def gridCommand (v : Int) (s : State) : State := Mbx.num 0 D.iGRD_CFG D.GRD_CFG_CMD v s

/-- LOOP_SAMPLE_CONSUME (R205). -/
def execLoopSampleConsume (ch : Nat) (s : State) : Host.Outcome State Fault Refusal := actOn ch 24 (Mpl.consume ch) s

/-- MPL_RECLOSE (R218). -/
def execMplReclose (ch : Nat) (s : State) : Host.Outcome State Fault Refusal := actOn ch 24 (Mbx.num 0 (D.iMPL + ch) D.MPL_CMD 1) s

/-- MPL_RESET_INTEGRAL (R218). -/
def execMplResetIntegral (ch : Nat) (s : State) : Host.Outcome State Fault Refusal := actOn ch 24 (Mbx.num 0 (D.iMPL + ch) D.MPL_CMD 2) s

/-- SWEEP_START (R230). -/
def execSweepStart (s : State) : Host.Outcome State Fault Refusal := act Grid.sweepStart s

/-- TILE_SLOT (R231). -/
def execTileSlot (s : State) : Host.Outcome State Fault Refusal := act Grid.tileSlot s

/-- GRID_LATE (R231). -/
def execGridLate (deposit : Bool) (cell amount : Nat) (s : State) : Host.Outcome State Fault Refusal := act (lateOnGrid deposit cell amount) s

/-- LATE_TILE_WRITTEN (R231). -/
def execLateTileWritten (tile : Nat) (s : State) : Host.Outcome State Fault Refusal := act (fun s => Grid.lateWritten s tile) s

/-- GRD_RESET (R226). -/
def execGrdReset (s : State) : Host.Outcome State Fault Refusal := act (gridCommand 1) s

/-- GRD_SNAPSHOT_RAW (R238). -/
def execGrdSnapshotRaw (s : State) : Host.Outcome State Fault Refusal := act (gridCommand 2) s

/-- GRD_SNAPSHOT_FOLIO (R238). -/
def execGrdSnapshotFolio (s : State) : Host.Outcome State Fault Refusal := act (gridCommand 3) s

/-- GRD_RELEASE (R238). -/
def execGrdRelease (s : State) : Host.Outcome State Fault Refusal := act (gridCommand 4) s

/-- SNAPSHOT_CAPTURE_COMPLETE (R238). -/
def execSnapshotCaptureComplete (s : State) : Host.Outcome State Fault Refusal := act Fol.captureComplete s

end Sys2Proof.Machine
end

