-- ==== Sys2Proof/Machine/CmdHost.lean ====
section
/-!
DEFINITION. Access paths, the saved set and transactions (02_dictionary.md).
-/
namespace Sys2Proof.Machine

/-- A write through a host link (R47, R55, R117, R438). -/
def hostWrite (w : RegWrite) (s : State) : State :=
  match w with
  | .entry path idx sub (.num v) => Mbx.host path idx sub (.num v) s
  | .entry path idx sub (.str bs) => Mbx.host path idx sub (.bytes (Blob.ofList bs)) s
  | .bar0 offset value => Bar0.write offset value s

/-- OPEN (R41). -/
def execDdpOpen (dg : Datagram) (s : State) : Host.Outcome State Fault Refusal := act (Mbx.receive dg) s

/-- CLOSE (R42). -/
def execClose (dg : Datagram) (s : State) : Host.Outcome State Fault Refusal := act (Mbx.receive dg) s

/-- KEEPALIVE (R42). -/
def execKeepalive (dg : Datagram) (s : State) : Host.Outcome State Fault Refusal := act (Mbx.receive dg) s

/-- READ (R43). -/
def execRead (dg : Datagram) (s : State) : Host.Outcome State Fault Refusal := act (Mbx.receive dg) s

/-- WRITE (R43). -/
def execWrite (dg : Datagram) (s : State) : Host.Outcome State Fault Refusal := act (Mbx.receive dg) s

/-- BLOB_READ (R45). -/
def execBlobRead (dg : Datagram) (s : State) : Host.Outcome State Fault Refusal := act (Mbx.receive dg) s

/-- BLOB_WRITE (R45). -/
def execBlobWrite (dg : Datagram) (s : State) : Host.Outcome State Fault Refusal := act (Mbx.receive dg) s

/-- BLOB_END (R45). -/
def execBlobEnd (dg : Datagram) (s : State) : Host.Outcome State Fault Refusal := act (Mbx.receive dg) s

/-- BAD_FRAME_DROP (R37). -/
def execBadFrameDrop (dg : Datagram) (s : State) : Host.Outcome State Fault Refusal := act (Mbx.receive dg) s

/-- SESSION_TIMEOUT (R42). -/
def execSessionTimeout (path : Nat) (s : State) : Host.Outcome State Fault Refusal := act (fun s => if 1 ≤ path ∧ path ≤ 4 then Ddp.lost path s else s) s

/-- MBX_DOORBELL (R48). -/
def execMbxDoorbell (word : Nat) (s : State) : Host.Outcome State Fault Refusal := act (Mbx.doorbell word) s

/-- MBX_STATUS_READ (R47). -/
def execMbxStatusRead (s : State) : Host.Outcome State Fault Refusal := act Mbx.statusRead s

/-- REGISTER_WRITE (R55). -/
def execRegisterWrite (w : RegWrite) (s : State) : Host.Outcome State Fault Refusal := act (hostWrite w) s

/-- CFG_SAVE (R53). -/
def execCfgSave (s : State) : Host.Outcome State Fault Refusal := act (Mbx.num 0 D.iDEV_CFG D.DEV_CFG_CMD 1) s

/-- CFG_SAVE_COMPLETE (R53). -/
def execCfgSaveComplete (ok : Bool) (s : State) : Host.Outcome State Fault Refusal := act (Saved.saveEnd ok) s

/-- CFG_ERASE (R53). -/
def execCfgErase (s : State) : Host.Outcome State Fault Refusal := act (Mbx.num 0 D.iDEV_CFG D.DEV_CFG_CMD 2) s

/-- TXN_BEGIN (R55). -/
def execTxnBegin (path : Nat) (s : State) : Host.Outcome State Fault Refusal := act (Mbx.num path D.iTXN_CTRL D.TXN_CTRL_CMD 1) s

/-- TXN_COMMIT (R59). -/
def execTxnCommit (path : Nat) (s : State) : Host.Outcome State Fault Refusal := act (Mbx.num path D.iTXN_CTRL D.TXN_CTRL_CMD 2) s

/-- TXN_ROLLBACK (R63). -/
def execTxnRollback (path : Nat) (s : State) : Host.Outcome State Fault Refusal := act (Mbx.num path D.iTXN_CTRL D.TXN_CTRL_CMD 3) s

/-- TXN_TIMEOUT (R64). -/
def execTxnTimeout (path : Nat) (s : State) : Host.Outcome State Fault Refusal := actOn path 5 (Write.timeout path) s

/-- TXN_COMMIT_COPY_END (R59). -/
def execTxnCommitCopyEnd (path : Nat) (s : State) : Host.Outcome State Fault Refusal := actOn path 5 (Write.copyEnd path) s

end Sys2Proof.Machine
end

