-- ==== Sys2Proof/Machine/CmdImaging.lean ====
section
/-!
DEFINITION. Cameras, features, lamps and Folio (12_reading_room_imaging.md, 13_illumination.md, 14_folio_codec.md).
-/
namespace Sys2Proof.Machine

/-- ARMED_TRIG (R301). -/
def execArmedTrig (port : Nat) (s : State) : Host.Outcome State Fault Refusal := actOn port 4 (Tick.armedTrig port) s

/-- FVAL_RISE (R303). -/
def execFvalRise (port : Nat) (s : State) : Host.Outcome State Fault Refusal := actOn port 4 (Img.fvalRise port) s

/-- FVAL_FALL (R303). -/
def execFvalFall (port : Nat) (rows : List (List Nat)) (lost : List (Nat × Nat)) (s : State) : Host.Outcome State Fault Refusal := actOn port 4 (Img.fvalFall port rows lost) s

/-- FRAME_TIMEOUT (R303). -/
def execFrameTimeout (port : Nat) (rows : List (List Nat)) (lost : List (Nat × Nat)) (s : State) : Host.Outcome State Fault Refusal := actOn port 4 (Img.frameTimeout port rows lost) s

/-- FRAME_CLOSE (R307). -/
def execFrameClose (port : Nat) (s : State) : Host.Outcome State Fault Refusal := actOn port 4 (Img.frameClose port) s

/-- MPF_HANDOVER (R313). -/
def execMpfHandover (ch : Nat) (s : State) : Host.Outcome State Fault Refusal := actOn ch 24 (fun s => Feat.handOvers ch s.tick s) s

/-- LAMP_DIAGNOSIS (R325). -/
def execLampDiagnosis (lamp vSink current : Nat) (s : State) : Host.Outcome State Fault Refusal := actOn lamp 16 (Ilm.diagnose lamp vSink current) s

/-- LAMP_PULSE_END (R323). -/
def execLampPulseEnd (lamp : Nat) (s : State) : Host.Outcome State Fault Refusal := actOn lamp 16 (Ilm.pulseEnd lamp) s

/-- LAMP_PROBE (R326). -/
def execLampProbe (lamp : Nat) (s : State) : Host.Outcome State Fault Refusal := actOn lamp 16 (Ilm.probe lamp) s

/-- ILM_APPLY (R324). -/
def execIlmApply (s : State) : Host.Outcome State Fault Refusal := act (Mbx.num 0 D.iILMG D.ILMG_CMD 1) s

/-- ILM_PROBE (R326). -/
def execIlmProbe (s : State) : Host.Outcome State Fault Refusal := act (Mbx.num 0 D.iILMG D.ILMG_CMD 2) s

/-- LAMP_ENABLE (R327). -/
def execLampEnable (lamp : Nat) (s : State) : Host.Outcome State Fault Refusal := actOn lamp 16 (Write.enable (D.iILM + lamp) D.ILM_ENABLE true) s

/-- LAMP_DISABLE (R327). -/
def execLampDisable (lamp : Nat) (s : State) : Host.Outcome State Fault Refusal := actOn lamp 16 (Write.enable (D.iILM + lamp) D.ILM_ENABLE false) s

/-- FOL_START (R338). -/
def execFolStart (slot : Nat) (s : State) : Host.Outcome State Fault Refusal := actOn slot 4 (Mbx.num 0 (D.iFOLJ + slot) D.FOLJ_CMD 1) s

/-- FOL_CANCEL (R343). -/
def execFolCancel (slot : Nat) (s : State) : Host.Outcome State Fault Refusal := actOn slot 4 (Mbx.num 0 (D.iFOLJ + slot) D.FOLJ_CMD 2) s

/-- FOL_RELEASE (R341). -/
def execFolRelease (slot : Nat) (s : State) : Host.Outcome State Fault Refusal := actOn slot 4 (Mbx.num 0 (D.iFOLJ + slot) D.FOLJ_CMD 3) s

/-- FOLIO_JOB_END (R334). -/
def execFolioJobEnd (s : State) : Host.Outcome State Fault Refusal := act Fol.jobEnd s

/-- FOLIO_WAIT_EXPIRY (R340). -/
def execFolioWaitExpiry (s : State) : Host.Outcome State Fault Refusal := act Fol.waitExpiry s

/-- FOLIO_DISABLE (R343). -/
def execFolioDisable (s : State) : Host.Outcome State Fault Refusal := act (Write.enable D.iFOL D.FOL_ENABLE false) s

/-- FOLIO_ENABLE (R343). -/
def execFolioEnable (s : State) : Host.Outcome State Fault Refusal := act (Write.enable D.iFOL D.FOL_ENABLE true) s

end Sys2Proof.Machine
end

