-- ==== Sys2Proof/Machine/CmdLanes.lean ====
section
/-!
DEFINITION. Lanes and what hangs on them (10_akzi_lanes.md, 11_head_source_protocols.md).
-/
namespace Sys2Proof.Machine

/-- An ingress FIFO overflows (R19): at the source of a lane or of a camera port; of the network no rule names the kind and the address, which are
free values (log entry 7). -/
def ingressOverflow (src blocks : Nat) (s : State) : State :=
  if 0xA0 ≤ src ∧ src < 0xD0 then Lnk.fifoOverflow (src - 0xA0) blocks s
  else if 0x100 ≤ src ∧ src < 0x104 then Img.overflow (src - 0x100) s
  else if src = 0x180 then State.draw (State.raiseOpen s src (9 + State.freeVal s % 54))
  else s

/-- LNK_ENABLE (R267). -/
def execLnkEnable (lane : Nat) (s : State) : Host.Outcome State Fault Refusal := actOn lane 48 (Write.enable (D.iLNK + lane) D.LNK_CTRL true) s

/-- LNK_DISABLE (R267). -/
def execLnkDisable (lane : Nat) (s : State) : Host.Outcome State Fault Refusal := actOn lane 48 (Write.enable (D.iLNK + lane) D.LNK_CTRL false) s

/-- LNK_RETRAIN (R267). -/
def execLnkRetrain (lane : Nat) (s : State) : Host.Outcome State Fault Refusal := actOn lane 48 (Mbx.num 0 (D.iLNK + lane) D.LNK_CMD 1) s

/-- LNK_RELEARN (R266). -/
def execLnkRelearn (lane : Nat) (s : State) : Host.Outcome State Fault Refusal := actOn lane 48 (Mbx.num 0 (D.iLNK + lane) D.LNK_CMD 2) s

/-- MARKER_LOCK (R259). -/
def execMarkerLock (lane serial : Nat) (s : State) : Host.Outcome State Fault Refusal := actOn lane 48 (Lnk.markerLock lane serial) s

/-- CAP_BLOCK (R261). -/
def execCapBlock (lane : Nat) (block : List Byte) (s : State) : Host.Outcome State Fault Refusal := actOn lane 48 (Lnk.capBlock lane block) s

/-- STEP_ECHO (R259). -/
def execStepEcho (lane : Nat) (s : State) : Host.Outcome State Fault Refusal := actOn lane 48 (Lnk.stepEcho lane) s

/-- TRAINING_END (R259). -/
def execTrainingEnd (lane eq rtd : Nat) (s : State) : Host.Outcome State Fault Refusal := actOn lane 48 (Lnk.trainingEnd lane eq rtd) s

/-- ERROR_TEST_END (R259). -/
def execErrorTestEnd (lane own : Nat) (farPass : Bool) (rtd : Nat) (s : State) : Host.Outcome State Fault Refusal := actOn lane 48 (Lnk.errorTestEnd lane own farPass rtd) s

/-- LANE_LOST (R262). -/
def execLaneLost (lane cause : Nat) (s : State) : Host.Outcome State Fault Refusal := actOn lane 48 (Lnk.lost lane cause) s

/-- LANE_FREEZE (R255). -/
def execLaneFreeze (lane : Nat) (s : State) : Host.Outcome State Fault Refusal := actOn lane 48 (Lnk.freeze lane) s

/-- REFRESH_BURST (R257). -/
def execRefreshBurst (lane : Nat) (s : State) : Host.Outcome State Fault Refusal := actOn lane 48 (Lnk.burst lane) s

/-- DRIFT_RELEARN (R266). -/
def execDriftRelearn (lane eq : Nat) (s : State) : Host.Outcome State Fault Refusal := actOn lane 48 (Lnk.drift lane eq) s

/-- INGRESS_FIFO_OVERFLOW (R19). -/
def execIngressFifoOverflow (src blocks : Nat) (s : State) : Host.Outcome State Fault Refusal := act (ingressOverflow src blocks) s

/-- UPSTREAM_FRAME (R274). -/
def execUpstreamFrame (lane : Nat) (frame : List Byte) (bad : Bool) (s : State) : Host.Outcome State Fault Refusal := actOn lane 48 (Att.upstream lane (if bad then [] else frame) bad.toNat) s

/-- TILE_HDR (R282). -/
def execTileHdr (lane : Nat) (frame : List Byte) (s : State) : Host.Outcome State Fault Refusal := actOn lane 48 (Att.tileHdr lane frame) s

/-- TILE_DATA (R281). -/
def execTileData (lane : Nat) (frame : List Byte) (s : State) : Host.Outcome State Fault Refusal := actOn lane 48 (Att.tileChunk lane frame) s

/-- SOURCE_STATUS_CONSUME (R288). -/
def execSourceStatusConsume (ch : Nat) (s : State) : Host.Outcome State Fault Refusal := actOn ch 24 (Att.stConsume ch) s

/-- XY_STATUS_FRAME (R291). -/
def execXyStatusFrame (port bits : Nat) (s : State) : Host.Outcome State Fault Refusal := actOn port 8 (Att.xyStatus port bits) s

end Sys2Proof.Machine
end

