-- ==== Sys2Proof/Machine/CmdNetwork.lean ====
section
/-!
DEFINITION. Network and time (17_network_time.md).
-/
namespace Sys2Proof.Machine

/-- ARP_REPLY (R405). -/
def execArpReply (port : Nat) (frame : List Byte) (s : State) : Host.Outcome State Fault Refusal := actOn port 2 (Net.arp port frame) s

/-- ICMP_ECHO (R405). -/
def execIcmpEcho (port : Nat) (frame : List Byte) (s : State) : Host.Outcome State Fault Refusal := actOn port 2 (Net.echo port frame) s

/-- PTP_RECEIVE (R412). -/
def execPtpReceive (port offset : Nat) (frame : List Byte) (s : State) : Host.Outcome State Fault Refusal := actOn port 2 (Net.ptp port offset frame) s

/-- RX_FRAME_DROP (R405). -/
def execRxFrameDrop (port : Nat) (error : Bool) (s : State) : Host.Outcome State Fault Refusal := actOn port 2 (Net.drop port error) s

/-- NETCLK_WRITE (R407). -/
def execNetclkWrite (v : Nat) (s : State) : Host.Outcome State Fault Refusal := act (Mbx.num 0 D.iNET_CLK D.NET_CLK_NETCLK v) s

/-- SERVO_OFFSET (R408). -/
def execServoOffset (o : Int) (s : State) : Host.Outcome State Fault Refusal := act (Mbx.num 0 D.iNET_CLK D.NET_CLK_OFFSET o) s

/-- LAUNCH_EVALUATE (R410). -/
def execLaunchEvaluate (port : Nat) (s : State) : Host.Outcome State Fault Refusal := actOn port 2 (Net.evaluate port) s

/-- TX_FRAME_SENT (R411). -/
def execTxFrameSent (port offset : Nat) (s : State) : Host.Outcome State Fault Refusal := actOn port 2 (Net.sent port offset) s

/-- LINK_DOWN (R411). -/
def execLinkDown (port : Nat) (s : State) : Host.Outcome State Fault Refusal := actOn port 2 (Net.linkDown port) s

/-- LINK_UP (R421). -/
def execLinkUp (port : Nat) (remoteFault : Bool) (s : State) : Host.Outcome State Fault Refusal := actOn port 2 (Net.linkUp port remoteFault) s

/-- PHASE_MEASUREMENT (R414). -/
def execPhaseMeasurement (s : State) : Host.Outcome State Fault Refusal := act Net.measure s

/-- TSYNC_ENABLE (R415). -/
def execTsyncEnable (on : Bool) (s : State) : Host.Outcome State Fault Refusal := act (Write.enable D.iNET_TSYNC D.NET_TSYNC_CTRL on) s

end Sys2Proof.Machine
end

