-- ==== Sys2Proof/Machine/CmdPower.lean ====
section
/-!
DEFINITION. The commands of power, hot plug and start-up (22_power_hotplug_startup.md), of the host links and of clocks and memories.
-/
namespace Sys2Proof.Machine

/-- ENABLE_RISE (R498). -/
def execEnableRise (s : State) : Host.Outcome State Fault Refusal := run Pwr.enableRise s

/-- ENABLE_FALL (R498). -/
def execEnableFall (s : State) : Host.Outcome State Fault Refusal := always Pwr.enableFall s

/-- ENABLE_GLITCH (R498). -/
def execEnableGlitch (s : State) : Host.Outcome State Fault Refusal := always Pwr.enableGlitch s

/-- THERMAL_EXIT_CHECK (R467). -/
def execThermalExitCheck (readings : List Int) (s : State) : Host.Outcome State Fault Refusal := run (Pwr.exitCheck readings) s

/-- EJECT_REQ (R502). -/
def execEjectReq (s : State) : Host.Outcome State Fault Refusal := always Pwr.ejectReq s

/-- SAFE_TO_REMOVE (R502). -/
def execSafeToRemove (ckptDone : Bool) (ms : Nat) (s : State) : Host.Outcome State Fault Refusal := always (Pwr.safeToRemove ckptDone ms) s

/-- PRECHARGE_START (R495). -/
def execPrechargeStart (s : State) : Host.Outcome State Fault Refusal := always Pwr.prechargeStart s

/-- STANDBY_START (R495). -/
def execStandbyStart (s : State) : Host.Outcome State Fault Refusal := run Pwr.standbyStart s

/-- MAIN_SWITCH_CLOSE (R495). -/
def execMainSwitchClose (s : State) : Host.Outcome State Fault Refusal := run Pwr.mainClose s

/-- PRECHARGE_FAIL (R495). -/
def execPrechargeFail (s : State) : Host.Outcome State Fault Refusal := always Pwr.prechargeFail s

/-- INPUT_LOSS (R504). -/
def execInputLoss (cause : LossCause) (s : State) : Host.Outcome State Fault Refusal := always (Pwr.inputLoss cause) s

/-- INPUT_RETURN (R505). -/
def execInputReturn (enableHigh : Bool) (s : State) : Host.Outcome State Fault Refusal := always (Pwr.inputReturn enableHigh) s

/-- POWER_MEASUREMENT (R494). -/
def execPowerMeasurement (mv ma mw : Nat) (s : State) : Host.Outcome State Fault Refusal := always (Pwr.measure mv ma mw) s

/-- EJECT_LATCH_CLOSED (R490). -/
def execEjectLatchClosed (s : State) : Host.Outcome State Fault Refusal := always Pwr.latchClosed s

/-- HOLD_UP_EXHAUSTED (R504). -/
def execHoldUpExhausted (s : State) : Host.Outcome State Fault Refusal := always Pwr.holdUpOver s

/-- START_UP_STEP_COMPLETE (R499). -/
def execStartUpStepComplete (r : StepEnd) (s : State) : Host.Outcome State Fault Refusal := act (Pwr.stepEnd r) s

/-- FW_STORE_COMPLETE (R52). -/
def execFwStoreComplete (result : FwResult) (s : State) : Host.Outcome State Fault Refusal := act (Pwr.fwStored result) s

/-- PERST_N (R506). -/
def execPerstN (s : State) : Host.Outcome State Fault Refusal := act Mbx.linkReset s

/-- PCIE_LINK_DOWN (R49). -/
def execPcieLinkDown (s : State) : Host.Outcome State Fault Refusal := act Mbx.linkReset s

/-- FUNCTION_LEVEL_RESET (R49). -/
def execFunctionLevelReset (s : State) : Host.Outcome State Fault Refusal := act Mbx.linkReset s

/-- REFCLK_LOST (R516). -/
def execRefclkLost (s : State) : Host.Outcome State Fault Refusal := act (Pwr.lockLost 2) s

/-- PLL_UNLOCK (R20). -/
def execPllUnlock (s : State) : Host.Outcome State Fault Refusal := act (Pwr.lockLost 1) s

/-- DRAM_CORRECTED (R443). -/
def execDramCorrected (addr : Nat) (s : State) : Host.Outcome State Fault Refusal := act (Flt.corrected 0x1D0 addr) s

/-- DRAM_UNCORR (R443). -/
def execDramUncorr (addr : Nat) (s : State) : Host.Outcome State Fault Refusal := act (fun s => State.raise s 0x1D0 2 addr) s

/-- SRAM_CORRECTED (R443). -/
def execSramCorrected (addr : Nat) (s : State) : Host.Outcome State Fault Refusal := act (Flt.corrected 0x1D8 addr) s

/-- SRAM_UNCORR (R443). -/
def execSramUncorr (addr : Nat) (s : State) : Host.Outcome State Fault Refusal := act (fun s => State.raise s 0x1D8 2 addr) s

end Sys2Proof.Machine
end

