-- ==== Sys2Proof/Machine/CmdStore.lean ====
section
/-!
DEFINITION. Stacks (15_stacks_job_store.md).
-/
namespace Sys2Proof.Machine

/-- A command of Stacks over a path (R364, R365). -/
def storeCommand (path : Nat) (v : Int) (s : State) : State := Mbx.num path D.iSTK_CTRL D.STK_CTRL_CMD v s

/-- STK_MOUNT (R364). -/
def execStkMount (s : State) : Host.Outcome State Fault Refusal := act (storeCommand 0 1) s

/-- MOUNT_COMPLETE (R363). -/
def execMountComplete (r : MountEnd) (s : State) : Host.Outcome State Fault Refusal := act (fun s => Pwr.mountEnd (Stk.mountComplete r s)) s

/-- STK_UNMOUNT (R364). -/
def execStkUnmount (s : State) : Host.Outcome State Fault Refusal := act (storeCommand 0 2) s

/-- STK_FORMAT (R350). -/
def execStkFormat (s : State) : Host.Outcome State Fault Refusal := act (storeCommand 0 3) s

/-- STK_DELETE (R352). -/
def execStkDelete (path : Nat) (s : State) : Host.Outcome State Fault Refusal := act (storeCommand path 4) s

/-- OBJECT_COMMIT (R352). -/
def execObjectCommit (which : Nat) (s : State) : Host.Outcome State Fault Refusal := act (Stk.objectCommit which) s

/-- STAGING_READ_COMPLETE (R355). -/
def execStagingReadComplete (r : StageRead) (s : State) : Host.Outcome State Fault Refusal := act (Stk.stageRead r) s

/-- SUSPEND_RESUME (R359). -/
def execSuspendResume (ch target : Nat) (s : State) : Host.Outcome State Fault Refusal := actOn ch 8 (Stk.suspendResume ch target) s

/-- PROGRAM_FAIL (R360). -/
def execProgramFail (ch block : Nat) (s : State) : Host.Outcome State Fault Refusal := actOn ch 8 (Stk.retire 1 ch block) s

/-- ERASE_FAIL (R360). -/
def execEraseFail (ch block : Nat) (s : State) : Host.Outcome State Fault Refusal := actOn ch 8 (Stk.retire 2 ch block) s

/-- TARGET_TIMEOUT (R370). -/
def execTargetTimeout (ch target block : Nat) (s : State) : Host.Outcome State Fault Refusal := actOn ch 8 (Stk.targetTimeout ch target block) s

/-- RETENTION_AGE (R360). -/
def execRetentionAge (temps : List (Option Int)) (done : List CareWork) (s : State) : Host.Outcome State Fault Refusal := act (fun s => Stk.retentionAge temps done (Tmp.tm s) s) s

end Sys2Proof.Machine
end

