-- ==== Sys2Proof/Machine/Dispatch.lean ====
section
/-!
DEFINITION. What each command does: one arm per constructor, each a call of the command's meaning.
-/
namespace Sys2Proof.Machine

def exec (i : Instr) (s : State) : Host.Outcome State Fault Refusal :=
  match i with
  | .enableRise => Sys2Proof.Machine.execEnableRise s
  | .enableFall => Sys2Proof.Machine.execEnableFall s
  | .enableGlitch => Sys2Proof.Machine.execEnableGlitch s
  | .thermalExitCheck readings => Sys2Proof.Machine.execThermalExitCheck readings s
  | .ejectReq => Sys2Proof.Machine.execEjectReq s
  | .safeToRemove ckptDone ms => Sys2Proof.Machine.execSafeToRemove ckptDone ms s
  | .prechargeStart => Sys2Proof.Machine.execPrechargeStart s
  | .standbyStart => Sys2Proof.Machine.execStandbyStart s
  | .mainSwitchClose => Sys2Proof.Machine.execMainSwitchClose s
  | .prechargeFail => Sys2Proof.Machine.execPrechargeFail s
  | .inputLoss cause => Sys2Proof.Machine.execInputLoss cause s
  | .inputReturn enableHigh => Sys2Proof.Machine.execInputReturn enableHigh s
  | .powerMeasurement mv ma mw => Sys2Proof.Machine.execPowerMeasurement mv ma mw s
  | .perstN => Sys2Proof.Machine.execPerstN s
  | .pcieLinkDown => Sys2Proof.Machine.execPcieLinkDown s
  | .functionLevelReset => Sys2Proof.Machine.execFunctionLevelReset s
  | .refclkLost => Sys2Proof.Machine.execRefclkLost s
  | .pllUnlock => Sys2Proof.Machine.execPllUnlock s
  | .dramCorrected addr => Sys2Proof.Machine.execDramCorrected addr s
  | .dramUncorr addr => Sys2Proof.Machine.execDramUncorr addr s
  | .sramCorrected addr => Sys2Proof.Machine.execSramCorrected addr s
  | .sramUncorr addr => Sys2Proof.Machine.execSramUncorr addr s
  | .tick inp => Sys2Proof.Machine.execTick inp s
  | .laserInterlockAssert => Sys2Proof.Machine.execLaserInterlockAssert s
  | .interlockRelease => Sys2Proof.Machine.execInterlockRelease s
  | .goReady => Sys2Proof.Machine.execGoReady s
  | .goService => Sys2Proof.Machine.execGoService s
  | .startBuild => Sys2Proof.Machine.execStartBuild s
  | .pause => Sys2Proof.Machine.execPause s
  | .resume => Sys2Proof.Machine.execResume s
  | .stop => Sys2Proof.Machine.execStop s
  | .safe => Sys2Proof.Machine.execSafe s
  | .ddpOpen dg => Sys2Proof.Machine.execDdpOpen dg s
  | .close dg => Sys2Proof.Machine.execClose dg s
  | .keepalive dg => Sys2Proof.Machine.execKeepalive dg s
  | .sessionTimeout path => Sys2Proof.Machine.execSessionTimeout path s
  | .read dg => Sys2Proof.Machine.execRead dg s
  | .write dg => Sys2Proof.Machine.execWrite dg s
  | .blobRead dg => Sys2Proof.Machine.execBlobRead dg s
  | .blobWrite dg => Sys2Proof.Machine.execBlobWrite dg s
  | .blobEnd dg => Sys2Proof.Machine.execBlobEnd dg s
  | .badFrameDrop dg => Sys2Proof.Machine.execBadFrameDrop dg s
  | .mbxDoorbell word => Sys2Proof.Machine.execMbxDoorbell word s
  | .mbxStatusRead => Sys2Proof.Machine.execMbxStatusRead s
  | .registerWrite w => Sys2Proof.Machine.execRegisterWrite w s
  | .cfgSave => Sys2Proof.Machine.execCfgSave s
  | .cfgSaveComplete ok => Sys2Proof.Machine.execCfgSaveComplete ok s
  | .cfgErase => Sys2Proof.Machine.execCfgErase s
  | .txnBegin path => Sys2Proof.Machine.execTxnBegin path s
  | .txnCommit path => Sys2Proof.Machine.execTxnCommit path s
  | .txnRollback path => Sys2Proof.Machine.execTxnRollback path s
  | .txnTimeout path => Sys2Proof.Machine.execTxnTimeout path s
  | .itemAccept ctx units => Sys2Proof.Machine.execItemAccept ctx units s
  | .windowWrite offset data => Sys2Proof.Machine.execWindowWrite offset data s
  | .ctxDmaDoorbell word => Sys2Proof.Machine.execCtxDmaDoorbell word s
  | .dmaFetch ctx desc data err => Sys2Proof.Machine.execDmaFetch ctx desc data err s
  | .ctxEnable ctx => Sys2Proof.Machine.execCtxEnable ctx s
  | .ctxDisable ctx => Sys2Proof.Machine.execCtxDisable ctx s
  | .ctxFlush ctx => Sys2Proof.Machine.execCtxFlush ctx s
  | .stripeAck ch => Sys2Proof.Machine.execStripeAck ch s
  | .headLate ch ctx wait => Sys2Proof.Machine.execHeadLate ch ctx wait s
  | .itemsNotice ctx => Sys2Proof.Machine.execItemsNotice ctx s
  | .ntcLostRead => Sys2Proof.Machine.execNtcLostRead s
  | .startExposure mask => Sys2Proof.Machine.execStartExposure mask s
  | .waitExposure layer mask timeout => Sys2Proof.Machine.execWaitExposure layer mask timeout s
  | .axisMove axis relative target speed accel => Sys2Proof.Machine.execAxisMove axis relative target speed accel s
  | .axisWait mask timeout => Sys2Proof.Machine.execAxisWait mask timeout s
  | .gearSet axis enc disengage num den => Sys2Proof.Machine.execGearSet axis enc disengage num den s
  | .capture port armed wait folio => Sys2Proof.Machine.execCapture port armed wait folio s
  | .strobe port mask => Sys2Proof.Machine.execStrobe port mask s
  | .gridSnapshot folio wait => Sys2Proof.Machine.execGridSnapshot folio wait s
  | .storeObject kind wait port => Sys2Proof.Machine.execStoreObject kind wait port s
  | .catWaitTicks count => Sys2Proof.Machine.execCatWaitTicks count s
  | .waitInput source level edge timeout => Sys2Proof.Machine.execWaitInput source level edge timeout s
  | .applyTxn => Sys2Proof.Machine.execApplyTxn s
  | .loop level count target => Sys2Proof.Machine.execLoop level count target s
  | .jump target => Sys2Proof.Machine.execJump target s
  | .branchFlag flag sense target => Sys2Proof.Machine.execBranchFlag flag sense target s
  | .halt => Sys2Proof.Machine.execHalt s
  | .waitStepComplete => Sys2Proof.Machine.execWaitStepComplete s
  | .waitTimeout => Sys2Proof.Machine.execWaitTimeout s
  | .layerBoundary => Sys2Proof.Machine.execLayerBoundary s
  | .chsEnable ch => Sys2Proof.Machine.execChsEnable ch s
  | .chsDisable ch => Sys2Proof.Machine.execChsDisable ch s
  | .stripeDecision ch => Sys2Proof.Machine.execStripeDecision ch s
  | .segmentMark ch => Sys2Proof.Machine.execSegmentMark ch s
  | .segmentJump ch => Sys2Proof.Machine.execSegmentJump ch s
  | .segmentMarkExt ch => Sys2Proof.Machine.execSegmentMarkExt ch s
  | .waitTicks ch => Sys2Proof.Machine.execWaitTicks ch s
  | .phaseEnd ch => Sys2Proof.Machine.execPhaseEnd ch s
  | .trjLate ch wait => Sys2Proof.Machine.execTrjLate ch wait s
  | .engineAtRest ch => Sys2Proof.Machine.execEngineAtRest ch s
  | .driftUpdate ch => Sys2Proof.Machine.execDriftUpdate ch s
  | .feedbackConsume ch => Sys2Proof.Machine.execFeedbackConsume ch s
  | .plumeCheck ch => Sys2Proof.Machine.execPlumeCheck ch s
  | .plumeHoldLong ch => Sys2Proof.Machine.execPlumeHoldLong ch s
  | .replanComplete => Sys2Proof.Machine.execReplanComplete s
  | .reachMapComplete => Sys2Proof.Machine.execReachMapComplete s
  | .loopSampleConsume ch => Sys2Proof.Machine.execLoopSampleConsume ch s
  | .mplReclose ch => Sys2Proof.Machine.execMplReclose ch s
  | .mplResetIntegral ch => Sys2Proof.Machine.execMplResetIntegral ch s
  | .sweepStart => Sys2Proof.Machine.execSweepStart s
  | .tileSlot => Sys2Proof.Machine.execTileSlot s
  | .gridLate deposit cell amount => Sys2Proof.Machine.execGridLate deposit cell amount s
  | .grdReset => Sys2Proof.Machine.execGrdReset s
  | .grdSnapshotRaw => Sys2Proof.Machine.execGrdSnapshotRaw s
  | .grdSnapshotFolio => Sys2Proof.Machine.execGrdSnapshotFolio s
  | .grdRelease => Sys2Proof.Machine.execGrdRelease s
  | .snapshotCaptureComplete => Sys2Proof.Machine.execSnapshotCaptureComplete s
  | .lnkEnable lane => Sys2Proof.Machine.execLnkEnable lane s
  | .lnkDisable lane => Sys2Proof.Machine.execLnkDisable lane s
  | .lnkRetrain lane => Sys2Proof.Machine.execLnkRetrain lane s
  | .lnkRelearn lane => Sys2Proof.Machine.execLnkRelearn lane s
  | .markerLock lane serial => Sys2Proof.Machine.execMarkerLock lane serial s
  | .capBlock lane block => Sys2Proof.Machine.execCapBlock lane block s
  | .stepEcho lane => Sys2Proof.Machine.execStepEcho lane s
  | .trainingEnd lane eq rtd => Sys2Proof.Machine.execTrainingEnd lane eq rtd s
  | .errorTestEnd lane own farPass rtd => Sys2Proof.Machine.execErrorTestEnd lane own farPass rtd s
  | .laneLost lane cause => Sys2Proof.Machine.execLaneLost lane cause s
  | .laneFreeze lane => Sys2Proof.Machine.execLaneFreeze lane s
  | .refreshBurst lane => Sys2Proof.Machine.execRefreshBurst lane s
  | .driftRelearn lane eq => Sys2Proof.Machine.execDriftRelearn lane eq s
  | .ingressFifoOverflow src blocks => Sys2Proof.Machine.execIngressFifoOverflow src blocks s
  | .upstreamFrame lane frame bad => Sys2Proof.Machine.execUpstreamFrame lane frame bad s
  | .tileHdr lane frame => Sys2Proof.Machine.execTileHdr lane frame s
  | .tileData lane frame => Sys2Proof.Machine.execTileData lane frame s
  | .sourceStatusConsume ch => Sys2Proof.Machine.execSourceStatusConsume ch s
  | .xyStatusFrame port bits => Sys2Proof.Machine.execXyStatusFrame port bits s
  | .armedTrig port => Sys2Proof.Machine.execArmedTrig port s
  | .fvalRise port => Sys2Proof.Machine.execFvalRise port s
  | .fvalFall port rows lost => Sys2Proof.Machine.execFvalFall port rows lost s
  | .frameTimeout port rows lost => Sys2Proof.Machine.execFrameTimeout port rows lost s
  | .frameClose port => Sys2Proof.Machine.execFrameClose port s
  | .mpfHandover ch => Sys2Proof.Machine.execMpfHandover ch s
  | .lampDiagnosis lamp vSink current => Sys2Proof.Machine.execLampDiagnosis lamp vSink current s
  | .lampPulseEnd lamp => Sys2Proof.Machine.execLampPulseEnd lamp s
  | .lampProbe lamp => Sys2Proof.Machine.execLampProbe lamp s
  | .ilmApply => Sys2Proof.Machine.execIlmApply s
  | .ilmProbe => Sys2Proof.Machine.execIlmProbe s
  | .lampEnable lamp => Sys2Proof.Machine.execLampEnable lamp s
  | .lampDisable lamp => Sys2Proof.Machine.execLampDisable lamp s
  | .folStart slot => Sys2Proof.Machine.execFolStart slot s
  | .folCancel slot => Sys2Proof.Machine.execFolCancel slot s
  | .folRelease slot => Sys2Proof.Machine.execFolRelease slot s
  | .folioJobEnd => Sys2Proof.Machine.execFolioJobEnd s
  | .folioWaitExpiry => Sys2Proof.Machine.execFolioWaitExpiry s
  | .folioDisable => Sys2Proof.Machine.execFolioDisable s
  | .folioEnable => Sys2Proof.Machine.execFolioEnable s
  | .stkMount => Sys2Proof.Machine.execStkMount s
  | .mountComplete r => Sys2Proof.Machine.execMountComplete r s
  | .stkUnmount => Sys2Proof.Machine.execStkUnmount s
  | .stkFormat => Sys2Proof.Machine.execStkFormat s
  | .stkDelete path => Sys2Proof.Machine.execStkDelete path s
  | .objectCommit which => Sys2Proof.Machine.execObjectCommit which s
  | .stagingReadComplete r => Sys2Proof.Machine.execStagingReadComplete r s
  | .suspendResume ch target => Sys2Proof.Machine.execSuspendResume ch target s
  | .programFail ch block => Sys2Proof.Machine.execProgramFail ch block s
  | .eraseFail ch block => Sys2Proof.Machine.execEraseFail ch block s
  | .targetTimeout ch target block => Sys2Proof.Machine.execTargetTimeout ch target block s
  | .retentionAge temps done => Sys2Proof.Machine.execRetentionAge temps done s
  | .axMove axis => Sys2Proof.Machine.execAxMove axis s
  | .axStop axis => Sys2Proof.Machine.execAxStop axis s
  | .axQuickStop axis => Sys2Proof.Machine.execAxQuickStop axis s
  | .axHome axis => Sys2Proof.Machine.execAxHome axis s
  | .axJog axis => Sys2Proof.Machine.execAxJog axis s
  | .axGearEngage axis => Sys2Proof.Machine.execAxGearEngage axis s
  | .axGearDisengage axis => Sys2Proof.Machine.execAxGearDisengage axis s
  | .axGearArmSwitch axis => Sys2Proof.Machine.execAxGearArmSwitch axis s
  | .axisEnable axis => Sys2Proof.Machine.execAxisEnable axis s
  | .axisDisable axis => Sys2Proof.Machine.execAxisDisable axis s
  | .axProfileWrite axis sub v => Sys2Proof.Machine.execAxProfileWrite axis sub v s
  | .jogSpeedWrite axis v => Sys2Proof.Machine.execJogSpeedWrite axis v s
  | .stepPulse axis => Sys2Proof.Machine.execStepPulse axis s
  | .wakeDelayElapsed axis => Sys2Proof.Machine.execWakeDelayElapsed axis s
  | .standstillDelayElapsed axis => Sys2Proof.Machine.execStandstillDelayElapsed axis s
  | .switchInputEdge axis input level => Sys2Proof.Machine.execSwitchInputEdge axis input level s
  | .holdoffEnd axis input => Sys2Proof.Machine.execHoldoffEnd axis input s
  | .encoderEdge enc at4 a b z => Sys2Proof.Machine.execEncoderEdge enc at4 a b z s
  | .encoderIndex enc => Sys2Proof.Machine.execEncoderIndex enc s
  | .encoderTooth enc at4 => Sys2Proof.Machine.execEncoderTooth enc at4 s
  | .encoderSpeedTimeout enc => Sys2Proof.Machine.execEncoderSpeedTimeout enc s
  | .cmpArm unit => Sys2Proof.Machine.execCmpArm unit s
  | .cmpDisarm unit => Sys2Proof.Machine.execCmpDisarm unit s
  | .cmpPositionWrite unit v => Sys2Proof.Machine.execCmpPositionWrite unit v s
  | .cmpPulseEnd unit => Sys2Proof.Machine.execCmpPulseEnd unit s
  | .arpReply port frame => Sys2Proof.Machine.execArpReply port frame s
  | .icmpEcho port frame => Sys2Proof.Machine.execIcmpEcho port frame s
  | .ptpReceive port cycle frame => Sys2Proof.Machine.execPtpReceive port cycle frame s
  | .rxFrameDrop port error => Sys2Proof.Machine.execRxFrameDrop port error s
  | .netclkWrite v => Sys2Proof.Machine.execNetclkWrite v s
  | .servoOffset o => Sys2Proof.Machine.execServoOffset o s
  | .launchEvaluate port => Sys2Proof.Machine.execLaunchEvaluate port s
  | .txFrameSent port cycle => Sys2Proof.Machine.execTxFrameSent port cycle s
  | .linkDown port => Sys2Proof.Machine.execLinkDown port s
  | .linkUp port remoteFault => Sys2Proof.Machine.execLinkUp port remoteFault s
  | .phaseMeasurement => Sys2Proof.Machine.execPhaseMeasurement s
  | .tsyncEnable on => Sys2Proof.Machine.execTsyncEnable on s
  | .faultCollect => Sys2Proof.Machine.execFaultCollect s
  | .escalation src => Sys2Proof.Machine.execEscalation src s
  | .recovery src => Sys2Proof.Machine.execRecovery src s
  | .errNMinEnd => Sys2Proof.Machine.execErrNMinEnd s
  | .fltSrcAck path => Sys2Proof.Machine.execFltSrcAck path s
  | .fltSrcClear path => Sys2Proof.Machine.execFltSrcClear path s
  | .fltAckAck src => Sys2Proof.Machine.execFltAckAck src s
  | .fltAckClear src => Sys2Proof.Machine.execFltAckClear src s
  | .fltRearm => Sys2Proof.Machine.execFltRearm s
  | .fltAckAll => Sys2Proof.Machine.execFltAckAll s
  | .fltClearAll => Sys2Proof.Machine.execFltClearAll s
  | .ldgFreeze => Sys2Proof.Machine.execLdgFreeze s
  | .ldgUnfreeze => Sys2Proof.Machine.execLdgUnfreeze s
  | .freezeExpired => Sys2Proof.Machine.execFreezeExpired s
  | .ldgMark => Sys2Proof.Machine.execLdgMark s
  | .ledgerCheckpoint => Sys2Proof.Machine.execLedgerCheckpoint s
  | .sensorReading sensor count => Sys2Proof.Machine.execSensorReading sensor count s
  | .rateCheck => Sys2Proof.Machine.execRateCheck s
  | .tmpAckShutdown => Sys2Proof.Machine.execTmpAckShutdown s
  | .tmpExcludeWrite v => Sys2Proof.Machine.execTmpExcludeWrite v s
  | .calRun => Sys2Proof.Machine.execCalRun s
  | .calPointTimeout entry => Sys2Proof.Machine.execCalPointTimeout entry s
  | .calRunEnd points => Sys2Proof.Machine.execCalRunEnd points s
  | .startUpStepComplete r => Sys2Proof.Machine.execStartUpStepComplete r s
  | .fwStoreComplete result => Sys2Proof.Machine.execFwStoreComplete result s
  | .txnCommitCopyEnd path => Sys2Proof.Machine.execTxnCommitCopyEnd path s
  | .lateTileWritten tile => Sys2Proof.Machine.execLateTileWritten tile s
  | .ejectLatchClosed => Sys2Proof.Machine.execEjectLatchClosed s
  | .holdUpExhausted => Sys2Proof.Machine.execHoldUpExhausted s

end Sys2Proof.Machine
end

