-- ==== Sys2Proof/Safety.lean ====
section
/-!
DEFINITION. The terms the statements use: what a command completes with, which parts of the state it leaves alone, and when a host's write over path 0
reaches the dictionary with nothing in its way.
-/
namespace Sys2Proof.Machine

/-- The parts of the state, less the queue. -/
inductive Part where
  /-- TICK. -/
  | tick
  /-- BTICK. -/
  | btick
  /-- Device state, saved sets, firmware, digest. -/
  | dev
  /-- Access paths and transactions. -/
  | txn
  /-- Contexts. -/
  | ctx
  /-- Engines, correction, parameter sets. -/
  | trj
  /-- Lending and the plume interlock. -/
  | lnd
  /-- The Catalogue and the channels' states. -/
  | cat
  /-- Melt-pool loops. -/
  | mpl
  /-- The Interlayer grid. -/
  | grd
  /-- Lanes. -/
  | lnk
  /-- Heads, sources, XY2-100 ports, analog. -/
  | att
  /-- Cameras and features. -/
  | img
  /-- Lamps. -/
  | ilm
  /-- Folio. -/
  | fol
  /-- Stacks. -/
  | stk
  /-- Axes, encoders, compare units. -/
  | ax
  /-- Network and time. -/
  | net
  /-- The fault collector. -/
  | flt
  /-- The Ledger. -/
  | ldg
  /-- Temperature and calibration. -/
  | tmp
  /-- Power. -/
  | pwr
  /-- Messages of the CORE cycle. -/
  | raised
  /-- The count of free values. -/
  | free
deriving DecidableEq, Repr

/-- A part of two states is the same. -/
def Part.same (p : Part) (s t : State) : Prop :=
  match p with
  | .tick => t.tick = s.tick
  | .btick => t.btick = s.btick
  | .dev => t.dev = s.dev
  | .txn => t.txn = s.txn
  | .ctx => t.ctx = s.ctx
  | .trj => t.trj = s.trj
  | .lnd => t.lnd = s.lnd
  | .cat => t.cat = s.cat
  | .mpl => t.mpl = s.mpl
  | .grd => t.grd = s.grd
  | .lnk => t.lnk = s.lnk
  | .att => t.att = s.att
  | .img => t.img = s.img
  | .ilm => t.ilm = s.ilm
  | .fol => t.fol = s.fol
  | .stk => t.stk = s.stk
  | .ax => t.ax = s.ax
  | .net => t.net = s.net
  | .flt => t.flt = s.flt
  | .ldg => t.ldg = s.ldg
  | .tmp => t.tmp = s.tmp
  | .pwr => t.pwr = s.pwr
  | .raised => t.raised = s.raised
  | .free => t.free = s.free

/-- Every part but the named ones is in `t` as it is in `s`. -/
def agree (changed : List Part) (s t : State) : Prop := ∀ p : Part, p ∉ changed → p.same s t

/-- Every part but the named ones, and the queue, is in `t` as it is in `s`. -/
def keeps (changed : List Part) (s t : State) : Prop := t.pending = s.pending ∧ agree changed s t

/-- Every unit of a kind but unit `k` is as it was: what it holds, and every entry of its record. -/
def others {α : Type} (n k : Nat) (own : State → Nat → α) (entry : State → Nat → Nat → Int) (s t : State) : Prop :=
  ∀ j < n, j ≠ k → own t j = own s j ∧ ∀ sub < 256, entry t j sub = entry s j sub

/-- Every other axis is as it was. -/
def otherAxes (a : Nat) (s t : State) : Prop := others 8 a Ax.axis Ax.reg s t

/-- Every other encoder is as it was. -/
def otherEncs (e : Nat) (s t : State) : Prop := others 8 e Ax.enc Ax.encReg s t

/-- Every other compare unit is as it was. -/
def otherCmps (u : Nat) (s t : State) : Prop := others 16 u Ax.cmp Ax.cmpReg s t

/-- Every other lane is as it was. -/
def otherLanes (m : Nat) (s t : State) : Prop := others 48 m State.laneOf (fun s j sub => State.rLnk s (D.iLNK + j) sub) s t

/-- Every other lamp is as it was. -/
def otherLamps (l : Nat) (s t : State) : Prop := others 16 l Ilm.lampOf (fun s j sub => State.rIlm s (D.iILM + j) sub) s t

/-- Every other camera port is as it was. -/
def otherPorts (p : Nat) (s t : State) : Prop := others 4 p Ilm.portOf (fun s j sub => State.rImg s (D.iCAM + j) sub) s t

/-- Every other context is as it was. -/
def otherCtxs (n : Nat) (s t : State) : Prop := others 96 n State.ctxOf (fun s j sub => State.rCtx s (D.iCTX + j) sub) s t

/-- Every other engine is as it was. -/
def otherEngines (c : Nat) (s t : State) : Prop := others 24 c State.engOf (fun s j sub => State.rTrj s (D.iTRJ + j) sub) s t

/-- Every other melt-pool loop is as it was. -/
def otherLoops (c : Nat) (s t : State) : Prop := others 24 c State.loopOf (fun s j sub => State.rMpl s (D.iMPL + j) sub) s t

/-- What every other head, source or XY2-100 port gave is as it was. -/
def otherHeads (c : Nat) (s t : State) : Prop := others 24 c State.attOf (fun s j sub => State.rAtt s (D.iHDP + j) sub) s t

/-- Every other sensor is as it was. -/
def otherSensors (i : Nat) (s t : State) : Prop := ∀ j < 40, j ≠ i → Tmp.sensor t j = Tmp.sensor s j

/-- Every other fault source is as it was. -/
def otherSources (src : Nat) (s t : State) : Prop := ∀ j < 1024, j ≠ src → State.srcOf t j = State.srcOf s j

/-- Every other access path is as it was. -/
def otherPaths (p : Nat) (s t : State) : Prop := ∀ j < 5, j ≠ p → State.pathOf t j = State.pathOf s j

/-- A command answers a next state, and that state is as said. -/
def completes (i : Instr) (s : State) (P : State → Prop) : Prop := ∃ t : State, exec i s = .next t ∧ P t

/-- The core rails are on and start-up is over: the dictionary takes writes (R499, R501). -/
def upNow (s : State) : Bool := Write.answers s && s.dev.mode != .boot && !s.pwr.recovery

/-- No transaction is open or pending and no answer of one is owed, and the paths are not fenced (R54 to R64, R68). -/
def noTxn (s : State) : Bool :=
  !s.txn.fenced && s.txn.queue.isEmpty && s.txn.paths.all (fun e => e.2.txn.isNone) && (State.pathOf s 0).txn.isNone && !(State.pathOf s 0).expired

/-- A host's write over path 0 reaches its entry: start-up is over, no transaction is in its way, and the mailbox has no request to serve first. -/
def hostOpen (s : State) : Bool := upNow s && noTxn s && !s.txn.busy && (State.pathOf s 0).isOpen && !(State.pathOf s 0).copying

/-- A command entry of a path takes a number now: start-up is over, the path is open and copies no commit, no other path's
transaction holds the record, and the mailbox has no request to serve first (R36, R55, R58, R59). -/
def pathOpen (p idx : Nat) (s : State) : Bool :=
  upNow s && !s.txn.fenced && decide (p < 5) && (State.pathOf s p).isOpen && !(State.pathOf s p).expired && !Write.locked s p idx &&
    !s.txn.busy && !(State.pathOf s p).copying

/-- A datagram for DDP that passes the checks of a frame and asks for an operation, with no request of the mailbox to serve first (R36 to R38). -/
def wellSent (op : Nat) (dg : Datagram) (s : State) : Bool :=
  Write.answers s && Ddp.forDdp s dg && !Ddp.dropped dg && !s.txn.busy && !s.txn.fenced && (Ddp.head dg.bytes).version == 1 && (Ddp.head dg.bytes).opcode == op &&
    (Ddp.head dg.bytes).length == (dg.bytes.drop 16).length && Ddp.shapeOk op (dg.bytes.drop 16)

/-- The datagram is the next request of session `p` (R40, R42). -/
def inTurn (p op : Nat) (dg : Datagram) (s : State) : Bool :=
  wellSent op dg s && (Ddp.head dg.bytes).session == p && decide (1 ≤ p) && decide (p ≤ 4) && (State.pathOf s p).isOpen &&
    (State.pathOf s p).lastSeq.map (fun q => (q + 1) % 65536) == some (Ddp.head dg.bytes).seq && !(State.pathOf s p).copying

/-- A PAD item that a context may take up next: nothing half received, nothing open, the pointers whole and 32 bytes of room (R94, R104, R105). -/
def padFits (n : Nat) (u : List Byte) (s : State) : Bool :=
  u.length == 32 && Items.head u == .ok .pad 1 && (State.ctxOf s n).wmode == .normal && (State.ctxOf s n).tail.isEmpty &&
    (State.ctxOf s n).wstripe.isNone && (State.ctxOf s n).copy.length == 5 && (State.ptrFault s n).isNone &&
    !Arith.bit (State.ctxReg s n D.CTX_CTRL) 1 && decide (State.ctxReg s n D.CTX_WP + 32 ≤ State.ctxReg s n D.CTX_RM + State.ringBytes s n) &&
    decide (State.ctxReg s n D.CTX_WP + 32 < 2 ^ 64) && decide (State.ctxReg s n D.CTX_PROD_POS + 32 < 2 ^ 64)

/-- No channel is busy with a stripe of context `n`: none of its acknowledgements can be due (R106, R109). -/
def noStripeOf (n : Nat) (s : State) : Bool := (List.range 24).all fun c => (State.engOf s c).stripes.all fun r => r.ctx != n

/-- The message last raised. -/
def lastRaised (s : State) (src kind addr : Nat) (t : State) : Prop := t.raised = s.raised ++ [⟨src, kind, addr⟩]

/-- The number of TICKs that wait in a queue. -/
def ticksQueued (l : List Instr) : Nat := (l.filter fun c => match c with | .tick _ => true | _ => false).length

/-- The commands of the standby domain, of the supply and of the laser interlock: the others need the core rails (R499). -/
def ofStandby (c : Instr) : Bool :=
  match c with
  | .enableRise => true
  | .enableFall => true
  | .enableGlitch => true
  | .thermalExitCheck _ => true
  | .ejectReq => true
  | .safeToRemove _ _ => true
  | .prechargeStart => true
  | .standbyStart => true
  | .mainSwitchClose => true
  | .prechargeFail => true
  | .inputLoss _ => true
  | .inputReturn _ => true
  | .powerMeasurement _ _ _ => true
  | .ejectLatchClosed => true
  | .holdUpExhausted => true
  | .laserInterlockAssert => true
  | .interlockRelease => true
  | _ => false

/-- The commands that give the Catalogue a step to issue (R125, R127). -/
def ofCatalogue (c : Instr) : Bool :=
  match c with
  | .startExposure _ => true
  | .waitExposure _ _ _ => true
  | .axisMove _ _ _ _ _ => true
  | .axisWait _ _ => true
  | .gearSet _ _ _ _ _ => true
  | .capture _ _ _ _ => true
  | .strobe _ _ => true
  | .gridSnapshot _ _ => true
  | .storeObject _ _ _ => true
  | .catWaitTicks _ => true
  | .waitInput _ _ _ _ => true
  | .applyTxn => true
  | .loop _ _ _ => true
  | .jump _ => true
  | .branchFlag _ _ _ => true
  | .halt => true
  | _ => false

/-- The Catalogue takes a step in this tick (R127, R139). -/
def mayIssue (s : State) : Bool := Seq.mayAct s && Seq.canIssue s

/-- The commands that can bring the module into BOOT (R23, R498). -/
def bootsModule (c : Instr) : Bool :=
  match c with
  | .enableRise => true
  | .standbyStart => true
  | .mainSwitchClose => true
  | .thermalExitCheck _ => true
  | _ => false

end Sys2Proof.Machine
end

