-- ==== Sys2Proof/Certificates/Slice0/Obligations.lean ====
section
/-!
DEFINITION. The statements for the provers, chapter by chapter. A statement that rests on a choice of the model names its log entry.
-/
open Sys2Proof Sys2Proof.Machine

/-- PRECHARGE_START begins insertion and clears STANDBY_MS and the failure flag; STANDBY_START and MAIN_SWITCH_CLOSE with no rise of ENABLE held set their
  flag and nothing else; PRECHARGE_FAIL sets the failure flag; INPUT_RETURN runs insertion again with ENABLE as it stands. Everything outside the
  power state stays. With the standby domain ready and the main switch closed, ENABLE_RISE outside THERMAL_OFF completes in BOOT with start-up step 1a
  in progress, and in THERMAL_OFF THERMAL_EXIT_CHECK of a held rise does so with every sensor below RELEASE, and drops the rise otherwise. Rests on
  R23, R467, R495, R498, R499, R504, R505. -/
def Obligations.InsertionTakesItsSteps : Prop :=
  (∀ (s : State), s.pwr.precharge = false → completes .prechargeStart s fun t => t.pwr.precharge = true ∧ t.pwr.prechargeFail = false ∧ State.rPwr t
      D.iPWR_STATUS D.PWR_STATUS_STANDBY_MS = 0 ∧ keeps [.pwr] s t) ∧
  (∀ (s : State), s.pwr.precharge = true → s.pwr.standby = false → s.pwr.riseHeld = false → completes .standbyStart s fun t => t =
      { s with pwr := { s.pwr with standby := true } }) ∧
  (∀ (s : State), s.pwr.precharge = true → s.pwr.prechargeFail = false → s.pwr.main = false → s.pwr.riseHeld = false → completes .mainSwitchClose s
      fun t => t = { s with pwr := { s.pwr with main := true } }) ∧
  (∀ (s : State), s.pwr.precharge = true → s.pwr.main = false → completes .prechargeFail s fun t => t =
      { s with pwr := { s.pwr with prechargeFail := true } }) ∧
  (∀ (s : State) (high : Bool), s.pwr.main = false → completes (.inputReturn high) s fun t => t.pwr.precharge = true ∧ t.pwr.prechargeFail = false ∧
      t.pwr.standby = false ∧ t.pwr.holdUp = false ∧ t.pwr.enable = high ∧ t.pwr.riseHeld = high ∧ keeps [.pwr] s t) ∧
  (∀ (s : State), s.pwr.enable = false → s.pwr.standby = true → s.pwr.main = true → s.dev.mode ≠ .thermalOff → completes .enableRise s fun t =>
      t.dev.mode = .boot ∧ t.pwr.boot = some .rails ∧ t.pwr.enable = true ∧ t.pwr.rails = true ∧ t.tick = 0 ∧ t.pending = s.pending) ∧
  (∀ (s : State) (readings : List Int), s.dev.mode = .thermalOff → s.pwr.enable = true → s.pwr.riseHeld = true → s.pwr.standby = true → s.pwr.main =
      true → Pwr.released s readings = true → completes (.thermalExitCheck readings) s fun t => t.dev.mode = .boot ∧ t.pwr.boot = some .rails ∧
      t.pwr.enable = true ∧ t.pwr.rails = true ∧ t.tick = 0 ∧ t.pending = s.pending) ∧
  (∀ (s : State) (readings : List Int), s.dev.mode = .thermalOff → s.pwr.enable = true → s.pwr.riseHeld = true → s.pwr.standby = true → s.pwr.main =
      true → Pwr.released s readings = false → completes (.thermalExitCheck readings) s fun t => t.dev.mode = .thermalOff ∧ t.pwr.riseHeld = false ∧
      keeps [.pwr] s t)

/-- With the standby domain ready and the main switch closed, ENABLE_RISE outside THERMAL_OFF, and THERMAL_EXIT_CHECK in THERMAL_OFF with every sensor
  below RELEASE, and MAIN_SWITCH_CLOSE or STANDBY_START that ends the wait of a held rise, enter BOOT with start-up step 1a in progress, TICK 0, the
  core rails on and the dictionary silent; LAST_START says which. Both saved sets, both firmware images, the store and both copies of the calibration
  values stay, the power cycles rise by one, and all the core domain holds otherwise is as after reset. A rise that comes before the module can start
  is held. Rests on R23, R451, R467, R498, R499, R505. -/
def Obligations.AcceptedRiseEntersBoot : Prop :=
  (∀ (s : State), s.pwr.enable = false → s.pwr.standby = true → s.pwr.main = true → s.dev.mode ≠ .thermalOff → completes .enableRise s fun t =>
      t.dev.mode = .boot ∧ t.pwr.boot = some .rails ∧ t.pwr.rails = true ∧ t.pwr.served = false ∧ t.dev.pllLocked = false ∧ t.tick = 0 ∧ t.pwr.enable
      = true ∧ State.rPwr t D.iPWR_STATUS D.PWR_STATUS_LAST_START = 2 ∧ t.dev.savedA = s.dev.savedA ∧ t.dev.savedB = s.dev.savedB ∧ t.dev.fwNewer =
      s.dev.fwNewer ∧ t.dev.fwOlder = s.dev.fwOlder ∧ t.stk.medium.targets = s.stk.medium.targets ∧ t.stk.medium.blocks = s.stk.medium.blocks ∧
      t.stk.medium.superA = s.stk.medium.superA ∧ t.stk.medium.superB = s.stk.medium.superB ∧ t.stk.medium.checkpoints = s.stk.medium.checkpoints ∧
      t.stk.medium.journal = s.stk.medium.journal ∧ t.tmp.newer = s.tmp.newer ∧ t.tmp.older = s.tmp.older ∧ t.ldg.cycles = (s.ldg.cycles + 1) % 2 ^ 32
      ∧ t.pending = s.pending ∧ keeps [.dev, .stk, .tmp, .ldg, .pwr, .raised, .free] { State.reset with pending := s.pending } t) ∧
  (∀ (s : State), s.pwr.main = false → s.pwr.prechargeFail = false → s.pwr.standby = true → s.pwr.precharge = true → s.pwr.riseHeld = true →
      s.dev.mode ≠ .thermalOff → completes .mainSwitchClose s fun t => t.dev.mode = .boot ∧ t.pwr.boot = some .rails ∧ t.pwr.rails = true ∧
      t.pwr.served = false ∧ t.dev.pllLocked = false ∧ t.tick = 0 ∧ State.rPwr t D.iPWR_STATUS D.PWR_STATUS_LAST_START = (if s.pwr.returned then 3
      else 2) ∧ t.dev.savedA = s.dev.savedA ∧ t.dev.savedB = s.dev.savedB ∧ t.dev.fwNewer = s.dev.fwNewer ∧ t.dev.fwOlder = s.dev.fwOlder ∧
      t.stk.medium.targets = s.stk.medium.targets ∧ t.stk.medium.blocks = s.stk.medium.blocks ∧ t.stk.medium.superA = s.stk.medium.superA ∧
      t.stk.medium.superB = s.stk.medium.superB ∧ t.stk.medium.checkpoints = s.stk.medium.checkpoints ∧ t.stk.medium.journal = s.stk.medium.journal ∧
      t.tmp.newer = s.tmp.newer ∧ t.tmp.older = s.tmp.older ∧ t.ldg.cycles = (s.ldg.cycles + 1) % 2 ^ 32 ∧ t.pending = s.pending ∧ keeps [.dev, .stk,
      .tmp, .ldg, .pwr, .raised, .free] { State.reset with pending := s.pending } t) ∧
  (∀ (s : State), s.pwr.standby = false → s.pwr.main = true → s.pwr.precharge = true → s.pwr.riseHeld = true → s.dev.mode ≠ .thermalOff → completes
      .standbyStart s fun t => t.dev.mode = .boot ∧ t.pwr.boot = some .rails ∧ t.pwr.rails = true ∧ t.pwr.served = false ∧ t.dev.pllLocked = false ∧
      t.tick = 0 ∧ State.rPwr t D.iPWR_STATUS D.PWR_STATUS_LAST_START = (if s.pwr.returned then 3 else 2) ∧ t.dev.savedA = s.dev.savedA ∧ t.dev.savedB
      = s.dev.savedB ∧ t.dev.fwNewer = s.dev.fwNewer ∧ t.dev.fwOlder = s.dev.fwOlder ∧ t.stk.medium.targets = s.stk.medium.targets ∧
      t.stk.medium.blocks = s.stk.medium.blocks ∧ t.stk.medium.superA = s.stk.medium.superA ∧ t.stk.medium.superB = s.stk.medium.superB ∧
      t.stk.medium.checkpoints = s.stk.medium.checkpoints ∧ t.stk.medium.journal = s.stk.medium.journal ∧ t.tmp.newer = s.tmp.newer ∧ t.tmp.older =
      s.tmp.older ∧ t.ldg.cycles = (s.ldg.cycles + 1) % 2 ^ 32 ∧ t.pending = s.pending ∧ keeps [.dev, .stk, .tmp, .ldg, .pwr, .raised, .free]
      { State.reset with pending := s.pending } t) ∧
  (∀ (s : State), s.pwr.enable = false → (s.pwr.standby = false ∨ s.pwr.main = false ∨ s.dev.mode = .thermalOff) → completes .enableRise s fun t => t
      = { s with pwr := { s.pwr with enable := true, riseHeld := true } }) ∧
  (∀ (s : State) (readings : List Int), s.dev.mode = .thermalOff → s.pwr.enable = true → s.pwr.riseHeld = true → s.pwr.standby = true → s.pwr.main =
      true → Pwr.released s readings = true → completes (.thermalExitCheck readings) s fun t => t.dev.mode = .boot ∧ t.pwr.boot = some .rails ∧
      t.pwr.rails = true ∧ t.pwr.served = false ∧ t.dev.pllLocked = false ∧ t.tick = 0 ∧ State.rPwr t D.iPWR_STATUS D.PWR_STATUS_LAST_START = 4 ∧
      t.dev.savedA = s.dev.savedA ∧ t.dev.savedB = s.dev.savedB ∧ t.dev.fwNewer = s.dev.fwNewer ∧ t.dev.fwOlder = s.dev.fwOlder ∧ t.stk.medium.targets
      = s.stk.medium.targets ∧ t.stk.medium.blocks = s.stk.medium.blocks ∧ t.stk.medium.superA = s.stk.medium.superA ∧ t.stk.medium.superB =
      s.stk.medium.superB ∧ t.stk.medium.checkpoints = s.stk.medium.checkpoints ∧ t.stk.medium.journal = s.stk.medium.journal ∧ t.tmp.newer =
      s.tmp.newer ∧ t.tmp.older = s.tmp.older ∧ t.ldg.cycles = (s.ldg.cycles + 1) % 2 ^ 32 ∧ t.pending = s.pending ∧ keeps [.dev, .stk, .tmp, .ldg,
      .pwr, .raised, .free] { State.reset with pending := s.pending } t) ∧
  (∀ (s : State) (readings : List Int), s.dev.mode = .thermalOff → s.pwr.enable = true → s.pwr.riseHeld = true → s.pwr.standby = true → s.pwr.main =
      true → Pwr.released s readings = false → completes (.thermalExitCheck readings) s fun t => t =
      { s with pwr := { s.pwr with riseHeld := false } })

/-- ENABLE_FALL and EJECT_REQ with the rails on, no message waiting and no transaction pending begin a removal: the device is in SAFE, with reason 5 where
  it was not so before, moving axes stop, every open transaction is gone and the Ledger has its checkpoint; a fall is LAST_STOP 1. SAFE_TO_REMOVE with
  every axis at rest and the checkpoints written ends it in EJECT_MS milliseconds with nothing outstanding, and turns the rails off when ENABLE began
  it; with work outstanding it does so at 200 ms, names the work and raises EJECT_INCOMPLETE, and earlier, or with no removal, it changes nothing;
  EJECT_LATCH_CLOSED ends the display of it. A fall with the rails off only lowers ENABLE. Rests on R490, R498, R502, R503. -/
def Obligations.RemovalRuns : Prop :=
  (∀ (s : State), s.pwr.enable = true → s.pwr.rails = true → s.dev.mode ≠ .thermalOff → s.raised = [] → s.txn.queue = [] → completes .enableFall s
      fun t => t.dev.mode = .safe ∧ t.pwr.enable = false ∧ State.rPwr t D.iPWR_STATUS D.PWR_STATUS_LAST_STOP = 1 ∧ t.pwr.removal = some true ∧
      t.pwr.removed = false ∧ t.pwr.outstanding = 0 ∧ (s.dev.mode ≠ .safe → State.rDev t D.iDEV_STATE D.DEV_STATE_LAST_REASON = 5) ∧ (∀ a < 8,
      (Ax.axis s a).mode = .moving → (Ax.axis t a).mode = .stopping) ∧ (∀ p < 5, (State.pathOf t p).txn = none) ∧ t.ldg.checkAt = t.ldg.opTime ∧ keeps
      [.dev, .txn, .ctx, .trj, .lnd, .cat, .mpl, .grd, .lnk, .att, .img, .ilm, .fol, .stk, .ax, .flt, .ldg, .tmp, .pwr, .raised, .free] s t) ∧
  (∀ (s : State), s.pwr.enable = true → s.pwr.rails = false → completes .enableFall s fun t => t =
      { s with pwr := { s.pwr with enable := false, riseHeld := false } }) ∧
  (∀ (s : State), s.pwr.rails = true → s.dev.mode ≠ .thermalOff → s.raised = [] → s.txn.queue = [] → completes .ejectReq s fun t => t.dev.mode =
      .safe ∧ t.pwr.latch = true ∧ t.pwr.removal = some (s.pwr.removal.getD false) ∧ t.pwr.removed = false ∧ t.pwr.outstanding = 0 ∧ (s.dev.mode ≠
      .safe → State.rDev t D.iDEV_STATE D.DEV_STATE_LAST_REASON = 5) ∧ (∀ a < 8, (Ax.axis s a).mode = .moving → (Ax.axis t a).mode = .stopping) ∧ (∀ p
      < 5, (State.pathOf t p).txn = none) ∧ t.ldg.checkAt = t.ldg.opTime ∧ keeps [.dev, .txn, .ctx, .trj, .lnd, .cat, .mpl, .grd, .lnk, .att, .img,
      .ilm, .fol, .stk, .ax, .flt, .ldg, .tmp, .pwr, .raised, .free] s t) ∧
  (∀ (s : State) (ms : Nat), s.pwr.removal.isSome = true → Ax.allRest s = true → s.raised = [] → completes (.safeToRemove true ms) s fun t =>
      t.pwr.removal = none ∧ t.pwr.removed = (s.pwr.removal == some true || s.pwr.latch) ∧ t.pwr.outstanding = 0 ∧ State.rPwr t D.iPWR_STATUS
      D.PWR_STATUS_EJECT_MS = ((min 65535 ms : Nat) : Int) ∧ (s.pwr.removal = some true → t.pwr.rails = false) ∧ keeps [.pwr, .dev] s t) ∧
  (∀ (s : State) (ck : Bool) (ms : Nat), s.pwr.removal.isSome = true → (ck && Ax.allRest s) = false → 200 ≤ ms → s.raised = [] → completes
      (.safeToRemove ck ms) s fun t => t.pwr.removal = none ∧ t.pwr.removed = (s.pwr.removal == some true || s.pwr.latch) ∧ t.pwr.outstanding = 32 +
      (if ck then 0 else 8) + (if Ax.allRest s then 0 else 16) ∧ State.rPwr t D.iPWR_STATUS D.PWR_STATUS_EJECT_MS = ((min 65535 ms : Nat) : Int) ∧
      (s.pwr.removal = some true → t.pwr.rails = false) ∧ (State.srcOf t 0x1C0).lastTick = s.tick ∧ keeps [.pwr, .dev, .flt, .ldg, .txn, .raised] s t) ∧
  (∀ (s : State) (ck : Bool) (ms : Nat), (s.pwr.removal = none ∨ (ck && Ax.allRest s) = false ∧ ms < 200) → completes (.safeToRemove ck ms) s fun t
      => t = s) ∧
  (∀ (s : State), completes .ejectLatchClosed s fun t => t = { s with pwr := { s.pwr with latch := false, removed := false } })

/-- INPUT_LOSS with the main switch closed opens it, turns the core rails off, loses the messages not collected, and LAST_STOP and INPUT_LOSSES report it;
  HOLD_UP_EXHAUSTED ends the standby domain; ENABLE_GLITCH counts; POWER_MEASUREMENT reports voltage, current and the mean of the newest 100 powers,
  which it keeps. Nothing else changes but messages. Rests on R494, R498, R504, R507. -/
def Obligations.InputIsLostAndMeasured : Prop :=
  (∀ (s : State) (cause : LossCause), s.pwr.main = true → completes (.inputLoss cause) s fun t => t.pwr.main = false ∧ t.pwr.rails = false ∧
      t.pwr.holdUp = true ∧ t.pwr.removal = none ∧ t.raised = [] ∧ State.rPwr t D.iPWR_STATUS D.PWR_STATUS_LAST_STOP = (Pwr.causeCode cause : Int) ∧
      State.rPwr t D.iPWR_STATUS D.PWR_STATUS_INPUT_LOSSES = Arith.clamp 0 4294967295 (State.rPwr s D.iPWR_STATUS D.PWR_STATUS_INPUT_LOSSES + 1) ∧
      keeps [.pwr, .dev, .raised] s t) ∧
  (∀ (s : State), s.pwr.holdUp = true → completes .holdUpExhausted s fun t => t =
      { s with pwr := { s.pwr with holdUp := false, standby := false, precharge := false } }) ∧
  (∀ (s : State), completes .enableGlitch s fun t => State.rPwr t D.iPWR_STATUS D.PWR_STATUS_ENABLE_GLITCHES = Arith.clamp 0 4294967295 (State.rPwr s
      D.iPWR_STATUS D.PWR_STATUS_ENABLE_GLITCHES + 1) ∧ keeps [.pwr] s t) ∧
  (∀ (s : State) (mv ma mw : Nat), mv < 2 ^ 32 → ma < 2 ^ 32 → completes (.powerMeasurement mv ma mw) s fun t => State.rPwr t D.iPWR_STATUS
      D.PWR_STATUS_VIN = (mv : Int) ∧ State.rPwr t D.iPWR_STATUS D.PWR_STATUS_IIN = (ma : Int) ∧ t.pwr.powers = (mw :: s.pwr.powers).take 100 ∧
      State.rPwr t D.iPWR_STATUS D.PWR_STATUS_PIN = (Arith.toUnsigned 32 ((Arith.divRound ((mw :: s.pwr.powers).take 100).sum ((mw ::
      s.pwr.powers).take 100).length).toNat : Int) : Int) ∧ keeps [.pwr, .raised] s t)

/-- START_UP_STEP_COMPLETE ends the rails, firmware, configuration and PLL steps and begins the next one in the same tick, keeping the duration; firmware
  of the newer valid image runs it; the PLL step sets the lock; a PLL or DRAM step that fails raises PLL_UNLOCK or DRAM_TRAIN_FAIL. FW_STORE_COMPLETE
  reports its result in DEV_FW_STATUS: a stored image is the newer one and the former newer one the older; a bad signature changes neither; a failed
  write raises FW_STORE_FAIL. Rests on R52, R499, R500, R508. -/
def Obligations.StartUpStepsFollowOneAnother : Prop :=
  (∀ (s : State) (us : Nat), s.pwr.rails = true → s.pwr.boot = some .rails → us < 2 ^ 32 → completes (.startUpStepComplete (.done us)) s fun t =>
      t.pwr.boot = some .firmware ∧ t.pwr.stepTick = s.tick ∧ State.rPwr t D.iPWR_START D.PWR_START_RAILS = (us : Int) ∧ keeps [.pwr] s t) ∧
  (∀ (s : State) (us : Nat), s.pwr.rails = true → s.pwr.boot = some .pll → us < 2 ^ 32 → completes (.startUpStepComplete (.done us)) s fun t =>
      t.pwr.boot = some .dram ∧ t.dev.pllLocked = true ∧ State.rPwr t D.iCLK_STATUS D.CLK_STATUS_LOCK_US = (us : Int) ∧ keeps [.pwr, .dev] s t) ∧
  (∀ (s : State) (us : Nat), s.pwr.rails = true → s.pwr.boot = some .firmware → s.dev.fwNewer.valid = true → us < 2 ^ 32 → completes
      (.startUpStepComplete (.done us)) s fun t => t.pwr.boot = some .config ∧ t.dev.fwRunning = s.dev.fwNewer ∧ State.rPwr t D.iPWR_START
      D.PWR_START_FIRMWARE = (us : Int) ∧ keeps [.pwr, .dev] s t) ∧
  (∀ (s : State) (us : Nat), s.pwr.rails = true → s.pwr.boot = some .config → s.pwr.recovery = false → us < 2 ^ 32 → completes (.startUpStepComplete
      (.done us)) s fun t => t.pwr.boot = some .pll ∧ t.pwr.stepTick = s.tick ∧ State.rPwr t D.iPWR_START D.PWR_START_CONFIG = (us : Int) ∧ t.tick =
      s.tick ∧ t.dev.mode = s.dev.mode) ∧
  (∀ (s : State) (a : Nat), s.pwr.rails = true → s.pwr.boot = some .pll → completes (.startUpStepComplete (.failed a)) s fun t => t =
      { s with raised := s.raised ++ [⟨0x1C8, 1, 0⟩] }) ∧
  (∀ (s : State) (a : Nat), s.pwr.rails = true → s.pwr.boot = some .dram → completes (.startUpStepComplete (.failed a)) s fun t => t =
      { s with raised := s.raised ++ [⟨0x1D0, 3, a % 256⟩] }) ∧
  (∀ (s : State), s.pwr.rails = true → s.dev.fwStoring.isSome = true → completes (.fwStoreComplete .stored) s fun t => t.dev.fwStoring = none ∧
      t.dev.fwOlder = s.dev.fwNewer ∧ t.dev.fwNewer.valid = true ∧ t.free = s.free + 1 ∧ State.rDev t D.iDEV_FW D.DEV_FW_STATUS = 1 ∧ keeps [.dev,
      .free] s t) ∧
  (∀ (s : State), s.pwr.rails = true → s.dev.fwStoring.isSome = true → completes (.fwStoreComplete .badSignature) s fun t => t.dev.fwStoring = none ∧
      t.dev.fwNewer = s.dev.fwNewer ∧ t.dev.fwOlder = s.dev.fwOlder ∧ State.rDev t D.iDEV_FW D.DEV_FW_STATUS = 2 ∧ keeps [.dev] s t) ∧
  (∀ (s : State), s.pwr.rails = true → s.dev.fwStoring.isSome = true → completes (.fwStoreComplete .writeFailed) s fun t => t.dev.fwStoring = none ∧
      t.dev.fwNewer = s.dev.fwNewer ∧ t.dev.fwOlder = s.dev.fwOlder ∧ State.rDev t D.iDEV_FW D.DEV_FW_STATUS = 3 ∧ lastRaised s 0x1B0 6
      (Read.txnAddress s s.dev.fwPath % 2 ^ 32) t ∧ keeps [.dev, .raised] s t)

/-- With the core rails on, each of the three clears BUSY, DONE and the completed sequence register, forgets the sequence number of path 0 and rolls its
  transaction back; the path no longer reads an object of the store; the other paths keep all they hold, and nothing else changes. Rests on R49, R506.
  -/
def Obligations.HostLinkResetsTheMailbox : Prop :=
  (∀ (s : State), s.pwr.rails = true → completes .perstN s fun t => otherPaths 0 s t ∧ t.txn.busy = false ∧ t.txn.done = false ∧ (State.pathOf t
      0).txn = none ∧ (State.pathOf t 0).lastSeq = none ∧ State.bar0 t 0xC = 0 ∧ t.stk = { s.stk with readers := Tab.del s.stk.readers 0 } ∧ keeps
      [.txn, .stk] s t) ∧
  (∀ (s : State), s.pwr.rails = true → completes .pcieLinkDown s fun t => otherPaths 0 s t ∧ t.txn.busy = false ∧ t.txn.done = false ∧ (State.pathOf
      t 0).txn = none ∧ (State.pathOf t 0).lastSeq = none ∧ State.bar0 t 0xC = 0 ∧ t.stk = { s.stk with readers := Tab.del s.stk.readers 0 } ∧ keeps
      [.txn, .stk] s t) ∧
  (∀ (s : State), s.pwr.rails = true → completes .functionLevelReset s fun t => otherPaths 0 s t ∧ t.txn.busy = false ∧ t.txn.done = false ∧
      (State.pathOf t 0).txn = none ∧ (State.pathOf t 0).lastSeq = none ∧ State.bar0 t 0xC = 0 ∧ t.stk =
      { s.stk with readers := Tab.del s.stk.readers 0 } ∧ keeps [.txn, .stk] s t)

/-- REFCLK_LOST and PLL_UNLOCK end the lock, drive every gate low, count a lock that was held in CLK_STATUS.UNLOCKS and raise REFCLK_LOST or PLL_UNLOCK
  from source 0x1C8 with address 0. An uncorrectable error of DRAM or SRAM raises kind 2 from source 0x1D0 or 0x1D8 with its address and changes
  nothing else. A corrected one raises kind 1 at most once a second for each source: absorbed, it changes nothing. The FATAL ones lead to SAFE when
  they are collected. Rests on R20, R427, R443, R510, R516. -/
def Obligations.ClockAndMemoryErrorsAreRaised : Prop :=
  (∀ (s : State), s.pwr.rails = true → completes .refclkLost s fun t => t.dev.pllLocked = false ∧ (∀ c at4, Out.gatePin t c at4 = false) ∧ State.rPwr
      t D.iCLK_STATUS D.CLK_STATUS_UNLOCKS = (if s.dev.pllLocked then Arith.clamp 0 4294967295 (State.rPwr s D.iCLK_STATUS D.CLK_STATUS_UNLOCKS + 1)
      else State.rPwr s D.iCLK_STATUS D.CLK_STATUS_UNLOCKS) ∧ (⟨0x1C8, 2, 0⟩ : Msg) ∈ t.raised ∧ keeps [.pwr, .dev, .ctx, .trj, .lnd, .cat, .mpl,
      .grd, .att, .raised, .free] s t) ∧
  (∀ (s : State), s.pwr.rails = true → completes .pllUnlock s fun t => t.dev.pllLocked = false ∧ (∀ c at4, Out.gatePin t c at4 = false) ∧ State.rPwr
      t D.iCLK_STATUS D.CLK_STATUS_UNLOCKS = (if s.dev.pllLocked then Arith.clamp 0 4294967295 (State.rPwr s D.iCLK_STATUS D.CLK_STATUS_UNLOCKS + 1)
      else State.rPwr s D.iCLK_STATUS D.CLK_STATUS_UNLOCKS) ∧ (⟨0x1C8, 1, 0⟩ : Msg) ∈ t.raised ∧ keeps [.pwr, .dev, .ctx, .trj, .lnd, .cat, .mpl,
      .grd, .att, .raised, .free] s t) ∧
  (∀ (s : State) (addr : Nat), s.pwr.rails = true → addr < 2 ^ 32 → completes (.dramUncorr addr) s fun t => t =
      { s with raised := s.raised ++ [⟨0x1D0, 2, addr⟩] }) ∧
  (∀ (s : State) (addr : Nat), s.pwr.rails = true → addr < 2 ^ 32 → completes (.sramUncorr addr) s fun t => t =
      { s with raised := s.raised ++ [⟨0x1D8, 2, addr⟩] }) ∧
  (∀ (s : State) (addr : Nat), s.pwr.rails = true → Flt.absorbed s 0x1D0 = false → addr < 2 ^ 32 → completes (.dramCorrected addr) s fun t =>
      t.raised = s.raised ++ [⟨0x1D0, 1, addr⟩] ∧ Tab.find t.flt.corrected 0x1D0 = some s.tick ∧ Flt.absorbed t 0x1D0 = true ∧ otherSources 1024 s t ∧
      keeps [.flt, .raised] s t) ∧
  (∀ (s : State) (addr : Nat), s.pwr.rails = true → Flt.absorbed s 0x1D8 = false → addr < 2 ^ 32 → completes (.sramCorrected addr) s fun t =>
      t.raised = s.raised ++ [⟨0x1D8, 1, addr⟩] ∧ Tab.find t.flt.corrected 0x1D8 = some s.tick ∧ Flt.absorbed t 0x1D8 = true ∧ otherSources 1024 s t ∧
      keeps [.flt, .raised] s t) ∧
  (∀ (s : State) (addr : Nat), s.pwr.rails = true → Flt.absorbed s 0x1D0 = true → completes (.dramCorrected addr) s fun t => t = s) ∧
  (∀ (s : State) (addr : Nat), s.pwr.rails = true → Flt.absorbed s 0x1D8 = true → completes (.sramCorrected addr) s fun t => t = s) ∧
  (∀ (s : State) (m : Msg), s.pwr.rails = true → s.raised = [m] → Flt.sev m = 3 → ¬(m.src = 0x190 ∧ m.kind = 6) → s.dev.mode ≠ .thermalOff →
      completes .faultCollect s fun t => t.dev.mode = .safe ∧ (State.srcOf t m.src).active = true ∧ (State.srcOf t m.src).sev = 3)

/-- TICK adds one to the tick counter while the VEC clock runs and changes nothing while it does not; LASER_INTERLOCK_ASSERT with the core rails on and
  start-up step 2 over drives every gate low and raises INTERLOCK_ASSERTED with the tick; in BUILDING it pauses the build with reason 3 and holds a
  Catalogue about to issue, in every other state the state stays. INTERLOCK_RELEASE raises INTERLOCK_RELEASED with the tick and changes nothing else.
  Rests on R13, R23, R489. -/
def Obligations.ClockAndInterlock : Prop :=
  (∀ (s : State) (inp : TickIn), Tick.runs s = true → completes (.tick inp) s fun t => t.tick = s.tick + 1 ∧ t.pending = s.pending) ∧
  (∀ (s : State) (inp : TickIn), Tick.runs s = false → completes (.tick inp) s fun t => t = s) ∧
  (∀ (s : State), s.pwr.interlock = false → s.pwr.rails = true → s.dev.mode = .building → completes .laserInterlockAssert s fun t => t.pwr.interlock
      = true ∧ (∀ c at4, Out.gatePin t c at4 = false) ∧ t.dev.mode = .paused ∧ (s.cat.mode = .issue → t.cat.mode = .held) ∧ State.rDev t D.iDEV_STATE
      D.DEV_STATE_LAST_REASON = 3 ∧ (⟨0x1F0, 1, s.tick % 2 ^ 32⟩ : Msg) ∈ t.raised ∧ keeps [.pwr, .dev, .ctx, .trj, .lnd, .cat, .mpl, .grd, .lnk,
      .att, .img, .flt, .ldg, .raised, .free] s t) ∧
  (∀ (s : State), s.pwr.interlock = false → s.pwr.rails = true → s.dev.mode ≠ .building → s.pwr.served = true → completes .laserInterlockAssert s fun
      t => t.pwr.interlock = true ∧ (∀ c at4, Out.gatePin t c at4 = false) ∧ t.dev.mode = s.dev.mode ∧ (⟨0x1F0, 1, s.tick % 2 ^ 32⟩ : Msg) ∈ t.raised
      ∧ keeps [.pwr, .dev, .ctx, .trj, .lnd, .cat, .mpl, .grd, .lnk, .att, .img, .flt, .ldg, .raised, .free] s t) ∧
  (∀ (s : State), s.pwr.interlock = true → s.pwr.rails = true → completes .interlockRelease s fun t => t =
      { s with raised := s.raised ++ [⟨0x1F0, 2, s.tick % 2 ^ 32⟩], pwr := { s.pwr with interlock := false } })

/-- With no message waiting, GO_READY, GO_SERVICE, START_BUILD, PAUSE, RESUME, STOP and SAFE each reach the state of R23 when their conditions hold, with
  the state before it as PREV_STATE and reason 1; START_BUILD sets BTICK to 0 and the Catalogue to entry 0, PAUSE holds a Catalogue about to issue and
  RESUME lets it issue again, STOP and SAFE leave the Catalogue idle and no channel started, SAFE abandons a calibration run. Parts of the state
  outside the named ones stay. Rests on R21, R23, R139, R525. -/
def Obligations.StateCommandsAreTaken : Prop :=
  (∀ (s : State), hostOpen s = true → s.raised = [] → Seq.canReady s = true → completes .goReady s fun t => t.dev.mode = .ready ∧ t.dev.prev =
      .service ∧ State.rDev t D.iDEV_STATE D.DEV_STATE_LAST_REASON = 1 ∧ keeps [.dev, .flt, .ldg, .raised] s t) ∧
  (∀ (s : State), hostOpen s = true → s.raised = [] → (s.dev.mode = .ready ∨ s.dev.mode = .safe) → completes .goService s fun t => t.dev.mode =
      .service ∧ t.dev.prev = s.dev.mode ∧ State.rDev t D.iDEV_STATE D.DEV_STATE_LAST_REASON = 1 ∧ keeps [.dev, .flt, .ldg, .raised] s t) ∧
  (∀ (s : State), hostOpen s = true → s.raised = [] → Seq.canStart s = true → completes .startBuild s fun t => t.dev.mode = .building ∧ t.dev.prev =
      .ready ∧ State.rDev t D.iDEV_STATE D.DEV_STATE_LAST_REASON = 1 ∧ t.btick = 0 ∧ t.cat.mode = .issue ∧ t.cat.next = 0 ∧ t.cat.waiting = none ∧
      keeps [.btick, .dev, .flt, .ldg, .raised, .cat, .ctx, .lnd, .trj, .mpl, .img, .grd] s t) ∧
  (∀ (s : State), hostOpen s = true → s.raised = [] → s.dev.mode = .building → completes .pause s fun t => t.dev.mode = .paused ∧ t.dev.prev =
      .building ∧ State.rDev t D.iDEV_STATE D.DEV_STATE_LAST_REASON = 1 ∧ (s.cat.mode = .issue → t.cat.mode = .held) ∧ keeps [.dev, .ctx, .trj, .lnd,
      .cat, .mpl, .grd, .lnk, .att, .img, .flt, .ldg, .raised, .free] s t) ∧
  (∀ (s : State), hostOpen s = true → s.raised = [] → Seq.canResume s = true → completes .resume s fun t => t.dev.mode = .building ∧ t.dev.prev =
      .paused ∧ State.rDev t D.iDEV_STATE D.DEV_STATE_LAST_REASON = 1 ∧ (s.cat.mode = .held → t.cat.mode = .issue) ∧ keeps [.dev, .ctx, .trj, .lnd,
      .cat, .mpl, .grd, .lnk, .att, .img, .flt, .ldg, .raised, .free] s t) ∧
  (∀ (s : State), hostOpen s = true → s.raised = [] → s.dev.mode.inBuild = true → completes .stop s fun t => t.dev.mode = .ready ∧ t.cat.mode = .idle
      ∧ t.dev.prev = s.dev.mode ∧ State.rDev t D.iDEV_STATE D.DEV_STATE_LAST_REASON = 1 ∧ t.cat.waiting = none ∧ t.dev.spanOpen = false ∧ (∀ c < 24,
      State.chOf t c ≠ .started) ∧ keeps [.dev, .ctx, .trj, .lnd, .cat, .mpl, .grd, .att, .img, .ilm, .stk, .flt, .ldg, .raised, .free] s t) ∧
  (∀ (s : State), hostOpen s = true → s.raised = [] → s.dev.mode ≠ .safe → s.dev.mode ≠ .thermalOff → completes .safe s fun t => t.dev.mode = .safe ∧
      t.dev.prev = s.dev.mode ∧ State.rDev t D.iDEV_STATE D.DEV_STATE_LAST_REASON = 1 ∧ t.tmp.run = none ∧ (s.dev.mode.inBuild = true → t.cat.mode =
      .idle ∧ ∀ c < 24, State.chOf t c ≠ .started) ∧ keeps [.dev, .ctx, .trj, .lnd, .cat, .mpl, .grd, .att, .img, .ilm, .stk, .flt, .ldg, .raised,
      .free, .ax, .tmp, .pwr] s t)

/-- An OPEN that may take a session opens the lowest free one with its source, KEEPALIVE_MS and SEQ; KEEPALIVE restarts the interval; CLOSE closes the
  session and ends its transaction and its read of an object; SESSION_TIMEOUT raises SESSION_LOST and closes it; a datagram for DDP that fails the
  frame checks is counted, one that is not for DDP is dropped by its port. The other paths keep all they hold; outside the access paths only the
  counters of the port change. Rests on R37, R40, R41, R42, R405. -/
def Obligations.SessionsOpenAndClose : Prop :=
  (∀ (s : State) (p : Nat) (dg : Datagram), wellSent 1 dg s = true → 100 ≤ Arith.leAt dg.bytes 16 2 → Arith.leAt dg.bytes 16 2 ≤ 60000 → Arith.leAt
      dg.bytes 18 2 = 0 → Ddp.repeated dg (Ddp.head dg.bytes).seq s = none → Ddp.freeSession s = some p → completes (.ddpOpen dg) s fun t =>
      (State.pathOf t p).isOpen = true ∧ (State.pathOf t p).lastSeq = some (Ddp.head dg.bytes).seq ∧ (State.pathOf t p).keepAlive = Arith.leAt
      dg.bytes 16 2 ∧ (State.pathOf t p).ip = dg.ip ∧ (State.pathOf t p).port = dg.port ∧ (State.pathOf t p).lastValid = s.tick ∧ otherPaths p s t ∧
      keeps [.txn, .net] s t) ∧
  (∀ (s : State) (p : Nat) (dg : Datagram), inTurn p 3 dg s = true → completes (.keepalive dg) s fun t => (State.pathOf t p).isOpen = true ∧
      (State.pathOf t p).lastValid = s.tick ∧ (State.pathOf t p).lastSeq = some (Ddp.head dg.bytes).seq ∧ otherPaths p s t ∧ keeps [.txn, .net] s t) ∧
  (∀ (s : State) (p : Nat) (dg : Datagram), inTurn p 2 dg s = true → completes (.close dg) s fun t => (State.pathOf t p).isOpen = false ∧
      (State.pathOf t p).txn = none ∧ otherPaths p s t ∧ t.stk = { s.stk with readers := Tab.del s.stk.readers p } ∧ keeps [.txn, .net, .stk] s t) ∧
  (∀ (s : State) (p : Nat), s.pwr.rails = true → Ddp.lostDue s p = true → completes (.sessionTimeout p) s fun t => (State.pathOf t p).isOpen = false
      ∧ (State.pathOf t p).txn = none ∧ t.raised = s.raised ++ [⟨0x1B0, 2, Read.txnAddress s p % 2 ^ 32⟩] ∧ otherPaths p s t ∧ t.stk =
      { s.stk with readers := Tab.del s.stk.readers p } ∧ keeps [.txn, .raised, .stk] s t) ∧
  (∀ (s : State) (dg : Datagram), Write.answers s = true → Ddp.forDdp s dg = true → Ddp.dropped dg = true → completes (.badFrameDrop dg) s fun t =>
      State.rTxn t D.iTXN_STATS D.TXN_STATS_BAD_FRAMES = Arith.clamp 0 4294967295 (State.rTxn s D.iTXN_STATS D.TXN_STATS_BAD_FRAMES + 1) ∧ keeps
      [.txn, .net] s t) ∧
  (∀ (s : State) (dg : Datagram), Write.answers s = true → Ddp.forDdp s dg = false → Net.up s dg.eth = true → completes (.badFrameDrop dg) s fun t =>
      Net.port t dg.eth D.NET_PORT_RX_DROPPED = Arith.clamp 0 4294967295 (Net.port s dg.eth D.NET_PORT_RX_DROPPED + 1) ∧ keeps [.net] s t)

/-- A READ of DEV_STATE.TICK answers index, subindex, status 0, the type and length of U64 and the tick; a WRITE of CAT_CTRL.FIRST_LAYER outside a build
  sets the entry and answers status 0 for it. Outside the access paths and the counters of the port this WRITE changes the Catalogue registers alone.
  Any READ and any WRITE in turn is carried out as the operation on its items says, and its response is kept under its SEQ. Rests on R33, R40, R43,
  R44. -/
def Obligations.RequestsReadAndWriteEntries : Prop :=
  (∀ (s : State) (p : Nat) (dg : Datagram), inTurn p 0x10 dg s = true → (dg.bytes.drop 16) = Arith.natLe 2 D.iDEV_STATE ++ [BitVec.ofNat 8
      D.DEV_STATE_TICK, 0] → s.pwr.recovery = false → s.tick < 2 ^ 64 → completes (.read dg) s fun t => (State.pathOf t p).lastResp.drop 16 =
      Arith.natLe 2 D.iDEV_STATE ++ [BitVec.ofNat 8 D.DEV_STATE_TICK, 0, 5, 0] ++ Arith.natLe 2 8 ++ Arith.natLe 8 s.tick ∧ (State.pathOf t p).lastSeq
      = some (Ddp.head dg.bytes).seq ∧ otherPaths p s t ∧ keeps [.txn, .net] s t) ∧
  (∀ (s : State) (p : Nat) (dg : Datagram) (v : List Byte), inTurn p 0x11 dg s = true → Ddp.parseItems 64 (dg.bytes.drop 16) = some [⟨D.iCAT_CTRL,
      D.CAT_CTRL_FIRST_LAYER, 4, v⟩] → v.length = 4 → Arith.leNat v < 2 ^ 32 - 1 → upNow s = true → noTxn s = true → (State.pathOf s p).txn = none →
      (State.pathOf s p).expired = false → s.dev.mode.inBuild = false → completes (.write dg) s fun t => State.rCat t D.iCAT_CTRL
      D.CAT_CTRL_FIRST_LAYER = (Arith.leNat v : Int) ∧ (State.pathOf t p).lastResp.drop 16 = Arith.natLe 2 D.iCAT_CTRL ++ [BitVec.ofNat 8
      D.CAT_CTRL_FIRST_LAYER, 0] ∧ otherPaths p s t ∧ keeps [.txn, .net, .cat] s t) ∧
  (∀ (s : State) (p : Nat) (dg : Datagram), inTurn p 0x10 dg s = true → completes (.read dg) s fun t => (State.pathOf t p).lastResp = Ddp.frame
      (Ddp.head dg.bytes) (Ddp.head dg.bytes).session (Ddp.operate 1440 p 0x10 (dg.bytes.drop 16) (State.modPath (Net.count s dg.eth
      D.NET_PORT_RX_FRAMES) p fun x => { x with ip := dg.ip, port := dg.port, lastValid := s.tick })).answer (Ddp.operate 1440 p 0x10 (dg.bytes.drop
      16) (State.modPath (Net.count s dg.eth D.NET_PORT_RX_FRAMES) p fun x => { x with ip := dg.ip, port := dg.port, lastValid := s.tick })).body
      (State.modPath (Net.count s dg.eth D.NET_PORT_RX_FRAMES) p fun x => { x with ip := dg.ip, port := dg.port, lastValid := s.tick }) ∧
      (State.pathOf t p).lastSeq = some (Ddp.head dg.bytes).seq ∧ agree [.tick, .txn, .net] (Ddp.operate 1440 p 0x10 (dg.bytes.drop 16) (State.modPath
      (Net.count s dg.eth D.NET_PORT_RX_FRAMES) p fun x => { x with ip := dg.ip, port := dg.port, lastValid := s.tick })).state t ∧ t.tick = s.tick ∧
      t.pending = s.pending) ∧
  (∀ (s : State) (p : Nat) (dg : Datagram), inTurn p 0x11 dg s = true → completes (.write dg) s fun t => (State.pathOf t p).lastResp = Ddp.frame
      (Ddp.head dg.bytes) (Ddp.head dg.bytes).session (Ddp.operate 1440 p 0x11 (dg.bytes.drop 16) (State.modPath (Net.count s dg.eth
      D.NET_PORT_RX_FRAMES) p fun x => { x with ip := dg.ip, port := dg.port, lastValid := s.tick })).answer (Ddp.operate 1440 p 0x11 (dg.bytes.drop
      16) (State.modPath (Net.count s dg.eth D.NET_PORT_RX_FRAMES) p fun x => { x with ip := dg.ip, port := dg.port, lastValid := s.tick })).body
      (State.modPath (Net.count s dg.eth D.NET_PORT_RX_FRAMES) p fun x => { x with ip := dg.ip, port := dg.port, lastValid := s.tick }) ∧
      (State.pathOf t p).lastSeq = some (Ddp.head dg.bytes).seq ∧ agree [.tick, .txn, .net] (Ddp.operate 1440 p 0x11 (dg.bytes.drop 16) (State.modPath
      (Net.count s dg.eth D.NET_PORT_RX_FRAMES) p fun x => { x with ip := dg.ip, port := dg.port, lastValid := s.tick })).state t ∧ t.tick = s.tick ∧
      t.pending = s.pending)

/-- BLOB_READ of the Catalogue image answers its bytes from the offset, at most 1440; BLOB_WRITE at offset 0 with nothing gathered begins the upload with
  its bytes; BLOB_END with the right length and CRC-32 in SERVICE loads a valid Catalogue image and ends the upload. Any of the three in turn is
  carried out as its operation says, and its response is kept under its SEQ. Rests on R45, R124, R126, R140. -/
def Obligations.BlobsAreReadAndWritten : Prop :=
  (∀ (s : State) (p : Nat) (dg : Datagram), inTurn p 0x20 dg s = true → Arith.leAt (dg.bytes.drop 16) 0 2 = D.iCAT_CTRL → Arith.leAt (dg.bytes.drop
      16) 2 1 = D.CAT_CTRL_IMAGE → s.pwr.recovery = false → completes (.blobRead dg) s fun t => (State.pathOf t p).lastResp.drop 16 =
      ((s.cat.image.flatMap CatImg.bytes).drop (Arith.leAt (dg.bytes.drop 16) 4 4)).take (min 1440 (Arith.leAt (dg.bytes.drop 16) 8 2)) ∧ otherPaths p
      s t ∧ keeps [.txn, .net] s t) ∧
  (∀ (s : State) (p : Nat) (dg : Datagram), inTurn p 0x21 dg s = true → Arith.leAt (dg.bytes.drop 16) 0 2 = D.iCAT_CTRL → Arith.leAt (dg.bytes.drop
      16) 2 1 = D.CAT_CTRL_IMAGE → Arith.leAt (dg.bytes.drop 16) 4 4 = 0 → (State.pathOf s p).upload = none → upNow s = true → completes (.blobWrite
      dg) s fun t => (State.pathOf t p).upload = some ⟨D.iCAT_CTRL, D.CAT_CTRL_IMAGE, (dg.bytes.drop 16).drop 8⟩ ∧ otherPaths p s t ∧ keeps [.txn,
      .net] s t) ∧
  (∀ (s : State) (p : Nat) (dg : Datagram) (img : List Byte), inTurn p 0x22 dg s = true → Arith.leAt (dg.bytes.drop 16) 0 2 = D.iCAT_CTRL →
      Arith.leAt (dg.bytes.drop 16) 2 1 = D.CAT_CTRL_IMAGE → (State.pathOf s p).upload = some ⟨D.iCAT_CTRL, D.CAT_CTRL_IMAGE, img⟩ → img.length =
      Arith.leAt (dg.bytes.drop 16) 4 4 → Arith.crc32 img = Arith.leAt (dg.bytes.drop 16) 8 4 → CatImg.ok img = true → upNow s = true → noTxn s = true
      → (State.pathOf s p).txn = none → (State.pathOf s p).expired = false → s.dev.mode = .service → completes (.blobEnd dg) s fun t => t.cat.image =
      CatImg.entries img ∧ (State.pathOf t p).upload = none ∧ otherPaths p s t ∧ keeps [.txn, .net, .cat] s t) ∧
  (∀ (s : State) (p : Nat) (dg : Datagram), inTurn p 0x20 dg s = true → completes (.blobRead dg) s fun t => (State.pathOf t p).lastResp = Ddp.frame
      (Ddp.head dg.bytes) (Ddp.head dg.bytes).session (Ddp.operate 1440 p 0x20 (dg.bytes.drop 16) (State.modPath (Net.count s dg.eth
      D.NET_PORT_RX_FRAMES) p fun x => { x with ip := dg.ip, port := dg.port, lastValid := s.tick })).answer (Ddp.operate 1440 p 0x20 (dg.bytes.drop
      16) (State.modPath (Net.count s dg.eth D.NET_PORT_RX_FRAMES) p fun x => { x with ip := dg.ip, port := dg.port, lastValid := s.tick })).body
      (State.modPath (Net.count s dg.eth D.NET_PORT_RX_FRAMES) p fun x => { x with ip := dg.ip, port := dg.port, lastValid := s.tick }) ∧
      (State.pathOf t p).lastSeq = some (Ddp.head dg.bytes).seq ∧ agree [.tick, .txn, .net] (Ddp.operate 1440 p 0x20 (dg.bytes.drop 16) (State.modPath
      (Net.count s dg.eth D.NET_PORT_RX_FRAMES) p fun x => { x with ip := dg.ip, port := dg.port, lastValid := s.tick })).state t ∧ t.tick = s.tick ∧
      t.pending = s.pending) ∧
  (∀ (s : State) (p : Nat) (dg : Datagram), inTurn p 0x21 dg s = true → completes (.blobWrite dg) s fun t => (State.pathOf t p).lastResp = Ddp.frame
      (Ddp.head dg.bytes) (Ddp.head dg.bytes).session (Ddp.operate 1440 p 0x21 (dg.bytes.drop 16) (State.modPath (Net.count s dg.eth
      D.NET_PORT_RX_FRAMES) p fun x => { x with ip := dg.ip, port := dg.port, lastValid := s.tick })).answer (Ddp.operate 1440 p 0x21 (dg.bytes.drop
      16) (State.modPath (Net.count s dg.eth D.NET_PORT_RX_FRAMES) p fun x => { x with ip := dg.ip, port := dg.port, lastValid := s.tick })).body
      (State.modPath (Net.count s dg.eth D.NET_PORT_RX_FRAMES) p fun x => { x with ip := dg.ip, port := dg.port, lastValid := s.tick }) ∧
      (State.pathOf t p).lastSeq = some (Ddp.head dg.bytes).seq ∧ agree [.tick, .txn, .net] (Ddp.operate 1440 p 0x21 (dg.bytes.drop 16) (State.modPath
      (Net.count s dg.eth D.NET_PORT_RX_FRAMES) p fun x => { x with ip := dg.ip, port := dg.port, lastValid := s.tick })).state t ∧ t.tick = s.tick ∧
      t.pending = s.pending) ∧
  (∀ (s : State) (p : Nat) (dg : Datagram), inTurn p 0x22 dg s = true → completes (.blobEnd dg) s fun t => (State.pathOf t p).lastResp = Ddp.frame
      (Ddp.head dg.bytes) (Ddp.head dg.bytes).session (Ddp.operate 1440 p 0x22 (dg.bytes.drop 16) (State.modPath (Net.count s dg.eth
      D.NET_PORT_RX_FRAMES) p fun x => { x with ip := dg.ip, port := dg.port, lastValid := s.tick })).answer (Ddp.operate 1440 p 0x22 (dg.bytes.drop
      16) (State.modPath (Net.count s dg.eth D.NET_PORT_RX_FRAMES) p fun x => { x with ip := dg.ip, port := dg.port, lastValid := s.tick })).body
      (State.modPath (Net.count s dg.eth D.NET_PORT_RX_FRAMES) p fun x => { x with ip := dg.ip, port := dg.port, lastValid := s.tick }) ∧
      (State.pathOf t p).lastSeq = some (Ddp.head dg.bytes).seq ∧ agree [.tick, .txn, .net] (Ddp.operate 1440 p 0x22 (dg.bytes.drop 16) (State.modPath
      (Net.count s dg.eth D.NET_PORT_RX_FRAMES) p fun x => { x with ip := dg.ip, port := dg.port, lastValid := s.tick })).state t ∧ t.tick = s.tick ∧
      t.pending = s.pending)

/-- A doorbell submits a request while none is in progress, and sets OVERRUN with its message while one is; reading MBX_STATUS clears OVERRUN and reading
  NTC_LOST clears it; a write of the fault interrupt enable keeps its two bits; a register write over path 0 sets FIRST_LAYER, and any register write
  over a path acts as the write of its entry or of its BAR0 register says. Rests on R47, R48, R55, R117, R438. -/
def Obligations.MailboxAndBarRegisters : Prop :=
  (∀ (s : State) (word : Nat), Write.answers s = true → s.txn.busy = false → completes (.mbxDoorbell word) s fun t => t.txn.busy = true ∧ t.txn.done
      = false ∧ State.bar0 t 0 = word % 65536 ∧ keeps [.txn] s t) ∧
  (∀ (s : State) (word : Nat), Write.answers s = true → s.txn.busy = true → completes (.mbxDoorbell word) s fun t => t =
      { s with txn := { s.txn with overrun := true }, raised := s.raised ++ [⟨0x1B0, 3, Read.txnAddress s 0 % 2 ^ 32⟩] }) ∧
  (∀ (s : State), Write.answers s = true → completes .mbxStatusRead s fun t => t = { s with txn := { s.txn with overrun := false } }) ∧
  (∀ (s : State), Write.answers s = true → completes .ntcLostRead s fun t => State.bar0 t 0x98 = 0 ∧ keeps [.txn] s t) ∧
  (∀ (s : State) (v : Nat), Write.answers s = true → completes (.registerWrite (.bar0 0x108 v)) s fun t => State.bar0 t 0x108 = v % 4 ∧ keeps [.txn]
      s t) ∧
  (∀ (s : State) (off v : Nat), Write.answers s = true → completes (.registerWrite (.bar0 off v)) s fun t => agree [.tick] (Bar0.write off v s) t ∧
      t.tick = s.tick ∧ t.pending = s.pending) ∧
  (∀ (s : State) (p idx sub : Nat) (v : WVal), pathOpen p idx s = true → completes (.registerWrite (.entry p idx sub v)) s fun t => agree [.tick]
      (Write.write p idx sub (match v with | .num n => .num n | .str b => .bytes (Blob.ofList b)) s).1 t ∧ t.tick = s.tick ∧ t.pending = s.pending) ∧
  (∀ (s : State) (v : Int), hostOpen s = true → 0 ≤ v → v < 2 ^ 32 - 1 → s.dev.mode.inBuild = false → completes (.registerWrite (.entry 0 D.iCAT_CTRL
      D.CAT_CTRL_FIRST_LAYER (.num v))) s fun t => State.rCat t D.iCAT_CTRL D.CAT_CTRL_FIRST_LAYER = v ∧ keeps [.cat] s t)

/-- CFG_SAVE in SERVICE or READY takes the set of the present values; its completion makes that set the newer copy and the former newer one the older, and
  counts it; a failed save leaves the copies and raises CFG_SAVE_FAIL; CFG_ERASE leaves no copy valid. The check value of a set is a free value (log
  entry 7). Rests on R53, R68. -/
def Obligations.SavedSetIsKept : Prop :=
  (∀ (s : State), hostOpen s = true → (s.dev.mode = .service ∨ s.dev.mode = .ready) → completes .cfgSave s fun t => t.dev.saving = some (Saved.take
      s) ∧ t.dev.savedA = s.dev.savedA ∧ t.dev.savedB = s.dev.savedB ∧ State.rDev t D.iDEV_CFG D.DEV_CFG_RESULT = 1 ∧ t.free = s.free + 1 ∧ keeps
      [.dev, .free] s t) ∧
  (∀ (s : State) (c : SavedSet), s.pwr.rails = true → s.dev.saving = some c → completes (.cfgSaveComplete true) s fun t => t.dev.savedA = c ∧
      t.dev.savedB = s.dev.savedA ∧ t.dev.saving = none ∧ State.rDev t D.iDEV_CFG D.DEV_CFG_RESULT = 2 ∧ State.rDev t D.iDEV_CFG D.DEV_CFG_SAVE_COUNT
      = Arith.clamp 0 4294967295 (State.rDev s D.iDEV_CFG D.DEV_CFG_SAVE_COUNT + 1) ∧ keeps [.dev] s t) ∧
  (∀ (s : State), s.pwr.rails = true → s.dev.saving.isSome = true → completes (.cfgSaveComplete false) s fun t => t.dev.savedA = s.dev.savedA ∧
      t.dev.savedB = s.dev.savedB ∧ State.rDev t D.iDEV_CFG D.DEV_CFG_RESULT = 3 ∧ t.raised = s.raised ++ [⟨0x1B0, 4, Read.txnAddress s s.dev.savePath
      % 2 ^ 32⟩] ∧ keeps [.dev, .raised] s t) ∧
  (∀ (s : State), hostOpen s = true → (s.dev.mode = .service ∨ s.dev.mode = .ready) → completes .cfgErase s fun t => t =
      { s with dev := { s.dev with savedA := { s.dev.savedA with valid := false }, savedB := { s.dev.savedB with valid := false } } })

/-- TXN_BEGIN opens a transaction under the next identity; TXN_COMMIT of a LAYER write in a build queues it and outside a build sets its entry at once;
  TXN_ROLLBACK drops it and counts; TXN_TIMEOUT raises TXN_TIMEOUT, drops it and owes TXN_EXPIRED; TXN_COMMIT_COPY_END ends BUSY. Nothing else
  changes. Rests on R54, R55, R59, R60, R63, R64. -/
def Obligations.TransactionsRunTheirCourse : Prop :=
  (∀ (s : State) (p : Nat), pathOpen p D.iTXN_CTRL s = true → (State.pathOf s p).txn = none → completes (.txnBegin p) s fun t => (State.pathOf t
      p).txn = some ⟨s.txn.nextId, p, []⟩ ∧ t.txn.nextId = (s.txn.nextId + 1) % 2 ^ 32 ∧ Read.stored t p D.iTXN_CTRL D.TXN_CTRL_LAST_RESULT = 0 ∧
      otherPaths p s t ∧ keeps [.txn] s t) ∧
  (∀ (s : State) (p : Nat) (x : Txn) (v : Int), pathOpen p D.iTXN_CTRL s = true → (State.pathOf s p).txn = some x → x.writes = [⟨D.iCAT_CTRL,
      D.CAT_CTRL_FIRST_LAYER, .num v⟩] → s.dev.mode = .building → s.txn.queue.length < 8 → (s.txn.queue.all fun q => q.id != x.id) = true → completes
      (.txnCommit p) s fun t => t.txn.queue = Write.enqueue x s.txn.queue ∧ (State.pathOf t p).txn = none ∧ otherPaths p s t ∧ keeps [.txn] s t) ∧
  (∀ (s : State) (p : Nat) (x : Txn) (v : Int), pathOpen p D.iTXN_CTRL s = true → (State.pathOf s p).txn = some x → x.writes = [⟨D.iCAT_CTRL,
      D.CAT_CTRL_FIRST_LAYER, .num v⟩] → 0 ≤ v → v < 2 ^ 32 → s.dev.mode = .ready → completes (.txnCommit p) s fun t => State.rCat t D.iCAT_CTRL
      D.CAT_CTRL_FIRST_LAYER = v ∧ (State.pathOf t p).txn = none ∧ otherPaths p s t ∧ keeps [.txn, .cat] s t) ∧
  (∀ (s : State) (p : Nat) (x : Txn), pathOpen p D.iTXN_CTRL s = true → (State.pathOf s p).txn = some x → completes (.txnRollback p) s fun t =>
      (State.pathOf t p).txn = none ∧ State.rTxn t D.iTXN_STATS D.TXN_STATS_ROLLBACKS = Arith.clamp 0 4294967295 (State.rTxn s D.iTXN_STATS
      D.TXN_STATS_ROLLBACKS + 1) ∧ t.txn.queue = s.txn.queue ∧ otherPaths p s t ∧ keeps [.txn] s t) ∧
  (∀ (s : State) (p : Nat), s.pwr.rails = true → p < 5 → Write.timeoutDue s p = true → completes (.txnTimeout p) s fun t => (State.pathOf t p).txn =
      none ∧ (State.pathOf t p).expired = true ∧ t.raised = s.raised ++ [⟨0x1B0, 1, Read.txnAddress s p % 2 ^ 32⟩] ∧ t.txn.queue = s.txn.queue ∧
      otherPaths p s t ∧ keeps [.txn, .raised] s t) ∧
  (∀ (s : State) (p : Nat), s.pwr.rails = true → p < 5 → completes (.txnCommitCopyEnd p) s fun t => (State.pathOf t p).copying = false ∧ otherPaths p
      s t ∧ keeps [.txn] s t)

/-- FAULT_COLLECT of one NOTICE below MIN_SEV logs it, keeps word and tick with its source and leaves no message waiting; of one ERROR below MIN_SEV from
  a source without a window it also makes the source hold status, opens its window of FLT_CTRL.WINDOW from the present tick and asserts ERR_N for at
  least 20 T. Every other source is as it was. Rests on R422, R424, R426, R428, R429, R437. -/
def Obligations.MessagesAreCollected : Prop :=
  (∀ (s : State) (m : Msg), s.pwr.rails = true → s.raised = [m] → Flt.sev m = 0 → 0 < (State.rLdg s D.iLDG_CTRL D.LDG_CTRL_MIN_SEV).toNat → completes
      .faultCollect s fun t => t.raised = [] ∧ t.flt.logPos = (s.flt.logPos + 1) % 2 ^ 32 ∧ (State.srcOf t m.src).lastMsg = Flt.word m ∧ (State.srcOf
      t m.src).lastTick = s.tick ∧ (State.srcOf t m.src).window = (State.srcOf s m.src).window ∧ (State.srcOf t m.src).active = (State.srcOf s
      m.src).active ∧ otherSources m.src s t ∧ keeps [.flt, .raised] s t) ∧
  (∀ (s : State) (m : Msg), s.pwr.rails = true → s.raised = [m] → Flt.sev m = 1 → 1 < (State.rLdg s D.iLDG_CTRL D.LDG_CTRL_MIN_SEV).toNat →
      (State.srcOf s m.src).window = none → Flt.fencedAlready m.src m.kind m.addr s = false → completes .faultCollect s fun t => t.raised = [] ∧
      (State.srcOf t m.src).active = true ∧ (State.srcOf t m.src).window = some (s.tick, s.tick + 2 * (State.rFlt s D.iFLT_CTRL
      D.FLT_CTRL_WINDOW).toNat, Flt.word m) ∧ (State.srcOf t m.src).lastMsg = Flt.word m ∧ t.flt.logPos = (s.flt.logPos + 1) % 2 ^ 32 ∧ t.flt.minUntil
      = some (s.tick + 20) ∧ t.flt.pin = true ∧ otherSources m.src s t ∧ keeps [.flt, .raised, .dev] s t)

/-- ESCALATION of any source whose window has expired closes the window and writes one log entry; of the grid it fences the grid and counts it with source
  and collector; of temperature, calibration, the Ledger and power it changes only the log; of a unit already fenced it only closes the window and
  logs. RECOVERY of a source that is due clears its status, counts with source and collector and logs; ERR_N_MIN_END ends the 20 T, after which the
  pin follows LEVEL in SERVICE, READY, BUILDING and PAUSED. Rests on R431, R432, R434, R437. -/
def Obligations.WindowsEndAndSourcesRecover : Prop :=
  (∀ (s : State) (w : Nat × Nat × Nat), s.pwr.rails = true → (State.srcOf s 0xF0).window = some w → w.2.1 ≤ s.tick → s.grd.mode ≠ .fenced → completes
      (.escalation 0xF0) s fun t => (State.srcOf t 0xF0).window = none ∧ t.grd.mode = .fenced ∧ (State.srcOf t 0xF0).escalations = min 65535
      ((State.srcOf s 0xF0).escalations + 1) ∧ State.rFlt t D.iFLT_CTRL D.FLT_CTRL_ESCALATIONS = Arith.clamp 0 4294967295 (State.rFlt s D.iFLT_CTRL
      D.FLT_CTRL_ESCALATIONS + 1) ∧ otherSources 0xF0 s t ∧ t.flt.logPos = (s.flt.logPos + 1) % 2 ^ 32 ∧ keeps [.flt, .grd] s t) ∧
  (∀ (s : State) (src : Nat) (w : Nat × Nat × Nat), s.pwr.rails = true → 0x180 ≤ src → src ≠ 0x1B0 → (State.srcOf s src).window = some w → w.2.1 ≤
      s.tick → completes (.escalation src) s fun t => (State.srcOf t src).window = none ∧ (State.srcOf t src).escalations = (State.srcOf s
      src).escalations ∧ State.rFlt t D.iFLT_CTRL D.FLT_CTRL_ESCALATIONS = State.rFlt s D.iFLT_CTRL D.FLT_CTRL_ESCALATIONS ∧ t.flt.logPos =
      (s.flt.logPos + 1) % 2 ^ 32 ∧ otherSources src s t ∧ keeps [.flt] s t) ∧
  (∀ (s : State) (src : Nat) (w : Nat × Nat × Nat), s.pwr.rails = true → (State.srcOf s src).window = some w → w.2.1 ≤ s.tick → completes
      (.escalation src) s fun t => (State.srcOf t src).window = none ∧ t.flt.logPos = (s.flt.logPos + 1) % 2 ^ 32 ∧ t.tick = s.tick) ∧
  (∀ (s : State) (src : Nat) (w : Nat × Nat × Nat), s.pwr.rails = true → (State.srcOf s src).window = some w → w.2.1 ≤ s.tick → Flt.fencedAlready src
      (Arith.bits w.2.2 47 42) (w.2.2 % 2 ^ 32) s = true → completes (.escalation src) s fun t => (State.srcOf t src).window = none ∧ otherSources src
      s t ∧ t.flt.logPos = (s.flt.logPos + 1) % 2 ^ 32 ∧ keeps [.flt] s t) ∧
  (∀ (s : State) (src : Nat), s.pwr.rails = true → Flt.recoverDue s src = true → completes (.recovery src) s fun t => (State.srcOf t src).active =
      false ∧ (State.srcOf t src).sev = 0 ∧ (State.srcOf t src).recoveries = min 65535 ((State.srcOf s src).recoveries + 1) ∧ State.rFlt t D.iFLT_CTRL
      D.FLT_CTRL_RECOVERIES = Arith.clamp 0 4294967295 (State.rFlt s D.iFLT_CTRL D.FLT_CTRL_RECOVERIES + 1) ∧ t.flt.logPos = (s.flt.logPos + 1) % 2 ^
      32 ∧ otherSources src s t ∧ keeps [.flt] s t) ∧
  (∀ (s : State) (k : Nat), s.pwr.rails = true → s.flt.minUntil = some k → k ≤ s.tick → completes .errNMinEnd s fun t => t.flt.minUntil = none ∧
      t.flt.srcs = s.flt.srcs ∧ ((s.dev.mode = .service ∨ s.dev.mode = .ready ∨ s.dev.mode.inBuild = true) → t.flt.pin = decide (State.rFlt s
      D.iFLT_PIN D.FLT_PIN_LEVEL = 1)) ∧ keeps [.flt] s t)

/-- With no message waiting to be collected, ACK closes the open window of the source and marks it acknowledged; CLEAR of a source whose condition is not
  present ends its status and its window; ACK_ALL leaves no window open; CLEAR_ALL clears every source whose condition is not present; REARM frees the
  first-fault capture and its counts. ACK and CLEAR of one source leave every other as it was; only the collector and the attachments change. Rests on
  R425, R430, R436, R438, R442. -/
def Obligations.SourcesAreAcknowledgedAndCleared : Prop :=
  (∀ (s : State) (p : Nat), pathOpen p D.iFLT_SRC s = true → s.raised = [] → (State.srcOf s (Read.stored s p D.iFLT_SRC
      D.FLT_SRC_SELECT).toNat).window.isSome = true → completes (.fltSrcAck p) s fun t => (State.srcOf t (Read.stored s p D.iFLT_SRC
      D.FLT_SRC_SELECT).toNat).window = none ∧ (State.srcOf t (Read.stored s p D.iFLT_SRC D.FLT_SRC_SELECT).toNat).acked = true ∧ otherSources
      (Read.stored s p D.iFLT_SRC D.FLT_SRC_SELECT).toNat s t ∧ keeps [.flt, .att] s t) ∧
  (∀ (s : State) (p : Nat), pathOpen p D.iFLT_SRC s = true → s.raised = [] → (State.srcOf s (Read.stored s p D.iFLT_SRC
      D.FLT_SRC_SELECT).toNat).active = true → Read.live s (Read.stored s p D.iFLT_SRC D.FLT_SRC_SELECT).toNat = false → completes (.fltSrcClear p) s
      fun t => (State.srcOf t (Read.stored s p D.iFLT_SRC D.FLT_SRC_SELECT).toNat).active = false ∧ (State.srcOf t (Read.stored s p D.iFLT_SRC
      D.FLT_SRC_SELECT).toNat).window = none ∧ otherSources (Read.stored s p D.iFLT_SRC D.FLT_SRC_SELECT).toNat s t ∧ keeps [.flt, .att] s t) ∧
  (∀ (s : State) (src : Nat), Write.answers s = true → s.raised = [] → src < 1024 → Instr.assigned src = true → (State.srcOf s src).window.isSome =
      true → completes (.fltAckAck src) s fun t => (State.srcOf t src).window = none ∧ (State.srcOf t src).acked = true ∧ otherSources src s t ∧ keeps
      [.flt, .att] s t) ∧
  (∀ (s : State) (src : Nat), Write.answers s = true → s.raised = [] → src < 1024 → Instr.assigned src = true → (State.srcOf s src).active = true →
      Read.live s src = false → completes (.fltAckClear src) s fun t => (State.srcOf t src).active = false ∧ (State.srcOf t src).window = none ∧
      otherSources src s t ∧ keeps [.flt, .att] s t) ∧
  (∀ (s : State), hostOpen s = true → s.raised = [] → completes .fltRearm s fun t => t.flt.firstValid = false ∧ State.rFlt t D.iFLT_FIRST
      D.FLT_FIRST_OVERFLOW = 0 ∧ State.rFlt t D.iFLT_FIRST D.FLT_FIRST_LATER = 0 ∧ State.rFlt t D.iFLT_FIRST D.FLT_FIRST_SAME_CYCLE = 0 ∧ t.flt.srcs =
      s.flt.srcs ∧ keeps [.flt] s t) ∧
  (∀ (s : State), hostOpen s = true → s.raised = [] → completes .fltAckAll s fun t => (∀ k ∈ Flt.known s, (State.srcOf t k).window = none) ∧ keeps
      [.flt, .att] s t) ∧
  (∀ (s : State), hostOpen s = true → s.raised = [] → completes .fltClearAll s fun t => (∀ k ∈ Flt.known s, Read.live s k = false → (State.srcOf t
      k).active = false) ∧ keeps [.flt, .att] s t)

/-- FREEZE begins a freeze at the present tick; UNFREEZE and the end of FREEZE_MAX, with nothing staged, end it, the latter with FREEZE_EXPIRED; MARK with
  nothing to merge into writes a record of trigger 9 with MARK_VALUE under the next SEQ; a checkpoint that is due takes operating time, cycles and SEQ
  into one of its two slots. Rests on R446, R447, R448, R451, R452. -/
def Obligations.LedgerFreezesMarksAndCheckpoints : Prop :=
  (∀ (s : State), hostOpen s = true → s.ldg.frozen = none → completes .ldgFreeze s fun t => t =
      { s with ldg := { s.ldg with frozen := some s.tick } }) ∧
  (∀ (s : State), hostOpen s = true → s.ldg.frozen.isSome = true → s.ldg.staging = [] → completes .ldgUnfreeze s fun t => t =
      { s with ldg := { s.ldg with frozen := none } }) ∧
  (∀ (s : State), s.pwr.rails = true → Ldg.freezeOver s = true → s.ldg.staging = [] → completes .freezeExpired s fun t => t.ldg =
      { s.ldg with frozen := none } ∧ t.raised.map (fun m => (m.src, m.kind)) = s.raised.map (fun m => (m.src, m.kind)) ++ [(0x1A0, 3)] ∧ keeps [.ldg,
      .raised, .free] s t) ∧
  (∀ (s : State), hostOpen s = true → s.ldg.frozen = none → s.ldg.mergeInto = none → s.ldg.bad = [] → completes .ldgMark s fun t => t.ldg.lastSeq =
      some (Ldg.nextSeq s) ∧ t.ldg.ringNext = s.ldg.ringNext + 1 ∧ (Ldg.slot t (Ldg.cellsOf s (776 + s.ldg.ringNext % 31992))).trigger = 9 ∧ (Ldg.slot
      t (Ldg.cellsOf s (776 + s.ldg.ringNext % 31992))).msg = (State.rLdg s D.iLDG_CTRL D.LDG_CTRL_MARK_VALUE).toNat ∧ (Ldg.slot t (Ldg.cellsOf s (776
      + s.ldg.ringNext % 31992))).seq = Ldg.nextSeq s ∧ keeps [.ldg] s t) ∧
  (∀ (s : State), s.pwr.rails = true → Ldg.checkDue s = true → completes .ledgerCheckpoint s fun t => t.ldg.checkAt = s.ldg.opTime ∧ t.ldg.slots =
      s.ldg.slots ∧ (t.ldg.checkA = (s.ldg.opTime, s.ldg.cycles, s.ldg.lastSeq.getD 0) ∨ t.ldg.checkB = (s.ldg.opTime, s.ldg.cycles,
      s.ldg.lastSeq.getD 0)) ∧ keeps [.ldg] s t)

/-- SENSOR_READING keeps the count and the corrected reading of its sensor, 150 degrees while it is broken; RATE_CHECK keeps Tj and, with ten checks kept,
  reports the difference to the one a second ago; TMP_EXCLUDE takes a value within the bounds of R465 in SERVICE and changes nothing elsewhere;
  ACK_SHUTDOWN acknowledges the newest shutdown record. The count to temperature function is the configuration of log entry 3. Rests on R460, R463,
  R464, R465, R468. -/
def Obligations.SensorsAreReadAndExcluded : Prop :=
  (∀ (s : State) (i n : Nat), s.pwr.rails = true → i < 40 → completes (.sensorReading i n) s fun t => (Tmp.sensor t i).count = n ∧ (Tmp.sensor t
      i).reading = (if (Tmp.sensor t i).broken then 2400 else Cal.correctRaw s.tmp.values (64 + i) (Config.tNom n)) ∧ otherSensors i s t ∧ keeps
      [.tmp, .raised, .cat] s t) ∧
  (∀ (s : State), s.pwr.rails = true → s.tmp.hist.length < 10 → completes .rateCheck s fun t => t =
      { s with tmp := { s.tmp with hist := (Tmp.tj s :: s.tmp.hist).take 10 } }) ∧
  (∀ (s : State) (old : Int), s.pwr.rails = true → s.tmp.hist[9]? = some old → completes .rateCheck s fun t => t.tmp.hist = (Tmp.tj s ::
      s.tmp.hist).take 10 ∧ State.rTmp t D.iTMP D.TMP_RATE = Arith.clamp (-32768) 32767 (Tmp.tj s - old) ∧ keeps [.tmp, .raised] s t) ∧
  (∀ (s : State) (v : Nat), hostOpen s = true → s.dev.mode = .service → Tmp.excludeOk v = true → completes (.tmpExcludeWrite v) s fun t => State.rTmp
      t D.iTMP D.TMP_EXCLUDE = (v : Int) ∧ keeps [.tmp, .ldg, .raised] s t) ∧
  (∀ (s : State) (v : Nat), hostOpen s = true → s.dev.mode ≠ .service → completes (.tmpExcludeWrite v) s fun t => t = s) ∧
  (∀ (s : State) (q : Nat), hostOpen s = true → Read.shutdownSeq s = some q → completes .tmpAckShutdown s fun t => t =
      { s with tmp := { s.tmp with acked := some q } })

/-- CAL_RUN in SERVICE begins a manual run with no failed point; CAL_POINT_TIMEOUT in a run notes the entry and raises CAL_POINT_TIMEOUT; CAL_RUN_END of a
  manual run ends it, puts the new values in force, keeps the former newer copy as the older and counts the run. Rests on R469, R470, R471. -/
def Obligations.CalibrationRunsTheirCourse : Prop :=
  (∀ (s : State), hostOpen s = true → s.dev.mode = .service → s.tmp.run = none → completes .calRun s fun t => t.tmp.run = some .manual ∧
      t.tmp.unsettled = [] ∧ State.rTmp t D.iCAL D.CAL_FAIL_A = 0 ∧ State.rTmp t D.iCAL D.CAL_FAIL_B = 0 ∧ keeps [.tmp] s t) ∧
  (∀ (s : State) (i : Nat), s.pwr.rails = true → i < 104 → s.tmp.run.isSome = true → completes (.calPointTimeout i) s fun t => t.tmp.unsettled = i ::
      s.tmp.unsettled ∧ t.raised = s.raised ++ [⟨0x198, 1, i⟩] ∧ keeps [.tmp, .raised] s t) ∧
  (∀ (s : State) (points : List (Int × Int)), s.pwr.rails = true → s.tmp.run = some .manual → s.tmp.again = none → s.pwr.boot = none → completes
      (.calRunEnd points) s fun t => t.tmp.run = none ∧ t.tmp.newer = some t.tmp.values ∧ t.tmp.older = s.tmp.newer ∧ State.rTmp t D.iCAL D.CAL_COUNT
      = Arith.clamp 0 4294967295 (State.rTmp s D.iCAL D.CAL_COUNT + 1) ∧ State.rTmp t D.iCAL D.CAL_LAST_TEMP = Arith.toSigned 16 (Arith.toUnsigned 16
      (Tmp.tj s)) ∧ keeps [.tmp, .raised, .cat] s t)

/-- With no acknowledgement of the context owed, a PAD unit that passes the checks of R94 is stored at WP, and PROD_POS, WP, VP and ITEMS_IN advance; a
  byte written ahead in the window is kept until its unit is complete; DMA_FETCH of a one-unit descriptor delivers it and moves DMA_HEAD on; the
  doorbell sets TAIL and lets a stopped DMA go on once DMA_FAULT is clear. Data for a context that has selected another feed is dropped and counted;
  reserved offsets of the window and reserved contexts of the doorbell take nothing. Every other context stays. Rests on R94, R104, R109, R110, R111,
  R112, R113, R117. -/
def Obligations.ContextsTakeUnits : Prop :=
  (∀ (s : State) (n : Nat) (u : List Byte), s.pwr.rails = true → n < 96 → padFits n u s = true → noStripeOf n s = true → completes (.itemAccept n u)
      s fun t => State.ctxReg t n D.CTX_WP = State.ctxReg s n D.CTX_WP + 32 ∧ State.ctxReg t n D.CTX_PROD_POS = State.ctxReg s n D.CTX_PROD_POS + 32 ∧
      State.ctxReg t n D.CTX_VP = State.ctxReg s n D.CTX_WP + 32 ∧ (State.ctxOf t n).items = (State.ctxOf s n).items ++ [⟨State.ctxReg s n D.CTX_WP,
      1, .pad⟩] ∧ State.rCtx t (D.iCTX + n) D.CTX_ITEMS_IN = (Arith.toUnsigned 64 (State.rCtx s (D.iCTX + n) D.CTX_ITEMS_IN + 1) : Int) ∧ otherCtxs n
      s t ∧ keeps [.ctx, .txn, .dev] s t) ∧
  (∀ (s : State) (n off d : Nat) (b : Byte), s.pwr.rails = true → off / 2 ^ 21 = n → n < 96 → Feed.feedOf s n = 0 → noStripeOf n s = true → d = (off
      % 2 ^ 21 + 2 ^ 21 - State.ctxReg s n D.CTX_PROD_POS % 2 ^ 21) % 2 ^ 21 → 32 ≤ d → d % 32 ≠ 31 → d < 2048 → d < State.freeBytes s n → completes
      (.windowWrite off [b]) s fun t => Tab.get (fun _ => none) (State.ctxOf t n).ahead (State.ctxReg s n D.CTX_PROD_POS + d) = some b ∧ ∀ p, p ≠
      State.ctxReg s n D.CTX_PROD_POS + d → Tab.get (fun _ => none) (State.ctxOf t n).ahead p = Tab.get (fun _ => none) (State.ctxOf s n).ahead p ∧
      otherCtxs n s t ∧ keeps [.ctx] s t) ∧
  (∀ (s : State) (n off : Nat) (data : List Byte), s.pwr.rails = true → off / 2 ^ 21 = n → n < 96 → 1 ≤ data.length → off % 2 ^ 21 + data.length ≤ 2
      ^ 21 → Feed.feedOf s n ≠ 0 → completes (.windowWrite off data) s fun t => State.rCtx t (D.iCTX + n) D.CTX_DROPPED = Arith.clamp 0 4294967295
      (State.rCtx s (D.iCTX + n) D.CTX_DROPPED + (data.length : Int)) ∧ (State.ctxOf t n).items = (State.ctxOf s n).items ∧ otherCtxs n s t ∧ keeps
      [.ctx, .raised] s t) ∧
  (∀ (s : State) (off : Nat) (b c : Byte), s.pwr.rails = true → off % 2 ^ 21 = 2 ^ 21 - 1 → completes (.windowWrite off [b, c]) s fun t => t =
      Feed.windowWrite (Feed.windowWrite s off [b]) (off + 1) [c]) ∧
  (∀ (s : State) (off : Nat) (data : List Byte), 96 ≤ off / 2 ^ 21 → completes (.windowWrite off data) s fun t => t = s) ∧
  (∀ (s : State) (n word : Nat), Write.answers s = true → word < 2 ^ 32 → Arith.bits word 6 0 = n → n < 96 → completes (.ctxDmaDoorbell word) s fun t
      => (State.ctxOf t n).dmaTail = Arith.bits word 27 16 ∧ (State.ctxOf t n).dmaStopped = ((State.ctxOf s n).dmaStopped && Arith.bit (State.ctxReg s
      n D.CTX_FLAGS) 4) ∧ otherCtxs n s t ∧ keeps [.ctx] s t) ∧
  (∀ (s : State) (word : Nat), word < 2 ^ 32 → 96 ≤ Arith.bits word 6 0 → completes (.ctxDmaDoorbell word) s fun t => t = s) ∧
  (∀ (s : State) (n : Nat) (desc u : List Byte), s.pwr.rails = true → n < 96 → padFits n u s = true → noStripeOf n s = true → Feed.feedOf s n = 1 →
      (State.ctxOf s n).dmaStopped = false → State.ctxReg s n D.CTX_DMA_HEAD ≠ (State.ctxOf s n).dmaTail → Feed.descOk desc = true → Arith.leAt desc 8
      4 = 32 → Arith.leAt desc 12 4 = 0 → (State.ctxOf s n).dmaDone = 0 → State.ctxReg s n D.CTX_DMA_ENTRIES ≤ 4096 → completes (.dmaFetch n desc u
      false) s fun t => State.ctxReg t n D.CTX_WP = State.ctxReg s n D.CTX_WP + 32 ∧ State.ctxReg t n D.CTX_PROD_POS = State.ctxReg s n D.CTX_PROD_POS
      + 32 ∧ (State.ctxOf t n).items = (State.ctxOf s n).items ++ [⟨State.ctxReg s n D.CTX_WP, 1, .pad⟩] ∧ State.rCtx t (D.iCTX + n) D.CTX_ITEMS_IN =
      (Arith.toUnsigned 64 (State.rCtx s (D.iCTX + n) D.CTX_ITEMS_IN + 1) : Int) ∧ State.ctxReg t n D.CTX_DMA_HEAD = (State.ctxReg s n D.CTX_DMA_HEAD
      + 1) % max 1 (State.ctxReg s n D.CTX_DMA_ENTRIES) ∧ (State.ctxOf t n).dmaDone = 0 ∧ otherCtxs n s t ∧ keeps [.ctx, .txn, .dev] s t)

/-- CTX_ENABLE makes a DISABLED private context of a working channel ENABLED with its ENABLE bit set, and takes a DISABLING one back to ENABLED;
  CTX_DISABLE makes an ENABLED one DISABLED, or DISABLING while a stripe of it is begun and not acknowledged; CTX_FLUSH of a DISABLED or PARKED
  context discards its items and its stripes and brings VP, RP and RM to WP, and of another it changes no context. Every other context stays. Rests on
  R99, R119, R122. -/
def Obligations.ContextsAreEnabledDisabledFlushed : Prop :=
  (∀ (s : State) (n : Nat), upNow s = true → n < 24 → (State.ctxOf s n).mode = .disabled → (State.ctxOf s n).fenced = false → State.chOf s n ≠
      .disabled → State.chOf s n ≠ .fenced → completes (.ctxEnable n) s fun t => (State.ctxOf t n).mode = .enabled ∧ Arith.bit (State.ctxReg t n
      D.CTX_CTRL) 0 = true ∧ otherCtxs n s t ∧ keeps [.ctx, .txn, .dev] s t) ∧
  (∀ (s : State) (n : Nat), upNow s = true → n < 24 → (State.ctxOf s n).mode = .disabling → completes (.ctxEnable n) s fun t => (State.ctxOf t
      n).mode = .enabled ∧ Arith.bit (State.ctxReg t n D.CTX_CTRL) 0 = true ∧ otherCtxs n s t ∧ keeps [.ctx, .txn, .dev] s t) ∧
  (∀ (s : State) (n : Nat), upNow s = true → n < 24 → (State.ctxOf s n).mode = .enabled → completes (.ctxDisable n) s fun t => (State.ctxOf t n).mode
      = (if State.inFlight s n then .disabling else .disabled) ∧ Arith.bit (State.ctxReg t n D.CTX_CTRL) 0 = false ∧ otherCtxs n s t ∧ keeps [.ctx,
      .txn, .dev] s t) ∧
  (∀ (s : State) (n : Nat), hostOpen s = true → n < 96 → Feed.flushOk s n = true → State.ctxReg s n D.CTX_WP < 2 ^ 64 → completes (.ctxFlush n) s fun
      t => (State.ctxOf t n).items = [] ∧ (State.ctxOf t n).tail = [] ∧ (State.ctxOf t n).flights = [] ∧ (State.ctxOf t n).replays = [] ∧ (∀ c < 24,
      (State.engOf t c).stripes = (State.engOf s c).stripes.filter fun r => r.ctx != n) ∧ State.ctxReg t n D.CTX_VP = State.ctxReg s n D.CTX_WP ∧
      State.ctxReg t n D.CTX_RP = State.ctxReg s n D.CTX_WP ∧ State.ctxReg t n D.CTX_RM = State.ctxReg s n D.CTX_WP ∧ (State.ctxOf t n).mode =
      (State.ctxOf s n).mode ∧ otherCtxs n s t ∧ keeps [.ctx, .trj, .lnd, .txn, .dev, .raised] s t) ∧
  (∀ (s : State) (n : Nat), hostOpen s = true → n < 96 → Feed.flushOk s n = false → completes (.ctxFlush n) s fun t => keeps [.txn] s t)

/-- STRIPE_ACK of the one stripe of a channel whose acknowledgement is due takes it from the engine and marks its flight acknowledged; where none is due
  it changes nothing. HEAD_LATE stops a started channel with its gate off and lets it wait, and raises HEAD_LATE with the channel as address where no
  earlier late unit of the context is still on its way. An owed ITEMS notice goes out when its interval is over and the ring has room: into the slot
  at the ring's write index where none waits before it. Rests on R102, R106, R117, R118, R123. -/
def Obligations.StripesAreAcknowledgedAndNoticed : Prop :=
  (∀ (s : State) (c k : Nat) (r : StripeRun), s.pwr.rails = true → c < 24 → (State.engOf s c).stripes = [r] → r.kLast = some k → Feed.ackAt s c k ≤
      s.tick → State.ptrFault (State.ackStripe s r.ctx r.start) r.ctx = none → completes (.stripeAck c) s fun t => (State.engOf t c).stripes = [] ∧ (∀
      f ∈ (State.ctxOf t r.ctx).flights, f.start = r.start → f.acked = true) ∧ otherEngines c s t ∧ otherCtxs r.ctx s t ∧ keeps [.ctx, .trj, .txn,
      .dev] s t) ∧
  (∀ (s : State) (c : Nat), ((State.engOf s c).stripes.all fun r => (r.kLast.map fun k => decide (s.tick < Feed.ackAt s c k)).getD true) = true →
      completes (.stripeAck c) s fun t => t = s) ∧
  (∀ (s : State) (c n wait : Nat), s.pwr.rails = true → c < 24 → n < 96 → State.chOf s c = .started → completes (.headLate c n wait) s fun t =>
      t.raised = s.raised ++ (if (State.ctxOf s n).headUntil ≤ s.tick then [⟨n, 4, c⟩] else []) ∧ s.tick + wait ≤ (State.engOf t c).waitUntil ∧ s.tick
      + wait ≤ (State.ctxOf t n).headUntil ∧ otherEngines c s t ∧ otherCtxs n s t ∧ keeps [.trj, .att, .ctx, .raised] s t) ∧
  (∀ (s : State) (c n wait : Nat), s.pwr.rails = true → c < 24 → n < 96 → State.chOf s c = .started → Eng.faultHeld (State.engOf s c) = false →
      completes (.headLate c n wait) s fun t => (State.engOf t c).motion = (if (State.engOf s c).motion = .rest then .rest else .stop) ∧ (State.engOf
      t c).why = .headLate ∧ Eng.gateAt (State.engOf t c) ((s.tick + 1) * 125) = false) ∧
  (∀ (s : State) (n : Nat), s.pwr.rails = true → n < 96 → (State.ctxOf s n).noticeOwed = true → State.noticeRipe s n = true → State.ringFull s =
      false → completes (.itemsNotice n) s fun t => (State.ctxOf t n).noticeOwed = false ∧ (State.ctxOf t n).noticeTick = some s.tick ∧ otherCtxs n s
      t ∧ keeps [.ctx, .txn, .dev] s t) ∧
  (∀ (s : State) (n : Nat), s.pwr.rails = true → n < 96 → (State.ctxOf s n).noticeOwed = true → State.noticeRipe s n = true → State.ringFull s =
      false → s.ctx.waiting = [] → Arith.bit (State.bar0 s 0x8C) 0 = true → completes (.itemsNotice n) s fun t => (Tab.get (fun _ => []) t.ctx.ring
      (State.bar0 s 0x90)).take 3 = [1, BitVec.ofNat 8 n, 0])

/-- CHS_ENABLE makes a DISABLED channel IDLE. CHS_DISABLE of one without a stripe makes it DISABLED at once, parks its private context and bars it until
  the boundary; one with a stripe in flight keeps its state until the re-plan that begins with it. STRIPE_DECISION where the rule of R180 chooses a
  context that offers a stripe begins it: RP moves past it, the engine plans it, and the counters of R179 and R199 count it; frozen by a re-plan the
  channel counts a FREEZE tick; a decision that is not due changes nothing. No other channel changes its state. Rests on R122, R143, R168, R178, R179,
  R180, R192, R197, R199, R527. -/
def Obligations.ChannelsAreEnabledAndDisabled : Prop :=
  (∀ (s : State) (c : Nat), upNow s = true → c < 24 → State.chOf s c = .disabled → completes (.chsEnable c) s fun t => State.chOf t c = .idle ∧
      State.rCat t (D.iCHS + c) D.CHS_ENABLE = 1 ∧ ∀ d < 24, d ≠ c → State.chOf t d = State.chOf s d ∧ keeps [.cat, .lnk, .ctx, .txn, .dev, .raised,
      .att] s t) ∧
  (∀ (s : State) (c : Nat), upNow s = true → c < 24 → State.chOf s c ≠ .disabled → State.chOf s c ≠ .fenced → Eng.leaving s c = false → (State.engOf
      s c).stripes = [] → completes (.chsDisable c) s fun t => State.chOf t c = .disabled ∧ State.rCat t (D.iCHS + c) D.CHS_ENABLE = 0 ∧ (State.ctxOf
      t c).mode ≠ .enabled ∧ c ∈ t.lnd.barred ∧ ∀ d < 24, d ≠ c → State.chOf t d = State.chOf s d ∧ otherEngines c s t ∧ keeps [.cat, .trj, .att,
      .ctx, .lnd, .txn, .dev, .raised] s t) ∧
  (∀ (s : State) (c : Nat), upNow s = true → c < 24 → State.chOf s c ≠ .disabled → State.chOf s c ≠ .fenced → Eng.leaving s c = false → (State.engOf
      s c).stripes ≠ [] → s.lnd.active = none → completes (.chsDisable c) s fun t => State.chOf t c = State.chOf s c ∧ State.rCat t (D.iCHS + c)
      D.CHS_ENABLE = 0 ∧ t.lnd.active = some ⟨c, s.tick, false⟩ ∧ ∀ d < 24, d ≠ c → State.chOf t d = State.chOf s d ∧ otherEngines c s t ∧ keeps
      [.cat, .trj, .att, .lnd, .dev, .raised] s t) ∧
  (∀ (s : State) (c n : Nat) (cs : List Nat) (pre body : List QItem) (r : StripeRun), s.pwr.rails = true → c < 24 → Lend.due s c = true → Lend.frozen
      s c = false → Lend.otherLayer s c (State.layerNo s) = none → (State.ctxOf s c).replays = [] → Lend.oldestReplay s (Lend.contexts s c) = none →
      cs = (Lend.contexts s c).filter (fun n => (State.ctxOf s n).mode == .enabled && (Lend.offer s n (State.layerNo s)).isSome) → Lend.choose s c
      (State.layerNo s % (Lend.contexts s c).length) (Lend.contexts s c) (if State.rLnd s D.iLND D.LND_MODE = 1 then Lend.balance s c cs else cs) =
      some n → State.mayTake s c = true → Lend.offer s n (State.layerNo s) = some (pre, body) → Lend.runOf (State.engOf s c) n (State.layerNo s)
      s.tick body 0 none 0 0 [] false = some r → r.stop < 2 ^ 64 → State.ptrFault (Lend.take (State.setPtr (Lend.consumePre s c n pre) n D.CTX_RP
      r.stop) c n r) n = none → completes (.stripeDecision c) s fun t => r ∈ (State.engOf t c).stripes ∧ (State.engOf t c).plan = some (Eng.planOf r)
      ∧ (State.engOf t c).motion = .move ∧ State.ctxReg t n D.CTX_RP = r.stop ∧ Lend.counter t c n = Lend.counter s c n + 1 ∧ State.rLnd t (D.iLNDC +
      c) D.LNDC_STRIPES = Arith.clamp 0 4294967295 (State.rLnd s (D.iLNDC + c) D.LNDC_STRIPES + 1) ∧ otherCtxs n s t ∧ otherEngines c s t ∧ keeps
      [.trj, .ctx, .lnd, .txn, .dev] s t) ∧
  (∀ (s : State) (c : Nat), s.pwr.rails = true → c < 24 → Lend.due s c = true → Lend.frozen s c = true → (State.engOf s c).frozeAt ≠ some s.tick →
      completes (.stripeDecision c) s fun t => State.rLnd t (D.iLNDC + c) D.LNDC_FREEZE_TICKS = Arith.clamp 0 4294967295 (State.rLnd s (D.iLNDC + c)
      D.LNDC_FREEZE_TICKS + 1) ∧ (State.engOf t c) = { (State.engOf s c) with why := .freeze, frozeAt := some s.tick } ∧ otherEngines c s t ∧ keeps
      [.trj, .lnd] s t) ∧
  (∀ (s : State) (c : Nat), s.pwr.rails = true → c < 24 → Lend.due s c = true → Lend.frozen s c = true → (State.engOf s c).frozeAt = some s.tick →
      completes (.stripeDecision c) s fun t => (State.engOf t c) = { (State.engOf s c) with why := .freeze } ∧ otherEngines c s t ∧ keeps [.trj] s t) ∧
  (∀ (s : State) (c : Nat), Lend.due s c = false → completes (.stripeDecision c) s fun t => t = s)

/-- SEGMENT_MARK and SEGMENT_MARK_EXT at a mark whose run-up has not been reached, all checked points inside the field, plan the jump to its run-up start
  and the settle; with a point outside they plan nothing and raise FIELD_RANGE. SEGMENT_JUMP ends the path at its point where no mark follows and at
  the run-up start of the mark that follows next. WAIT_TICKS appends a wait of its length, or of what a stop left of it. Where the stripe-start jump
  of R79 is due it comes first. Only this engine and messages change. Rests on R75, R77, R78, R79, R89, R146, R149, R150, R157, R163, R164, R172. -/
def Obligations.SegmentsArePlanned : Prop :=
  (∀ (s : State) (c i : Nat) (p : Plan) (r : StripeRun) (x y z : Int) (pw v : Nat) (poly : Bool), s.pwr.rails = true → c < 24 → planning s c = some
      (p, r) → p.waitLeft = 0 → (State.engOf s c).plumeHeld = false → Eng.nextTick r p.item = some i → r.items[i]? = some (.mark x y z pw poly v) →
      p.atRunUp = false → (Eng.checkedPts (Eng.chain s c r i p.prLeft)).all (fieldOk s c) = true → completes (.segmentMark c) s fun t => (State.engOf
      t c).plan = some { p with atRunUp := true } ∧ (State.engOf t c).motion = .move ∧ (State.engOf t c).timeline.length = (State.engOf s
      c).timeline.length + 2 ∧ some (Eng.endPos (State.engOf t c)) = (Eng.chain s c r i p.prLeft).head?.map Eng.runUpStart ∧ otherEngines c s t ∧
      keeps [.trj, .raised] s t) ∧
  (∀ (s : State) (c i : Nat) (p : Plan) (r : StripeRun) (x y z : Int) (pw v pe ve : Nat) (poly : Bool), s.pwr.rails = true → c < 24 → planning s c =
      some (p, r) → p.waitLeft = 0 → (State.engOf s c).plumeHeld = false → Eng.nextTick r p.item = some i → r.items[i]? = some (.markExt x y z pw poly
      v pe ve) → p.atRunUp = false → (Eng.checkedPts (Eng.chain s c r i p.prLeft)).all (fieldOk s c) = true → completes (.segmentMarkExt c) s fun t =>
      (State.engOf t c).plan = some { p with atRunUp := true } ∧ (State.engOf t c).motion = .move ∧ (State.engOf t c).timeline.length = (State.engOf s
      c).timeline.length + 2 ∧ some (Eng.endPos (State.engOf t c)) = (Eng.chain s c r i p.prLeft).head?.map Eng.runUpStart ∧ otherEngines c s t ∧
      keeps [.trj, .raised] s t) ∧
  (∀ (s : State) (c i : Nat) (p : Plan) (r : StripeRun) (x y z : Int) (pw v : Nat) (poly : Bool), s.pwr.rails = true → c < 24 → planning s c = some
      (p, r) → p.waitLeft = 0 → (State.engOf s c).plumeHeld = false → Eng.nextTick r p.item = some i → r.items[i]? = some (.mark x y z pw poly v) →
      (Eng.checkedPts (Eng.chain s c r i p.prLeft)).all (fieldOk s c) = false → completes (.segmentMark c) s fun t => (State.engOf t c) =
      { (State.engOf s c) with why := .field, force := true } ∧ lastRaised s (0x80 + c) 4 (s.btick % 2 ^ 32) t ∧ otherEngines c s t ∧ keeps [.trj,
      .raised] s t) ∧
  (∀ (s : State) (c i : Nat) (p : Plan) (r : StripeRun) (x y z : Int) (pw v pe ve : Nat) (poly : Bool), s.pwr.rails = true → c < 24 → planning s c =
      some (p, r) → p.waitLeft = 0 → (State.engOf s c).plumeHeld = false → Eng.nextTick r p.item = some i → r.items[i]? = some (.markExt x y z pw poly
      v pe ve) → (Eng.checkedPts (Eng.chain s c r i p.prLeft)).all (fieldOk s c) = false → completes (.segmentMarkExt c) s fun t => (State.engOf t c)
      = { (State.engOf s c) with why := .field, force := true } ∧ lastRaised s (0x80 + c) 4 (s.btick % 2 ^ 32) t ∧ otherEngines c s t ∧ keeps [.trj,
      .raised] s t) ∧
  (∀ (s : State) (c i : Nat) (p : Plan) (r : StripeRun) (x y z : Int) (v : Nat), s.pwr.rails = true → c < 24 → planning s c = some (p, r) →
      p.waitLeft = 0 → (State.engOf s c).plumeHeld = false → Eng.startDue r p = false → Eng.nextTick r p.item = some i → r.items[i]? = some (.jump x y
      z v) → Eng.nextTick r (i + 1) = none → fieldOk s c (Eng.endPos (State.engOf s c)) = true → fieldOk s c (Geo.ptOf x y z) = true → completes
      (.segmentJump c) s fun t => (State.engOf t c).plan = some { p with item := i + 1, cur := Geo.ptOf x y z, atRunUp := false, prLeft := none } ∧
      Eng.endPos (State.engOf t c) = Geo.ptOf x y z ∧ (State.engOf t c).motion = .move ∧ otherEngines c s t ∧ keeps [.trj, .raised] s t) ∧
  (∀ (s : State) (c i : Nat) (p : Plan) (r : StripeRun) (x y z : Int) (v j : Nat) (m : MarkSeg), s.pwr.rails = true → c < 24 → planning s c = some
      (p, r) → p.waitLeft = 0 → (State.engOf s c).plumeHeld = false → Eng.startDue r p = false → Eng.nextTick r p.item = some i → r.items[i]? = some
      (.jump x y z v) → Eng.nextTick r (i + 1) = some j → Eng.markAt r j = true → Eng.layMark s c r j none = some m → fieldOk s c (Eng.endPos
      (State.engOf s c)) = true → fieldOk s c (Eng.runUpStart m) = true → completes (.segmentJump c) s fun t => (State.engOf t c).plan = some
      { p with item := i + 1, cur := Geo.ptOf x y z, atRunUp := true, prLeft := none } ∧ Eng.endPos (State.engOf t c) = Eng.runUpStart m ∧
      (State.engOf t c).motion = .move ∧ otherEngines c s t ∧ keeps [.trj, .raised] s t) ∧
  (∀ (s : State) (c i : Nat) (p : Plan) (r : StripeRun) (n : Nat), s.pwr.rails = true → c < 24 → planning s c = some (p, r) → p.waitLeft = 0 →
      (State.engOf s c).plumeHeld = false → Eng.startDue r p = false → Eng.nextTick r p.item = some i → r.items[i]? = some (.waitTicks n) → completes
      (.waitTicks c) s fun t => (State.engOf t c).plan = some { p with item := i + 1, atRunUp := false } ∧ (State.engOf t c).timeline.getLast?.map
      (fun ph => (ph.kind, ph.dur)) = some (.wait, (n : Rat)) ∧ (State.engOf t c).motion = .move ∧ otherEngines c s t ∧ keeps [.trj] s t) ∧
  (∀ (s : State) (c : Nat) (p : Plan) (r : StripeRun), s.pwr.rails = true → c < 24 → planning s c = some (p, r) → 0 < p.waitLeft → completes
      (.waitTicks c) s fun t => (State.engOf t c).plan = some { p with waitLeft := 0 } ∧ (State.engOf t c).timeline.getLast?.map (fun ph => (ph.kind,
      ph.dur)) = some (.wait, (p.waitLeft : Rat)) ∧ (State.engOf t c).motion = .move ∧ otherEngines c s t ∧ keeps [.trj] s t) ∧
  (∀ (s : State) (c i : Nat) (p : Plan) (r : StripeRun) (x y z : Int) (v : Nat), s.pwr.rails = true → c < 24 → planning s c = some (p, r) →
      p.waitLeft = 0 → (State.engOf s c).plumeHeld = false → Eng.startDue r p = true → Eng.nextTick r p.item = some i → r.items[i]? = some (.jump x y
      z v) → completes (.segmentJump c) s fun t => (State.engOf t c).plan = some { p with item := max p.item 1, cur := r.origin } ∧ Eng.endPos
      (State.engOf t c) = r.origin ∧ (State.engOf t c).motion = .move ∧ otherEngines c s t ∧ keeps [.trj, .raised] s t) ∧
  (∀ (s : State) (c i : Nat) (p : Plan) (r : StripeRun) (n : Nat), s.pwr.rails = true → c < 24 → planning s c = some (p, r) → p.waitLeft = 0 →
      (State.engOf s c).plumeHeld = false → Eng.startDue r p = true → Eng.nextTick r p.item = some i → r.items[i]? = some (.waitTicks n) → completes
      (.waitTicks c) s fun t => (State.engOf t c).plan = some { p with item := max p.item 1, cur := r.origin } ∧ Eng.endPos (State.engOf t c) =
      r.origin ∧ (State.engOf t c).motion = .move ∧ otherEngines c s t ∧ keeps [.trj, .raised] s t)

/-- PLUME_CHECK of a chain with every point in the field commits it where no check is in force or nothing blocks it, and holds the candidate where
  something does; PHASE_END past the last item ends the stripe with its last set-point; TRJ_LATE holds a channel that no fault holds, counts and
  raises TRJ_LATE; PLUME_HOLD_LONG raises its message once for the candidate. Rests on R106, R146, R159, R172, R184, R185, R186, R188. -/
def Obligations.ChainsAreCheckedAndStripesEnd : Prop :=
  (∀ (s : State) (c i : Nat) (p : Plan) (r : StripeRun), s.pwr.rails = true → c < 24 → planning s c = some (p, r) → p.waitLeft = 0 → (State.engOf s
      c).plumeHeld = false → Eng.nextTick r p.item = some i → Eng.markAt r i = true → p.atRunUp = true → (Eng.checkedPts (Eng.chain s c r i
      p.prLeft)).all (fieldOk s c) = true → (Plume.enabled s = false ∨ Plume.blockers s c ((Eng.chain s c r i p.prLeft).map fun m => (m.p0, m.p1)) =
      []) → completes (.plumeCheck c) s fun t => (State.engOf t c).plan.map (fun q => (q.serial, q.atRunUp)) = some (r.serial, false) ∧ (State.engOf t
      c).motion = .move ∧ (State.engOf t c).cmarks.any (fun m => m.serial == r.serial && m.item == i) = true ∧ otherEngines c s t ∧ keeps [.trj,
      .raised] s t) ∧
  (∀ (s : State) (c i : Nat) (p : Plan) (r : StripeRun) (b : Nat) (bs : List Nat), s.pwr.rails = true → c < 24 → planning s c = some (p, r) →
      p.waitLeft = 0 → (State.engOf s c).plumeHeld = false → Eng.nextTick r p.item = some i → Eng.markAt r i = true → p.atRunUp = true →
      (Eng.checkedPts (Eng.chain s c r i p.prLeft)).all (fieldOk s c) = true → Plume.enabled s = true → r.cleared = [] → Plume.blockers s c
      ((Eng.chain s c r i p.prLeft).map fun m => (m.p0, m.p1)) = b :: bs → completes (.plumeCheck c) s fun t => (State.engOf t c).plumeHeld = true ∧
      (State.engOf t c).plumeBy = b ∧ (State.engOf t c).plan = some p ∧ (State.engOf t c).plumeTicks = (if (State.engOf s c).plumeHeld then
      (State.engOf s c).plumeTicks + 1 else 1) ∧ State.rLnd t (D.iLNDC + c) D.LNDC_HOLDS = Arith.clamp 0 4294967295 (State.rLnd s (D.iLNDC + c)
      D.LNDC_HOLDS + 1) ∧ otherEngines c s t ∧ keeps [.trj, .lnd] s t) ∧
  (∀ (s : State) (c : Nat) (p : Plan) (r : StripeRun), s.pwr.rails = true → c < 24 → planning s c = some (p, r) → p.waitLeft = 0 → (State.engOf s
      c).plumeHeld = false → Eng.startDue r p = false → (State.engOf s c).timeline ≠ [] → Eng.lastEnd (State.engOf s c) ≤ ((s.tick + 64 : Nat) : Rat)
      → Eng.nextTick r p.item = none → completes (.phaseEnd c) s fun t => (State.engOf t c).stripes.any (fun q => q.serial == r.serial && q.kLast ==
      some (Eng.nextStart (State.engOf s c) (s.tick + 64) - 1)) = true ∧ (State.engOf t c).timeline = (State.engOf s c).timeline ∧ otherEngines c s t
      ∧ keeps [.trj] s t) ∧
  (∀ (s : State) (c wait : Nat), s.pwr.rails = true → c < 24 → Tick.live s c = true → Eng.faultHeld (State.engOf s c) = false → (State.engOf s
      c).lateRuns = [] → completes (.trjLate c wait) s fun t => (State.engOf t c).motion = (if (State.engOf s c).motion = .rest then .rest else .hold)
      ∧ (State.engOf t c).why = .late ∧ (State.engOf t c).lateRuns = [(s.tick + State.delayOf s c, s.tick + State.delayOf s c)] ∧ s.tick + wait ≤
      (State.engOf t c).waitUntil ∧ State.rTrj t (D.iTRJ + c) D.TRJ_LATE_COUNT = Arith.clamp 0 4294967295 (State.rTrj s (D.iTRJ + c) D.TRJ_LATE_COUNT
      + 1) ∧ lastRaised s (0x80 + c) 1 (s.btick % 2 ^ 32) t ∧ otherEngines c s t ∧ keeps [.trj, .raised] s t) ∧
  (∀ (s : State) (c wait : Nat), s.pwr.rails = true → c < 24 → Tick.live s c = true → Eng.faultHeld (State.engOf s c) = true → completes (.trjLate c
      wait) s fun t => (State.engOf t c).motion = (State.engOf s c).motion ∧ (State.engOf t c).why = (State.engOf s c).why ∧ (State.engOf t c).resume
      = (State.engOf s c).resume ∧ (State.engOf t c).stopRun = none ∧ (State.engOf t c).slots = (State.engOf s c).slots.filter (fun d => decide (d.k <
      s.tick + State.delayOf s c)) ∧ otherEngines c s t ∧ keeps [.trj, .raised] s t) ∧
  (∀ (s : State) (c : Nat), s.pwr.rails = true → c < 24 → (State.engOf s c).plumeHeld = true → (State.engOf s c).plumeSaid = false → (State.rLnd s
      D.iPLM D.PLM_HOLD_LIMIT).toNat ≤ (State.engOf s c).plumeTicks → completes (.plumeHoldLong c) s fun t => (State.engOf t c) =
      { (State.engOf s c) with plumeSaid := true } ∧ lastRaised s 0xF8 5 ((c + 256 * (State.engOf s c).plumeBy) % 2 ^ 32) t ∧ State.rLnd t D.iPLM
      D.PLM_LONG_HOLDS = Arith.clamp 0 4294967295 (State.rLnd s D.iPLM D.PLM_LONG_HOLDS + 1) ∧ otherEngines c s t ∧ keeps [.trj, .lnd, .raised] s t) ∧
  (∀ (s : State) (c : Nat), ((State.engOf s c).plumeHeld = false ∨ (State.engOf s c).plumeSaid = true) → completes (.plumeHoldLong c) s fun t => t =
      s)

/-- ENGINE_AT_REST of a stop that is over leaves HOLD with a stripe in hand on a STARTED channel and REST otherwise; DRIFT_UPDATE takes a temperature that
  is present and counts one that is absent; FEEDBACK_CONSUME of an absent sample that is not the sixteenth of a run on a channel whose feedback is
  checked counts it; SOURCE_STATUS_CONSUME reports status, emission and temperature. REPLAN_COMPLETE at F + 3 or later with no decision waiting takes
  the stripes of the channel, counts and raises REPLAN with channel and duration, and ends the re-plan or begins the queued one; earlier it changes
  nothing. REACH_MAP_COMPLETE puts the computed lists in force. Rests on R156, R160, R161, R165, R168, R174, R175, R190, R191, R192, R196, R288. -/
def Obligations.EnginesRestAndTakeFeedback : Prop :=
  (∀ (s : State) (c : Nat), s.pwr.rails = true → c < 24 → Eng.stopped s (State.engOf s c) = true → completes (.engineAtRest c) s fun t =>
      (State.engOf t c).motion = (if !(State.engOf s c).stripes.isEmpty && State.chOf s c == .started then .hold else .rest) ∧ otherEngines c s t ∧
      keeps [.trj, .lnk, .att, .raised] s t) ∧
  (∀ (s : State) (c : Nat), Eng.stopped s (State.engOf s c) = false → completes (.engineAtRest c) s fun t => t = s) ∧
  (∀ (s : State) (c : Nat) (f : Feedback), s.pwr.rails = true → c < 24 → Att.driftDue s c = true → State.legacy s c = false → Tab.find (State.attOf s
      c).fb (s.tick - State.latencyOf s c) = some f → Arith.bit f.status 5 = true → -32768 ≤ f.temp → f.temp < 32768 → completes (.driftUpdate c) s
      fun t => State.rTrj t (D.iTRJ + c) D.TRJ_HEAD_TEMP = f.temp ∧ (State.engOf t c) =
      { (State.engOf s c) with driftDone := some s.btick, dtheta := f.temp - State.rTrj s (D.iCOR + c) D.COR_DRIFT_REF, driftAbsent := 0, driftValid := true }
      ∧ otherEngines c s t ∧ keeps [.trj] s t) ∧
  (∀ (s : State) (c : Nat), s.pwr.rails = true → c < 24 → Att.driftDue s c = true → State.legacy s c = false → Tab.find (State.attOf s c).fb (s.tick
      - State.latencyOf s c) = none → completes (.driftUpdate c) s fun t => (State.engOf t c) =
      { (State.engOf s c) with driftDone := some s.btick, driftAbsent := (State.engOf s c).driftAbsent + 1 } ∧ t.raised = s.raised ++ (if (State.engOf
      s c).driftAbsent = 4 then [⟨0x80 + c, 9, s.btick % 2 ^ 32⟩] else []) ∧ otherEngines c s t ∧ keeps [.trj, .raised] s t) ∧
  (∀ (s : State) (c : Nat), Att.driftDue s c = false → completes (.driftUpdate c) s fun t => t = s) ∧
  (∀ (s : State) (c k : Nat), s.pwr.rails = true → c < 24 → Att.fbDue s c s.tick = some k → State.legacy s c = false → State.laneUp s c = true →
      Tab.find (State.attOf s c).fb k = none → (Eng.follows s c = false ∨ (State.engOf s c).feAbsent ≠ 15) → completes (.feedbackConsume c) s fun t =>
      State.rAtt t (D.iHDP + c) D.HDP_FB_ABSENT = Arith.clamp 0 4294967295 (State.rAtt s (D.iHDP + c) D.HDP_FB_ABSENT + 1) ∧ (State.engOf t c).past =
      Arith.updWhere (fun p => p.k == k) (fun p => { p with fbDone := true }) (State.engOf s c).past ∧ otherEngines c s t ∧ keeps [.trj, .att] s t) ∧
  (∀ (s : State) (c k : Nat) (f : SrcFrame), s.pwr.rails = true → c < 24 → Att.stDue s c s.tick = some k → State.analog s c = false → State.laneUp s
      (24 + c) = true → Tab.find (State.attOf s c).st k = some f → f.emission < 65536 → f.status < 256 → -32768 ≤ f.temp → f.temp < 32768 → completes
      (.sourceStatusConsume c) s fun t => State.rAtt t (D.iSRC + c) D.SRC_STATUS = (f.status : Int) ∧ State.rAtt t (D.iSRC + c) D.SRC_EMISSION =
      (f.emission : Int) ∧ State.rAtt t (D.iSRC + c) D.SRC_SOURCE_TEMP = f.temp ∧ otherHeads c s t ∧ otherEngines c s t ∧ keeps [.trj, .att, .raised]
      s t) ∧
  (∀ (s : State) (r : Replan), s.pwr.rails = true → s.lnd.active = some r → r.ch < 24 → r.tick + 3 ≤ s.tick → (State.byRank s).filter (fun c =>
      (State.engOf s c).why == .freeze) = [] → completes .replanComplete s fun t => (State.engOf t r.ch).stripes = [] ∧ (⟨0xF8, 1, (r.ch + 256 *
      (s.tick - r.tick)) % 2 ^ 32⟩ : Msg) ∈ t.raised ∧ State.rLnd t D.iLND D.LND_REPLANS = Arith.clamp 0 4294967295 (State.rLnd s D.iLND D.LND_REPLANS
      + 1)) ∧
  (∀ (s : State) (r : Replan), s.pwr.rails = true → s.lnd.active = some r → r.ch < 24 → r.tick + 3 ≤ s.tick → (State.byRank s).filter (fun c =>
      (State.engOf s c).why == .freeze) = [] → (State.engOf s r.ch).stripes = [] → completes .replanComplete s fun t => t.lnd.active =
      s.lnd.queued.head?.map (fun q => { q with tick := s.tick + 1 }) ∧ t.lnd.queued = s.lnd.queued.tail ∧ lastRaised s 0xF8 1 ((r.ch + 256 * (s.tick
      - r.tick)) % 2 ^ 32) t ∧ otherEngines r.ch s t ∧ keeps [.trj, .lnd, .raised] s t) ∧
  (∀ (s : State), s.lnd.active.all (fun r => decide (s.tick < r.tick + 3)) = true → completes .replanComplete s fun t => t = s) ∧
  (∀ (s : State), s.pwr.rails = true → s.lnd.computing = true → ((List.range 96).all fun n => decide ((State.ctxOf s n).tail.length < 32)) = true →
      completes .reachMapComplete s fun t => t.lnd.computing = false ∧ (∀ i < State.tilesX s, ∀ j < State.tilesY s, Lend.reachOf t i j =
      (Lend.tileList s i j).1) ∧ keeps [.lnd, .raised] s t) ∧
  (∀ (s : State), s.lnd.computing = false → completes .reachMapComplete s fun t => t = s)

/-- LOOP_SAMPLE_CONSUME of a sample present in a loop-active tick reports it and ends the run of misses; of an absent one it counts a miss and lengthens
  the run up to 64, at which a closed loop falls back open; with the loop off it takes nothing. Outside a build RECLOSE closes a fallen-back loop and
  RESET_INTEGRAL clears integral and anti-windup; in a build both wait for the boundary. Rests on R205, R207, R209, R215, R217, R218. -/
def Obligations.LoopsTakeSamplesAndCommands : Prop :=
  (∀ (s : State) (c x : Nat) (p : Past), s.pwr.rails = true → c < 24 → Mpl.due s c s.tick = some p → (State.loopOf s c).mode ≠ .off → State.chOf s c
      ≠ .disabled → State.chOf s c ≠ .fenced → p.active = true → Mpl.sample s c p = some (some x) → x < 65536 → completes (.loopSampleConsume c) s fun
      t => State.rMpl t (D.iMPL + c) D.MPL_LAST_MEAS = (x : Int) ∧ State.rMpl t (D.iMPL + c) D.MPL_MISS_RUN = 0 ∧ otherLoops c s t ∧ keeps [.mpl,
      .trj, .raised, .att] s t) ∧
  (∀ (s : State) (c : Nat) (p : Past), s.pwr.rails = true → c < 24 → Mpl.due s c s.tick = some p → (State.loopOf s c).mode ≠ .off → State.chOf s c ≠
      .disabled → State.chOf s c ≠ .fenced → p.active = true → Mpl.sample s c p = some none → completes (.loopSampleConsume c) s fun t => State.rMpl t
      (D.iMPL + c) D.MPL_MISSES = Arith.clamp 0 4294967295 (State.rMpl s (D.iMPL + c) D.MPL_MISSES + 1) ∧ ((State.rMpl s (D.iMPL + c)
      D.MPL_MISS_RUN).toNat < 64 → State.rMpl t (D.iMPL + c) D.MPL_MISS_RUN = (((State.rMpl s (D.iMPL + c) D.MPL_MISS_RUN).toNat + 1 : Nat) : Int)) ∧
      ((State.rMpl s (D.iMPL + c) D.MPL_MISS_RUN).toNat = 63 → (State.loopOf s c).mode = .closed → (State.loopOf t c).mode = .openFallback) ∧
      otherLoops c s t ∧ keeps [.mpl, .trj, .raised] s t) ∧
  (∀ (s : State) (c : Nat) (p : Past), s.pwr.rails = true → c < 24 → Mpl.due s c s.tick = some p → (State.loopOf s c).mode = .off → completes
      (.loopSampleConsume c) s fun t => (State.engOf t c).past = Arith.updWhere (fun q => q.k == p.k) (fun q => { q with loopDone := true })
      (State.engOf s c).past ∧ keeps [.trj] s t) ∧
  (∀ (s : State) (c : Nat), hostOpen s = true → c < 24 → s.dev.mode.inBuild = false → (State.loopOf s c).mode = .openFallback → completes
      (.mplReclose c) s fun t => (State.loopOf t c).mode = .closed ∧ State.rMpl t (D.iMPL + c) D.MPL_MISS_RUN = 0 ∧ State.rMpl t (D.iMPL + c)
      D.MPL_IMPL_RUN = 0 ∧ otherLoops c s t ∧ keeps [.mpl] s t) ∧
  (∀ (s : State) (c : Nat), hostOpen s = true → c < 24 → s.dev.mode.inBuild = true → completes (.mplReclose c) s fun t => (State.loopOf t c).reclose
      = true ∧ otherLoops c s t ∧ keeps [.mpl] s t) ∧
  (∀ (s : State) (c : Nat), hostOpen s = true → c < 24 → s.dev.mode.inBuild = false → completes (.mplResetIntegral c) s fun t => State.rMpl t (D.iMPL
      + c) D.MPL_INTEGRAL = 0 ∧ State.rMpl t (D.iMPL + c) D.MPL_AW = 0 ∧ otherLoops c s t ∧ keeps [.mpl] s t) ∧
  (∀ (s : State) (c : Nat), hostOpen s = true → c < 24 → s.dev.mode.inBuild = true → completes (.mplResetIntegral c) s fun t => (State.loopOf t
      c).resetI = true ∧ otherLoops c s t ∧ keeps [.mpl] s t)

/-- SWEEP_START after the last slot completes the sweep: the bank with its last tile written is current, the next sweep starts one period later with the
  parameters applied now, and it works or not as ENABLE says; a sweep that did not work leaves the current bank. TILE_SLOT starts the slot of the next
  tile, whose pending sums it takes exactly per cell. GRID_LATE of a tile counts it and readers keep the state before the sweep; of a deposit it takes
  the amount out of the sum of the running slot and leaves it pending; the first lateness of a sweep raises GRID_LATE. A late tile that is written is
  late no more. Rests on R229, R230, R231, R232, R246. -/
def Obligations.SweepsFollowTheSchedule : Prop :=
  (∀ (s : State), s.pwr.rails = true → Grid.dueBy s s.btick = true → Grid.nTiles s ≤ s.grd.nextTile → s.grd.mode = .running → completes .sweepStart s
      fun t => t.grd.sweep = s.grd.sweep + 1 ∧ t.grd.start = s.grd.start + s.grd.par.period ∧ t.grd.nextTile = 0 ∧ t.grd.lastSweep = some s.grd.sweep
      ∧ t.grd.par = Grid.latch s ∧ t.grd.mode = (if Grid.enabled s then .running else .paused) ∧ State.rGrd t D.iGRD_SWEEP D.GRD_SWEEP_SWEEP =
      (Arith.toUnsigned 64 (s.grd.sweep : Int) : Int) ∧ t.grd.done = (Grid.finishTile s).grd.next ∧ keeps [.grd, .dev, .free, .raised] s t) ∧
  (∀ (s : State), s.pwr.rails = true → Grid.dueBy s s.btick = true → Grid.nTiles s ≤ s.grd.nextTile → s.grd.mode = .paused → completes .sweepStart s
      fun t => t.grd.sweep = s.grd.sweep + 1 ∧ t.grd.start = s.grd.start + s.grd.par.period ∧ t.grd.nextTile = 0 ∧ t.grd.lastSweep = some s.grd.sweep
      ∧ t.grd.par = Grid.latch s ∧ t.grd.mode = (if Grid.enabled s then .running else .paused) ∧ State.rGrd t D.iGRD_SWEEP D.GRD_SWEEP_SWEEP =
      (Arith.toUnsigned 64 (s.grd.sweep : Int) : Int) ∧ t.grd.done = s.grd.done ∧ State.rGrd t D.iGRD_SWEEP D.GRD_SWEEP_E_TOTAL = (Arith.toUnsigned 64
      (s.grd.eSum : Int) : Int) ∧ keeps [.grd, .dev, .free, .raised] s t) ∧
  (∀ (s : State), (Grid.dueBy s s.btick = false ∨ s.grd.nextTile < Grid.nTiles s) → completes .sweepStart s fun t => t = s) ∧
  (∀ (s : State), s.pwr.rails = true → Grid.dueBy s s.btick = true → s.grd.nextTile < Grid.nTiles s → s.grd.mode = .running → completes .tileSlot s
      fun t => t.grd.nextTile = s.grd.nextTile + 1 ∧ t.grd.pend = s.grd.pend.filter (fun d => !Grid.owed s s.grd.nextTile d) ∧ (∀ cell, Tab.get (fun _
      => 0) t.grd.taken cell = ((s.grd.pend.filter fun d => Grid.owed s s.grd.nextTile d && d.cell == cell).map fun d => d.amount).sum) ∧ t.grd.done =
      s.grd.done ∧ keeps [.grd, .raised] s t) ∧
  (∀ (s : State) (cell amount : Nat), s.pwr.rails = true → s.grd.mode = .running → 0 < s.grd.nextTile → Tab.find s.grd.lateTiles (s.grd.nextTile - 1)
      = none → completes (.gridLate false cell amount) s fun t => State.rGrd t D.iGRD_SWEEP D.GRD_SWEEP_LATE_TILES = Arith.clamp 0 4294967295
      (State.rGrd s D.iGRD_SWEEP D.GRD_SWEEP_LATE_TILES + 1) ∧ t.grd.lateNow = true ∧ (∀ cell, Grid.tileOf s cell = (s.grd.nextTile - 1) → ((Tab.find
      t.grd.lateTiles (s.grd.nextTile - 1)).map fun b => Grid.bankCell b cell) = some (Grid.bankCell s.grd.done cell)) ∧ t.raised = s.raised ++ (if
      s.grd.lateNow then [] else [⟨0xF0, 1, ((s.grd.nextTile - 1) % 65536 + 65536 * 1 + 2 ^ 18 * (s.grd.sweep % 2 ^ 14)) % 2 ^ 32⟩]) ∧ keeps [.grd,
      .raised] s t) ∧
  (∀ (s : State) (cell amount : Nat), s.pwr.rails = true → s.grd.mode = .running → s.grd.opened = true → 0 < amount → amount ≤ Tab.get (fun _ => 0)
      s.grd.taken cell → completes (.gridLate true cell amount) s fun t => t.grd.pend = s.grd.pend ++ [⟨cell, Grid.slotStart s (s.grd.nextTile - 1),
      amount⟩] ∧ Tab.get (fun _ => 0) t.grd.taken cell = Tab.get (fun _ => 0) s.grd.taken cell - amount ∧ State.rGrd t D.iGRD_SWEEP
      D.GRD_SWEEP_DEP_LATE = Arith.clamp 0 4294967295 (State.rGrd s D.iGRD_SWEEP D.GRD_SWEEP_DEP_LATE + 1) ∧ t.grd.lateNow = true ∧ t.raised =
      s.raised ++ (if s.grd.lateNow then [] else [⟨0xF0, 1, ((s.grd.nextTile - 1) % 65536 + 65536 * 2 + 2 ^ 18 * (s.grd.sweep % 2 ^ 14)) % 2 ^ 32⟩]) ∧
      keeps [.grd, .raised] s t) ∧
  (∀ (s : State) (q : Nat), s.pwr.rails = true → completes (.lateTileWritten q) s fun t => Tab.find t.grd.lateTiles q = none ∧ (∀ cell, cell ≠ q →
      Tab.find t.grd.lateTiles cell = Tab.find s.grd.lateTiles cell) ∧ t.grd.done = s.grd.done ∧ keeps [.grd] s t)

/-- Outside a build GRD_RESET sets every cell to T_AMB and drops pending deposits and residues. A snapshot request waits for the end of the sweep in a
  build and captures at once outside; the capture of a raw snapshot makes it READY and reports its sweep, that of a Folio one sends its planes to
  Folio, and RELEASE of a READY one frees it. Rests on R226, R238, R239. -/
def Obligations.TheGridIsResetAndSnapped : Prop :=
  (∀ (s : State), hostOpen s = true → s.dev.mode.inBuild = false → completes .grdReset s fun t => t.grd.done = Grid.uniform (Cell.at (Grid.cfg s
      D.GRD_CFG_T_AMB)) ∧ t.grd.next = t.grd.done ∧ t.grd.pend = [] ∧ t.grd.resid = [] ∧ t.grd.mode = s.grd.mode ∧ t.grd.snap = s.grd.snap ∧ keeps
      [.grd] s t) ∧
  (∀ (s : State), hostOpen s = true → s.dev.mode.inBuild = true → completes .grdReset s fun t => t = s) ∧
  (∀ (s : State), hostOpen s = true → Grid.snapOk s = true → completes .grdSnapshotRaw s fun t => t.grd.snapMode = (if s.dev.mode.inBuild then .armed
      else .capturing) ∧ (s.dev.mode.inBuild = false → t.grd.snap.map (fun p => p.bank) = some s.grd.done) ∧ t.grd.snapFolio = false ∧ t.grd.done =
      s.grd.done ∧ keeps [.grd] s t) ∧
  (∀ (s : State), hostOpen s = true → Grid.snapOk s = true → completes .grdSnapshotFolio s fun t => t.grd.snapMode = (if s.dev.mode.inBuild then
      .armed else .capturing) ∧ (s.dev.mode.inBuild = false → t.grd.snap.map (fun p => p.folio) = some true) ∧ t.grd.snapFolio = true ∧ t.grd.done =
      s.grd.done ∧ keeps [.grd] s t) ∧
  (∀ (s : State), hostOpen s = true → s.grd.snapMode = .ready → completes .grdRelease s fun t => t.grd.snapMode = .idle ∧ t.grd.snap = none ∧
      t.grd.done = s.grd.done ∧ keeps [.grd, .fol] s t) ∧
  (∀ (s : State) (p : Snap), s.pwr.rails = true → s.grd.snapMode = .capturing → s.grd.snap = some p → p.folio = false → completes
      .snapshotCaptureComplete s fun t => t.grd.snapMode = .ready ∧ t.grd.snap = some p ∧ State.rGrd t D.iGRD_CFG D.GRD_CFG_SNAP_SWEEP =
      (Arith.toUnsigned 64 p.sweep : Int) ∧ keeps [.grd] s t) ∧
  (∀ (s : State) (p : Snap), s.pwr.rails = true → s.grd.snapMode = .capturing → s.grd.snap = some p → p.folio = true → completes
      .snapshotCaptureComplete s fun t => t.grd.snapMode = .compressing ∧ t.grd.snap = some p ∧ keeps [.grd, .fol, .raised] s t) ∧
  (∀ (s : State), s.grd.snapMode ≠ .capturing → completes .snapshotCaptureComplete s fun t => t = s)

/-- LNK_ENABLE takes a DISABLED lane to SEEK at rate code 0; LNK_DISABLE of a lane whose channel is not STARTED makes it DISABLED without rate and
  protocol; RETRAIN takes an enabled lane to SEEK without ceiling; RELEARN takes a lane that is UP to RELEARN for TRAIN_TICKS. With the channel
  STARTED the last three are refused and change nothing. Every other lane stays. Rests on R256, R260, R266, R267, R268. -/
def Obligations.LanesFollowTheirEntries : Prop :=
  (∀ (s : State) (m : Nat), upNow s = true → m < 48 → (State.laneOf s m).mode = .disabled → completes (.lnkEnable m) s fun t => (State.laneOf t
      m).mode = .seek ∧ (State.laneOf t m).ceiling = none ∧ State.rLnk t (D.iLNK + m) D.LNK_STATE = 1 ∧ State.rLnk t (D.iLNK + m) D.LNK_CEILING = 0xFF
      ∧ State.rLnk t (D.iLNK + m) D.LNK_RATE = 0 ∧ State.rLnk t (D.iLNK + m) D.LNK_PROTOCOL = 0 ∧ Arith.bit (Lnk.reg t m D.LNK_CTRL) 0 = true ∧
      otherLanes m s t ∧ keeps [.lnk, .dev] s t) ∧
  (∀ (s : State) (m : Nat), upNow s = true → m < 48 → State.chOf s (m % 24) ≠ .started → completes (.lnkDisable m) s fun t => (State.laneOf t m).mode
      = .disabled ∧ Arith.bit (Lnk.reg t m D.LNK_CTRL) 0 = false ∧ State.rLnk t (D.iLNK + m) D.LNK_STATE = 0 ∧ State.rLnk t (D.iLNK + m) D.LNK_RATE =
      0xFF ∧ State.rLnk t (D.iLNK + m) D.LNK_PROTOCOL = 0 ∧ otherLanes m s t ∧ keeps [.lnk, .dev] s t) ∧
  (∀ (s : State) (m : Nat), hostOpen s = true → m < 48 → State.chOf s (m % 24) ≠ .started → (State.laneOf s m).mode ≠ .disabled → completes
      (.lnkRetrain m) s fun t => (State.laneOf t m).mode = .seek ∧ (State.laneOf t m).ceiling = none ∧ State.rLnk t (D.iLNK + m) D.LNK_STATE = 1 ∧
      State.rLnk t (D.iLNK + m) D.LNK_CEILING = 0xFF ∧ State.rLnk t (D.iLNK + m) D.LNK_RATE = 0 ∧ State.rLnk t (D.iLNK + m) D.LNK_PROTOCOL = 0 ∧
      otherLanes m s t ∧ keeps [.lnk] s t) ∧
  (∀ (s : State) (m : Nat), hostOpen s = true → m < 48 → State.chOf s (m % 24) ≠ .started → (State.laneOf s m).mode = .up → completes (.lnkRelearn m)
      s fun t => (State.laneOf t m).mode = .relearn ∧ State.rLnk t (D.iLNK + m) D.LNK_STATE = 5 ∧ (State.laneOf t m).trainEnd = s.tick + Lnk.reg s m
      D.LNK_TRAIN_TICKS ∧ State.rLnk t (D.iLNK + m) D.LNK_RELEARNS = Arith.clamp 0 65535 (State.rLnk s (D.iLNK + m) D.LNK_RELEARNS + 1) ∧ otherLanes m
      s t ∧ keeps [.lnk] s t) ∧
  (∀ (s : State) (m : Nat), upNow s = true → m < 48 → State.chOf s (m % 24) = .started → completes (.lnkDisable m) s fun t => t = s) ∧
  (∀ (s : State) (m : Nat), hostOpen s = true → m < 48 → State.chOf s (m % 24) = .started → completes (.lnkRetrain m) s fun t => t = s) ∧
  (∀ (s : State) (m : Nat), hostOpen s = true → m < 48 → State.chOf s (m % 24) = .started → completes (.lnkRelearn m) s fun t => t = s)

/-- MARKER_LOCK once SEEK has lasted its 64 markers leads to CAP and reports a far end not seen before; a second equal CAP block that suits the lane
  begins the first step; one that does not suit raises CAP_MISMATCH; the echo sets the switch two groups ahead; a training that is over writes
  EQ_TRAINED and begins the error test; a test passed over its full length makes the lane UP at the target rate and begins the next step below it, a
  failed one sets the ceiling one rate down and relearns. Before its time MARKER_LOCK, TRAINING_END and the end of a passed test change nothing. Every
  other lane stays. Rests on R259, R260, R261, R264, R267, R269, R270, R275. -/
def Obligations.LanesComeUpStepByStep : Prop :=
  (∀ (s : State) (m serial : Nat), s.pwr.rails = true → m < 48 → (State.laneOf s m).mode = .seek → Lnk.lockOpen s m = true → completes (.markerLock m
      serial) s fun t => (State.laneOf t m).mode = .cap ∧ (State.laneOf t m).plugged = true ∧ State.rLnk t (D.iLNK + m) D.LNK_STATE = 2 ∧ State.rLnk t
      (D.iLNK + m) D.LNK_LIVE = 6 ∧ t.raised = s.raised ++ (if (State.laneOf s m).plugged then [] else [⟨0xA0 + m, 8, serial % 2 ^ 32⟩]) ∧ otherLanes
      m s t ∧ keeps [.lnk, .raised] s t) ∧
  (∀ (s : State) (m serial : Nat), ((State.laneOf s m).mode ≠ .seek ∨ Lnk.lockOpen s m = false) → completes (.markerLock m serial) s fun t => t = s) ∧
  (∀ (s : State) (m : Nat) (b d : List Byte), s.pwr.rails = true → m < 48 → (State.laneOf s m).mode = .cap → Lnk.blockOk b = true → (b.getD 0
      0).toNat = 0x10 → d = (b.drop 2).take 26 → Lnk.capSuits m d = true → (State.laneOf s m).lastCap = some d → Lnk.targetRate m (State.laneOf s
      m).maxRate d ≠ 0 → completes (.capBlock m b) s fun t => (State.laneOf t m).mode = .step ∧ (State.laneOf t m).phase = .echo ∧ (State.laneOf t
      m).cap = some d ∧ (State.laneOf t m).target = Lnk.targetRate m (State.laneOf s m).maxRate d ∧ (State.laneOf t m).tryRate = (State.laneOf s
      m).rate.getD 0 + 1 ∧ State.rLnk t (D.iLNK + m) D.LNK_REMOTE_CAP = (Arith.toUnsigned 64 (Lnk.remoteCap d : Int) : Int) ∧ otherLanes m s t ∧ keeps
      [.lnk] s t) ∧
  (∀ (s : State) (m : Nat) (b d : List Byte), s.pwr.rails = true → m < 48 → (State.laneOf s m).mode = .cap → Lnk.blockOk b = true → (b.getD 0
      0).toNat = 0x10 → d = (b.drop 2).take 26 → Lnk.capSuits m d = true → (State.laneOf s m).lastCap ≠ some d → completes (.capBlock m b) s fun t =>
      (State.laneOf t m) = { (State.laneOf s m) with lastCap := some d } ∧ otherLanes m s t ∧ keeps [.lnk] s t) ∧
  (∀ (s : State) (m : Nat) (b d : List Byte), s.pwr.rails = true → m < 48 → (State.laneOf s m).mode = .cap → Lnk.blockOk b = true → (b.getD 0
      0).toNat = 0x10 → d = (b.drop 2).take 26 → Lnk.capSuits m d = false → completes (.capBlock m b) s fun t => (State.laneOf t m) =
      { (State.laneOf s m) with lastCap := none } ∧ lastRaised s (0xA0 + m) 4 ((Arith.leAt d 0 1 + 256 * Arith.leAt d 3 1) % 2 ^ 32) t ∧ otherLanes m
      s t ∧ keeps [.lnk, .raised] s t) ∧
  (∀ (s : State) (m : Nat), s.pwr.rails = true → m < 48 → (State.laneOf s m).mode = .step → (State.laneOf s m).phase = .echo → completes (.stepEcho
      m) s fun t => (State.laneOf t m) =
      { (State.laneOf s m) with phase := .training, switchAt := some (s.tick + 2), trainEnd := s.tick + 2 + (State.laneOf s m).trainTicks } ∧
      otherLanes m s t ∧ keeps [.lnk] s t) ∧
  (∀ (s : State) (m eq rtd : Nat), s.pwr.rails = true → m < 48 → (State.laneOf s m).mode = .step → (State.laneOf s m).phase = .training →
      (State.laneOf s m).trainEnd ≤ s.tick → completes (.trainingEnd m eq rtd) s fun t => (State.laneOf t m).mode = .step ∧ (State.laneOf t m).phase =
      .test ∧ (State.laneOf t m).blocks.tests = 0 ∧ State.rLnk t (D.iLNK + m) D.LNK_EQ = (Lnk.eqWord eq : Int) ∧ State.rLnk t (D.iLNK + m)
      D.LNK_EQ_TRAINED = (Lnk.eqWord eq : Int) ∧ otherLanes m s t ∧ keeps [.lnk] s t) ∧
  (∀ (s : State) (m eq rtd : Nat), s.tick < (State.laneOf s m).trainEnd → completes (.trainingEnd m eq rtd) s fun t => t = s) ∧
  (∀ (s : State) (m own rtd : Nat), s.pwr.rails = true → m < 48 → (State.laneOf s m).mode = .step → (State.laneOf s m).phase = .test → Lnk.testOpen s
      m = true → own ≤ (State.laneOf s m).testMax → (State.laneOf s m).tryRate = (State.laneOf s m).target → Lnk.protoFor m ((State.laneOf s
      m).rate.getD 0) (Arith.leAt ((State.laneOf s m).cap.getD []) 3 1) ≠ 0 → completes (.errorTestEnd m own true rtd) s fun t => (State.laneOf t
      m).mode = .up ∧ State.rLnk t (D.iLNK + m) D.LNK_STATE = 4 ∧ State.rLnk t (D.iLNK + m) D.LNK_UP_TICK = (Arith.toUnsigned 64 (s.tick : Int) : Int)
      ∧ State.rLnk t (D.iLNK + m) D.LNK_PROTOCOL = (Lnk.protoFor m ((State.laneOf s m).rate.getD 0) (Arith.leAt ((State.laneOf s m).cap.getD []) 3 1)
      : Int) ∧ otherHeads (m % 24) s t ∧ otherLanes m s t ∧ keeps [.lnk, .att, .raised] s t) ∧
  (∀ (s : State) (m own rtd : Nat), s.pwr.rails = true → m < 48 → (State.laneOf s m).mode = .step → (State.laneOf s m).phase = .test → Lnk.testOpen s
      m = true → own ≤ (State.laneOf s m).testMax → (State.laneOf s m).tryRate ≠ (State.laneOf s m).target → completes (.errorTestEnd m own true rtd)
      s fun t => (State.laneOf t m).mode = .step ∧ (State.laneOf t m).phase = .echo ∧ (State.laneOf t m).tryRate = (State.laneOf s m).rate.getD 0 + 1
      ∧ otherLanes m s t ∧ keeps [.lnk] s t) ∧
  (∀ (s : State) (m own rtd : Nat) (pass : Bool), s.pwr.rails = true → m < 48 → (State.laneOf s m).mode = .step → (State.laneOf s m).phase = .test →
      ((State.laneOf s m).testMax < own ∨ pass = false) → completes (.errorTestEnd m own pass rtd) s fun t => (State.laneOf t m).mode = .relearn ∧
      (State.laneOf t m).ceiling = some ((State.laneOf s m).tryRate - 1) ∧ (State.laneOf t m).rate = some ((State.laneOf s m).tryRate - 1) ∧
      State.rLnk t (D.iLNK + m) D.LNK_STEP_FAILS = Arith.clamp 0 65535 (State.rLnk s (D.iLNK + m) D.LNK_STEP_FAILS + 1) ∧ State.rLnk t (D.iLNK + m)
      D.LNK_RELEARNS = Arith.clamp 0 65535 (State.rLnk s (D.iLNK + m) D.LNK_RELEARNS + 1) ∧ lastRaised s (0xA0 + m) 2 ((State.laneOf s m).tryRate % 2
      ^ 32) t ∧ otherLanes m s t ∧ keeps [.lnk, .raised] s t) ∧
  (∀ (s : State) (m own rtd : Nat), Lnk.testOpen s m = false → own ≤ (State.laneOf s m).testMax → completes (.errorTestEnd m own true rtd) s fun t =>
      t = s)

/-- LANE_LOST of a lane that is UP or relearns, with no drift of the same tick, counts it, raises LANE_LOST with cause and rate and seeks again, its
  channel being not STARTED; a lane that has taken 4096 IDLE blocks freezes; a burst of 256 WAKE blocks begins on a frozen lane that is due and
  unfreezes it; drift out of guard relearns at once when the channel is not STARTED; a FIFO overflow is counted and reported. Where the condition of
  the last four is not met they change nothing, but for the report of an overflow. Rests on R19, R255, R256, R257, R262, R266, R270. -/
def Obligations.LanesAreLostFrozenAndRelearned : Prop :=
  (∀ (s : State) (m cause : Nat), s.pwr.rails = true → m < 48 → ((State.laneOf s m).mode = .up ∨ (State.laneOf s m).mode = .relearn) → (State.laneOf
      s m).driftAt ≠ some s.tick → State.chOf s (m % 24) ≠ .started → completes (.laneLost m cause) s fun t => (State.laneOf t m).mode = .seek ∧
      (State.laneOf t m).ceiling = none ∧ State.rLnk t (D.iLNK + m) D.LNK_STATE = 1 ∧ State.rLnk t (D.iLNK + m) D.LNK_CEILING = 0xFF ∧ State.rLnk t
      (D.iLNK + m) D.LNK_RATE = 0 ∧ State.rLnk t (D.iLNK + m) D.LNK_PROTOCOL = 0 ∧ State.rLnk t (D.iLNK + m) D.LNK_LOSSES = Arith.clamp 0 65535
      (State.rLnk s (D.iLNK + m) D.LNK_LOSSES + 1) ∧ lastRaised s (0xA0 + m) 1 ((cause % 16 + 256 * ((State.laneOf s m).rate.getD 0xFF)) % 2 ^ 32) t ∧
      otherLanes m s t ∧ keeps [.lnk, .raised] s t) ∧
  (∀ (s : State) (m cause : Nat), ((State.laneOf s m).mode = .seek ∨ (State.laneOf s m).mode = .disabled) → completes (.laneLost m cause) s fun t =>
      t = s) ∧
  (∀ (s : State) (m : Nat), s.pwr.rails = true → m < 48 → (State.laneOf s m).mode = .up → Lnk.frozen s m = false → Lnk.idleOpen s m = true →
      completes (.laneFreeze m) s fun t => Lnk.frozen t m = true ∧ (State.laneOf t m) = { (State.laneOf s m) with frozenAt := s.tick } ∧ State.rLnk t
      (D.iLNK + m) D.LNK_FREEZES = Arith.clamp 0 4294967295 (State.rLnk s (D.iLNK + m) D.LNK_FREEZES + 1) ∧ otherLanes m s t ∧ keeps [.lnk] s t) ∧
  (∀ (s : State) (m : Nat), ((State.laneOf s m).mode ≠ .up ∨ Lnk.frozen s m = true ∨ Lnk.idleOpen s m = false) → completes (.laneFreeze m) s fun t =>
      t = s) ∧
  (∀ (s : State) (m : Nat), s.pwr.rails = true → m < 48 → Lnk.burstDue s m = true → completes (.refreshBurst m) s fun t => (State.laneOf t
      m).wakeLeft = 256 ∧ (State.laneOf t m).wakeFrom = s.tick ∧ Lnk.frozen t m = false ∧ otherLanes m s t ∧ keeps [.lnk] s t) ∧
  (∀ (s : State) (m : Nat), Lnk.burstDue s m = false → completes (.refreshBurst m) s fun t => t = s) ∧
  (∀ (s : State) (m eq : Nat), s.pwr.rails = true → m < 48 → (State.laneOf s m).mode = .up → Lnk.frozen s m = false → Lnk.outOfGuard s m (Lnk.eqWord
      eq) = true → (State.laneOf s m).driftWaits = false → State.chOf s (m % 24) ≠ .started → completes (.driftRelearn m eq) s fun t => (State.laneOf
      t m).mode = .relearn ∧ State.rLnk t (D.iLNK + m) D.LNK_STATE = 5 ∧ (State.laneOf t m).trainEnd = s.tick + Lnk.reg s m D.LNK_TRAIN_TICKS ∧
      State.rLnk t (D.iLNK + m) D.LNK_RELEARNS = Arith.clamp 0 65535 (State.rLnk s (D.iLNK + m) D.LNK_RELEARNS + 1) ∧ lastRaised s (0xA0 + m) 5
      (Lnk.eqWord eq) t ∧ otherLanes m s t ∧ keeps [.lnk, .raised] s t) ∧
  (∀ (s : State) (m eq : Nat), ((State.laneOf s m).mode ≠ .up ∨ Lnk.frozen s m = true ∨ Lnk.outOfGuard s m (Lnk.eqWord eq) = false) → completes
      (.driftRelearn m eq) s fun t => t = s) ∧
  (∀ (s : State) (m blocks : Nat), s.pwr.rails = true → m < 48 → blocks < 16 → (State.laneOf s m).badRun + blocks < 16 → (State.laneOf s m).mode ≠
      .up → completes (.ingressFifoOverflow (0xA0 + m) blocks) s fun t => State.rLnk t (D.iLNK + m) D.LNK_FIFO_OVF = Arith.clamp 0 4294967295
      (State.rLnk s (D.iLNK + m) D.LNK_FIFO_OVF + 1) ∧ lastRaised s (0xA0 + m) 9 blocks t ∧ otherLanes m s t ∧ keeps [.lnk, .raised] s t)

/-- A feedback frame of KIND 0x81 of a head, or a status frame of a source, whose TAG names a recent tick is kept under that tick; one whose TAG names
  none is counted as discarded; a tile header with a known format opens its tile, a data block fills it; a status frame of an XY2-100 port with even
  parity and without wrong bits reports its word and ends both runs; one without, at the end of a run of STATUS_COUNT such frames or behind it, raises
  XY_STATUS_LOST on a STARTED channel, stops it along its path and holds it. Frames of a lane that is not UP change nothing. Rests on R274, R279,
  R281, R282, R287, R291. -/
def Obligations.FramesAreTakenFromAttachments : Prop :=
  (∀ (s : State) (m k : Nat) (d : List Byte), s.pwr.rails = true → State.laneUp s m = true → m < 24 → d.length = 26 → Arith.leAt d 0 1 = 0x81 →
      Att.tagTick s.tick (Arith.leAt d 2 2) = some k → completes (.upstreamFrame m d false) s fun t => Tab.find (State.attOf t m).fb k = some
      (Att.feedback d) ∧ otherHeads m s t ∧ otherLanes m s t ∧ keeps [.lnk, .att] s t) ∧
  (∀ (s : State) (m k : Nat) (d : List Byte), s.pwr.rails = true → State.laneUp s m = true → 24 ≤ m → m < 48 → d.length = 26 → Arith.leAt d 0 1 =
      0x81 → Att.tagTick s.tick (Arith.leAt d 2 2) = some k → completes (.upstreamFrame m d false) s fun t => Tab.find (State.attOf t (m - 24)).st k =
      some (Att.srcFrame d) ∧ otherLanes m s t ∧ keeps [.lnk, .att] s t) ∧
  (∀ (s : State) (m : Nat) (d : List Byte), s.pwr.rails = true → State.laneUp s m = true → m < 24 → d.length = 26 → Arith.leAt d 0 1 = 0x81 →
      Att.tagTick s.tick (Arith.leAt d 2 2) = none → completes (.upstreamFrame m d false) s fun t => State.rAtt t (D.iHDP + m) D.HDP_TAG_DISCARDS =
      Arith.clamp 0 4294967295 (State.rAtt s (D.iHDP + m) D.HDP_TAG_DISCARDS + 1) ∧ (State.attOf t m) = State.attOf s m ∧ otherLanes m s t ∧ keeps
      [.lnk, .att, .raised] s t) ∧
  (∀ (s : State) (m : Nat) (d : List Byte) (bad : Bool), State.laneUp s m = false → completes (.upstreamFrame m d bad) s fun t => t = s) ∧
  (∀ (s : State) (m k : Nat) (d : List Byte), s.pwr.rails = true → m < 24 → State.hasZ s m = true → State.laneUp s m = true → d.length = 26 →
      Arith.leAt d 0 1 = 0x82 → Att.tagTick s.tick (Arith.leAt d 4 2) = some k → (State.attOf s m).tile = none → Att.chunksOf (Arith.leAt d 1 1) ≠ 0 →
      Arith.leAt d 6 2 = Att.chunksOf (Arith.leAt d 1 1) → completes (.tileHdr m d) s fun t => (State.attOf t m) =
      { (State.attOf s m) with tile := some ⟨Arith.leAt d 1 1, Arith.leAt d 2 2, k, Att.chunksOf (Arith.leAt d 1 1), Arith.leAt d 8 4, []⟩ } ∧
      otherHeads m s t ∧ otherLanes m s t ∧ keeps [.att, .lnk] s t) ∧
  (∀ (s : State) (m : Nat) (d : List Byte) (x : TileIn), s.pwr.rails = true → m < 24 → State.laneUp s m = true → d.length = 26 → Arith.leAt d 0 1 =
      0x83 → (State.attOf s m).tile = some x → Arith.leAt d 2 2 = x.frameNo → Arith.leAt d 4 2 < x.chunks → x.chunks ≠ (Tab.ins x.data (Arith.leAt d 4
      2) (d.drop 6)).length → completes (.tileData m d) s fun t => (State.attOf t m) =
      { (State.attOf s m) with tile := some { x with data := Tab.ins x.data (Arith.leAt d 4 2) (d.drop 6) } } ∧ otherHeads m s t ∧ otherLanes m s t ∧
      keeps [.att, .lnk] s t) ∧
  (∀ (s : State) (m : Nat) (d : List Byte), State.laneUp s m = false → completes (.tileHdr m d) s fun t => t = s) ∧
  (∀ (s : State) (m : Nat) (d : List Byte), State.laneUp s m = false → completes (.tileData m d) s fun t => t = s) ∧
  (∀ (s : State) (p w : Nat), s.pwr.rails = true → p < 8 → State.legacy s p = true → Arith.bits w 19 17 = 1 → Att.parityOk w = true → (State.rAtt s
      (D.iXY + p) D.XY_STATUS_COUNT).toNat ≠ 0 → Nat.land (Arith.bits w 16 1) (State.rAtt s (D.iXY + p) D.XY_STATUS_MASK).toNat = (State.rAtt s (D.iXY
      + p) D.XY_STATUS_OK).toNat → completes (.xyStatusFrame p w) s fun t => State.rAtt t (D.iXY + p) D.XY_STATUS_WORD = (Arith.bits w 16 1 : Int) ∧
      (State.attOf t p).xyBad = 0 ∧ (State.attOf t p).xyWrong = 0 ∧ otherHeads p s t ∧ keeps [.att] s t) ∧
  (∀ (s : State) (p w : Nat), s.pwr.rails = true → p < 8 → State.legacy s p = true → Att.parityOk w = false → (State.rAtt s (D.iXY + p)
      D.XY_STATUS_COUNT).toNat ≤ (State.attOf s p).xyBad + 1 → State.chOf s p = .started → (State.attOf s p).xy = .none → Eng.faultHeld (State.engOf s
      p) = false → completes (.xyStatusFrame p w) s fun t => (State.attOf t p).xy = .ack ∧ (State.engOf t p).why = .fault ∧ (State.engOf t p).force =
      true ∧ lastRaised s (0xA0 + p) 0x16 (s.tick % 2 ^ 32) t ∧ otherHeads p s t) ∧
  (∀ (s : State) (p w : Nat), State.legacy s p = false → completes (.xyStatusFrame p w) s fun t => t = s)

/-- ARMED_TRIG of an armed port whose event has come opens a frame with the next number, its parameters copied; with both raw buffers of the port in use
  it closes at once and reports RAW_FULL. FVAL_RISE begins reception, or counts a stray; FVAL_FALL ends it, with the pixels received, short and long
  rows reported; FRAME_TIMEOUT ends it truncated and reports it; FRAME_CLOSE of a frame in stage 6 stores the frame object, counts and closes the
  frame and frees the port. Where a port waits for none of these they change nothing. MPF_HANDOVER at or after the hand-over tick of a scheduled tile
  computes area, length, width and peak of a whole tile in the format and with the threshold that stood at its trigger, counts it valid and gives the
  loop its AREA sample; a tile that has not come is counted invalid and gives an absent sample. Every other port, unit, head and loop stays. Rests on
  R301, R303, R306, R307, R309, R310, R312, R313, R314. -/
def Obligations.FramesRunFromTriggerToClose : Prop :=
  (∀ (s : State) (p : Nat), s.pwr.rails = true → p < 4 → (Ilm.portOf s p).mode = .armed → (Ilm.portOf s p).event = true → s.txn.queue = [] →
      (Img.inlineOf s p = true ∨ Img.rawUsed s p < 2) → completes (.armedTrig p) s fun t => (Ilm.portOf t p).mode = .exposing ∧ State.rImg t (D.iCAM +
      p) D.CAM_FRAME_NO = (((Img.cam s p D.CAM_FRAME_NO + 1) % 2 ^ 32 : Nat) : Int) ∧ t.img.frames.any (fun f => f.port == p && f.no == (Img.cam s p
      D.CAM_FRAME_NO + 1) % 2 ^ 32 && f.trigTick == s.tick && f.trigBtick == s.btick && f.par == Img.params s p && !f.truncated && !f.received) = true
      ∧ (Ilm.portOf t p).trigUntil = s.tick + Img.cam s p D.CAM_TRIG_WIDTH ∧ otherPorts p s t ∧ keeps [.img, .ilm, .raised] s t) ∧
  (∀ (s : State) (p : Nat), s.pwr.rails = true → p < 4 → (Ilm.portOf s p).mode = .armed → (Ilm.portOf s p).event = true → s.txn.queue = [] →
      Img.inlineOf s p = false → 2 ≤ Img.rawUsed s p → Img.isOpen s p ((Img.cam s p D.CAM_FRAME_NO + 1) % 2 ^ 32) = false → completes (.armedTrig p) s
      fun t => Img.isOpen t p ((Img.cam s p D.CAM_FRAME_NO + 1) % 2 ^ 32) = false ∧ (t.img.frames.map fun f => (f.port, f.no)) = (s.img.frames.map fun
      f => (f.port, f.no)) ∧ (⟨0x100 + p, 5, (Img.cam s p D.CAM_FRAME_NO + 1) % 2 ^ 32⟩ : Msg) ∈ t.raised ∧ State.rImg t D.iIMG D.IMG_RAW_FULLS =
      Arith.clamp 0 4294967295 (State.rImg s D.iIMG D.IMG_RAW_FULLS + 1) ∧ (Ilm.portOf t p).mode = .processing ∧ otherPorts p s t ∧ keeps [.img, .ilm,
      .fol, .stk, .raised] s t) ∧
  (∀ (s : State) (p : Nat), ((Ilm.portOf s p).mode ≠ .armed ∨ (Ilm.portOf s p).event = false) → completes (.armedTrig p) s fun t => t = s) ∧
  (∀ (s : State) (p : Nat), s.pwr.rails = true → p < 4 → (Ilm.portOf s p).mode = .exposing → completes (.fvalRise p) s fun t => (Ilm.portOf t p).mode
      = .receiving ∧ t.img.frames = s.img.frames ∧ otherPorts p s t ∧ keeps [.img] s t) ∧
  (∀ (s : State) (p : Nat), s.pwr.rails = true → p < 4 → (Ilm.portOf s p).mode ≠ .exposing → Img.capturing s p = false → completes (.fvalRise p) s
      fun t => State.rImg t (D.iCAM + p) D.CAM_STRAY = Arith.clamp 0 4294967295 (State.rImg s (D.iCAM + p) D.CAM_STRAY + 1) ∧ (Ilm.portOf t p) =
      (Ilm.portOf s p) ∧ t.img.frames = s.img.frames ∧ otherPorts p s t ∧ keeps [.img] s t) ∧
  (∀ (s : State) (p : Nat), (Ilm.portOf s p).mode ≠ .exposing → Img.capturing s p = true → completes (.fvalRise p) s fun t => t = s) ∧
  (∀ (s : State) (p : Nat) (rows : List (List Nat)) (lost : List (Nat × Nat)) (f : Frame), s.pwr.rails = true → p < 4 → Img.frameOf s p = some f →
      (Ilm.portOf s p).mode = .receiving → completes (.fvalFall p rows lost) s fun t => (Ilm.portOf t p).mode = .processing ∧ t.img.frames.any (fun g
      => g.port == p && g.no == f.no && g.received && g.short == (decide (rows.length < f.par.height) || rows.any fun r => decide (r.length <
      f.par.width)) && g.long == (decide (f.par.height < rows.length) || rows.any fun r => decide (f.par.width < r.length)) && g.pixels == Img.receive
      f.par rows (if f.overflow then lost else [])) = true ∧ (t.img.frames.map fun f => (f.port, f.no)) = (s.img.frames.map fun f => (f.port, f.no)) ∧
      t.raised = s.raised ++ (if (decide (rows.length < f.par.height) || rows.any fun r => decide (r.length < f.par.width)) then [⟨0x100 + p, 2, f.no
      % 2 ^ 32⟩] else []) ++ (if (decide (f.par.height < rows.length) || rows.any fun r => decide (f.par.width < r.length)) then [⟨0x100 + p, 3, f.no
      % 2 ^ 32⟩] else []) ∧ otherPorts p s t ∧ keeps [.img, .fol, .raised] s t) ∧
  (∀ (s : State) (p : Nat) (rows : List (List Nat)) (lost : List (Nat × Nat)), (Ilm.portOf s p).mode ≠ .receiving → completes (.fvalFall p rows lost)
      s fun t => t = s) ∧
  (∀ (s : State) (p : Nat) (rows : List (List Nat)) (lost : List (Nat × Nat)) (f : Frame), s.pwr.rails = true → p < 4 → Img.overdue s p = true →
      Img.frameOf s p = some f → completes (.frameTimeout p rows lost) s fun t => (Ilm.portOf t p).mode = .processing ∧ t.img.frames.any (fun g =>
      g.port == p && g.no == f.no && g.received && g.truncated && g.short == ((if (Ilm.portOf s p).mode = .receiving then rows else []).dropLast.any
      fun r => decide (r.length < f.par.width)) && g.long == (decide (f.par.height < (if (Ilm.portOf s p).mode = .receiving then rows else []).length)
      || (if (Ilm.portOf s p).mode = .receiving then rows else []).dropLast.any fun r => decide (f.par.width < r.length)) && g.pixels == Img.receive
      f.par (if (Ilm.portOf s p).mode = .receiving then rows else []) (if f.overflow then lost else [])) = true ∧ (t.img.frames.map fun f => (f.port,
      f.no)) = (s.img.frames.map fun f => (f.port, f.no)) ∧ t.raised = s.raised ++ [⟨0x100 + p, 4, f.no % 2 ^ 32⟩] ++ (if ((if (Ilm.portOf s p).mode =
      .receiving then rows else []).dropLast.any fun r => decide (r.length < f.par.width)) = true then [⟨0x100 + p, 2, f.no % 2 ^ 32⟩] else []) ++ (if
      (decide (f.par.height < (if (Ilm.portOf s p).mode = .receiving then rows else []).length) || (if (Ilm.portOf s p).mode = .receiving then rows
      else []).dropLast.any fun r => decide (f.par.width < r.length)) = true then [⟨0x100 + p, 3, f.no % 2 ^ 32⟩] else []) ∧ otherPorts p s t ∧ keeps
      [.img, .fol, .raised] s t) ∧
  (∀ (s : State) (p : Nat) (rows : List (List Nat)) (lost : List (Nat × Nat)), Img.overdue s p = false → completes (.frameTimeout p rows lost) s fun
      t => t = s) ∧
  (∀ (s : State) (p : Nat) (f : Frame), s.pwr.rails = true → p < 4 → Img.jobOf s p = some f → f.port = p → (Ilm.portOf s p).mode = .processing →
      s.img.frames.all (fun g => g.port != p || g.no == f.no) = true → (f.inlinePort = true ∨ Img.inlineBusy s = false) → (f.folio = false ∨
      f.stream.isSome = true) → completes (.frameClose p) s fun t => Img.isOpen t p f.no = false ∧ Tab.get (fun _ => []) t.img.objects p = Img.object
      f s.btick ∧ State.rImg t (D.iCAM + p) D.CAM_LAST_CLOSE = (Arith.toUnsigned 64 (s.btick : Int) : Int) ∧ State.rImg t (D.iCAM + p) D.CAM_FRAMES =
      (Arith.toUnsigned 32 ((Img.cam s p D.CAM_FRAMES : Int) + 1) : Int) ∧ ((Ilm.portOf t p).mode = .idle ∨ (Ilm.portOf t p).mode = .disabled) ∧
      otherPorts p s t ∧ keeps [.img, .fol, .ilm, .stk, .raised] s t) ∧
  (∀ (s : State) (p : Nat), Img.jobOf s p = none → completes (.frameClose p) s fun t => t = s) ∧
  (∀ (s : State) (c : Nat) (h : TileSlot) (d : List Byte), s.pwr.rails = true → c < 24 → (Feat.unit s c).sched = [h] → h.hand ≤ s.tick → Feat.tileAt
      s c h.tag = some (true, h.format, d) → completes (.mpfHandover c) s fun t => State.rImg t (D.iMPF + c) D.MPF_LAST_TAG = (Arith.toUnsigned 64
      (h.tagBtick : Int) : Int) ∧ State.rImg t (D.iMPF + c) D.MPF_AREA = (Arith.toUnsigned 16 ((Feat.features h.format h.thresh d).area : Int) : Int)
      ∧ State.rImg t (D.iMPF + c) D.MPF_LENGTH = (Arith.toUnsigned 8 ((Feat.features h.format h.thresh d).length : Int) : Int) ∧ State.rImg t (D.iMPF
      + c) D.MPF_WIDTH = (Arith.toUnsigned 8 ((Feat.features h.format h.thresh d).width : Int) : Int) ∧ State.rImg t (D.iMPF + c) D.MPF_PEAK =
      (Arith.toUnsigned 16 ((Feat.features h.format h.thresh d).peak : Int) : Int) ∧ State.rImg t (D.iMPF + c) D.MPF_VALID = Arith.clamp 0 4294967295
      (State.rImg s (D.iMPF + c) D.MPF_VALID + 1) ∧ State.rImg t (D.iMPF + c) D.MPF_INVALID = State.rImg s (D.iMPF + c) D.MPF_INVALID ∧ (Feat.unit t
      c).sched = [] ∧ Tab.find (State.loopOf t c).area h.tag = some (h.hand + 1, if (Feat.unit s c).fenced then none else some (Feat.features h.format
      h.thresh d).area) ∧ (∀ p, p ≠ c → p < 24 → Feat.unit t p = Feat.unit s p) ∧ otherHeads c s t ∧ otherLoops c s t ∧ keeps [.img, .att, .mpl,
      .raised] s t) ∧
  (∀ (s : State) (c : Nat) (h : TileSlot), s.pwr.rails = true → c < 24 → (Feat.unit s c).sched = [h] → h.hand ≤ s.tick → Feat.tileAt s c h.tag = none
      → completes (.mpfHandover c) s fun t => State.rImg t (D.iMPF + c) D.MPF_INVALID = Arith.clamp 0 4294967295 (State.rImg s (D.iMPF + c)
      D.MPF_INVALID + 1) ∧ State.rImg t (D.iMPF + c) D.MPF_VALID = State.rImg s (D.iMPF + c) D.MPF_VALID ∧ (Feat.unit t c).sched = [] ∧ Tab.find
      (State.loopOf t c).area h.tag = some (h.hand + 1, none) ∧ (∀ p, p ≠ c → p < 24 → Feat.unit t p = Feat.unit s p) ∧ otherHeads c s t ∧ otherLoops
      c s t ∧ keeps [.img, .att, .mpl, .raised, .free] s t) ∧
  (∀ (s : State) (c : Nat), s.pwr.rails = true → c < 24 → ((Feat.unit s c).sched.all fun h => decide (s.tick < h.hand)) = true → completes
      (.mpfHandover c) s fun t => State.rImg t (D.iMPF + c) D.MPF_VALID = State.rImg s (D.iMPF + c) D.MPF_VALID ∧ State.rImg t (D.iMPF + c)
      D.MPF_INVALID = State.rImg s (D.iMPF + c) D.MPF_INVALID ∧ (Feat.unit t c).sched = (Feat.unit s c).sched ∧ (∀ p, p ≠ c → p < 24 → Feat.unit t p =
      Feat.unit s p) ∧ otherHeads c s t ∧ keeps [.img, .att, .raised] s t)

/-- LAMP_DIAGNOSIS of a pulse of at least 4 T takes V_SINK once 2 µs of it are over and makes the lamp OK, OPEN below nine tenths of the current and 0.3 V
  with LAMP_OPEN raised, or SHORTED above V_SHORT, with its pulse cut and LAMP_SHORT raised; a SHORTED lamp does not become OPEN. LAMP_PULSE_END ends
  a pulse that is over; LAMP_PROBE and the probe command begin 4 µs pulses of 20 mA on the lamps that are due, with no port exposing or receiving.
  Where there is no pulse or no probe due they change nothing. Every other lamp stays. Rests on R323, R325, R326, R327, R332. -/
def Obligations.LampsAreDiagnosedAndProbed : Prop :=
  (∀ (s : State) (l v cur : Nat) (p : Pulse), s.pwr.rails = true → l < 16 → (Ilm.lampOf s l).pulse = some p → p.start + 4 ≤ p.stop → p.start + 4 ≤
      s.tick → (Ilm.lampOf s l).mode ≠ .disabled → (Ilm.lampOf s l).mode ≠ .fenced → v ≤ Ilm.glob s D.ILMG_V_SHORT → (p.current * 9 ≤ cur * 10 ∨ 300 ≤
      v) → completes (.lampDiagnosis l v cur) s fun t => (Ilm.lampOf t l).mode = .ok ∧ (Ilm.lampOf t l).pulse = some p ∧ State.rIlm t (D.iILM + l)
      D.ILM_STATE = 2 ∧ (Ilm.lampOf t l).vPred = some v ∧ State.rIlm t (D.iILM + l) D.ILM_V_SINK = ((min v 65535 : Nat) : Int) ∧ otherLamps l s t ∧
      keeps [.ilm] s t) ∧
  (∀ (s : State) (l v cur : Nat) (p : Pulse), s.pwr.rails = true → l < 16 → (Ilm.lampOf s l).pulse = some p → p.start + 4 ≤ p.stop → p.start + 4 ≤
      s.tick → (Ilm.lampOf s l).mode ≠ .disabled → (Ilm.lampOf s l).mode ≠ .fenced → v ≤ Ilm.glob s D.ILMG_V_SHORT → cur * 10 < p.current * 9 → v <
      300 → (Ilm.lampOf s l).mode ≠ .shorted → completes (.lampDiagnosis l v cur) s fun t => (Ilm.lampOf t l).mode = .opened ∧ (Ilm.lampOf t l).pulse
      = some p ∧ State.rIlm t (D.iILM + l) D.ILM_STATE = 3 ∧ lastRaised s (0x130 + l) 1 (s.tick % 2 ^ 32) t ∧ (Ilm.lampOf t l).vPred = some v ∧
      State.rIlm t (D.iILM + l) D.ILM_V_SINK = ((min v 65535 : Nat) : Int) ∧ otherLamps l s t ∧ keeps [.ilm, .raised] s t) ∧
  (∀ (s : State) (l v cur : Nat) (p : Pulse), s.pwr.rails = true → l < 16 → (Ilm.lampOf s l).pulse = some p → p.start + 4 ≤ p.stop → p.start + 4 ≤
      s.tick → (Ilm.lampOf s l).mode ≠ .disabled → (Ilm.lampOf s l).mode ≠ .fenced → v ≤ Ilm.glob s D.ILMG_V_SHORT → cur * 10 < p.current * 9 → v <
      300 → (Ilm.lampOf s l).mode = .shorted → completes (.lampDiagnosis l v cur) s fun t => (Ilm.lampOf t l).mode = .shorted ∧ (Ilm.lampOf t l).pulse
      = some p ∧ (Ilm.lampOf t l).vPred = some v ∧ State.rIlm t (D.iILM + l) D.ILM_V_SINK = ((min v 65535 : Nat) : Int) ∧ otherLamps l s t ∧ keeps
      [.ilm] s t) ∧
  (∀ (s : State) (l v cur : Nat) (p : Pulse), s.pwr.rails = true → l < 16 → (Ilm.lampOf s l).pulse = some p → p.start + 4 ≤ p.stop → p.start + 4 ≤
      s.tick → (Ilm.lampOf s l).mode ≠ .disabled → (Ilm.lampOf s l).mode ≠ .fenced → Ilm.glob s D.ILMG_V_SHORT < v → completes (.lampDiagnosis l v
      cur) s fun t => (Ilm.lampOf t l).mode = .shorted ∧ (Ilm.lampOf t l).pulse = none ∧ lastRaised s (0x130 + l) 2 (s.tick % 2 ^ 32) t ∧ State.rIlm t
      (D.iILM + l) D.ILM_STATE = 4 ∧ (Ilm.lampOf t l).vPred = some v ∧ State.rIlm t (D.iILM + l) D.ILM_V_SINK = ((min v 65535 : Nat) : Int) ∧
      otherLamps l s t ∧ keeps [.ilm, .raised] s t) ∧
  (∀ (s : State) (l v cur : Nat), ((Ilm.lampOf s l).pulse = none ∨ ((Ilm.lampOf s l).mode = .disabled ∨ (Ilm.lampOf s l).mode = .fenced)) → completes
      (.lampDiagnosis l v cur) s fun t => t = s) ∧
  (∀ (s : State) (l v cur : Nat) (p : Pulse), (Ilm.lampOf s l).pulse = some p → (p.stop < p.start + 4 ∨ s.tick < p.start + 4) → completes
      (.lampDiagnosis l v cur) s fun t => t = s) ∧
  (∀ (s : State) (l : Nat) (p : Pulse), s.pwr.rails = true → l < 16 → (Ilm.lampOf s l).pulse = some p → p.stop ≤ s.tick → completes (.lampPulseEnd l)
      s fun t => (Ilm.lampOf t l) = { (Ilm.lampOf s l) with pulse := none } ∧ otherLamps l s t ∧ keeps [.ilm] s t) ∧
  (∀ (s : State) (l : Nat), (((Ilm.lampOf s l).pulse.map fun p => decide (p.stop ≤ s.tick)).getD false) = false → completes (.lampPulseEnd l) s fun t
      => t = s) ∧
  (∀ (s : State) (l : Nat), s.pwr.rails = true → l < 16 → (Ilm.lampOf s l).probeDue = true → (Ilm.lampOf s l).probeFrom ≤ s.tick → Ilm.portsBusy s =
      false → (Ilm.lampOf s l).mode ≠ .disabled → (Ilm.lampOf s l).mode ≠ .fenced → completes (.lampProbe l) s fun t => (Ilm.lampOf t l).pulse = some
      ⟨s.tick, s.tick + 8, 80, true⟩ ∧ (Ilm.lampOf t l).probeDue = false ∧ (Ilm.lampOf t l).mode = (Ilm.lampOf s l).mode ∧ State.rIlm t (D.iILM + l)
      D.ILM_PROBES = Arith.clamp 0 4294967295 (State.rIlm s (D.iILM + l) D.ILM_PROBES + 1) ∧ otherLamps l s t ∧ keeps [.ilm] s t) ∧
  (∀ (s : State) (l : Nat), ((Ilm.lampOf s l).probeDue = false ∨ s.tick < (Ilm.lampOf s l).probeFrom ∨ Ilm.portsBusy s = true ∨ (Ilm.lampOf s l).mode
      = .disabled ∨ (Ilm.lampOf s l).mode = .fenced) → completes (.lampProbe l) s fun t => t = s) ∧
  (∀ (s : State), hostOpen s = true → Ilm.portsBusy s = false → completes .ilmProbe s fun t => (∀ l < 16, (Ilm.lampOf s l).mode = .undiagnosed ∨
      (Ilm.lampOf s l).mode = .opened ∨ (Ilm.lampOf s l).mode = .shorted → (Ilm.lampOf t l).pulse = some ⟨s.tick, s.tick + 8, 80, true⟩) ∧ (∀ l < 16,
      (Ilm.lampOf s l).mode = .ok ∨ (Ilm.lampOf s l).mode = .disabled ∨ (Ilm.lampOf s l).mode = .fenced → (Ilm.lampOf t l) = (Ilm.lampOf s l)) ∧ keeps
      [.ilm] s t) ∧
  (∀ (s : State), hostOpen s = true → Ilm.portsBusy s = true → completes .ilmProbe s fun t => t = s)

/-- ILM_APPLY with no camera port enabled makes every staged current and width live at once, with I_CODE as R321 computes it; with one enabled they stay
  pending. LAMP_ENABLE makes a DISABLED lamp UNDIAGNOSED, its frame count 0, and leaves any other in its state; LAMP_DISABLE makes a lamp DISABLED,
  disarmed, its pulse over, unless it is FENCED with its fault status held: then it stays. Every other lamp stays. Rests on R321, R322, R323, R324,
  R327. -/
def Obligations.LampsTakeStagedSettings : Prop :=
  (∀ (s : State), hostOpen s = true → Ilm.anyPort s = false → completes .ilmApply s fun t => State.rIlm t D.iILMG D.ILMG_APPLY_PENDING = 0 ∧ (∀ l <
      16, State.rIlm t (D.iILM + l) D.ILM_I_CODE = (Ilm.iCode (Ilm.glob s D.ILMG_DIMMER) (Ilm.reg s l D.ILM_SET) (Ilm.reg s l D.ILM_TRIM) : Int) ∧
      (Ilm.lampOf t l) = { Ilm.lampOf s l with width := Ilm.reg s l D.ILM_PULSE }) ∧ keeps [.ilm] s t) ∧
  (∀ (s : State), hostOpen s = true → Ilm.anyPort s = true → completes .ilmApply s fun t => State.rIlm t D.iILMG D.ILMG_APPLY_PENDING = 1 ∧ t.ilm.tab
      = s.ilm.tab ∧ (∀ l < 16, State.rIlm t (D.iILM + l) D.ILM_I_CODE = State.rIlm s (D.iILM + l) D.ILM_I_CODE) ∧ keeps [.ilm] s t) ∧
  (∀ (s : State) (l : Nat), upNow s = true → l < 16 → (Ilm.lampOf s l).mode = .disabled → completes (.lampEnable l) s fun t => (Ilm.lampOf t l) =
      { (Ilm.lampOf s l) with mode := .undiagnosed, count := 0 } ∧ State.rIlm t (D.iILM + l) D.ILM_ENABLE = 1 ∧ State.rIlm t (D.iILM + l) D.ILM_STATE
      = 1 ∧ otherLamps l s t ∧ keeps [.ilm, .dev] s t) ∧
  (∀ (s : State) (l : Nat), upNow s = true → l < 16 → (Ilm.lampOf s l).mode ≠ .disabled → completes (.lampEnable l) s fun t => (Ilm.lampOf t l) =
      (Ilm.lampOf s l) ∧ State.rIlm t (D.iILM + l) D.ILM_ENABLE = 1 ∧ otherLamps l s t ∧ keeps [.ilm, .dev] s t) ∧
  (∀ (s : State) (l : Nat), upNow s = true → l < 16 → ((Ilm.lampOf s l).mode ≠ .fenced ∨ State.holdsStatus s (0x130 + l) = false) → completes
      (.lampDisable l) s fun t => (Ilm.lampOf t l) = { (Ilm.lampOf s l) with mode := .disabled, armed := none, pulse := none, probeDue := false } ∧
      State.rIlm t (D.iILM + l) D.ILM_ENABLE = 0 ∧ State.rIlm t (D.iILM + l) D.ILM_STATE = 0 ∧ State.rIlm t (D.iILM + l) D.ILM_ARMED = 0xFF ∧
      otherLamps l s t ∧ keeps [.ilm, .dev] s t) ∧
  (∀ (s : State) (l : Nat), upNow s = true → l < 16 → (Ilm.lampOf s l).mode = .fenced → State.holdsStatus s (0x130 + l) = true → completes
      (.lampDisable l) s fun t => (Ilm.lampOf t l) = (Ilm.lampOf s l) ∧ State.rIlm t (D.iILM + l) D.ILM_ENABLE = 0 ∧ otherLamps l s t ∧ keeps [.ilm,
      .dev] s t)

/-- FOL_START of a free slot with a valid input queues the job of its entries and input; with an invalid input, or of a busy slot, it is refused and
  changes nothing. FOL_CANCEL drops a queued job, aborts one that has started, or frees the chain of a DONE slot; FOL_RELEASE frees a DONE slot and
  its chain. FOLIO_JOB_END of a compress job whose rows all fit delivers its stream: to its slot with result 0, to its frame, or to the grid snapshot;
  a decompress job whose rows fit delivers them with the result of its guards. FOLIO_WAIT_EXPIRY delivers the complete rows with OUTPUT_FULL.
  FOLIO_ENABLE lets jobs run; FOLIO_DISABLE stops them and aborts the one that runs; one that waits for a buffer keeps the rows that its buffers hold.
  Where no job may end the two events change nothing. Rests on R334, R335, R338, R340, R341, R342, R343, R345. -/
def Obligations.FolioRunsItsJobs : Prop :=
  (∀ (s : State) (i : Nat), hostOpen s = true → i < 4 → Fol.startFree s i = true → Fol.inputOk s i = true → completes (.folStart i) s fun t =>
      t.fol.jobs.any (fun j => { j with held := 0, waitFrom := none, started := false, waitTicks := 0, expandMax := 64, outLimit := 0 } == Fol.slotJob
      i ((State.rFol s (D.iFOLJ + i) D.FOLJ_OP).toNat == 1) (State.rFol s (D.iFOLJ + i) D.FOLJ_BITS).toNat (State.rFol s (D.iFOLJ + i)
      D.FOLJ_WIDTH).toNat (if ((State.rFol s (D.iFOLJ + i) D.FOLJ_OP).toNat == 1) then Arith.leAt (Fol.inputOf s i) 10 2 else (State.rFol s (D.iFOLJ +
      i) D.FOLJ_HEIGHT).toNat) (Fol.inputOf s i)) = true ∧ ((Fol.slotOf t i).mode = 1 ∨ (Fol.slotOf t i).mode = 2 ∨ (Fol.slotOf t i).mode = 3) ∧
      (Fol.slotOf t i).output = [] ∧ Tab.get (fun _ => 0) t.fol.chains (0x20 + i) = 0 ∧ (∀ p, p ≠ i → p < 4 → (Fol.slotOf t p).output = (Fol.slotOf s
      p).output) ∧ keeps [.fol] s t) ∧
  (∀ (s : State) (i : Nat), hostOpen s = true → i < 4 → (Fol.startFree s i = false ∨ Fol.inputOk s i = false) → completes (.folStart i) s fun t => t
      = s) ∧
  (∀ (s : State) (i : Nat), hostOpen s = true → i < 4 → s.fol.jobs.any (fun j => j.client == 0x20 + i) = true → s.fol.jobs.all (fun j => j.client !=
      0x20 + i || !j.started) = true → completes (.folCancel i) s fun t => t.fol.jobs.all (fun j => j.client != 0x20 + i) = true ∧ (Fol.slotOf t
      i).mode = 0 ∧ State.rFol t (D.iFOLJ + i) D.FOLJ_STATE = 0 ∧ Tab.get (fun _ => 0) t.fol.chains (0x20 + i) = 0 ∧ (∀ p, p ≠ i → p < 4 → (Fol.slotOf
      t p).output = (Fol.slotOf s p).output) ∧ keeps [.fol] s t) ∧
  (∀ (s : State) (i : Nat) (j : FolJob) (rest : List FolJob), hostOpen s = true → i < 4 → s.fol.jobs = j :: rest → j.client = 0x20 + i → j.started =
      true → rest.all (fun x => x.client != 0x20 + i) = true → completes (.folCancel i) s fun t => t.fol.jobs.all (fun j => j.client != 0x20 + i) =
      true ∧ (Fol.slotOf t i) = ⟨4, []⟩ ∧ State.rFol t (D.iFOLJ + i) D.FOLJ_RESULT = 8 ∧ Tab.get (fun _ => 0) t.fol.chains (0x20 + i) = 0 ∧ (∀ p, p ≠
      i → p < 4 → (Fol.slotOf t p).output = (Fol.slotOf s p).output) ∧ keeps [.fol, .raised, .free] s t) ∧
  (∀ (s : State) (i : Nat) (j k : FolJob) (rest : List FolJob), hostOpen s = true → i < 4 → s.fol.jobs = k :: j :: rest → k.client ≠ 0x20 + i →
      j.client = 0x20 + i → j.started = true → rest.all (fun x => x.client != 0x20 + i) = true → completes (.folCancel i) s fun t => (t.fol.jobs.map
      fun x => x.client) = ((k :: rest).map fun x => x.client) ∧ (Fol.slotOf t i) = ⟨4, []⟩ ∧ State.rFol t (D.iFOLJ + i) D.FOLJ_RESULT = 8 ∧ Tab.get
      (fun _ => 0) t.fol.chains (0x20 + i) = 0 ∧ (∀ p, p ≠ i → p < 4 → (Fol.slotOf t p).output = (Fol.slotOf s p).output) ∧ keeps [.fol, .raised,
      .free] s t) ∧
  (∀ (s : State) (i : Nat), hostOpen s = true → i < 4 → (Fol.slotOf s i).mode = 4 → s.fol.jobs.all (fun j => j.client != 0x20 + i) = true → completes
      (.folCancel i) s fun t => (Fol.slotOf t i) = ⟨0, []⟩ ∧ State.rFol t (D.iFOLJ + i) D.FOLJ_STATE = 0 ∧ Tab.get (fun _ => 0) t.fol.chains (0x20 +
      i) = 0 ∧ (∀ p, p ≠ i → p < 4 → (Fol.slotOf t p).output = (Fol.slotOf s p).output) ∧ keeps [.fol] s t) ∧
  (∀ (s : State) (i : Nat), hostOpen s = true → i < 4 → (Fol.slotOf s i).mode ≠ 4 → s.fol.jobs.all (fun j => j.client != 0x20 + i) = true → completes
      (.folCancel i) s fun t => t = s) ∧
  (∀ (s : State) (i : Nat), hostOpen s = true → i < 4 → (Fol.slotOf s i).mode = 4 → s.fol.jobs.all (fun j => j.client != 0x20 + i) = true → completes
      (.folRelease i) s fun t => (Fol.slotOf t i) = ⟨0, []⟩ ∧ State.rFol t (D.iFOLJ + i) D.FOLJ_STATE = 0 ∧ Tab.get (fun _ => 0) t.fol.chains (0x20 +
      i) = 0 ∧ (∀ p, p ≠ i → p < 4 → (Fol.slotOf t p).output = (Fol.slotOf s p).output) ∧ keeps [.fol] s t) ∧
  (∀ (s : State) (i : Nat), hostOpen s = true → i < 4 → (Fol.slotOf s i).mode ≠ 4 → completes (.folRelease i) s fun t => t = s) ∧
  (∀ (s : State) (i : Nat) (j : FolJob) (rest : List FolJob), i < 4 → j.client = 0x20 + i → rest.all (fun x => x.client != 0x20 + i) = true →
      s.pwr.rails = true → Fol.canEnd s = true → s.fol.jobs = j :: rest → j.decode = false → min 65536 (Fol.keptRows s j) = j.height → j.height <
      65536 → completes .folioJobEnd s fun t => (Fol.slotOf t i) = ⟨4, Codec.stream j.bits j.width j.height j.height j.samples⟩ ∧ State.rFol t
      (D.iFOLJ + i) D.FOLJ_RESULT = 0 ∧ State.rFol t (D.iFOLJ + i) D.FOLJ_ROWS = (j.height : Int) ∧ (∀ p, p ≠ i → p < 4 → (Fol.slotOf t p).output =
      (Fol.slotOf s p).output) ∧ keeps [.fol] s t) ∧
  (∀ (s : State) (j : FolJob) (rest : List FolJob), j.client < 4 → s.pwr.rails = true → Fol.canEnd s = true → s.fol.jobs = j :: rest → j.decode =
      false → min 65536 (Fol.keptRows s j) = j.height → j.height < 65536 → completes .folioJobEnd s fun t => t.img.frames = Arith.updWhere (fun f =>
      f.port == j.client && f.folio && f.stream.isNone && f.stage6) (fun f =>
      { f with stream := some (Codec.stream j.bits j.width j.height j.height j.samples, j.height) }) s.img.frames ∧ t.fol.jobs.length = rest.length ∧
      keeps [.fol, .img] s t) ∧
  (∀ (s : State) (j : FolJob) (rest : List FolJob), j.client = 0x10 → j.plane < 2 → s.pwr.rails = true → Fol.canEnd s = true → s.fol.jobs = j :: rest
      → j.decode = false → min 65536 (Fol.keptRows s j) = j.height → j.height < 65536 → completes .folioJobEnd s fun t => t.grd.snap = (s.grd.snap.map
      fun p => { p with planes := p.planes ++ [Codec.stream j.bits j.width j.height j.height j.samples] }) ∧ t.fol.jobs.length = rest.length ∧ keeps
      [.fol, .grd] s t) ∧
  (∀ (s : State) (i : Nat) (j : FolJob) (rest : List FolJob) (d : Codec.Decoded), s.pwr.rails = true → i < 4 → Fol.canEnd s = true → s.fol.jobs = j
      :: rest → j.client = 0x20 + i → j.decode = true → d = Fol.jobDecoded j → d.rows.length ≤ Fol.keptOut s j → d.rows.length < 65536 → d.result < 9
      → rest.all (fun x => x.client != 0x20 + i) = true → completes .folioJobEnd s fun t => (Fol.slotOf t i) = ⟨4, Fol.outBytes (Arith.leAt j.input 6
      1) d.rows⟩ ∧ State.rFol t (D.iFOLJ + i) D.FOLJ_RESULT = (d.result : Int) ∧ State.rFol t (D.iFOLJ + i) D.FOLJ_ROWS = (d.rows.length : Int) ∧
      t.raised = s.raised ++ (if 3 ≤ d.result ∧ d.result ≤ 7 then [⟨0x140, 3, 0x20 + i + 65536 * d.rows.length⟩] else if d.result = 1 then [⟨0x140, 1,
      0x20 + i + 65536 * d.rows.length⟩] else if d.result = 8 then [⟨0x140, 2, 0x20 + i + 65536 * d.rows.length⟩] else []) ∧ (∀ p, p ≠ i → p < 4 →
      (Fol.slotOf t p).output = (Fol.slotOf s p).output) ∧ keeps [.fol, .raised] s t) ∧
  (∀ (s : State), Fol.canEnd s = false → completes .folioJobEnd s fun t => t = s) ∧
  (∀ (s : State) (i n : Nat) (j : FolJob) (rest : List FolJob), s.pwr.rails = true → i < 4 → Fol.waitOver s = true → s.fol.jobs = j :: rest →
      j.client = 0x20 + i → j.decode = false → min 65536 (Fol.keptRows s j) = n → n < j.height → j.height < 65536 → rest.all (fun x => x.client !=
      0x20 + i) = true → completes .folioWaitExpiry s fun t => (Fol.slotOf t i) = ⟨4, Codec.stream j.bits j.width j.height n j.samples⟩ ∧ State.rFol t
      (D.iFOLJ + i) D.FOLJ_RESULT = 1 ∧ State.rFol t (D.iFOLJ + i) D.FOLJ_ROWS = (n : Int) ∧ lastRaised s 0x140 1 (0x20 + i + 65536 * n) t ∧ (∀ p, p ≠
      i → p < 4 → (Fol.slotOf t p).output = (Fol.slotOf s p).output) ∧ keeps [.fol, .raised, .free] s t) ∧
  (∀ (s : State), Fol.waitOver s = false → completes .folioWaitExpiry s fun t => t = s) ∧
  (∀ (s : State), upNow s = true → Fol.ctl s D.FOL_BUF_SIZE * Fol.ctl s D.FOL_BUF_COUNT ≤ 536870912 → completes .folioEnable s fun t => State.rFol t
      D.iFOL D.FOL_ENABLE = 1 ∧ State.rFol t D.iFOL D.FOL_STATE = (if s.fol.jobs = [] then 1 else if (t.fol.jobs.head?.map fun j => j.waitFrom.isSome)
      = some true then 3 else 2) ∧ (t.fol.jobs.map fun j => (j.client, j.samples, j.input)) = (s.fol.jobs.map fun j => (j.client, j.samples, j.input))
      ∧ keeps [.fol] s t) ∧
  (∀ (s : State), upNow s = true → Fol.ctl s D.FOL_BUF_SIZE * Fol.ctl s D.FOL_BUF_COUNT ≤ 536870912 → (¬ ((s.fol.jobs.head?.map fun j =>
      j.started).getD false = true ∧ Fol.ctl s D.FOL_ENABLE = 1)) → completes .folioDisable s fun t => State.rFol t D.iFOL D.FOL_ENABLE = 0 ∧
      State.rFol t D.iFOL D.FOL_STATE = 0 ∧ t.fol.jobs = s.fol.jobs ∧ keeps [.fol] s t) ∧
  (∀ (s : State) (j : FolJob) (rest : List FolJob), upNow s = true → Fol.ctl s D.FOL_BUF_SIZE * Fol.ctl s D.FOL_BUF_COUNT ≤ 536870912 → s.fol.jobs =
      j :: rest → j.started = true → Fol.ctl s D.FOL_ENABLE = 1 → completes .folioDisable s fun t => State.rFol t D.iFOL D.FOL_ENABLE = 0 ∧ State.rFol
      t D.iFOL D.FOL_STATE = 0 ∧ t.fol.jobs = rest ∧ (∀ i < 4, j.client ≠ 0x20 + i → (Fol.slotOf t i).output = (Fol.slotOf s i).output) ∧ keeps [.fol,
      .img, .grd, .raised, .free] s t) ∧
  (∀ (s : State) (i n : Nat) (j : FolJob) (rest : List FolJob), upNow s = true → Fol.ctl s D.FOL_BUF_SIZE * Fol.ctl s D.FOL_BUF_COUNT ≤ 536870912 → i
      < 4 → s.fol.jobs = j :: rest → j.client = 0x20 + i → j.started = true → j.waitFrom.isSome = true → Fol.ctl s D.FOL_ENABLE = 1 → j.decode = false
      → min 65536 (Fol.keptRows s j) = n → n < j.height → j.height < 65536 → completes .folioDisable s fun t => (Fol.slotOf t i) = ⟨4, Codec.stream
      j.bits j.width j.height n j.samples⟩ ∧ State.rFol t (D.iFOLJ + i) D.FOLJ_RESULT = 8 ∧ State.rFol t (D.iFOLJ + i) D.FOLJ_ROWS = (n : Int) ∧
      lastRaised s 0x140 2 (0x20 + i + 65536 * n) t ∧ (∀ p, p ≠ i → p < 4 → (Fol.slotOf t p).output = (Fol.slotOf s p).output) ∧ keeps [.fol, .raised,
      .free] s t)

/-- MOUNT and FORMAT lead to MOUNTING, FORMAT with an empty directory, 7 % of the good blocks as spare and a new identity in the superblock. A mount takes
  the superblock with the higher sequence, its checkpoint and the records after it up to the first that is not valid, counts the objects without a
  commit record and closes the blocks that hold a partly programmed page; it makes the store MOUNTED, or READ_ONLY where its objects exceed the space,
  or UNFORMATTED, or FAILED with MOUNT_FAIL for another geometry, a missing target or NAND that R347 turns away. UNMOUNT abandons writes, writes a
  checkpoint and makes it ABSENT; DELETE removes the selected object. OBJECT_COMMIT of a write, complete, fitting and not held back by staging, adds
  an object with the next SEQ, the next ID and the operating time; of one that does not fit it raises STORE_FULL. A command of the host that R352,
  R362 or R364 refuses, and an event that nothing waits for, change nothing. Rests on R137, R347, R350, R351, R352, R358, R359, R361, R362, R363,
  R364, R370. -/
def Obligations.TheStoreChangesItsState : Prop :=
  (∀ (s : State), hostOpen s = true → Stk.canMount s = true → completes .stkMount s fun t => t.stk.mode = .mounting ∧ t.stk.store = s.stk.store ∧
      t.stk.medium = s.stk.medium ∧ t.stk.writes = s.stk.writes ∧ keeps [.stk] s t) ∧
  (∀ (s : State), hostOpen s = true → Stk.canMount s = false → completes .stkMount s fun t => t = s) ∧
  (∀ (s : State) (r : MountEnd) (m z : Medium) (i area seq len d : Nat) (dir : Directory), s.pwr.rails = true → s.stk.mode = .mounting → s.pwr.boot ≠
      some .mount → m = (if s.stk.formatting = true then s.stk.medium else r.found.getD s.stk.medium) → Nand.unsupported m = none → Nand.load m =
      .store i area dir seq len d z → Stk.usedBytes ⟨i, area, dir, seq, len, []⟩ ≤ Stk.usableBytes z ⟨i, area, dir, seq, len, []⟩ → completes
      (.mountComplete r) s fun t => t.stk.mode = .mounted ∧ t.stk.store = some ⟨i, area, dir, seq, len, []⟩ ∧ t.stk.medium = z ∧ t.stk.shown = true ∧
      t.stk.formatting = false ∧ State.rStk t D.iSTK_STATUS D.STK_STATUS_MOUNT_MS = (Arith.toUnsigned 32 (r.ms : Int) : Int) ∧ State.rStk t
      D.iSTK_STATUS D.STK_STATUS_DISCARDED = (Arith.toUnsigned 32 (d : Int) : Int) ∧ t.raised = s.raised ++ (if d = 0 then [] else [⟨0x158, 6, d % 2 ^
      32⟩]) ∧ keeps [.stk, .raised] s t) ∧
  (∀ (s : State) (r : MountEnd) (m z : Medium) (i area seq len d : Nat) (dir : Directory), s.pwr.rails = true → s.stk.mode = .mounting → s.pwr.boot ≠
      some .mount → m = (if s.stk.formatting = true then s.stk.medium else r.found.getD s.stk.medium) → Nand.unsupported m = none → Nand.load m =
      .store i area dir seq len d z → ¬Stk.usedBytes ⟨i, area, dir, seq, len, []⟩ ≤ Stk.usableBytes z ⟨i, area, dir, seq, len, []⟩ → completes
      (.mountComplete r) s fun t => t.stk.mode = .readOnly ∧ t.stk.store = some ⟨i, area, dir, seq, len, []⟩ ∧ t.stk.medium = z ∧ t.stk.shown = true ∧
      t.stk.formatting = false ∧ State.rStk t D.iSTK_STATUS D.STK_STATUS_MOUNT_MS = (Arith.toUnsigned 32 (r.ms : Int) : Int) ∧ State.rStk t
      D.iSTK_STATUS D.STK_STATUS_DISCARDED = (Arith.toUnsigned 32 (d : Int) : Int) ∧ t.raised = s.raised ++ (if d = 0 then [] else [⟨0x158, 6, d % 2 ^
      32⟩]) ++ [⟨0x158, 3, State.freeVal s % 2 ^ 32⟩] ∧ keeps [.stk, .raised, .free] s t) ∧
  (∀ (s : State) (r : MountEnd) (m : Medium) (a b : Superblock) (c : Checkpoint) (j : JournalRecord), s.pwr.rails = true → s.stk.mode = .mounting →
      s.pwr.boot ≠ some .mount → m = (if s.stk.formatting = true then s.stk.medium else r.found.getD s.stk.medium) → Nand.unsupported m = none →
      m.superA = some a → m.superB = some b → a.seq < b.seq → b.geometry = Nand.geometry m → m.checkpoints = [c] → c.number = b.checkpoint → m.journal
      = [j] → j.seq = c.journalSeq → m.loose = [] → m.torn = [] → completes (.mountComplete r) s fun t => t.stk.store.map (fun x => (x.id, x.area,
      x.dir, x.journalSeq)) = some (b.id, b.area, Nand.sweep [] (if j.valid = true then Nand.apply j.op c.dir else c.dir), if j.valid = true then
      (c.journalSeq + 1) % 2 ^ 64 else c.journalSeq)) ∧
  (∀ (s : State) (r : MountEnd) (m : Medium), s.pwr.rails = true → s.stk.mode = .mounting → s.pwr.boot ≠ some .mount → m = (if s.stk.formatting =
      true then s.stk.medium else r.found.getD s.stk.medium) → Nand.unsupported m = none → m.superA = none → m.superB = none → completes
      (.mountComplete r) s fun t => t.stk.mode = .unformatted ∧ t.stk.store = none ∧ t.stk.medium = m ∧ t.stk.formatting = false ∧ keeps [.stk] s t) ∧
  (∀ (s : State) (r : MountEnd) (m : Medium) (b : Superblock), s.pwr.rails = true → s.stk.mode = .mounting → s.pwr.boot ≠ some .mount → m = (if
      s.stk.formatting = true then s.stk.medium else r.found.getD s.stk.medium) → Nand.unsupported m = none → Nand.newest m = some b →
      (b.geometry.populated.any fun k => (Nand.target m k).isNone) = true → completes (.mountComplete r) s fun t => t.stk.mode = .failed ∧ t.stk.store
      = none ∧ lastRaised s 0x158 1 3 t ∧ keeps [.stk, .raised] s t) ∧
  (∀ (s : State) (r : MountEnd) (m : Medium) (b : Superblock), s.pwr.rails = true → s.stk.mode = .mounting → s.pwr.boot ≠ some .mount → m = (if
      s.stk.formatting = true then s.stk.medium else r.found.getD s.stk.medium) → Nand.unsupported m = none → Nand.newest m = some b →
      (b.geometry.populated.any fun k => (Nand.target m k).isNone) = false → Nand.geometry m ≠ b.geometry → completes (.mountComplete r) s fun t =>
      t.stk.mode = .failed ∧ t.stk.store = none ∧ lastRaised s 0x158 1 2 t ∧ keeps [.stk, .raised] s t) ∧
  (∀ (s : State) (r : MountEnd) (m : Medium) (g : Target), s.pwr.rails = true → s.stk.mode = .mounting → s.pwr.boot ≠ some .mount → m = (if
      s.stk.formatting = true then s.stk.medium else r.found.getD s.stk.medium) → (Nand.target m 0 = none ∨ (∃ e ∈ m.targets, e.2.onfi < 40 ∨
      e.2.nvddr3 = false ∨ Nand.target m 0 = some g ∧ Nand.sizes e.2 ≠ Nand.sizes g) ∨ Nand.target m 0 = some g ∧ ((g.pageBytes ≠ 4096 ∧ g.pageBytes ≠
      8192 ∧ g.pageBytes ≠ 16384) ∨ 9 * g.spareBytes < g.pageBytes ∨ 32 * 2 ^ 40 < m.targets.length * g.blocks * (g.pages * g.pageBytes))) → completes
      (.mountComplete r) s fun t => t.stk.mode = .failed ∧ t.stk.store = none ∧ t.raised = s.raised ++ [⟨0x150 + (Nand.unsupported m).getD 0, 5,
      State.freeVal s % 2 ^ 32⟩, ⟨0x158, 1, State.freeVal (State.draw s) % 2 ^ 32⟩] ∧ keeps [.stk, .raised, .free] s t) ∧
  (∀ (s : State) (r : MountEnd), s.pwr.boot ≠ some .mount → s.stk.mode ≠ .mounting → completes (.mountComplete r) s fun t => t = s) ∧
  (∀ (s : State), hostOpen s = true → Stk.canUnmount s = true → completes .stkUnmount s fun t => t.stk.mode = .absent ∧ t.stk.writes = [] ∧
      t.stk.store = (s.stk.store.map fun x => { x with journalLen := 0 }) ∧ t.stk.medium = (s.stk.store.elim s.stk.medium fun x => Nand.checkpointed
      true x.id x.area x.journalSeq x.dir s.stk.medium) ∧ keeps [.stk, .grd, .cat, .fol] s t) ∧
  (∀ (s : State), hostOpen s = true → Stk.canUnmount s = false → completes .stkUnmount s fun t => t = s) ∧
  (∀ (s : State), hostOpen s = true → Stk.canFormat s = true → Nand.unsupported s.stk.medium = none → completes .stkFormat s fun t => t.stk.mode =
      .mounting ∧ t.stk.formatting = true ∧ t.stk.writes = [] ∧ t.stk.store = none ∧ (Nand.newest t.stk.medium).map (fun b => (b.id, b.geometry)) =
      some (State.freeVal s % 2 ^ 64, Nand.geometry s.stk.medium) ∧ t.stk.medium.checkpoints.map (fun c => (c.dir.objects, c.dir.map, c.dir.spare)) =
      [([], [], 7 * Nand.good s.stk.medium (Stk.retired s) / 100)] ∧ keeps [.stk, .grd, .cat, .fol, .free] s t) ∧
  (∀ (s : State), hostOpen s = true → Stk.canFormat s = true → Nand.unsupported s.stk.medium ≠ none → completes .stkFormat s fun t => t.stk.mode =
      .mounting ∧ t.stk.medium = s.stk.medium ∧ t.stk.store = none ∧ keeps [.stk, .grd, .cat, .fol, .free] s t) ∧
  (∀ (s : State), hostOpen s = true → Stk.canFormat s = false → completes .stkFormat s fun t => t = s) ∧
  (∀ (s : State) (p : Nat) (o : StkObj) (x : Store), pathOpen p D.iSTK_CTRL s = true → Stk.canDelete s p = true → Stk.selected s p = some o →
      s.stk.store = some x → completes (.stkDelete p) s fun t => t.stk.store.map (fun x => (x.dir.objects, x.dir.nextId, x.journalSeq)) = some
      (x.dir.objects.filter (fun y => y.id != o.id), x.dir.nextId, (x.journalSeq + 1) % 2 ^ 64) ∧ t.stk.writes = s.stk.writes ∧ keeps [.stk, .raised,
      .free] s t) ∧
  (∀ (s : State) (p : Nat), pathOpen p D.iSTK_CTRL s = true → (Stk.canDelete s p = false ∨ Stk.selected s p = none) → completes (.stkDelete p) s fun
      t => t = s) ∧
  (∀ (s : State) (k : Nat) (w : StkWrite) (d : List Byte) (x : Store), s.pwr.rails = true → s.stk.ejected = false → (s.stk.writes.all fun w =>
      w.data.isSome) = true → (Stk.complete s)[k]? = some w → w.data = some d → d.length = 0 → s.stk.store = some x → Stk.full s d.length = false →
      completes (.objectCommit k) s fun t => t.stk.store.map (fun y => (y.dir.objects.getLast?, y.dir.nextId)) = some (some ⟨w.kind, w.job, w.layer,
      w.unit, w.seq.getD (Stk.nextSeq x w.kind w.job w.layer w.unit), x.dir.nextId, s.ldg.opTime, d, []⟩, (x.dir.nextId + 1) % 2 ^ 32) ∧
      t.stk.writes.length + 1 = s.stk.writes.length ∧ (w.wait = true → t.cat.event = true) ∧ keeps [.stk, .grd, .cat, .fol] s t) ∧
  (∀ (s : State) (k : Nat) (w : StkWrite) (d : List Byte) (x : Store) (m : Medium) (l : List Nat), s.pwr.rails = true → s.stk.ejected = false →
      (s.stk.writes.all fun w => w.data.isSome) = true → (Stk.complete s)[k]? = some w → w.data = some d → 1 ≤ d.length → Stk.barred s d.length =
      false → s.stk.store = some x → Stk.urgent s = false → Stk.full s d.length = false → Nand.placeAll x.dir.retired (Nand.rotation s.stk.medium)
      (Nand.slabs d.length) (Config.firstSlab x.dir.nextId) s.stk.medium = some (m, l) → completes (.objectCommit k) s fun t => t.stk.store.map (fun y
      => (y.dir.objects.getLast?, y.dir.nextId)) = some (some ⟨w.kind, w.job, w.layer, w.unit, w.seq.getD (Stk.nextSeq x w.kind w.job w.layer w.unit),
      x.dir.nextId, s.ldg.opTime, d, Nand.freeLogical x.dir (Nand.slabs d.length)⟩, (x.dir.nextId + 1) % 2 ^ 32) ∧ t.stk.medium.blocks = (Nand.pad m
      l.getLast?).blocks ∧ t.stk.writes.length + 1 = s.stk.writes.length ∧ (w.wait = true → t.cat.event = true) ∧ keeps [.stk, .grd, .cat, .fol] s t) ∧
  (∀ (s : State) (k : Nat) (w : StkWrite) (d : List Byte), s.pwr.rails = true → s.stk.ejected = false → (s.stk.writes.all fun w => w.data.isSome) =
      true → (Stk.complete s)[k]? = some w → w.data = some d → Stk.barred s d.length = false → Stk.full s d.length = true → completes (.objectCommit
      k) s fun t => t.stk.store = s.stk.store ∧ t.stk.medium = s.stk.medium ∧ t.stk.writes.length + 1 = s.stk.writes.length ∧ lastRaised s 0x158 2
      (State.freeVal s % 2 ^ 32) t ∧ keeps [.stk, .grd, .cat, .fol, .raised, .free] s t) ∧
  (∀ (s : State) (k : Nat), (s.stk.writes.all fun w => w.data.isSome) = true → (Stk.complete s)[k]? = none → completes (.objectCommit k) s fun t => t
      = s) ∧
  (∀ (s : State) (k : Nat) (w : StkWrite) (d : List Byte), (s.stk.writes.all fun w => w.data.isSome) = true → (Stk.complete s)[k]? = some w → w.data
      = some d → (s.stk.ejected = true ∨ Stk.barred s d.length = true) → completes (.objectCommit k) s fun t => t = s)

/-- STAGING_READ_COMPLETE of a layer without a stream declares it whole in its context; of a stream that FREE takes whole it is staged, of a longer one
  the rest waits; a stream that is missing or cannot be read stops the staging of its context and layer and is reported; with no piece to stage it
  changes nothing. SUSPEND_RESUME after RESUME_GAP with no read queued for the target, or with the window COMPLETE, resumes the target. Failed
  programs and erases retire a block of their channel and are reported; a first timeout is reported, a second fails the store. Every programmed block
  ages by a minute; a block whose relocation is due and may run is erased once its data lies elsewhere. Rests on R355, R356, R358, R359, R360, R370.
  -/
def Obligations.StagingAndTheMedium : Prop :=
  (∀ (s : State) (r : StageRead) (m n : Nat), s.pwr.rails = true → Stk.next s = some (m, n, false) → completes (.stagingReadComplete r) s fun t =>
      (Stk.stagedOf t n).contains m = true ∧ (State.ctxOf t n).declared.contains m = true ∧ State.ctxReg t n D.CTX_STAGED_LAYER = m % 2 ^ 32 ∧
      otherCtxs n s t ∧ keeps [.stk, .ctx] s t) ∧
  (∀ (s : State) (r : StageRead) (m n : Nat), s.pwr.rails = true → Stk.next s = some (m, n, true) → Stk.streamOf s m n = none → completes
      (.stagingReadComplete r) s fun t => Tab.get (fun _ => none) t.stk.stopped n = some m ∧ lastRaised s 0x158 5 (n + 256 * (m % 2 ^ 24)) t ∧ keeps
      [.stk, .raised] s t) ∧
  (∀ (s : State) (r : StageRead) (m n : Nat) (d : StkObj) (o : Nat), s.pwr.rails = true → Stk.next s = some (m, n, true) → Stk.streamOf s m n = some
      (d, o) → r.uncorrectable = none → r.crcBad = true → completes (.stagingReadComplete r) s fun t => Tab.get (fun _ => none) t.stk.stopped n = some
      m ∧ lastRaised s 0x158 4 (n + 256 * (m % 2 ^ 24)) t ∧ keeps [.stk, .raised] s t) ∧
  (∀ (s : State) (r : StageRead) (m n : Nat) (d : StkObj) (o i l p : Nat), s.pwr.rails = true → Stk.next s = some (m, n, true) → Stk.streamOf s m n =
      some (d, o) → r.uncorrectable = some i → d.slabs = [l] → 1 ≤ d.data.length → o = 0 → d.data.length ≤ Nand.slabBytes → Stk.placeOf s l = some p →
      completes (.stagingReadComplete r) s fun t => Tab.get (fun _ => none) t.stk.stopped n = some m ∧ t.raised = s.raised ++ [⟨0x150 + Nand.channelOf
      s.stk.medium (Nand.blockOf s.stk.medium p), 3, Nand.address s.stk.medium (Nand.blockOf s.stk.medium p) % 2 ^ 32⟩, ⟨0x158, 4, n + 256 * (m % 2 ^
      24)⟩] ∧ (Nand.block t.stk.medium (Nand.blockOf s.stk.medium p)).weak = true ∧ keeps [.stk, .raised] s t) ∧
  (∀ (s : State) (r : StageRead) (m n : Nat) (d : StkObj), s.pwr.rails = true → Stk.next s = some (m, n, true) → Stk.streamOf s m n = some (d, 0) →
      r.uncorrectable = none → r.crcBad = false → padFits n d.data s = true → noStripeOf n s = true → completes (.stagingReadComplete r) s fun t =>
      (Stk.stagedOf t n).contains m = true ∧ State.ctxReg t n D.CTX_WP = State.ctxReg s n D.CTX_WP + 32 ∧ otherCtxs n s t ∧ keeps [.stk, .ctx, .txn,
      .dev] s t) ∧
  (∀ (s : State) (r : StageRead) (m n : Nat) (d : StkObj) (o : Nat), s.pwr.rails = true → Stk.next s = some (m, n, true) → Stk.streamOf s m n = some
      (d, o) → r.uncorrectable = none → r.crcBad = false → State.freeBytes s n / 32 * 32 < d.data.length - o → completes (.stagingReadComplete r) s
      fun t => Stk.progressOf t n = some (m, d.id, o + State.freeBytes s n / 32 * 32) ∧ keeps [.stk, .ctx, .txn, .dev, .trj, .lnd, .mpl, .raised,
      .free] s t) ∧
  (∀ (s : State) (r : StageRead), Stk.next s = none → completes (.stagingReadComplete r) s fun t => t = s) ∧
  (∀ (s : State) (ch g k : Nat), s.pwr.rails = true → ch < 8 → Tab.find s.stk.suspended (4 * ch + g) = some k → ((k + 2 * Stk.ctl s
      D.STK_CTRL_RESUME_GAP ≤ s.tick ∧ ∀ r ∈ Stk.queuedReads s, r.2.2.2 ≠ 4 * ch + g) ∨ Stk.stageCode s = 2) → completes (.suspendResume ch g) s fun t
      => t.stk = { s.stk with suspended := Tab.del s.stk.suspended (4 * ch + g) } ∧ Tab.find t.stk.suspended (4 * ch + g) = none ∧ keeps [.stk] s t) ∧
  (∀ (s : State) (ch g : Nat), Tab.find s.stk.suspended (4 * ch + g) = none → completes (.suspendResume ch g) s fun t => t = s) ∧
  (∀ (s : State) (ch g k : Nat), Tab.find s.stk.suspended (4 * ch + g) = some k → (s.tick < k + 2 * Stk.ctl s D.STK_CTRL_RESUME_GAP ∨ ∃ r ∈
      Stk.queuedReads s, r.2.2.2 = 4 * ch + g) → Stk.stageCode s ≠ 2 → completes (.suspendResume ch g) s fun t => t = s) ∧
  (∀ (s : State) (ch block : Nat) (x : Store), s.pwr.rails = true → ch < 8 → s.stk.store = some x → block < 4 * Nand.perTarget s.stk.medium →
      Nand.bad s.stk.medium x.dir.retired (4 * ch * Nand.perTarget s.stk.medium + block) = false → completes (.programFail ch block) s fun t =>
      (⟨0x150 + ch, 1, block % 2 ^ 32⟩ : Msg) ∈ t.raised ∧ t.stk.store.map (fun x => (x.dir.spare, x.dir.objects, x.dir.retired)) = some (x.dir.spare
      - 1, x.dir.objects, x.dir.retired ++ [4 * ch * Nand.perTarget s.stk.medium + block]) ∧ t.stk.writes = s.stk.writes ∧ keeps [.stk, .raised,
      .free] s t) ∧
  (∀ (s : State) (ch block : Nat) (x : Store), s.pwr.rails = true → ch < 8 → s.stk.store = some x → block < 4 * Nand.perTarget s.stk.medium →
      Nand.bad s.stk.medium x.dir.retired (4 * ch * Nand.perTarget s.stk.medium + block) = false → completes (.eraseFail ch block) s fun t => (⟨0x150
      + ch, 2, block % 2 ^ 32⟩ : Msg) ∈ t.raised ∧ t.stk.store.map (fun x => (x.dir.spare, x.dir.objects, x.dir.retired)) = some (x.dir.spare - 1,
      x.dir.objects, x.dir.retired ++ [4 * ch * Nand.perTarget s.stk.medium + block]) ∧ t.stk.writes = s.stk.writes ∧ keeps [.stk, .raised, .free] s t) ∧
  (∀ (s : State) (ch block : Nat), s.pwr.rails = true → ch < 8 → s.stk.store = none → completes (.programFail ch block) s fun t => lastRaised s
      (0x150 + ch) 1 (block % 2 ^ 32) t ∧ keeps [.raised] s t) ∧
  (∀ (s : State) (ch block : Nat), s.pwr.rails = true → ch < 8 → s.stk.store = none → completes (.eraseFail ch block) s fun t => lastRaised s (0x150
      + ch) 2 (block % 2 ^ 32) t ∧ keeps [.raised] s t) ∧
  (∀ (s : State) (ch g block : Nat), s.pwr.rails = true → ch < 8 → g < 4 → (s.stk.timeouts.contains (4 * ch + g) = false ∨ Stk.up s = false) →
      completes (.targetTimeout ch g block) s fun t => t.stk.timeouts.contains (4 * ch + g) = true ∧ Tab.find t.stk.suspended (4 * ch + g) = none ∧
      t.stk.mode = s.stk.mode ∧ t.stk.store = s.stk.store ∧ lastRaised s (0x150 + ch) 4 (block % 2 ^ 32) t ∧ keeps [.stk, .raised] s t) ∧
  (∀ (s : State) (ch g block : Nat), s.pwr.rails = true → ch < 8 → g < 4 → s.stk.timeouts.contains (4 * ch + g) = true → Stk.up s = true → completes
      (.targetTimeout ch g block) s fun t => t.stk.mode = .failed ∧ t.stk.writes = [] ∧ lastRaised s (0x150 + ch) 4 (block % 2 ^ 32) t ∧ keeps [.stk,
      .raised, .grd, .cat, .fol] s t) ∧
  (∀ (s : State) (temps : List (Option Int)) (done : List CareWork), s.pwr.rails = true → completes (.retentionAge temps done) s fun t => t.stk.mode
      = s.stk.mode ∧ t.stk.store.map (fun x => x.dir.objects) = s.stk.store.map (fun x => x.dir.objects) ∧ keeps [.stk, .raised, .free] s t) ∧
  (∀ (s : State) (temps : List (Option Int)), s.pwr.rails = true → completes (.retentionAge temps []) s fun t => t.stk.medium.blocks =
      (s.stk.medium.blocks.map fun e => (e.1, if e.2.top = 0 then e.2 else
      { e.2 with age := e.2.age + Stk.ageStep ((temps.getD (Nand.targetOf s.stk.medium e.1) none).getD (Tmp.tm s)) })) ∧ t.stk.store = s.stk.store ∧
      keeps [.stk, .raised, .free] s t) ∧
  (∀ (s : State) (b : Nat) (y : Store) (l : List (Nat × Nat)), s.pwr.rails = true → Stk.background s = true → Stk.due (Stk.modMedium (Stk.grow []
      (Tmp.tm s)) s) b = true → (Stk.openTargets (Stk.modMedium (Stk.grow [] (Tmp.tm s)) s)).contains (Nand.targetOf s.stk.medium b) = true →
      s.stk.store = some y → (Nand.moveOut (Stk.openTargets (Stk.modMedium (Stk.grow [] (Tmp.tm s)) s)) y.dir b (Stk.modMedium (Stk.grow [] (Tmp.tm
      s)) s).stk.medium).map (fun z => z.2) = some l → l ≠ [] → completes (.retentionAge [] [.relocate b]) s fun t => Nand.block t.stk.medium b =
      { Nand.blank with erases := (Nand.block s.stk.medium b).erases + 1 } ∧ t.stk.store.map (fun x => x.dir.map) = some (Nand.sweep y.old
      { y.dir with map := Nand.mapped l y.dir.map }).map ∧ t.stk.store.map (fun x => x.dir.objects) = s.stk.store.map (fun x => x.dir.objects) ∧ keeps
      [.stk, .raised, .free] s t)

/-- From HOLD, MOVE to another position than the present one, JOG, HOME and GEAR_ENGAGE begin their motion with the limits of the entries, HOME with its
  search, or with leaving a reference that is active; from a rest state the axis wakes first. A MOVE to the present position counts: HOLD begins its
  delay again (log entry 38), a rest state wakes. GEAR_ENGAGE of a geared axis rebases it to the ratio of the entries. STOP, QUICK_STOP and
  GEAR_DISENGAGE of an axis in motion brake at DECEL or DECEL_MAX and disengage the gear; one that stops keeps the harder deceleration (log entry 38),
  one that wakes stops when its delay is over (log entry 38), one at rest stays. A command that the state refuses changes nothing. Every other axis
  stays. Rests on R375, R376, R379, R380, R382, R385, R387. -/
def Obligations.AxesTakeMotionCommands : Prop :=
  (∀ (s : State) (a : Nat), hostOpen s = true → a < 8 → (Ax.axis s a).mode = .hold → Ax.moveOk s a (Ax.reg s a D.AX_TARGET) = true → Ax.reg s a
      D.AX_TARGET ≠ (Ax.axis s a).pos → completes (.axMove a) s fun t => (Ax.axis t a).mode = .moving ∧ (Ax.axis t a).goal = .target (Ax.reg s a
      D.AX_TARGET) ∧ (Ax.axis t a).pos = (Ax.axis s a).pos ∧ Ax.reg t a D.AX_MOVES = (Ax.reg s a D.AX_MOVES + 1) % 2 ^ 32 ∧ (Ax.axis t a).acc =
      (Ax.reg s a D.AX_ACCEL).toNat ∧ (Ax.axis t a).dec = (Ax.reg s a D.AX_DECEL).toNat ∧ (Ax.axis t a).cruise2 = ((Ax.reg s a D.AX_SPEED * Ax.reg s a
      D.AX_SPEED : Int) : Rat) ∧ otherAxes a s t ∧ keeps [.ax] s t) ∧
  (∀ (s : State) (a : Nat), hostOpen s = true → a < 8 → ((Ax.axis s a).mode = .restOff ∨ (Ax.axis s a).mode = .restShort) → Ax.moveOk s a (Ax.reg s a
      D.AX_TARGET) = true → Ax.reg s a D.AX_TARGET ≠ (Ax.axis s a).pos → completes (.axMove a) s fun t => (Ax.axis t a).mode = .waking ∧ (Ax.axis t
      a).wakeUntil = s.tick + 1 + 2 * (Ax.reg s a D.AX_WAKE_DELAY).toNat ∧ (Ax.axis t a).pos = (Ax.axis s a).pos ∧ (Ax.axis t a).after = .moving ∧
      (Ax.axis t a).afterGoal = .target (Ax.reg s a D.AX_TARGET) ∧ Ax.reg t a D.AX_MOVES = (Ax.reg s a D.AX_MOVES + 1) % 2 ^ 32 ∧ (Ax.axis t a).acc =
      (Ax.reg s a D.AX_ACCEL).toNat ∧ (Ax.axis t a).dec = (Ax.reg s a D.AX_DECEL).toNat ∧ (Ax.axis t a).cruise2 = ((Ax.reg s a D.AX_SPEED * Ax.reg s a
      D.AX_SPEED : Int) : Rat) ∧ otherAxes a s t ∧ keeps [.ax] s t) ∧
  (∀ (s : State) (a : Nat), hostOpen s = true → a < 8 → (Ax.axis s a).mode = .hold → Ax.moveOk s a (Ax.reg s a D.AX_TARGET) = true → Ax.reg s a
      D.AX_TARGET = (Ax.axis s a).pos → 0 < (Ax.reg s a D.AX_STANDSTILL_DELAY).toNat → completes (.axMove a) s fun t => (Ax.axis t a).mode = .hold ∧
      (Ax.axis t a).holdFrom = s.tick ∧ (Ax.axis t a).pos = (Ax.axis s a).pos ∧ Ax.reg t a D.AX_MOVES = (Ax.reg s a D.AX_MOVES + 1) % 2 ^ 32 ∧
      otherAxes a s t ∧ keeps [.ax] s t) ∧
  (∀ (s : State) (a : Nat), hostOpen s = true → a < 8 → ((Ax.axis s a).mode = .restOff ∨ (Ax.axis s a).mode = .restShort) → Ax.moveOk s a (Ax.reg s a
      D.AX_TARGET) = true → Ax.reg s a D.AX_TARGET = (Ax.axis s a).pos → completes (.axMove a) s fun t => (Ax.axis t a).mode = .waking ∧ (Ax.axis t
      a).wakeUntil = s.tick + 1 + 2 * (Ax.reg s a D.AX_WAKE_DELAY).toNat ∧ (Ax.axis t a).pos = (Ax.axis s a).pos ∧ (Ax.axis t a).after = .moving ∧
      (Ax.axis t a).afterGoal = .target (Ax.reg s a D.AX_TARGET) ∧ Ax.reg t a D.AX_MOVES = (Ax.reg s a D.AX_MOVES + 1) % 2 ^ 32 ∧ otherAxes a s t ∧
      keeps [.ax] s t) ∧
  (∀ (s : State) (a : Nat), hostOpen s = true → a < 8 → ((Ax.axis s a).mode = .moving ∨ Ax.moveOk s a (Ax.reg s a D.AX_TARGET) = false) → completes
      (.axMove a) s fun t => t = s) ∧
  (∀ (s : State) (a : Nat), hostOpen s = true → a < 8 → (Ax.axis s a).mode = .hold → Ax.devOk s = true → completes (.axJog a) s fun t => (Ax.axis t
      a).mode = .jogging ∧ (Ax.axis t a).goal = .speed (Ax.reg s a D.AX_JOG_SPEED) ∧ (Ax.axis t a).pos = (Ax.axis s a).pos ∧ (Ax.axis t a).acc =
      (Ax.reg s a D.AX_ACCEL).toNat ∧ (Ax.axis t a).dec = (Ax.reg s a D.AX_DECEL).toNat ∧ (Ax.axis t a).cruise2 = ((Ax.reg s a D.AX_SPEED * Ax.reg s a
      D.AX_SPEED : Int) : Rat) ∧ otherAxes a s t ∧ keeps [.ax] s t) ∧
  (∀ (s : State) (a : Nat), hostOpen s = true → a < 8 → ((Ax.axis s a).mode = .restOff ∨ (Ax.axis s a).mode = .restShort) → Ax.devOk s = true →
      completes (.axJog a) s fun t => (Ax.axis t a).mode = .waking ∧ (Ax.axis t a).wakeUntil = s.tick + 1 + 2 * (Ax.reg s a D.AX_WAKE_DELAY).toNat ∧
      (Ax.axis t a).pos = (Ax.axis s a).pos ∧ (Ax.axis t a).after = .jogging ∧ (Ax.axis t a).afterGoal = .speed (Ax.reg s a D.AX_JOG_SPEED) ∧ (Ax.axis
      t a).acc = (Ax.reg s a D.AX_ACCEL).toNat ∧ (Ax.axis t a).dec = (Ax.reg s a D.AX_DECEL).toNat ∧ (Ax.axis t a).cruise2 = ((Ax.reg s a D.AX_SPEED *
      Ax.reg s a D.AX_SPEED : Int) : Rat) ∧ otherAxes a s t ∧ keeps [.ax] s t) ∧
  (∀ (s : State) (a : Nat), hostOpen s = true → a < 8 → Ax.startOk s a = false → completes (.axJog a) s fun t => t = s) ∧
  (∀ (s : State) (a : Nat), hostOpen s = true → a < 8 → (Ax.axis s a).mode = .hold → Ax.devOk s = true → Ax.reference s a = false → completes
      (.axHome a) s fun t => (Ax.axis t a).mode = .homing ∧ (Ax.axis t a).phase = .search ∧ (Ax.axis t a).goal = .speed (Ax.homeDir s a * Ax.reg s a
      D.AX_HOME_SPEED) ∧ (Ax.axis t a).searchFrom = (Ax.axis s a).pos ∧ (Ax.axis t a).pos = (Ax.axis s a).pos ∧ otherAxes a s t ∧ keeps [.ax] s t) ∧
  (∀ (s : State) (a : Nat), hostOpen s = true → a < 8 → (Ax.axis s a).mode = .hold → Ax.devOk s = true → Ax.reference s a = true → completes (.axHome
      a) s fun t => (Ax.axis t a).mode = .homing ∧ (Ax.axis t a).phase = .leave ∧ (Ax.axis t a).goal = .speed (-(Ax.homeDir s a) * Ax.reg s a
      D.AX_HOME_BACKOFF) ∧ (Ax.axis t a).pos = (Ax.axis s a).pos ∧ otherAxes a s t ∧ keeps [.ax] s t) ∧
  (∀ (s : State) (a : Nat), hostOpen s = true → a < 8 → ((Ax.axis s a).mode = .restOff ∨ (Ax.axis s a).mode = .restShort) → Ax.devOk s = true →
      completes (.axHome a) s fun t => (Ax.axis t a).mode = .waking ∧ (Ax.axis t a).wakeUntil = s.tick + 1 + 2 * (Ax.reg s a D.AX_WAKE_DELAY).toNat ∧
      (Ax.axis t a).pos = (Ax.axis s a).pos ∧ (Ax.axis t a).after = .homing ∧ otherAxes a s t ∧ keeps [.ax] s t) ∧
  (∀ (s : State) (a : Nat), hostOpen s = true → a < 8 → Ax.startOk s a = false → completes (.axHome a) s fun t => t = s) ∧
  (∀ (s : State) (a : Nat), hostOpen s = true → a < 8 → (Ax.axis s a).mode = .hold → Ax.devOk s = true → (Ax.axis s a).gear = none → completes
      (.axGearEngage a) s fun t => (Ax.axis t a).mode = .geared ∧ (Ax.axis t a).gear = some ⟨(Ax.gearReg s a 0).toNat % 8, Ax.gearReg s a 1,
      (Ax.gearReg s a 2).toNat, (Ax.axis s a).pos, 0, none⟩ ∧ (Ax.axis t a).goal = .target (Ax.axis s a).pos ∧ (Ax.axis t a).pos = (Ax.axis s a).pos ∧
      (Ax.axis t a).acc = (Ax.reg s a D.AX_ACCEL).toNat ∧ (Ax.axis t a).dec = (Ax.reg s a D.AX_DECEL).toNat ∧ (Ax.axis t a).cruise2 = ((Ax.reg s a
      D.AX_SPEED * Ax.reg s a D.AX_SPEED : Int) : Rat) ∧ otherAxes a s t ∧ keeps [.ax] s t) ∧
  (∀ (s : State) (a : Nat), hostOpen s = true → a < 8 → ((Ax.axis s a).mode = .restOff ∨ (Ax.axis s a).mode = .restShort) → Ax.devOk s = true →
      completes (.axGearEngage a) s fun t => (Ax.axis t a).mode = .waking ∧ (Ax.axis t a).wakeUntil = s.tick + 2 * (Ax.reg s a D.AX_WAKE_DELAY).toNat
      ∧ (Ax.axis t a).after = .geared ∧ (Ax.axis t a).pos = (Ax.axis s a).pos ∧ otherAxes a s t ∧ keeps [.ax] s t) ∧
  (∀ (s : State) (a : Nat) (g : AxGear), hostOpen s = true → a < 8 → (Ax.axis s a).mode = .geared → Ax.devOk s = true → (Ax.axis s a).gear = some g →
      completes (.axGearEngage a) s fun t => (Ax.axis t a).mode = .geared ∧ (Ax.axis t a).gear = some ⟨(Ax.gearReg s a 0).toNat % 8, Ax.gearReg s a 1,
      (Ax.gearReg s a 2).toNat, Ax.gearCommand g, 0, g.armed⟩ ∧ (Ax.axis t a).goal = .target (Ax.gearCommand g) ∧ (Ax.axis t a).pos = (Ax.axis s
      a).pos ∧ otherAxes a s t ∧ keeps [.ax] s t) ∧
  (∀ (s : State) (a : Nat), hostOpen s = true → a < 8 → Ax.gearOk s a = false → completes (.axGearEngage a) s fun t => t = s) ∧
  (∀ (s : State) (a : Nat), hostOpen s = true → a < 8 → ((Ax.axis s a).mode = .moving ∨ (Ax.axis s a).mode = .jogging ∨ (Ax.axis s a).mode = .geared
      ∨ (Ax.axis s a).mode = .homing) → completes (.axStop a) s fun t => (Ax.axis t a).mode = .stopping ∧ (Ax.axis t a).goal = .stop (Ax.reg s a
      D.AX_DECEL).toNat ∧ (Ax.axis t a).gear = none ∧ (Ax.axis t a).pos = (Ax.axis s a).pos ∧ (Ax.axis t a).v2 = (Ax.axis s a).v2 ∧ otherAxes a s t ∧
      keeps [.ax] s t) ∧
  (∀ (s : State) (a d : Nat), hostOpen s = true → a < 8 → (Ax.axis s a).mode = .stopping → (Ax.axis s a).goal = .stop d → completes (.axStop a) s fun
      t => (Ax.axis t a) = { (Ax.axis s a) with gear := none, goal := .stop (max d (Ax.reg s a D.AX_DECEL).toNat) } ∧ otherAxes a s t ∧ keeps [.ax] s
      t) ∧
  (∀ (s : State) (a : Nat), hostOpen s = true → a < 8 → (Ax.axis s a).mode = .waking → completes (.axStop a) s fun t => (Ax.axis t a) =
      { (Ax.axis s a) with gear := none, after := .stopping, afterGoal := .stop (Ax.reg s a D.AX_DECEL).toNat } ∧ otherAxes a s t ∧ keeps [.ax] s t) ∧
  (∀ (s : State) (a : Nat), hostOpen s = true → a < 8 → ((Ax.axis s a).mode = .disabled ∨ (Ax.axis s a).mode = .hold ∨ (Ax.axis s a).mode = .restOff
      ∨ (Ax.axis s a).mode = .restShort ∨ (Ax.axis s a).mode = .fenced) → completes (.axStop a) s fun t => (Ax.axis t a) =
      { (Ax.axis s a) with gear := none } ∧ otherAxes a s t ∧ keeps [.ax] s t) ∧
  (∀ (s : State) (a : Nat), hostOpen s = true → a < 8 → ((Ax.axis s a).mode = .moving ∨ (Ax.axis s a).mode = .jogging ∨ (Ax.axis s a).mode = .geared
      ∨ (Ax.axis s a).mode = .homing) → completes (.axQuickStop a) s fun t => (Ax.axis t a).mode = .stopping ∧ (Ax.axis t a).goal = .stop (Ax.reg s a
      D.AX_DECEL_MAX).toNat ∧ (Ax.axis t a).gear = none ∧ (Ax.axis t a).pos = (Ax.axis s a).pos ∧ (Ax.axis t a).v2 = (Ax.axis s a).v2 ∧ otherAxes a s
      t ∧ keeps [.ax] s t) ∧
  (∀ (s : State) (a d : Nat), hostOpen s = true → a < 8 → (Ax.axis s a).mode = .stopping → (Ax.axis s a).goal = .stop d → completes (.axQuickStop a)
      s fun t => (Ax.axis t a) = { (Ax.axis s a) with gear := none, goal := .stop (max d (Ax.reg s a D.AX_DECEL_MAX).toNat) } ∧ otherAxes a s t ∧
      keeps [.ax] s t) ∧
  (∀ (s : State) (a : Nat), hostOpen s = true → a < 8 → (Ax.axis s a).mode = .waking → completes (.axQuickStop a) s fun t => (Ax.axis t a) =
      { (Ax.axis s a) with gear := none, after := .stopping, afterGoal := .stop (Ax.reg s a D.AX_DECEL_MAX).toNat } ∧ otherAxes a s t ∧ keeps [.ax] s
      t) ∧
  (∀ (s : State) (a : Nat), hostOpen s = true → a < 8 → ((Ax.axis s a).mode = .disabled ∨ (Ax.axis s a).mode = .hold ∨ (Ax.axis s a).mode = .restOff
      ∨ (Ax.axis s a).mode = .restShort ∨ (Ax.axis s a).mode = .fenced) → completes (.axQuickStop a) s fun t => (Ax.axis t a) =
      { (Ax.axis s a) with gear := none } ∧ otherAxes a s t ∧ keeps [.ax] s t) ∧
  (∀ (s : State) (a : Nat), hostOpen s = true → a < 8 → Ax.devOk s = true → (Ax.axis s a).mode = .geared → completes (.axGearDisengage a) s fun t =>
      (Ax.axis t a).mode = .stopping ∧ (Ax.axis t a).goal = .stop (Ax.reg s a D.AX_DECEL).toNat ∧ (Ax.axis t a).gear = none ∧ (Ax.axis t a).pos =
      (Ax.axis s a).pos ∧ otherAxes a s t ∧ keeps [.ax] s t) ∧
  (∀ (s : State) (a : Nat), hostOpen s = true → a < 8 → ((Ax.axis s a).mode ≠ .geared ∨ Ax.devOk s = false) → completes (.axGearDisengage a) s fun t
      => t = s)

/-- GEAR_ARM_SWITCH away from SWITCH_POS arms the next ratio, at SWITCH_POS it takes it, its command kept; without a gear, or in SAFE, it is refused.
  AXIS_ENABLE of a DISABLED axis leads to HOLD; AXIS_DISABLE of an axis at rest to DISABLED, of one in motion to a stop that ends there; a fenced axis
  stays fenced while its fault status is held. A write of SPEED, ACCEL or DECEL in its range is in force at once, a write of JOG_SPEED is the
  set-point of an axis that jogs; a value out of range, or another entry, changes nothing. Every other axis stays. Rests on R373, R377, R378, R379,
  R381, R382, R389. -/
def Obligations.GearsLimitsAndEnables : Prop :=
  (∀ (s : State) (a : Nat) (g : AxGear), hostOpen s = true → a < 8 → Ax.devOk s = true → (Ax.axis s a).gear = some g → (Ax.enc s g.enc).count ≠
      Ax.gearReg s a 5 → completes (.axGearArmSwitch a) s fun t => (Ax.axis t a) =
      { (Ax.axis s a) with gear := some { g with armed := some (Ax.gearReg s a 3, (Ax.gearReg s a 4).toNat, Ax.gearReg s a 5) } } ∧ otherAxes a s t ∧
      keeps [.ax] s t) ∧
  (∀ (s : State) (a : Nat) (g : AxGear), hostOpen s = true → a < 8 → Ax.devOk s = true → (Ax.axis s a).gear = some g → (Ax.enc s g.enc).count =
      Ax.gearReg s a 5 → completes (.axGearArmSwitch a) s fun t => (Ax.axis t a) =
      { (Ax.axis s a) with gear := some { g with c0 := Ax.gearCommand g, dm := 0, num := Ax.gearReg s a 3, den := (Ax.gearReg s a 4).toNat, armed := none } }
      ∧ otherAxes a s t ∧ keeps [.ax] s t) ∧
  (∀ (s : State) (a : Nat), hostOpen s = true → a < 8 → (Ax.devOk s = false ∨ (Ax.axis s a).gear = none) → completes (.axGearArmSwitch a) s fun t =>
      t = s) ∧
  (∀ (s : State) (a : Nat), upNow s = true → a < 8 → (Ax.axis s a).mode = .disabled → 0 < (Ax.reg s a D.AX_STANDSTILL_DELAY).toNat → completes
      (.axisEnable a) s fun t => (Ax.axis t a).mode = .hold ∧ (Ax.axis t a).holdFrom = s.tick ∧ (Ax.axis t a).pos = (Ax.axis s a).pos ∧ Arith.bit
      (Ax.reg t a D.AX_CTRL).toNat 0 = true ∧ otherAxes a s t ∧ keeps [.ax] s t) ∧
  (∀ (s : State) (a : Nat), upNow s = true → a < 8 → (Ax.axis s a).mode = .stopping → completes (.axisEnable a) s fun t => (Ax.axis t a) =
      { (Ax.axis s a) with toDisabled := false } ∧ Arith.bit (Ax.reg t a D.AX_CTRL).toNat 0 = true ∧ otherAxes a s t ∧ keeps [.ax] s t) ∧
  (∀ (s : State) (a : Nat), upNow s = true → a < 8 → (Ax.axis s a).mode ≠ .disabled → (Ax.axis s a).mode ≠ .stopping → completes (.axisEnable a) s
      fun t => (Ax.axis t a) = (Ax.axis s a) ∧ Arith.bit (Ax.reg t a D.AX_CTRL).toNat 0 = true ∧ otherAxes a s t ∧ keeps [.ax] s t) ∧
  (∀ (s : State) (a : Nat), upNow s = true → a < 8 → ((Ax.axis s a).mode = .hold ∨ ((Ax.axis s a).mode = .restOff ∨ (Ax.axis s a).mode = .restShort)
      ∨ (Ax.axis s a).mode = .waking) → completes (.axisDisable a) s fun t => (Ax.axis t a).mode = .disabled ∧ (Ax.axis t a).pos = (Ax.axis s a).pos ∧
      Arith.bit (Ax.reg t a D.AX_CTRL).toNat 0 = false ∧ (Ax.axis t a).gear = none ∧ otherAxes a s t ∧ keeps [.ax, .raised] s t) ∧
  (∀ (s : State) (a : Nat), upNow s = true → a < 8 → ((Ax.axis s a).mode = .moving ∨ (Ax.axis s a).mode = .jogging ∨ (Ax.axis s a).mode = .geared ∨
      (Ax.axis s a).mode = .homing) → completes (.axisDisable a) s fun t => (Ax.axis t a).mode = .stopping ∧ (Ax.axis t a).toDisabled = true ∧
      (Ax.axis t a).goal = .stop (Ax.reg s a D.AX_DECEL).toNat ∧ (Ax.axis t a).gear = none ∧ (Ax.axis t a).pos = (Ax.axis s a).pos ∧ Arith.bit (Ax.reg
      t a D.AX_CTRL).toNat 0 = false ∧ otherAxes a s t ∧ keeps [.ax] s t) ∧
  (∀ (s : State) (a : Nat), upNow s = true → a < 8 → (Ax.axis s a).mode = .fenced → State.holdsStatus s (0x160 + a) = true → completes (.axisDisable
      a) s fun t => (Ax.axis t a) = (Ax.axis s a) ∧ Arith.bit (Ax.reg t a D.AX_CTRL).toNat 0 = false ∧ otherAxes a s t ∧ keeps [.ax] s t) ∧
  (∀ (s : State) (a : Nat), upNow s = true → a < 8 → (Ax.axis s a).mode = .fenced → State.holdsStatus s (0x160 + a) = false → (Ax.axis s a).v2 = 0 →
      completes (.axisDisable a) s fun t => (Ax.axis t a).mode = .disabled ∧ (Ax.axis t a).pos = (Ax.axis s a).pos ∧ Arith.bit (Ax.reg t a
      D.AX_CTRL).toNat 0 = false ∧ otherAxes a s t ∧ keeps [.ax, .raised] s t) ∧
  (∀ (s : State) (a : Nat) (v : Int), hostOpen s = true → a < 8 → 1 ≤ v → v ≤ 4000000 → Ax.speedOk s a v = true → Ax.speedOk s a (Ax.reg s a
      D.AX_JOG_SPEED) = true → completes (.axProfileWrite a D.AX_SPEED v) s fun t => Ax.reg t a D.AX_SPEED = v ∧ (Ax.axis t a) =
      { (Ax.axis s a) with cruise2 := ((v * v : Int) : Rat) } ∧ otherAxes a s t ∧ keeps [.ax] s t) ∧
  (∀ (s : State) (a : Nat) (v : Int), hostOpen s = true → a < 8 → 1000 ≤ v → v ≤ 4000000000 → completes (.axProfileWrite a D.AX_ACCEL v) s fun t =>
      Ax.reg t a D.AX_ACCEL = v ∧ (Ax.axis t a) = { (Ax.axis s a) with acc := v.toNat } ∧ otherAxes a s t ∧ keeps [.ax] s t) ∧
  (∀ (s : State) (a : Nat) (v : Int), hostOpen s = true → a < 8 → 1000 ≤ v → v ≤ 4000000000 → completes (.axProfileWrite a D.AX_DECEL v) s fun t =>
      Ax.reg t a D.AX_DECEL = v ∧ (Ax.axis t a) = { (Ax.axis s a) with dec := v.toNat, cruise2 := (Ax.axis t a).cruise2 } ∧ otherAxes a s t ∧ keeps
      [.ax, .raised] s t) ∧
  (∀ (s : State) (a : Nat) (v : Int), hostOpen s = true → a < 8 → (v < 1 ∨ 4000000 < v) → completes (.axProfileWrite a D.AX_SPEED v) s fun t => t = s) ∧
  (∀ (s : State) (a : Nat) (v : Int), hostOpen s = true → a < 8 → (v < 1000 ∨ 4000000000 < v) → completes (.axProfileWrite a D.AX_ACCEL v) s fun t =>
      t = s) ∧
  (∀ (s : State) (a : Nat) (v : Int), hostOpen s = true → a < 8 → (v < 1000 ∨ 4000000000 < v) → completes (.axProfileWrite a D.AX_DECEL v) s fun t =>
      t = s) ∧
  (∀ (s : State) (a sub : Nat) (v : Int), sub ≠ D.AX_SPEED → sub ≠ D.AX_ACCEL → sub ≠ D.AX_DECEL → completes (.axProfileWrite a sub v) s fun t => t =
      s) ∧
  (∀ (s : State) (a : Nat) (v : Int), hostOpen s = true → a < 8 → -4000000 ≤ v → v ≤ 4000000 → Ax.speedOk s a v = true → Ax.speedOk s a (Ax.reg s a
      D.AX_SPEED) = true → completes (.jogSpeedWrite a v) s fun t => Ax.reg t a D.AX_JOG_SPEED = v ∧ ((Ax.axis s a).mode = .jogging → (Ax.axis t
      a).mode = .jogging ∧ (Ax.axis t a).goal = .speed v) ∧ ((Ax.axis s a).mode ≠ .jogging → (Ax.axis t a) = (Ax.axis s a)) ∧ otherAxes a s t ∧ keeps
      [.ax] s t) ∧
  (∀ (s : State) (a : Nat) (v : Int), hostOpen s = true → a < 8 → (v < -4000000 ∨ 4000000 < v) → completes (.jogSpeedWrite a v) s fun t => t = s)

/-- STEP_PULSE of a step that falls in the present tick moves the commanded position by one, wrapped, and counts it; where the timer ends a stop the axis
  goes to HOLD. The end of WAKE_DELAY starts the pending motion, or leads to HOLD where that was stopped or is at its target; the end of the
  standstill delay takes the standstill outputs. A switch edge sooner than DEBOUNCE after the last one is none; one outside a hold-off takes its level
  and begins one; inside one it is chatter. An active limit of a moving axis begins a quick stop with LIMIT_TRIP or WRONG_LIMIT raised; the home
  switch ends the search. A hold-off ends with the present level. An event that is not due changes nothing. Every other axis stays. Rests on R372,
  R373, R375, R380, R381, R383, R384, R385. -/
def Obligations.StepsDelaysAndSwitches : Prop :=
  (∀ (s : State) (a : Nat) (ev : AxEvent), s.pwr.rails = true → a < 8 → Ax.dueBefore s a (125 * (s.tick + 1)) = true → (Ax.axis s a).event = some ev
      → ev.isStep = true → completes (.stepPulse a) s fun t => (Ax.axis t a).pos = Ax.wrap ((Ax.axis s a).pos + ev.dir) ∧ (Ax.axis t a).steps =
      ((Ax.axis s a).steps + 1) % 2 ^ 64 ∧ t.ax.encs = s.ax.encs ∧ otherAxes a s t ∧ keeps [.ax, .raised] s t) ∧
  (∀ (s : State) (a d : Nat) (ev : AxEvent), s.pwr.rails = true → a < 8 → Ax.dueBefore s a (125 * (s.tick + 1)) = true → (Ax.axis s a).event = some
      ev → ev.isStep = false → (Ax.axis s a).mode = .stopping → (Ax.axis s a).goal = .stop d → (Ax.axis s a).toDisabled = false → 0 < (Ax.reg s a
      D.AX_STANDSTILL_DELAY).toNat → completes (.stepPulse a) s fun t => (Ax.axis t a).mode = .hold ∧ (Ax.axis t a).pos = (Ax.axis s a).pos ∧ (Ax.axis
      t a).steps = (Ax.axis s a).steps ∧ (Ax.axis t a).v2 = 0 ∧ t.ax.encs = s.ax.encs ∧ otherAxes a s t ∧ keeps [.ax] s t) ∧
  (∀ (s : State) (a : Nat), Ax.dueBefore s a (125 * (s.tick + 1)) = false → completes (.stepPulse a) s fun t => t = s) ∧
  (∀ (s : State) (a : Nat), s.pwr.rails = true → a < 8 → (Ax.axis s a).mode = .waking → (Ax.axis s a).wakeUntil ≤ s.tick → ((Ax.axis s a).after =
      .moving ∧ (Ax.axis s a).afterGoal ≠ .target (Ax.axis s a).pos ∨ (Ax.axis s a).after = .jogging) → completes (.wakeDelayElapsed a) s fun t =>
      (Ax.axis t a).mode = (Ax.axis s a).after ∧ (Ax.axis t a).goal = (Ax.axis s a).afterGoal ∧ (Ax.axis t a).pos = (Ax.axis s a).pos ∧ otherAxes a s
      t ∧ keeps [.ax] s t) ∧
  (∀ (s : State) (a : Nat), s.pwr.rails = true → a < 8 → (Ax.axis s a).mode = .waking → (Ax.axis s a).wakeUntil ≤ s.tick → (Ax.axis s a).after =
      .homing → completes (.wakeDelayElapsed a) s fun t => (Ax.axis t a).mode = .homing ∧ (Ax.axis t a).phase = (if Ax.reference s a then .leave else
      .search) ∧ (Ax.axis t a).pos = (Ax.axis s a).pos ∧ otherAxes a s t ∧ keeps [.ax] s t) ∧
  (∀ (s : State) (a : Nat), s.pwr.rails = true → a < 8 → (Ax.axis s a).mode = .waking → (Ax.axis s a).wakeUntil ≤ s.tick → (Ax.axis s a).after =
      .geared → (Ax.axis s a).gear = none → completes (.wakeDelayElapsed a) s fun t => (Ax.axis t a).mode = .geared ∧ (Ax.axis t a).gear = some
      ⟨(Ax.gearReg s a 0).toNat % 8, Ax.gearReg s a 1, (Ax.gearReg s a 2).toNat, (Ax.axis s a).pos, 0, none⟩ ∧ (Ax.axis t a).pos = (Ax.axis s a).pos ∧
      otherAxes a s t ∧ keeps [.ax] s t) ∧
  (∀ (s : State) (a : Nat), s.pwr.rails = true → a < 8 → (Ax.axis s a).mode = .waking → (Ax.axis s a).wakeUntil ≤ s.tick → ((Ax.axis s a).after =
      .moving ∧ (Ax.axis s a).afterGoal = .target (Ax.axis s a).pos ∨ (Ax.axis s a).after = .stopping) → 0 < (Ax.reg s a D.AX_STANDSTILL_DELAY).toNat
      → completes (.wakeDelayElapsed a) s fun t => (Ax.axis t a).mode = .hold ∧ (Ax.axis t a).holdFrom = s.tick ∧ (Ax.axis t a).pos = (Ax.axis s
      a).pos ∧ otherAxes a s t ∧ keeps [.ax] s t) ∧
  (∀ (s : State) (a : Nat), ((Ax.axis s a).mode ≠ .waking ∨ s.tick < (Ax.axis s a).wakeUntil) → completes (.wakeDelayElapsed a) s fun t => t = s) ∧
  (∀ (s : State) (a : Nat), s.pwr.rails = true → a < 8 → Ax.holdOver s a = true → completes (.standstillDelayElapsed a) s fun t => (Ax.axis t a) =
      { (Ax.axis s a) with mode := (if Arith.bit (Ax.reg s a D.AX_CTRL).toNat 1 then .restShort else .restOff) } ∧ otherAxes a s t ∧ keeps [.ax] s t) ∧
  (∀ (s : State) (a : Nat), Ax.holdOver s a = false → completes (.standstillDelayElapsed a) s fun t => t = s) ∧
  (∀ (s : State) (a i : Nat) (b active : Bool), s.pwr.rails = true → a < 8 → i < 3 → active = (if Arith.bit (Ax.reg s a D.AX_CTRL).toNat 7 then !b
      else b) → (Ax.switchOf (Ax.axis s a) i).pin ≠ active → Ax.bouncing s a (Ax.switchOf (Ax.axis s a) i) = false → (Ax.switchOf (Ax.axis s a)
      i).holdUntil = none → (Ax.axis s a).mode ≠ .homing → (Ax.travel (Ax.axis s a) = 0 ∨ i = 2 ∨ active = false) → completes (.switchInputEdge a i b)
      s fun t => (Ax.switchOf (Ax.axis t a) i).level = active ∧ (Ax.switchOf (Ax.axis t a) i).pin = active ∧ (Ax.axis t a).mode = (Ax.axis s a).mode ∧
      (Ax.axis t a).goal = (Ax.axis s a).goal ∧ (Ax.axis t a).pos = (Ax.axis s a).pos ∧ otherAxes a s t ∧ keeps [.ax] s t) ∧
  (∀ (s : State) (a i : Nat) (b active : Bool), s.pwr.rails = true → a < 8 → i < 2 → active = (if Arith.bit (Ax.reg s a D.AX_CTRL).toNat 7 then !b
      else b) → (Ax.switchOf (Ax.axis s a) i).pin ≠ active → Ax.bouncing s a (Ax.switchOf (Ax.axis s a) i) = false → (Ax.switchOf (Ax.axis s a)
      i).holdUntil = none → active = true → ((Ax.axis s a).mode = .moving ∨ (Ax.axis s a).mode = .jogging ∨ (Ax.axis s a).mode = .geared) → Arith.bit
      (Ax.reg s a D.AX_CTRL).toNat 3 = true → Ax.travel (Ax.axis s a) ≠ 0 → completes (.switchInputEdge a i b) s fun t => (Ax.switchOf (Ax.axis t a)
      i).level = true ∧ (Ax.axis t a).mode = .stopping ∧ (Ax.axis t a).goal = .stop (Ax.reg s a D.AX_DECEL_MAX).toNat ∧ lastRaised s (0x160 + a) (if
      (if i = 0 then 1 else -1) = Ax.travel (Ax.axis s a) then 1 else 2) (Arith.toUnsigned 32 (Ax.axis s a).pos) t ∧ otherAxes a s t ∧ keeps [.ax,
      .raised] s t) ∧
  (∀ (s : State) (a : Nat) (b active : Bool), s.pwr.rails = true → a < 8 → active = (if Arith.bit (Ax.reg s a D.AX_CTRL).toNat 7 then !b else b) →
      (Ax.axis s a).home.pin ≠ active → Ax.bouncing s a (Ax.axis s a).home = false → (Ax.axis s a).home.holdUntil = none → active = true → (Ax.axis s
      a).mode = .homing → (Ax.axis s a).phase = .search → Ax.byLimit s a = false → completes (.switchInputEdge a 2 b) s fun t => (Ax.axis t a).mode =
      .homing ∧ (Ax.axis t a).phase = .searchStop ∧ (Ax.axis t a).goal = .stop (Ax.reg s a D.AX_DECEL).toNat ∧ (Ax.axis t a).pos = (Ax.axis s a).pos ∧
      otherAxes a s t ∧ keeps [.ax] s t) ∧
  (∀ (s : State) (a i : Nat) (b active : Bool) (k : Nat), s.pwr.rails = true → a < 8 → i < 3 → active = (if Arith.bit (Ax.reg s a D.AX_CTRL).toNat 7
      then !b else b) → (Ax.switchOf (Ax.axis s a) i).pin ≠ active → Ax.bouncing s a (Ax.switchOf (Ax.axis s a) i) = false → (Ax.switchOf (Ax.axis s
      a) i).holdUntil = some k → completes (.switchInputEdge a i b) s fun t => (Ax.switchOf (Ax.axis t a) i).level = (Ax.switchOf (Ax.axis s a)
      i).level ∧ (Ax.switchOf (Ax.axis t a) i).pin = active ∧ State.rAx t (D.iAX + a) D.AX_CHATTER = Arith.clamp 0 4294967295 (State.rAx s (D.iAX + a)
      D.AX_CHATTER + 1) ∧ (Ax.axis t a).mode = (Ax.axis s a).mode ∧ otherAxes a s t ∧ keeps [.ax, .raised] s t) ∧
  (∀ (s : State) (a i : Nat) (b : Bool), Ax.bouncing s a (Ax.switchOf (Ax.axis s a) i) = true → completes (.switchInputEdge a i b) s fun t => t = s) ∧
  (∀ (s : State) (a i : Nat) (b active : Bool), active = (if Arith.bit (Ax.reg s a D.AX_CTRL).toNat 7 then !b else b) → (Ax.switchOf (Ax.axis s a)
      i).pin = active → completes (.switchInputEdge a i b) s fun t => t = s) ∧
  (∀ (s : State) (a i k : Nat), s.pwr.rails = true → a < 8 → i < 3 → (Ax.switchOf (Ax.axis s a) i).holdUntil = some k → k ≤ s.tick → (Ax.switchOf
      (Ax.axis s a) i).pin = (Ax.switchOf (Ax.axis s a) i).level → completes (.holdoffEnd a i) s fun t => (Ax.switchOf (Ax.axis t a) i).holdUntil =
      none ∧ (Ax.switchOf (Ax.axis t a) i).level = (Ax.switchOf (Ax.axis s a) i).level ∧ (Ax.axis t a).mode = (Ax.axis s a).mode ∧ (Ax.axis t a).goal
      = (Ax.axis s a).goal ∧ otherAxes a s t ∧ keeps [.ax] s t) ∧
  (∀ (s : State) (a i k : Nat), s.pwr.rails = true → a < 8 → i < 3 → (Ax.switchOf (Ax.axis s a) i).holdUntil = some k → k ≤ s.tick → (Ax.switchOf
      (Ax.axis s a) i).pin ≠ (Ax.switchOf (Ax.axis s a) i).level → completes (.holdoffEnd a i) s fun t => (Ax.switchOf (Ax.axis t a) i).pin =
      (Ax.switchOf (Ax.axis s a) i).pin ∧ (Ax.switchOf (Ax.axis t a) i).level = (Ax.switchOf (Ax.axis s a) i).pin ∧ otherAxes a s t ∧ keeps [.ax,
      .raised] s t) ∧
  (∀ (s : State) (a i : Nat), (Ax.switchOf (Ax.axis s a) i).holdUntil = none → completes (.holdoffEnd a i) s fun t => t = s) ∧
  (∀ (s : State) (a i k : Nat), (Ax.switchOf (Ax.axis s a) i).holdUntil = some k → s.tick < k → completes (.holdoffEnd a i) s fun t => t = s)

/-- ENCODER_EDGE of a legal transition of a quadrature encoder counts one step in its direction, negated by INVERT; an illegal one counts as such; a line
  that changes sooner than FILTER + 1 samples after its last change keeps its level. A rising Z with the index in use, of ENCODER_INDEX or of the
  edge, latches count and TICK and counts, after the transition of its instant; of an encoder that is not running only the levels are kept. A tooth of
  a single track counts one; one after a gap of missing teeth counts those too and is the reference; an additional tooth is the reference and counts
  none. Without an edge for the speed timeout the speed reads 0. CMP_ARM with the source at the position fires at once, ahead of it arms, behind it
  fires or is reported, as FIRE_LATE says; CMP_DISARM makes an armed unit DISARMED, a fenced one once its status is clear; POSITION takes its write;
  CMP_PULSE_END of a pulse that is over drives the output low. Where nothing is due nothing changes; every other encoder or unit stays. Rests on R390,
  R392, R393, R394, R395, R396, R398. -/
def Obligations.EncodersCount : Prop :=
  (∀ (s : State) (e at4 : Nat) (a b z : Bool) (d : Int), s.pwr.rails = true → e < 8 → (Ax.enc s e).mode = .running → Ax.settled s e (125 * s.tick +
      at4 % 125) (Ax.enc s e).aAt = true → Ax.settled s e (125 * s.tick + at4 % 125) (Ax.enc s e).bAt = true → Ax.settled s e (125 * s.tick + at4 %
      125) (Ax.enc s e).zAt = true → (z = false ∨ (Ax.enc s e).z = true ∨ Arith.bit (Ax.encReg s e D.ENC_CTRL).toNat 4 = false) → Arith.bits
      (Ax.encReg s e D.ENC_CTRL).toNat 3 2 = 0 → Ax.quadStep (Ax.enc s e).a (Ax.enc s e).b a b = some d → (a, b) ≠ ((Ax.enc s e).a, (Ax.enc s e).b) →
      completes (.encoderEdge e at4 a b z) s fun t => (Ax.enc t e).count = Ax.wrap ((Ax.enc s e).count + (if Arith.bit (Ax.encReg s e
      D.ENC_CTRL).toNat 1 then -d else d)) ∧ ((Ax.enc t e).a, (Ax.enc t e).b, (Ax.enc t e).z) = (a, b, z) ∧ otherEncs e s t ∧ keeps [.ax, .raised] s t) ∧
  (∀ (s : State) (e at4 : Nat) (a b z : Bool) (d : Int), s.pwr.rails = true → e < 8 → (Ax.enc s e).mode = .running → Ax.settled s e (125 * s.tick +
      at4 % 125) (Ax.enc s e).aAt = true → Ax.settled s e (125 * s.tick + at4 % 125) (Ax.enc s e).bAt = true → Ax.settled s e (125 * s.tick + at4 %
      125) (Ax.enc s e).zAt = true → z = true → (Ax.enc s e).z = false → Arith.bit (Ax.encReg s e D.ENC_CTRL).toNat 4 = true → Arith.bits (Ax.encReg s
      e D.ENC_CTRL).toNat 3 2 = 0 → Ax.quadStep (Ax.enc s e).a (Ax.enc s e).b a b = some d → (a, b) ≠ ((Ax.enc s e).a, (Ax.enc s e).b) → completes
      (.encoderEdge e at4 a b z) s fun t => (Ax.enc t e).count = Ax.wrap ((Ax.enc s e).count + (if Arith.bit (Ax.encReg s e D.ENC_CTRL).toNat 1 then
      -d else d)) ∧ ((Ax.enc t e).a, (Ax.enc t e).b, (Ax.enc t e).z) = (a, b, z) ∧ State.rAx t (D.iENC + e) D.ENC_INDEX_LATCH = Ax.wrap ((Ax.enc s
      e).count + (if Arith.bit (Ax.encReg s e D.ENC_CTRL).toNat 1 then -d else d)) ∧ State.rAx t (D.iENC + e) D.ENC_INDEXES = (State.rAx s (D.iENC +
      e) D.ENC_INDEXES + 1) % 2 ^ 32 ∧ otherEncs e s t ∧ keeps [.ax, .raised] s t) ∧
  (∀ (s : State) (e at4 : Nat) (a b z : Bool), s.pwr.rails = true → e < 8 → (Ax.enc s e).mode = .running → Ax.settled s e (125 * s.tick + at4 % 125)
      (Ax.enc s e).aAt = true → Ax.settled s e (125 * s.tick + at4 % 125) (Ax.enc s e).bAt = true → Ax.settled s e (125 * s.tick + at4 % 125) (Ax.enc
      s e).zAt = true → (z = false ∨ (Ax.enc s e).z = true ∨ Arith.bit (Ax.encReg s e D.ENC_CTRL).toNat 4 = false) → Arith.bits (Ax.encReg s e
      D.ENC_CTRL).toNat 3 2 = 0 → a ≠ (Ax.enc s e).a → b ≠ (Ax.enc s e).b → completes (.encoderEdge e at4 a b z) s fun t => (Ax.enc t e).count =
      (Ax.enc s e).count ∧ ((Ax.enc t e).a, (Ax.enc t e).b, (Ax.enc t e).z) = (a, b, z) ∧ (Ax.enc t e).illegalEpisode = true ∧ State.rAx t (D.iENC +
      e) D.ENC_ILLEGALS = Arith.clamp 0 4294967295 (State.rAx s (D.iENC + e) D.ENC_ILLEGALS + 1) ∧ t.raised = s.raised ++ (if (Ax.enc s
      e).illegalEpisode then [] else [⟨0x168 + e, 1, Arith.toUnsigned 32 (Ax.enc s e).count⟩]) ∧ otherEncs e s t ∧ keeps [.ax, .raised] s t) ∧
  (∀ (s : State) (e at4 : Nat) (a b z : Bool), s.pwr.rails = true → e < 8 → (Ax.enc s e).mode = .running → Ax.settled s e (125 * s.tick + at4 % 125)
      (Ax.enc s e).aAt = true → Ax.settled s e (125 * s.tick + at4 % 125) (Ax.enc s e).bAt = true → Ax.settled s e (125 * s.tick + at4 % 125) (Ax.enc
      s e).zAt = true → (z = false ∨ (Ax.enc s e).z = true ∨ Arith.bit (Ax.encReg s e D.ENC_CTRL).toNat 4 = false) → (Arith.bits (Ax.encReg s e
      D.ENC_CTRL).toNat 3 2 ≠ 0 ∨ a = (Ax.enc s e).a ∧ b = (Ax.enc s e).b) → completes (.encoderEdge e at4 a b z) s fun t => (Ax.enc t e).count =
      (Ax.enc s e).count ∧ (Ax.enc t e).lastEdge = (Ax.enc s e).lastEdge ∧ ((Ax.enc t e).a, (Ax.enc t e).b, (Ax.enc t e).z) = (a, b, z) ∧ t.ax.regs =
      s.ax.regs ∧ otherEncs e s t ∧ keeps [.ax] s t) ∧
  (∀ (s : State) (e at4 : Nat) (a b z : Bool), s.pwr.rails = true → e < 8 → (Ax.enc s e).mode ≠ .running → Ax.settled s e (125 * s.tick + at4 % 125)
      (Ax.enc s e).aAt = true → Ax.settled s e (125 * s.tick + at4 % 125) (Ax.enc s e).bAt = true → Ax.settled s e (125 * s.tick + at4 % 125) (Ax.enc
      s e).zAt = true → completes (.encoderEdge e at4 a b z) s fun t => (Ax.enc t e).count = (Ax.enc s e).count ∧ (Ax.enc t e).mode = (Ax.enc s
      e).mode ∧ ((Ax.enc t e).a, (Ax.enc t e).b, (Ax.enc t e).z) = (a, b, z) ∧ t.ax.regs = s.ax.regs ∧ otherEncs e s t ∧ keeps [.ax] s t) ∧
  (∀ (s : State) (e at4 : Nat) (a b z : Bool), s.pwr.rails = true → e < 8 → Ax.settled s e (125 * s.tick + at4 % 125) (Ax.enc s e).aAt = false →
      Ax.settled s e (125 * s.tick + at4 % 125) (Ax.enc s e).bAt = false → Ax.settled s e (125 * s.tick + at4 % 125) (Ax.enc s e).zAt = false →
      completes (.encoderEdge e at4 a b z) s fun t => (Ax.enc t e) = (Ax.enc s e) ∧ t.ax.regs = s.ax.regs ∧ otherEncs e s t ∧ keeps [.ax] s t) ∧
  (∀ (s : State) (e : Nat), s.pwr.rails = true → e < 8 → (Ax.enc s e).mode = .running → (Ax.enc s e).z = false → Arith.bit (Ax.encReg s e
      D.ENC_CTRL).toNat 4 = true → completes (.encoderIndex e) s fun t => State.rAx t (D.iENC + e) D.ENC_INDEX_LATCH = Ax.wrap (Ax.enc s e).count ∧
      State.rAx t (D.iENC + e) D.ENC_INDEX_TICK = (Arith.toUnsigned 64 (s.tick : Int) : Int) ∧ State.rAx t (D.iENC + e) D.ENC_INDEXES = (State.rAx s
      (D.iENC + e) D.ENC_INDEXES + 1) % 2 ^ 32 ∧ (Ax.enc t e) =
      { (Ax.enc s e) with z := true, zAt := some (125 * s.tick), latch := some (Ax.enc s e).count } ∧ otherEncs e s t ∧ keeps [.ax, .raised] s t) ∧
  (∀ (s : State) (e : Nat), s.pwr.rails = true → e < 8 → (Ax.enc s e).z = false → ((Ax.enc s e).mode ≠ .running ∨ Arith.bit (Ax.encReg s e
      D.ENC_CTRL).toNat 4 = false) → completes (.encoderIndex e) s fun t => (Ax.enc t e) = { (Ax.enc s e) with z := true, zAt := some (125 * s.tick) }
      ∧ t.ax.regs = s.ax.regs ∧ otherEncs e s t ∧ keeps [.ax] s t) ∧
  (∀ (s : State) (e : Nat), (Ax.enc s e).z = true → completes (.encoderIndex e) s fun t => t = s) ∧
  (∀ (s : State) (e at4 : Nat), s.pwr.rails = true → e < 8 → (Ax.enc s e).mode = .running → Arith.bits (Ax.encReg s e D.ENC_CTRL).toNat 3 2 ≠ 0 →
      ((Ax.enc s e).tooth = none ∨ (Ax.enc s e).gap = none) → completes (.encoderTooth e at4) s fun t => (Ax.enc t e).count = Ax.wrap ((Ax.enc s
      e).count + (if Arith.bit (Ax.encReg s e D.ENC_CTRL).toNat 1 then -1 else 1)) ∧ (Ax.enc t e).tooth = some (125 * s.tick + at4 % 125) ∧ otherEncs
      e s t ∧ keeps [.ax, .raised] s t) ∧
  (∀ (s : State) (e at4 l p : Nat), s.pwr.rails = true → e < 8 → (Ax.enc s e).mode = .running → (Ax.enc s e).tooth = some l → (Ax.enc s e).gap = some
      p → (Arith.bits (Ax.encReg s e D.ENC_CTRL).toNat 3 2 = 1 ∧ 256 * (125 * s.tick + at4 % 125 - l) ≤ (Ax.encReg s e D.ENC_GAP_RATIO).toNat * p ∨
      Arith.bits (Ax.encReg s e D.ENC_CTRL).toNat 3 2 = 2 ∧ 256 * p ≤ (Ax.encReg s e D.ENC_GAP_RATIO).toNat * (125 * s.tick + at4 % 125 - l)) →
      completes (.encoderTooth e at4) s fun t => (Ax.enc t e).count = Ax.wrap ((Ax.enc s e).count + (if Arith.bit (Ax.encReg s e D.ENC_CTRL).toNat 1
      then -1 else 1)) ∧ (Ax.enc t e).tooth = some (125 * s.tick + at4 % 125) ∧ (Ax.enc t e).gap = some (125 * s.tick + at4 % 125 - l) ∧ otherEncs e s
      t ∧ keeps [.ax, .raised] s t) ∧
  (∀ (s : State) (e at4 l p : Nat), s.pwr.rails = true → e < 8 → (Ax.enc s e).mode = .running → (Ax.enc s e).tooth = some l → (Ax.enc s e).gap = some
      p → Arith.bits (Ax.encReg s e D.ENC_CTRL).toNat 3 2 = 1 → (Ax.encReg s e D.ENC_GAP_RATIO).toNat * p < 256 * (125 * s.tick + at4 % 125 - l) →
      completes (.encoderTooth e at4) s fun t => (Ax.enc t e).count = Ax.wrap ((Ax.enc s e).count + (if Arith.bit (Ax.encReg s e D.ENC_CTRL).toNat 1
      then -1 else 1) * (1 + Ax.encReg s e D.ENC_MISSING)) ∧ (Ax.enc t e).tooth = some (125 * s.tick + at4 % 125) ∧ (Ax.enc t e).sinceRef = 0 ∧
      State.rAx t (D.iENC + e) D.ENC_INDEXES = (State.rAx s (D.iENC + e) D.ENC_INDEXES + 1) % 2 ^ 32 ∧ otherEncs e s t ∧ keeps [.ax, .raised] s t) ∧
  (∀ (s : State) (e at4 l p : Nat), s.pwr.rails = true → e < 8 → (Ax.enc s e).mode = .running → (Ax.enc s e).tooth = some l → (Ax.enc s e).gap = some
      p → Arith.bits (Ax.encReg s e D.ENC_CTRL).toNat 3 2 = 2 → (Ax.encReg s e D.ENC_GAP_RATIO).toNat * (125 * s.tick + at4 % 125 - l) < 256 * p →
      completes (.encoderTooth e at4) s fun t => (Ax.enc t e).count = (Ax.enc s e).count ∧ (Ax.enc t e).tooth = some (125 * s.tick + at4 % 125) ∧
      (Ax.enc t e).sinceRef = 0 ∧ State.rAx t (D.iENC + e) D.ENC_INDEXES = (State.rAx s (D.iENC + e) D.ENC_INDEXES + 1) % 2 ^ 32 ∧ otherEncs e s t ∧
      keeps [.ax, .raised] s t) ∧
  (∀ (s : State) (e at4 : Nat), ((Ax.enc s e).mode ≠ .running ∨ Arith.bits (Ax.encReg s e D.ENC_CTRL).toNat 3 2 = 0) → completes (.encoderTooth e
      at4) s fun t => t = s) ∧
  (∀ (s : State) (e k : Nat), s.pwr.rails = true → e < 8 → (Ax.enc s e).lastEdge = some k → k + 250 * (Ax.encReg s e D.ENC_SPEED_TIMEOUT).toNat ≤ 125
      * s.tick + 124 → completes (.encoderSpeedTimeout e) s fun t => (Ax.enc t e) = { (Ax.enc s e) with speed := 0, lastEdge := none } ∧ otherEncs e s
      t ∧ keeps [.ax] s t) ∧
  (∀ (s : State) (e : Nat), (((Ax.enc s e).lastEdge.map fun k => decide (k + 250 * (Ax.encReg s e D.ENC_SPEED_TIMEOUT).toNat ≤ 125 * s.tick +
      124)).getD false) = false → completes (.encoderSpeedTimeout e) s fun t => t = s) ∧
  (∀ (s : State) (u : Nat), hostOpen s = true → u < 16 → ((Ax.cmp s u).mode = .disarmed ∨ (Ax.cmp s u).mode = .done) → (Ax.diff (Ax.cmpReg s u
      D.CMP_POSITION) (Ax.sourceValue s (Ax.cmpSource s u))) ≠ 0 → (Ax.sourceDir s (Ax.cmpSource s u) = 0 ∨ (Ax.diff (Ax.cmpReg s u D.CMP_POSITION)
      (Ax.sourceValue s (Ax.cmpSource s u))) < 0 ∧ Ax.sourceDir s (Ax.cmpSource s u) < 0 ∨ 0 < (Ax.diff (Ax.cmpReg s u D.CMP_POSITION) (Ax.sourceValue
      s (Ax.cmpSource s u))) ∧ 0 < Ax.sourceDir s (Ax.cmpSource s u)) → completes (.cmpArm u) s fun t => (Ax.cmp t u) =
      { (Ax.cmp s u) with mode := .armed, made := 0 } ∧ otherCmps u s t ∧ keeps [.ax] s t) ∧
  (∀ (s : State) (u : Nat), hostOpen s = true → u < 16 → ((Ax.cmp s u).mode = .disarmed ∨ (Ax.cmp s u).mode = .done) → (Ax.diff (Ax.cmpReg s u
      D.CMP_POSITION) (Ax.sourceValue s (Ax.cmpSource s u))) = 0 → Arith.bits (Ax.cmpReg s u D.CMP_MODE).toNat 6 5 = 0 → completes (.cmpArm u) s fun t
      => Ax.cmpReg t u D.CMP_FIRES = (Ax.cmpReg s u D.CMP_FIRES + 1) % 2 ^ 32 ∧ (Ax.cmp t u).made = 1 ∧ otherCmps u s t ∧ keeps [.ax] s t) ∧
  (∀ (s : State) (u : Nat), hostOpen s = true → u < 16 → ((Ax.cmp s u).mode = .disarmed ∨ (Ax.cmp s u).mode = .done) → (Ax.diff (Ax.cmpReg s u
      D.CMP_POSITION) (Ax.sourceValue s (Ax.cmpSource s u))) = 0 → Arith.bits (Ax.cmpReg s u D.CMP_MODE).toNat 6 5 ≠ 0 → completes (.cmpArm u) s fun t
      => (Ax.cmp t u) = { (Ax.cmp s u) with mode := .armed, made := 0 } ∧ otherCmps u s t ∧ keeps [.ax] s t) ∧
  (∀ (s : State) (u : Nat), hostOpen s = true → u < 16 → ((Ax.cmp s u).mode = .disarmed ∨ (Ax.cmp s u).mode = .done) → ((Ax.diff (Ax.cmpReg s u
      D.CMP_POSITION) (Ax.sourceValue s (Ax.cmpSource s u))) < 0 ∧ 0 < Ax.sourceDir s (Ax.cmpSource s u) ∨ 0 < (Ax.diff (Ax.cmpReg s u D.CMP_POSITION)
      (Ax.sourceValue s (Ax.cmpSource s u))) ∧ Ax.sourceDir s (Ax.cmpSource s u) < 0) → Arith.bit (Ax.cmpReg s u D.CMP_MODE).toNat 7 = false →
      completes (.cmpArm u) s fun t => (Ax.cmp t u) = { (Ax.cmp s u) with mode := .behind, made := 0 } ∧ lastRaised s (0x170 + u) 1 (Arith.toUnsigned
      32 (Ax.cmpReg s u D.CMP_POSITION)) t ∧ otherCmps u s t ∧ keeps [.ax, .raised] s t) ∧
  (∀ (s : State) (u : Nat), hostOpen s = true → u < 16 → ((Ax.cmp s u).mode = .disarmed ∨ (Ax.cmp s u).mode = .done) → ((Ax.diff (Ax.cmpReg s u
      D.CMP_POSITION) (Ax.sourceValue s (Ax.cmpSource s u))) < 0 ∧ 0 < Ax.sourceDir s (Ax.cmpSource s u) ∨ 0 < (Ax.diff (Ax.cmpReg s u D.CMP_POSITION)
      (Ax.sourceValue s (Ax.cmpSource s u))) ∧ Ax.sourceDir s (Ax.cmpSource s u) < 0) → Arith.bit (Ax.cmpReg s u D.CMP_MODE).toNat 7 = true →
      completes (.cmpArm u) s fun t => Ax.cmpReg t u D.CMP_FIRES = (Ax.cmpReg s u D.CMP_FIRES + 1) % 2 ^ 32 ∧ (Ax.cmp t u).made = 1 ∧ otherCmps u s t
      ∧ keeps [.ax] s t) ∧
  (∀ (s : State) (u : Nat), hostOpen s = true → u < 16 → ((Ax.cmp s u).mode = .armed ∨ (Ax.cmp s u).mode = .behind ∨ (Ax.cmp s u).mode = .fenced) →
      completes (.cmpArm u) s fun t => t = s) ∧
  (∀ (s : State) (u : Nat), hostOpen s = true → u < 16 → ((Ax.cmp s u).mode = .armed ∨ (Ax.cmp s u).mode = .behind ∨ (Ax.cmp s u).mode = .fenced ∧
      State.holdsStatus s (0x170 + u) = false) → completes (.cmpDisarm u) s fun t => (Ax.cmp t u) = { (Ax.cmp s u) with mode := .disarmed } ∧
      otherCmps u s t ∧ keeps [.ax] s t) ∧
  (∀ (s : State) (u : Nat), hostOpen s = true → u < 16 → ((Ax.cmp s u).mode = .disarmed ∨ (Ax.cmp s u).mode = .done ∨ (Ax.cmp s u).mode = .fenced ∧
      State.holdsStatus s (0x170 + u) = true) → completes (.cmpDisarm u) s fun t => t = s) ∧
  (∀ (s : State) (u : Nat) (v : Int), hostOpen s = true → u < 16 → -2147483648 ≤ v → v ≤ 2147483647 → (Ax.cmp s u).mode ≠ .armed → (Ax.cmp s u).mode
      ≠ .behind → completes (.cmpPositionWrite u v) s fun t => Ax.cmpReg t u D.CMP_POSITION = v ∧ (Ax.cmp t u) = (Ax.cmp s u) ∧ otherCmps u s t ∧
      keeps [.ax] s t) ∧
  (∀ (s : State) (u : Nat) (v : Int), hostOpen s = true → u < 16 → -2147483648 ≤ v → v ≤ 2147483647 → ((Ax.cmp s u).mode = .armed ∨ (Ax.cmp s u).mode
      = .behind) → Ax.sourceDir s (Ax.cmpSource s u) = 0 → Ax.diff v (Ax.sourceValue s (Ax.cmpSource s u)) ≠ 0 → completes (.cmpPositionWrite u v) s
      fun t => Ax.cmpReg t u D.CMP_POSITION = v ∧ (Ax.cmp t u) = { (Ax.cmp s u) with mode := .armed } ∧ otherCmps u s t ∧ keeps [.ax] s t) ∧
  (∀ (s : State) (u : Nat), s.pwr.rails = true → u < 16 → (Ax.cmp s u).pulseUntil < 125 * (s.tick + 1) → completes (.cmpPulseEnd u) s fun t =>
      (Ax.cmp t u) = { (Ax.cmp s u) with pulseUntil := 0 } ∧ otherCmps u s t ∧ keeps [.ax] s t) ∧
  (∀ (s : State) (u : Nat), 125 * (s.tick + 1) ≤ (Ax.cmp s u).pulseUntil → completes (.cmpPulseEnd u) s fun t => t = s)

/-- ARP_REPLY of a request for the port address sends the answer of R405 to the asker, or lets it wait behind a timed frame (R410); ICMP_ECHO of a request
  sends one to its sender, where a reply to it can leave (R416: the model takes a port without a gateway to answer its subnet alone, log entry 41),
  and the frames count; PTP_RECEIVE with room stores the frame in the next slot of the ring and moves POS on, without room it counts it lost and
  raises PTP_RX_LOST once; RX_FRAME_DROP counts errors or drops. A frame that no row of R405 takes is dropped and counted. A port that is not up, or a
  frame of another row, changes nothing. The other port and NETCLK stay. Rests on R405, R412, R416, R421. -/
def Obligations.PortsAnswerAndStamp : Prop :=
  (∀ (s : State) (p : Nat) (f : List Byte), s.pwr.rails = true → p < 2 → Net.up s p = true → Net.isArp s p f = true → Net.blocked s p 60 = false →
      completes (.arpReply p f) s fun t => Net.port t p D.NET_PORT_RX_FRAMES = Arith.clamp 0 4294967295 (Net.port s p D.NET_PORT_RX_FRAMES + 1) ∧
      Net.port t p D.NET_PORT_TX_FRAMES = Arith.clamp 0 4294967295 (Net.port s p D.NET_PORT_TX_FRAMES + 1) ∧ t.net.answers.getLast? = some (p, (f.drop
      22).take 6 ++ Net.beBytes 6 (Net.mac p) ++ [8, 6, 0, 1, 8, 0, 6, 4, 0, 2] ++ Net.beBytes 6 (Net.mac p) ++ Net.beBytes 4 (Net.port s p
      D.NET_PORT_IP).toNat ++ (f.drop 22).take 10 ++ List.replicate 18 0) ∧ others 2 p Net.queue Net.port s t ∧ t.net.clk = s.net.clk ∧ keeps [.net] s
      t) ∧
  (∀ (s : State) (p : Nat) (f : List Byte), s.pwr.rails = true → p < 2 → Net.up s p = true → Net.isArp s p f = true → Net.blocked s p 60 = true →
      completes (.arpReply p f) s fun t => Net.port t p D.NET_PORT_RX_FRAMES = Arith.clamp 0 4294967295 (Net.port s p D.NET_PORT_RX_FRAMES + 1) ∧
      Net.port t p D.NET_PORT_TX_FRAMES = Net.port s p D.NET_PORT_TX_FRAMES ∧ t.net.waiting = s.net.waiting ++ [(p, (f.drop 22).take 6 ++ Net.beBytes
      6 (Net.mac p) ++ [8, 6, 0, 1, 8, 0, 6, 4, 0, 2] ++ Net.beBytes 6 (Net.mac p) ++ Net.beBytes 4 (Net.port s p D.NET_PORT_IP).toNat ++ (f.drop
      22).take 10 ++ List.replicate 18 0)] ∧ others 2 p Net.queue Net.port s t ∧ t.net.clk = s.net.clk ∧ keeps [.net] s t) ∧
  (∀ (s : State) (p : Nat) (f : List Byte), s.pwr.rails = true → p < 2 → Net.up s p = true → Net.isOther s p f = true → completes (.arpReply p f) s
      fun t => Net.port t p D.NET_PORT_RX_DROPPED = Arith.clamp 0 4294967295 (Net.port s p D.NET_PORT_RX_DROPPED + 1) ∧ others 2 p Net.queue Net.port
      s t ∧ t.net.clk = s.net.clk ∧ keeps [.net] s t) ∧
  (∀ (s : State) (p : Nat) (f : List Byte), (Net.up s p = false ∨ Net.isArp s p f = false ∧ Net.isOther s p f = false) → completes (.arpReply p f) s
      fun t => t = s) ∧
  (∀ (s : State) (p : Nat) (f : List Byte), s.pwr.rails = true → p < 2 → Net.up s p = true → Net.isEcho s p f = true → Net.routed s p (Net.be f 26 4)
      = true → Net.waits s p = none → completes (.icmpEcho p f) s fun t => Net.port t p D.NET_PORT_RX_FRAMES = Arith.clamp 0 4294967295 (Net.port s p
      D.NET_PORT_RX_FRAMES + 1) ∧ Net.port t p D.NET_PORT_TX_FRAMES = Arith.clamp 0 4294967295 (Net.port s p D.NET_PORT_TX_FRAMES + 1) ∧
      t.net.answers.getLast?.map (fun x => (x.1, x.2.take 14)) = some (p, (f.drop 6).take 6 ++ Net.beBytes 6 (Net.mac p) ++ [8, 0]) ∧ others 2 p
      Net.queue Net.port s t ∧ t.net.clk = s.net.clk ∧ keeps [.net] s t) ∧
  (∀ (s : State) (p : Nat) (f : List Byte), s.pwr.rails = true → p < 2 → Net.up s p = true → Net.isEcho s p f = true → Net.routed s p (Net.be f 26 4)
      = false → completes (.icmpEcho p f) s fun t => Net.port t p D.NET_PORT_RX_FRAMES = Arith.clamp 0 4294967295 (Net.port s p D.NET_PORT_RX_FRAMES +
      1) ∧ t.net.answers = s.net.answers ∧ t.net.waiting = s.net.waiting ∧ others 2 p Net.queue Net.port s t ∧ t.net.clk = s.net.clk ∧ keeps [.net] s
      t) ∧
  (∀ (s : State) (p : Nat) (f : List Byte), s.pwr.rails = true → p < 2 → Net.up s p = true → Net.isOther s p f = true → completes (.icmpEcho p f) s
      fun t => Net.port t p D.NET_PORT_RX_DROPPED = Arith.clamp 0 4294967295 (Net.port s p D.NET_PORT_RX_DROPPED + 1) ∧ others 2 p Net.queue Net.port
      s t ∧ t.net.clk = s.net.clk ∧ keeps [.net] s t) ∧
  (∀ (s : State) (p : Nat) (f : List Byte), (Net.up s p = false ∨ Net.isEcho s p f = false ∧ Net.isOther s p f = false) → completes (.icmpEcho p f) s
      fun t => t = s) ∧
  (∀ (s : State) (p off pos : Nat) (f : List Byte), s.pwr.rails = true → p < 2 → Net.up s p = true → Net.isPtp s p f = true → pos = (State.rNet s
      D.iNET_RX D.NET_RX_POS).toNat → (pos + 2 ^ 32 - (State.rNet s D.iNET_RX D.NET_RX_RD).toNat) % 2 ^ 32 ≠ 256 → completes (.ptpReceive p off f) s
      fun t => State.rNet t D.iNET_RX D.NET_RX_POS = (((pos + 1) % 2 ^ 32 : Nat) : Int) ∧ (Tab.get (fun _ => []) t.net.rx (pos % 256)).drop 16 =
      f.take 256 ++ List.replicate (256 - f.length) 0 ∧ (Tab.get (fun _ => []) t.net.rx (pos % 256)).take 4 = Arith.natLe 1 p ++ [if 256 < f.length
      then 1 else 0] ++ Arith.natLe 2 f.length ∧ Net.port t p D.NET_PORT_RX_FRAMES = Arith.clamp 0 4294967295 (Net.port s p D.NET_PORT_RX_FRAMES + 1)
      ∧ others 2 p Net.queue Net.port s t ∧ t.net.clk = s.net.clk ∧ keeps [.net] s t) ∧
  (∀ (s : State) (p off pos : Nat) (f : List Byte), s.pwr.rails = true → p < 2 → Net.up s p = true → Net.isPtp s p f = true → pos = (State.rNet s
      D.iNET_RX D.NET_RX_POS).toNat → (pos + 2 ^ 32 - (State.rNet s D.iNET_RX D.NET_RX_RD).toNat) % 2 ^ 32 = 256 → completes (.ptpReceive p off f) s
      fun t => State.rNet t D.iNET_RX D.NET_RX_LOST = Arith.clamp 0 4294967295 (State.rNet s D.iNET_RX D.NET_RX_LOST + 1) ∧ State.rNet t D.iNET_RX
      D.NET_RX_POS = State.rNet s D.iNET_RX D.NET_RX_POS ∧ t.net.rx = s.net.rx ∧ t.raised = s.raised ++ (if s.net.lostEpisode then [] else [⟨0x180, 6,
      p⟩]) ∧ others 2 p Net.queue Net.port s t ∧ t.net.clk = s.net.clk ∧ keeps [.net, .raised] s t) ∧
  (∀ (s : State) (p off : Nat) (f : List Byte), s.pwr.rails = true → p < 2 → Net.up s p = true → Net.isOther s p f = true → completes (.ptpReceive p
      off f) s fun t => Net.port t p D.NET_PORT_RX_DROPPED = Arith.clamp 0 4294967295 (Net.port s p D.NET_PORT_RX_DROPPED + 1) ∧ others 2 p Net.queue
      Net.port s t ∧ t.net.clk = s.net.clk ∧ keeps [.net] s t) ∧
  (∀ (s : State) (p off : Nat) (f : List Byte), (Net.up s p = false ∨ Net.isPtp s p f = false ∧ Net.isOther s p f = false) → completes (.ptpReceive p
      off f) s fun t => t = s) ∧
  (∀ (s : State) (p : Nat) (b : Bool), s.pwr.rails = true → p < 2 → Net.up s p = true → completes (.rxFrameDrop p b) s fun t => State.rNet t
      (D.iNET_PORT + p) (if b then D.NET_PORT_RX_ERRORS else D.NET_PORT_RX_DROPPED) = Arith.clamp 0 4294967295 (State.rNet s (D.iNET_PORT + p) (if b
      then D.NET_PORT_RX_ERRORS else D.NET_PORT_RX_DROPPED) + 1) ∧ others 2 p Net.queue Net.port s t ∧ t.net.clk = s.net.clk ∧ keeps [.net] s t) ∧
  (∀ (s : State) (p : Nat) (b : Bool), Net.up s p = false → completes (.rxFrameDrop p b) s fun t => t = s)

/-- A write of NETCLK sets it, counts a step, marks the Ledger and lets a lock that runs acquire again. An OFFSET within STEP_THRESH moves INTEGRAL, ADJ
  and INCR as R408 says and raises ADJ_LIMIT where one is clamped; one beyond it steps NETCLK and raises CLOCK_STEP. PHASE_MEASUREMENT that is due
  measures once in its tick with PHASE and TUNE as R414 says; the sixteenth in the window locks, one far out of it unlocks; one that is not due
  changes nothing. TSYNC_ENABLE starts and ends the lock. Values out of range are refused. Rests on R407, R408, R414, R415, R421. -/
def Obligations.TheClockIsWrittenAndServoed : Prop :=
  (∀ (s : State) (v : Nat), hostOpen s = true → v < 2 ^ 64 → completes (.netclkWrite v) s fun t => t.net.clk = v ∧ t.ldg.stepped = true ∧ Net.clkReg
      t D.NET_CLK_STEPS = Arith.clamp 0 4294967295 (Net.clkReg s D.NET_CLK_STEPS + 1) ∧ Net.sync t D.NET_TSYNC_STATE = (if Net.sync s
      D.NET_TSYNC_STATE = 0 then 0 else 1) ∧ (t.net.queue0, t.net.queue1) = (s.net.queue0.map (Net.overtake (v / 2 ^ 32)), s.net.queue1.map
      (Net.overtake (v / 2 ^ 32))) ∧ keeps [.net, .ldg] s t) ∧
  (∀ (s : State) (v : Nat), hostOpen s = true → 2 ^ 64 ≤ v → completes (.netclkWrite v) s fun t => t = s) ∧
  (∀ (s : State) (o m j i b a : Int), hostOpen s = true → -9223372036854775808 ≤ o → o ≤ 9223372036854775807 → o.natAbs ≤ (Net.clkReg s
      D.NET_CLK_STEP_THRESH).toNat * 65536 → m = Net.clkReg s D.NET_CLK_ADJ_MAX → 0 ≤ m → m ≤ 500000 → 0 ≤ Net.clkReg s D.NET_CLK_INCR_NOM →
      Net.clkReg s D.NET_CLK_INCR_NOM ≤ 17609365913 → j = Arith.divRound (Net.clkReg s D.NET_CLK_INTEGRAL * 2 ^ 32 + Net.clkReg s D.NET_CLK_KI * o) (2
      ^ 32) → i = Arith.clamp (-m) m j → b = Arith.divRound (Net.clkReg s D.NET_CLK_KP * o + i * 2 ^ 32) (2 ^ 32) → a = Arith.clamp (-m) m b →
      completes (.servoOffset o) s fun t => Net.clkReg t D.NET_CLK_INTEGRAL = i ∧ Net.clkReg t D.NET_CLK_ADJ = a ∧ Net.clkReg t D.NET_CLK_INCR =
      Arith.divRound (Net.clkReg s D.NET_CLK_INCR_NOM * (1000000000 - a)) 1000000000 ∧ t.raised = s.raised ++ (if i ≠ j ∨ a ≠ b then [⟨0x180, 4, 0⟩]
      else []) ∧ t.net.clk = s.net.clk ∧ (t.net.queue0, t.net.queue1) = (s.net.queue0, s.net.queue1) ∧ keeps [.net, .raised] s t) ∧
  (∀ (s : State) (o : Int), hostOpen s = true → -9223372036854775808 ≤ o → o ≤ 9223372036854775807 → (Net.clkReg s D.NET_CLK_STEP_THRESH).toNat *
      65536 < o.natAbs → completes (.servoOffset o) s fun t => t.net.clk = Arith.toUnsigned 64 ((s.net.clk : Int) - o * 65536) ∧ Net.clkReg t
      D.NET_CLK_LAST_STEP = o ∧ t.ldg.stepped = true ∧ lastRaised s 0x180 3 0 t ∧ (t.net.queue0, t.net.queue1) = (s.net.queue0.map (Net.overtake
      (t.net.clk / 2 ^ 32)), s.net.queue1.map (Net.overtake (t.net.clk / 2 ^ 32))) ∧ keeps [.net, .ldg, .raised] s t) ∧
  (∀ (s : State) (o : Int), hostOpen s = true → (o < -9223372036854775808 ∨ 9223372036854775807 < o) → completes (.servoOffset o) s fun t => t = s) ∧
  (∀ (s : State) (phi : Int), s.pwr.rails = true → Net.measureDue s = true → phi = Arith.toSigned 64 (Arith.toUnsigned 64 ((s.net.clk : Int) -
      (Net.sync s D.NET_TSYNC_REF_NETCLK + ((s.tick : Int) - Net.sync s D.NET_TSYNC_REF_TICK) * 500) * 2 ^ 32)) → completes .phaseMeasurement s fun t
      => t.net.measured = some s.tick ∧ Net.sync t D.NET_TSYNC_PHASE = Arith.clamp (-(2 ^ 31)) (2 ^ 31 - 1) (Arith.divRound phi (2 ^ 24)) ∧ Net.sync t
      D.NET_TSYNC_TUNE = Arith.clamp 0 0xFFFF (0x8000 + Arith.divRound (Net.sync s D.NET_TSYNC_KP * phi + (s.net.sum + Net.sync s D.NET_TSYNC_KI *
      phi)) (2 ^ 40)) ∧ t.net.clk = s.net.clk ∧ (t.net.queue0, t.net.queue1) = (s.net.queue0, s.net.queue1) ∧ keeps [.net, .raised] s t) ∧
  (∀ (s : State) (phi : Int), s.pwr.rails = true → Net.measureDue s = true → phi = Arith.toSigned 64 (Arith.toUnsigned 64 ((s.net.clk : Int) -
      (Net.sync s D.NET_TSYNC_REF_NETCLK + ((s.tick : Int) - Net.sync s D.NET_TSYNC_REF_TICK) * 500) * 2 ^ 32)) → Net.sync s D.NET_TSYNC_STATE = 1 →
      phi.natAbs ≤ (Net.sync s D.NET_TSYNC_LOCK_WINDOW).toNat * 2 ^ 32 → 15 ≤ s.net.inWindow → completes .phaseMeasurement s fun t => Net.sync t
      D.NET_TSYNC_STATE = 2 ∧ keeps [.net] s t) ∧
  (∀ (s : State) (phi : Int), s.pwr.rails = true → Net.measureDue s = true → phi = Arith.toSigned 64 (Arith.toUnsigned 64 ((s.net.clk : Int) -
      (Net.sync s D.NET_TSYNC_REF_NETCLK + ((s.tick : Int) - Net.sync s D.NET_TSYNC_REF_TICK) * 500) * 2 ^ 32)) → Net.sync s D.NET_TSYNC_STATE = 2 → 4
      * (Net.sync s D.NET_TSYNC_LOCK_WINDOW).toNat * 2 ^ 32 < phi.natAbs → completes .phaseMeasurement s fun t => Net.sync t D.NET_TSYNC_STATE = 1 ∧
      Net.sync t D.NET_TSYNC_UNLOCKS = Arith.clamp 0 4294967295 (Net.sync s D.NET_TSYNC_UNLOCKS + 1) ∧ lastRaised s 0x180 7 0 t ∧ keeps [.net,
      .raised] s t) ∧
  (∀ (s : State), Net.measureDue s = false → completes .phaseMeasurement s fun t => t = s) ∧
  (∀ (s : State), upNow s = true → Arith.bit (Net.sync s D.NET_TSYNC_CTRL).toNat 0 = false → completes (.tsyncEnable true) s fun t => Net.sync t
      D.NET_TSYNC_CTRL = 1 ∧ Net.sync t D.NET_TSYNC_STATE = 1 ∧ t.net.sum = 0 ∧ t.net.clk = s.net.clk ∧ (t.net.queue0, t.net.queue1) = (s.net.queue0,
      s.net.queue1) ∧ keeps [.net] s t) ∧
  (∀ (s : State), upNow s = true → Arith.bit (Net.sync s D.NET_TSYNC_CTRL).toNat 0 = true → completes (.tsyncEnable true) s fun t => Net.sync t
      D.NET_TSYNC_CTRL = 1 ∧ Net.sync t D.NET_TSYNC_STATE = Net.sync s D.NET_TSYNC_STATE ∧ t.net.sum = s.net.sum ∧ t.net.clk = s.net.clk ∧
      (t.net.queue0, t.net.queue1) = (s.net.queue0, s.net.queue1) ∧ keeps [.net] s t) ∧
  (∀ (s : State), upNow s = true → completes (.tsyncEnable false) s fun t => Net.sync t D.NET_TSYNC_CTRL = 0 ∧ Net.sync t D.NET_TSYNC_STATE = 0 ∧
      Net.sync t D.NET_TSYNC_TUNE = 0x8000 ∧ t.net.clk = s.net.clk ∧ (t.net.queue0, t.net.queue1) = (s.net.queue0, s.net.queue1) ∧ keeps [.net] s t)

/-- LAUNCH_EVALUATE of a frame whose LAUNCH is 2 µs or more ahead keeps it; a later one is reported once and, without SEND_LATE, dropped, counted and
  recorded, with it marked late. TX_FRAME_SENT of an untimed frame, of a late one, or of a timed one within 8 ns of its LAUNCH or overtaken by NETCLK
  takes it from its queue, counts and records it. LINK_DOWN empties the queue and raises LINK_DOWN; LINK_UP of an enabled port reports and raises
  LINK_UP. Where nothing is queued, due or changed they change nothing. The other port and NETCLK stay. Rests on R409, R410, R411, R416, R421. -/
def Obligations.HostFramesKeepTheirLaunch : Prop :=
  (∀ (s : State) (p l : Nat) (f : TxFrame) (rest : List TxFrame), s.pwr.rails = true → p < 2 → Net.queue s p = f :: rest → f.launch = some l →
      f.verdict = none → 2000 ≤ Arith.toSigned 32 (l + 2 ^ 32 - Net.ns s) → completes (.launchEvaluate p) s fun t => Net.queue t p =
      { f with verdict := some false } :: rest ∧ t.net.lateEpisode = s.net.lateEpisode.filter (· ≠ p) ∧ others 2 p Net.queue Net.port s t ∧ t.net.clk
      = s.net.clk ∧ keeps [.net] s t) ∧
  (∀ (s : State) (p l : Nat) (f : TxFrame) (rest : List TxFrame), s.pwr.rails = true → p < 2 → Net.queue s p = f :: rest → f.launch = some l →
      f.verdict = none → Arith.toSigned 32 (l + 2 ^ 32 - Net.ns s) < 2000 → Arith.bit (Net.port s p D.NET_PORT_CTRL).toNat 3 = false → f.path < 256 →
      completes (.launchEvaluate p) s fun t => Net.queue t p = rest ∧ Net.port t p D.NET_PORT_LATE_DROPS = Arith.clamp 0 4294967295 (Net.port s p
      D.NET_PORT_LATE_DROPS + 1) ∧ t.net.lateEpisode.contains p = true ∧ t.raised = s.raised ++ (if s.net.lateEpisode.contains p then [] else [⟨0x180,
      5, p⟩]) ∧ (Tab.get (fun _ => []) t.net.done (64 * f.path + Net.tx s f.path D.NET_TX_DONE_POS % 64)).take 4 = Arith.natLe 2 f.tag ++ Arith.natLe
      1 p ++ [2] ∧ others 2 p Net.queue Net.port s t ∧ t.net.clk = s.net.clk ∧ keeps [.net, .raised] s t) ∧
  (∀ (s : State) (p l : Nat) (f : TxFrame) (rest : List TxFrame), s.pwr.rails = true → p < 2 → Net.queue s p = f :: rest → f.launch = some l →
      f.verdict = none → Arith.toSigned 32 (l + 2 ^ 32 - Net.ns s) < 2000 → Arith.bit (Net.port s p D.NET_PORT_CTRL).toNat 3 = true → completes
      (.launchEvaluate p) s fun t => Net.queue t p = { f with verdict := some true } :: rest ∧ t.net.lateEpisode.contains p = true ∧ t.raised =
      s.raised ++ (if s.net.lateEpisode.contains p then [] else [⟨0x180, 5, p⟩]) ∧ others 2 p Net.queue Net.port s t ∧ t.net.clk = s.net.clk ∧ keeps
      [.net, .raised] s t) ∧
  (∀ (s : State) (p : Nat), ((Net.queue s p).head?.map fun f => f.launch.isSome && f.verdict.isNone) ≠ some true → completes (.launchEvaluate p) s
      fun t => t = s) ∧
  (∀ (s : State) (p off : Nat) (f : TxFrame) (rest : List TxFrame), s.pwr.rails = true → p < 2 → Net.queue s p = f :: rest → Net.up s p = true →
      s.net.waiting = [] → (f.launch = none ∧ f.verdict ≠ some true ∨ f.verdict = some false ∧ (f.launch.map fun l => f.overtaken || decide
      ((Arith.toSigned 32 (Net.egress s p off / 2 ^ 32 + 2 ^ 32 - l)).natAbs ≤ 8)) = some true) → f.path < 256 → completes (.txFrameSent p off) s fun
      t => Net.queue t p = rest ∧ Net.port t p D.NET_PORT_TX_FRAMES = Arith.clamp 0 4294967295 (Net.port s p D.NET_PORT_TX_FRAMES + 1) ∧ Net.port t p
      D.NET_PORT_LATE_SENT = Net.port s p D.NET_PORT_LATE_SENT ∧ (Tab.get (fun _ => []) t.net.done (64 * f.path + Net.tx s f.path D.NET_TX_DONE_POS %
      64)).take 4 = Arith.natLe 2 f.tag ++ Arith.natLe 1 p ++ [0] ∧ others 2 p Net.queue Net.port s t ∧ t.net.clk = s.net.clk ∧ keeps [.net] s t) ∧
  (∀ (s : State) (p off l : Nat) (f : TxFrame) (rest : List TxFrame), s.pwr.rails = true → p < 2 → Net.queue s p = f :: rest → Net.up s p = true →
      s.net.waiting = [] → f.launch = some l → f.verdict = some true → f.path < 256 → completes (.txFrameSent p off) s fun t => Net.queue t p = rest ∧
      Net.port t p D.NET_PORT_TX_FRAMES = Arith.clamp 0 4294967295 (Net.port s p D.NET_PORT_TX_FRAMES + 1) ∧ Net.port t p D.NET_PORT_LATE_SENT =
      Arith.clamp 0 4294967295 (Net.port s p D.NET_PORT_LATE_SENT + 1) ∧ (Tab.get (fun _ => []) t.net.done (64 * f.path + Net.tx s f.path
      D.NET_TX_DONE_POS % 64)).take 4 = Arith.natLe 2 f.tag ++ Arith.natLe 1 p ++ [1] ∧ others 2 p Net.queue Net.port s t ∧ t.net.clk = s.net.clk ∧
      keeps [.net] s t) ∧
  (∀ (s : State) (p off : Nat), Net.mayDepart s p off = false → completes (.txFrameSent p off) s fun t => t = s) ∧
  (∀ (s : State) (p : Nat), s.pwr.rails = true → p < 2 → Arith.bit (Net.port s p D.NET_PORT_LINK).toNat 0 = true → (Net.queue s p).all (fun f =>
      decide (f.path < 256)) = true → completes (.linkDown p) s fun t => Net.port t p D.NET_PORT_LINK = 0 ∧ Net.queue t p = [] ∧ t.net.waiting =
      s.net.waiting.filter (fun x => x.1 ≠ p) ∧ lastRaised s 0x180 1 p t ∧ others 2 p Net.queue Net.port s t ∧ t.net.clk = s.net.clk ∧ keeps [.net,
      .raised] s t) ∧
  (∀ (s : State) (p : Nat), Arith.bit (Net.port s p D.NET_PORT_LINK).toNat 0 = false → completes (.linkDown p) s fun t => t = s) ∧
  (∀ (s : State) (p : Nat) (b : Bool), s.pwr.rails = true → p < 2 → Arith.bit (Net.port s p D.NET_PORT_CTRL).toNat 0 = true → Arith.bit (Net.port s p
      D.NET_PORT_LINK).toNat 0 = false → completes (.linkUp p b) s fun t => Net.port t p D.NET_PORT_LINK = 1 + (if Arith.bit (Net.port s p
      D.NET_PORT_CTRL).toNat 1 then 2 else 0) + (if b then 4 else 0) ∧ lastRaised s 0x180 2 p t ∧ Net.queue t p = Net.queue s p ∧ others 2 p Net.queue
      Net.port s t ∧ t.net.clk = s.net.clk ∧ keeps [.net, .raised] s t) ∧
  (∀ (s : State) (p : Nat) (b : Bool), (Arith.bit (Net.port s p D.NET_PORT_CTRL).toNat 0 = false ∨ Arith.bit (Net.port s p D.NET_PORT_LINK).toNat 0 =
      true) → completes (.linkUp p b) s fun t => t = s)

/-- START_EXPOSURE with nothing staged late opens the layer, starts every IDLE channel of its mask and no other; with a late context it waits and
  STAGE_LATE is raised. WAIT_EXPOSURE, AXIS_WAIT and WAIT_INPUT complete where their condition holds and wait where it does not; APPLY_TXN completes
  outside a layer and waits inside one. PC reports the step and moves on by one where it completes. A step that the Catalogue cannot take in this
  tick, or whose operands R125 does not allow, changes nothing. Rests on R116, R125, R127, R129, R130, R132, R133, R134, R139. -/
def Obligations.StepsComplete : Prop :=
  (∀ (s : State) (c : Instr), ofCatalogue c = true → mayIssue s = false → completes c s fun t => t = s) ∧
  (∀ (s : State) (mask : Nat), s.pwr.rails = true → mayIssue s = true → 0 < mask → mask < 2 ^ 24 → Seq.lateCtx s mask = none → completes
      (.startExposure mask) s fun t => State.rCat t D.iCAT_STATUS D.CAT_STATUS_LAYER_OPEN = 1 ∧ (∀ c < 24, Arith.bit mask c = true → State.chOf s c =
      .idle → State.chOf t c = .started) ∧ (∀ c < 24, Arith.bit mask c = false → State.chOf t c = State.chOf s c) ∧ t.cat.next = s.cat.next + 1 ∧
      t.cat.waiting = none ∧ t.cat.mode = .issue ∧ State.rCat t D.iCAT_STATUS D.CAT_STATUS_PC = (Arith.toUnsigned 16 (s.cat.next : Int) : Int) ∧ keeps
      [.cat, .dev, .trj, .lnd, .mpl, .lnk, .raised] s t) ∧
  (∀ (s : State) (mask n : Nat), s.pwr.rails = true → mayIssue s = true → 0 < mask → mask < 2 ^ 24 → Seq.lateCtx s mask = some n → completes
      (.startExposure mask) s fun t => t.cat.waiting = some ⟨0x01, 0, 0, mask, 0, 0⟩ ∧ t.cat.mode = .wait ∧ t.cat.issued = s.tick ∧ t.cat.next =
      s.cat.next ∧ State.rCat t D.iCAT_STATUS D.CAT_STATUS_PC = (Arith.toUnsigned 16 (s.cat.next : Int) : Int) ∧ t.cat.chMode = s.cat.chMode ∧
      lastRaised s n 3 (State.layerNo s % 2 ^ 32) t ∧ keeps [.cat, .dev, .raised] s t) ∧
  (∀ (s : State) (mask : Nat), (mask = 0 ∨ 2 ^ 24 ≤ mask) → completes (.startExposure mask) s fun t => t = s) ∧
  (∀ (s : State) (mask timeout : Nat), s.pwr.rails = true → mayIssue s = true → 0 < mask → mask < 2 ^ 24 → timeout < 2 ^ 32 → ((State.startedSet
      s).any fun c => Arith.bit mask c) = false → completes (.waitExposure false mask timeout) s fun t => t.cat.next = s.cat.next + 1 ∧ t.cat.waiting
      = none ∧ t.cat.mode = .issue ∧ State.rCat t D.iCAT_STATUS D.CAT_STATUS_PC = (Arith.toUnsigned 16 (s.cat.next : Int) : Int) ∧ keeps [.cat] s t) ∧
  (∀ (s : State) (mask timeout : Nat), s.pwr.rails = true → mayIssue s = true → 0 < mask → mask < 2 ^ 24 → timeout < 2 ^ 32 → ((State.startedSet
      s).any fun c => Arith.bit mask c) = true → completes (.waitExposure false mask timeout) s fun t => t.cat.waiting = some ⟨0x02, 0, 0, mask,
      timeout, 0⟩ ∧ t.cat.mode = .wait ∧ t.cat.issued = s.tick ∧ t.cat.next = s.cat.next ∧ State.rCat t D.iCAT_STATUS D.CAT_STATUS_PC =
      (Arith.toUnsigned 16 (s.cat.next : Int) : Int) ∧ keeps [.cat] s t) ∧
  (∀ (s : State) (mask timeout : Nat), s.pwr.rails = true → mayIssue s = true → mask < 2 ^ 24 → timeout < 2 ^ 32 → State.layerOpen s = false →
      completes (.waitExposure true mask timeout) s fun t => t.cat.next = s.cat.next + 1 ∧ t.cat.waiting = none ∧ t.cat.mode = .issue ∧ State.rCat t
      D.iCAT_STATUS D.CAT_STATUS_PC = (Arith.toUnsigned 16 (s.cat.next : Int) : Int) ∧ keeps [.cat] s t) ∧
  (∀ (s : State) (mask timeout : Nat), s.pwr.rails = true → mayIssue s = true → mask < 2 ^ 24 → timeout < 2 ^ 32 → State.layerOpen s = true →
      completes (.waitExposure true mask timeout) s fun t => t.cat.waiting = some ⟨0x02, 0, 1, mask, timeout, 0⟩ ∧ t.cat.mode = .wait ∧ t.cat.issued =
      s.tick ∧ t.cat.next = s.cat.next ∧ State.rCat t D.iCAT_STATUS D.CAT_STATUS_PC = (Arith.toUnsigned 16 (s.cat.next : Int) : Int) ∧ keeps [.cat] s
      t) ∧
  (∀ (s : State) (layer : Bool) (mask timeout : Nat), (layer = false ∧ mask = 0 ∨ 2 ^ 24 ≤ mask) → completes (.waitExposure layer mask timeout) s fun
      t => t = s) ∧
  (∀ (s : State) (mask timeout : Nat), s.pwr.rails = true → mayIssue s = true → 0 < mask → mask < 256 → timeout < 2 ^ 32 → ((List.range 8).all fun a
      => !Arith.bit mask a || Ax.standstill s a) = true → completes (.axisWait mask timeout) s fun t => t.cat.next = s.cat.next + 1 ∧ t.cat.waiting =
      none ∧ t.cat.mode = .issue ∧ State.rCat t D.iCAT_STATUS D.CAT_STATUS_PC = (Arith.toUnsigned 16 (s.cat.next : Int) : Int) ∧ keeps [.cat] s t) ∧
  (∀ (s : State) (mask timeout : Nat), s.pwr.rails = true → mayIssue s = true → 0 < mask → mask < 256 → timeout < 2 ^ 32 → ((List.range 8).all fun a
      => !Arith.bit mask a || Ax.standstill s a) = false → completes (.axisWait mask timeout) s fun t => t.cat.waiting = some ⟨0x11, mask, 0, 0,
      timeout, 0⟩ ∧ t.cat.mode = .wait ∧ t.cat.issued = s.tick ∧ t.cat.next = s.cat.next ∧ State.rCat t D.iCAT_STATUS D.CAT_STATUS_PC =
      (Arith.toUnsigned 16 (s.cat.next : Int) : Int) ∧ keeps [.cat] s t) ∧
  (∀ (s : State) (mask timeout : Nat), mask = 0 → completes (.axisWait mask timeout) s fun t => t = s) ∧
  (∀ (s : State) (src timeout : Nat) (level : Bool), s.pwr.rails = true → mayIssue s = true → 0x20 ≤ src → src < 0x24 → timeout < 2 ^ 32 → Tab.get
      (fun _ => false) s.cat.seqIn (src - 0x20) = level → completes (.waitInput src level false timeout) s fun t => t.cat.next = s.cat.next + 1 ∧
      t.cat.waiting = none ∧ t.cat.mode = .issue ∧ State.rCat t D.iCAT_STATUS D.CAT_STATUS_PC = (Arith.toUnsigned 16 (s.cat.next : Int) : Int) ∧ keeps
      [.cat] s t) ∧
  (∀ (s : State) (src timeout : Nat) (level : Bool), s.pwr.rails = true → mayIssue s = true → 0x20 ≤ src → src < 0x24 → timeout < 2 ^ 32 → Tab.get
      (fun _ => false) s.cat.seqIn (src - 0x20) ≠ level → completes (.waitInput src level false timeout) s fun t => t.cat.waiting = some ⟨0x31, src,
      level.toNat, 0, timeout, 0⟩ ∧ t.cat.mode = .wait ∧ t.cat.issued = s.tick ∧ t.cat.next = s.cat.next ∧ State.rCat t D.iCAT_STATUS D.CAT_STATUS_PC
      = (Arith.toUnsigned 16 (s.cat.next : Int) : Int) ∧ keeps [.cat] s t) ∧
  (∀ (s : State) (src timeout : Nat) (level : Bool), s.pwr.rails = true → mayIssue s = true → 0x20 ≤ src → src < 0x24 → timeout < 2 ^ 32 → completes
      (.waitInput src level true timeout) s fun t => t.cat.waiting = some ⟨0x31, src, level.toNat + 2, 0, timeout, 0⟩ ∧ t.cat.mode = .wait ∧
      t.cat.issued = s.tick ∧ t.cat.next = s.cat.next ∧ State.rCat t D.iCAT_STATUS D.CAT_STATUS_PC = (Arith.toUnsigned 16 (s.cat.next : Int) : Int) ∧
      keeps [.cat] s t) ∧
  (∀ (s : State) (src timeout : Nat) (level edge : Bool), s.pwr.rails = true → mayIssue s = true → src < 0x18 → timeout < 2 ^ 32 → s.ax.now.contains
      src = true → completes (.waitInput src level edge timeout) s fun t => t.cat.next = s.cat.next + 1 ∧ t.cat.waiting = none ∧ t.cat.mode = .issue ∧
      State.rCat t D.iCAT_STATUS D.CAT_STATUS_PC = (Arith.toUnsigned 16 (s.cat.next : Int) : Int) ∧ keeps [.cat] s t) ∧
  (∀ (s : State) (src timeout : Nat) (level edge : Bool), s.pwr.rails = true → mayIssue s = true → src < 0x18 → timeout < 2 ^ 32 → s.ax.now.contains
      src = false → completes (.waitInput src level edge timeout) s fun t => t.cat.waiting = some ⟨0x31, src, level.toNat + 2 * edge.toNat, 0,
      timeout, 0⟩ ∧ t.cat.mode = .wait ∧ t.cat.issued = s.tick ∧ t.cat.next = s.cat.next ∧ State.rCat t D.iCAT_STATUS D.CAT_STATUS_PC =
      (Arith.toUnsigned 16 (s.cat.next : Int) : Int) ∧ keeps [.cat] s t) ∧
  (∀ (s : State) (src timeout : Nat) (level edge : Bool), (0x18 ≤ src ∧ src < 0x20 ∨ 0x24 ≤ src) → completes (.waitInput src level edge timeout) s
      fun t => t = s) ∧
  (∀ (s : State), s.pwr.rails = true → mayIssue s = true → State.layerOpen s = false → s.txn.queue = [] → completes .applyTxn s fun t => t.cat.next =
      s.cat.next + 1 ∧ t.cat.waiting = none ∧ t.cat.mode = .issue ∧ State.rCat t D.iCAT_STATUS D.CAT_STATUS_PC = (Arith.toUnsigned 16 (s.cat.next :
      Int) : Int) ∧ keeps [.cat, .mpl] s t) ∧
  (∀ (s : State), s.pwr.rails = true → mayIssue s = true → State.layerOpen s = true → completes .applyTxn s fun t => t.cat.waiting = some ⟨0x40, 0,
      0, 0, 0, 0⟩ ∧ t.cat.mode = .wait ∧ t.cat.issued = s.tick ∧ t.cat.next = s.cat.next ∧ State.rCat t D.iCAT_STATUS D.CAT_STATUS_PC =
      (Arith.toUnsigned 16 (s.cat.next : Int) : Int) ∧ keeps [.cat] s t)

/-- CAT_WAIT_TICKS waits from its issue; a waiting step completes when its condition holds, and ends by its timeout with flag 1 set when it does not;
  where neither is so nothing changes. The boundary of a layer, due in this tick, advances LAYER, counts it, closes it and makes DONE channels IDLE.
  HALT leads to READY with reason 2, no channel started and the layer abandoned. JUMP goes to its target; BRANCH_FLAG goes there when its flag has the
  sense, else on; LOOP with count 0 always goes to its target; a LOOP level not begun by this entry counts its passes down from COUNT and goes on
  after the last. Rests on R23, R125, R127, R128, R129, R131, R132, R139. -/
def Obligations.StepsWaitAndEnd : Prop :=
  (∀ (s : State) (n : Nat), s.pwr.rails = true → mayIssue s = true → 1 ≤ n → n ≤ 2000000000 → completes (.catWaitTicks n) s fun t => t.cat.waiting =
      some ⟨0x30, 0, 0, n, 0, 0⟩ ∧ t.cat.mode = .wait ∧ t.cat.issued = s.tick ∧ t.cat.next = s.cat.next ∧ State.rCat t D.iCAT_STATUS D.CAT_STATUS_PC =
      (Arith.toUnsigned 16 (s.cat.next : Int) : Int) ∧ keeps [.cat] s t) ∧
  (∀ (s : State) (n : Nat), (n = 0 ∨ 2000000000 < n) → completes (.catWaitTicks n) s fun t => t = s) ∧
  (∀ (s : State) (e : CatEntry), s.pwr.rails = true → Seq.mayAct s = true → s.cat.waiting = some e → Seq.met s e = true → e.op ≠ 1 → completes
      .waitStepComplete s fun t => t.cat.next = s.cat.next + 1 ∧ t.cat.waiting = none ∧ keeps [.cat] s t) ∧
  (∀ (s : State) (e : CatEntry) (mask : Nat), s.pwr.rails = true → Seq.mayAct s = true → s.cat.waiting = some e → Seq.met s e = true → e.op = 1 →
      mask = e.c → completes .waitStepComplete s fun t => t.cat.next = s.cat.next + 1 ∧ t.cat.waiting = none ∧ State.rCat t D.iCAT_STATUS
      D.CAT_STATUS_LAYER_OPEN = 1 ∧ (∀ c < 24, Arith.bit mask c = true → State.chOf s c = .idle → State.chOf t c = .started) ∧ (∀ c < 24, Arith.bit
      mask c = false → State.chOf t c = State.chOf s c) ∧ keeps [.cat, .dev, .trj, .lnd, .mpl, .lnk, .raised] s t) ∧
  (∀ (s : State), (Seq.mayAct s = false ∨ (s.cat.waiting.map fun e => Seq.met s e).getD false = false) → completes .waitStepComplete s fun t => t = s) ∧
  (∀ (s : State) (e : CatEntry), s.pwr.rails = true → Seq.mayAct s = true → s.cat.waiting = some e → Seq.met s e = false → Seq.expired s e = true →
      completes .waitTimeout s fun t => t.cat.next = s.cat.next + 1 ∧ t.cat.waiting = none ∧ Arith.bit (State.rCat t D.iCAT_STATUS
      D.CAT_STATUS_FLAGS).toNat 1 = true ∧ keeps [.cat] s t) ∧
  (∀ (s : State), (Seq.mayAct s = false ∨ (s.cat.waiting.map fun e => !Seq.met s e && Seq.expired s e).getD false = false) → completes .waitTimeout s
      fun t => t = s) ∧
  (∀ (s : State), s.pwr.rails = true → Seq.mayAct s = true → Seq.boundaryNow s = true → s.txn.queue = [] → s.cat.waiting = none → State.layerNo s <
      4294967295 → completes .layerBoundary s fun t => State.rCat t D.iCAT_STATUS D.CAT_STATUS_LAYER = ((State.layerNo s + 1 : Nat) : Int) ∧
      State.rCat t D.iCAT_STATUS D.CAT_STATUS_LAYER_OPEN = 0 ∧ State.rCat t D.iCAT_STATUS D.CAT_STATUS_LAYERS_DONE = Arith.clamp 0 4294967295
      (State.rCat s D.iCAT_STATUS D.CAT_STATUS_LAYERS_DONE + 1) ∧ (∀ c < 24, State.chOf t c = (if State.chOf s c = .done then .idle else State.chOf s
      c)) ∧ t.cat.boundaryAt = none ∧ t.cat.next = s.cat.next ∧ keeps [.cat, .dev, .mpl, .ctx, .lnd, .tmp, .raised] s t) ∧
  (∀ (s : State), (Seq.mayAct s = false ∨ Seq.boundaryNow s = false) → completes .layerBoundary s fun t => t = s) ∧
  (∀ (s : State), s.pwr.rails = true → mayIssue s = true → s.txn.queue = [] → State.startedSet s = [] → completes .halt s fun t => t.dev.mode =
      .ready ∧ t.cat.mode = .idle ∧ t.cat.waiting = none ∧ State.rCat t D.iCAT_STATUS D.CAT_STATUS_LAYER_OPEN = 0 ∧ State.rDev t D.iDEV_STATE
      D.DEV_STATE_LAST_REASON = 2 ∧ (∀ c < 24, State.chOf t c ≠ .started ∧ State.chOf t c ≠ .done) ∧ keeps [.cat, .dev, .stk, .ldg, .flt, .ctx, .lnd,
      .mpl, .grd, .ilm, .raised] s t) ∧
  (∀ (s : State), s.pwr.rails = true → mayIssue s = true → s.txn.queue = [] → completes .halt s fun t => t.dev.mode = .ready ∧ t.cat.mode = .idle ∧
      t.cat.waiting = none ∧ State.rCat t D.iCAT_STATUS D.CAT_STATUS_LAYER_OPEN = 0 ∧ State.rDev t D.iDEV_STATE D.DEV_STATE_LAST_REASON = 2 ∧ (∀ c <
      24, State.chOf t c ≠ .started ∧ State.chOf t c ≠ .done) ∧ keeps [.cat, .dev, .txn, .ctx, .trj, .lnd, .mpl, .grd, .att, .ilm, .stk, .flt, .ldg,
      .raised, .free] s t) ∧
  (∀ (s : State) (target : Nat), s.pwr.rails = true → mayIssue s = true → target < 4096 → completes (.jump target) s fun t => t.cat.next = target ∧
      t.cat.waiting = none ∧ t.cat.mode = .issue ∧ State.rCat t D.iCAT_STATUS D.CAT_STATUS_PC = (Arith.toUnsigned 16 (s.cat.next : Int) : Int) ∧ keeps
      [.cat] s t) ∧
  (∀ (s : State) (target : Nat), 4096 ≤ target → completes (.jump target) s fun t => t = s) ∧
  (∀ (s : State) (flag target : Nat) (sense : Bool), s.pwr.rails = true → mayIssue s = true → flag ≤ 7 → target < 4096 → completes (.branchFlag flag
      sense target) s fun t => t.cat.next = (if Seq.flag s flag == sense then target else s.cat.next + 1) ∧ t.cat.waiting = none ∧ t.cat.mode = .issue
      ∧ State.rCat t D.iCAT_STATUS D.CAT_STATUS_PC = (Arith.toUnsigned 16 (s.cat.next : Int) : Int) ∧ keeps [.cat] s t) ∧
  (∀ (s : State) (flag target : Nat) (sense : Bool), (7 < flag ∨ 4096 ≤ target) → completes (.branchFlag flag sense target) s fun t => t = s) ∧
  (∀ (s : State) (level target : Nat), s.pwr.rails = true → mayIssue s = true → level ≤ 3 → target < 4096 → completes (.loop level 0 target) s fun t
      => t.cat.next = target ∧ t.cat.waiting = none ∧ t.cat.mode = .issue ∧ State.rCat t D.iCAT_STATUS D.CAT_STATUS_PC = (Arith.toUnsigned 16
      (s.cat.next : Int) : Int) ∧ (∀ c < 4, c ≠ level → Tab.find t.cat.loops c = Tab.find s.cat.loops c) ∧ keeps [.cat] s t) ∧
  (∀ (s : State) (level count target : Nat), s.pwr.rails = true → mayIssue s = true → level ≤ 3 → target < 4096 → 2 ≤ count → count < 65536 →
      ((Tab.find s.cat.loops level).map fun l => l.active && l.owner == s.cat.next).getD false = false → completes (.loop level count target) s fun t
      => t.cat.next = target ∧ t.cat.waiting = none ∧ t.cat.mode = .issue ∧ State.rCat t D.iCAT_STATUS D.CAT_STATUS_PC = (Arith.toUnsigned 16
      (s.cat.next : Int) : Int) ∧ Tab.find t.cat.loops level = some ⟨true, count - 1, s.cat.next⟩ ∧ (∀ c < 4, c ≠ level → Tab.find t.cat.loops c =
      Tab.find s.cat.loops c) ∧ keeps [.cat] s t) ∧
  (∀ (s : State) (level count target : Nat), s.pwr.rails = true → mayIssue s = true → level ≤ 3 → target < 4096 → count = 1 → ((Tab.find s.cat.loops
      level).map fun l => l.active && l.owner == s.cat.next).getD false = false → completes (.loop level count target) s fun t => t.cat.next =
      s.cat.next + 1 ∧ t.cat.waiting = none ∧ t.cat.mode = .issue ∧ State.rCat t D.iCAT_STATUS D.CAT_STATUS_PC = (Arith.toUnsigned 16 (s.cat.next :
      Int) : Int) ∧ (Tab.find t.cat.loops level).map (fun l => l.active) ≠ some true ∧ (∀ c < 4, c ≠ level → Tab.find t.cat.loops c = Tab.find
      s.cat.loops c) ∧ keeps [.cat] s t) ∧
  (∀ (s : State) (level count target : Nat) (n : Nat), s.pwr.rails = true → mayIssue s = true → level ≤ 3 → target < 4096 → 0 < count → count < 65536
      → Tab.find s.cat.loops level = some ⟨true, n, s.cat.next⟩ → 2 ≤ n → n < 65536 → completes (.loop level count target) s fun t => t.cat.next =
      target ∧ t.cat.waiting = none ∧ t.cat.mode = .issue ∧ State.rCat t D.iCAT_STATUS D.CAT_STATUS_PC = (Arith.toUnsigned 16 (s.cat.next : Int) :
      Int) ∧ Tab.find t.cat.loops level = some ⟨true, n - 1, s.cat.next⟩ ∧ (∀ c < 4, c ≠ level → Tab.find t.cat.loops c = Tab.find s.cat.loops c) ∧
      keeps [.cat] s t) ∧
  (∀ (s : State) (level count target : Nat), s.pwr.rails = true → mayIssue s = true → level ≤ 3 → target < 4096 → 0 < count → count < 65536 →
      Tab.find s.cat.loops level = some ⟨true, 1, s.cat.next⟩ → completes (.loop level count target) s fun t => t.cat.next = s.cat.next + 1 ∧
      t.cat.waiting = none ∧ t.cat.mode = .issue ∧ State.rCat t D.iCAT_STATUS D.CAT_STATUS_PC = (Arith.toUnsigned 16 (s.cat.next : Int) : Int) ∧
      (Tab.find t.cat.loops level).map (fun l => l.active) ≠ some true ∧ (∀ c < 4, c ≠ level → Tab.find t.cat.loops c = Tab.find s.cat.loops c) ∧
      keeps [.cat] s t) ∧
  (∀ (s : State) (level count target : Nat), (3 < level ∨ 4096 ≤ target) → completes (.loop level count target) s fun t => t = s)

/-- AXIS_MOVE of an axis that rests starts the move to its resolved target, with its own limits where it has some, after WAKING where the axis is off;
  GEAR_SET of one in HOLD writes the ratio and engages, of a geared one rebases or disengages it; CAPTURE of an idle port arms it or triggers a frame
  at once; STROBE arms its lamps on the port, and no other; GRID_SNAPSHOT arms the snapshot; STORE_OBJECT on a mounted store appends its write. With
  WAIT the step waits, else PC moves on. A unit that cannot take its step raises STEP_REFUSED with the entry and its OP and stays as it is; operands
  that R125 does not allow change nothing. Rests on R125, R135, R136, R137, R138, R238, R301, R322, R376, R387. -/
def Obligations.StepsDriveTheUnits : Prop :=
  (∀ (s : State) (a v acc : Nat) (rel : Bool) (x : Int), s.pwr.rails = true → mayIssue s = true → a < 8 → -2147483648 ≤ x → x ≤ 2147483647 → v < 2 ^
      32 → acc < 2 ^ 32 → (Ax.axis s a).mode = .hold → Ax.moveOk s a (Ax.resolve s a rel x) = true → Ax.resolve s a rel x ≠ (Ax.axis s a).pos →
      completes (.axisMove a rel x v acc) s fun t => (Ax.axis t a).mode = .moving ∧ (Ax.axis t a).goal = .target (Ax.resolve s a rel x) ∧ (Ax.axis t
      a).pos = (Ax.axis s a).pos ∧ (Ax.axis t a).cruise2 = (if v = 0 then ((Ax.reg s a D.AX_SPEED * Ax.reg s a D.AX_SPEED : Int) : Rat) else ((v * v :
      Nat) : Rat)) ∧ ((Ax.axis t a).acc, (Ax.axis t a).dec) = (if acc = 0 then ((Ax.reg s a D.AX_ACCEL).toNat, (Ax.reg s a D.AX_DECEL).toNat) else
      (acc, acc)) ∧ t.cat.next = s.cat.next + 1 ∧ t.cat.waiting = none ∧ t.cat.mode = .issue ∧ State.rCat t D.iCAT_STATUS D.CAT_STATUS_PC =
      (Arith.toUnsigned 16 (s.cat.next : Int) : Int) ∧ otherAxes a s t ∧ keeps [.cat, .ax] s t) ∧
  (∀ (s : State) (a v acc : Nat) (rel : Bool) (x : Int), s.pwr.rails = true → mayIssue s = true → a < 8 → -2147483648 ≤ x → x ≤ 2147483647 → v < 2 ^
      32 → acc < 2 ^ 32 → ((Ax.axis s a).mode = .restOff ∨ (Ax.axis s a).mode = .restShort) → Ax.moveOk s a (Ax.resolve s a rel x) = true → Ax.resolve
      s a rel x ≠ (Ax.axis s a).pos → completes (.axisMove a rel x v acc) s fun t => (Ax.axis t a).mode = .waking ∧ (Ax.axis t a).after = .moving ∧
      (Ax.axis t a).afterGoal = .target (Ax.resolve s a rel x) ∧ (Ax.axis t a).wakeUntil = s.tick + 1 + 2 * (Ax.reg s a D.AX_WAKE_DELAY).toNat ∧
      (Ax.axis t a).pos = (Ax.axis s a).pos ∧ (Ax.axis t a).cruise2 = (if v = 0 then ((Ax.reg s a D.AX_SPEED * Ax.reg s a D.AX_SPEED : Int) : Rat)
      else ((v * v : Nat) : Rat)) ∧ ((Ax.axis t a).acc, (Ax.axis t a).dec) = (if acc = 0 then ((Ax.reg s a D.AX_ACCEL).toNat, (Ax.reg s a
      D.AX_DECEL).toNat) else (acc, acc)) ∧ t.cat.next = s.cat.next + 1 ∧ t.cat.waiting = none ∧ t.cat.mode = .issue ∧ State.rCat t D.iCAT_STATUS
      D.CAT_STATUS_PC = (Arith.toUnsigned 16 (s.cat.next : Int) : Int) ∧ otherAxes a s t ∧ keeps [.cat, .ax] s t) ∧
  (∀ (s : State) (a v acc : Nat) (rel : Bool) (x : Int), s.pwr.rails = true → mayIssue s = true → a < 8 → -2147483648 ≤ x → x ≤ 2147483647 → v < 2 ^
      32 → acc < 2 ^ 32 → Ax.moveOk s a (Ax.resolve s a rel x) = false → completes (.axisMove a rel x v acc) s fun t => (Ax.axis t a) = (Ax.axis s a)
      ∧ lastRaised s (0x160 + a) 0x3F (s.cat.next % 65536 + 65536 * 0x10) t ∧ t.cat.next = s.cat.next + 1 ∧ t.cat.waiting = none ∧ t.cat.mode = .issue
      ∧ State.rCat t D.iCAT_STATUS D.CAT_STATUS_PC = (Arith.toUnsigned 16 (s.cat.next : Int) : Int) ∧ otherAxes a s t ∧ keeps [.cat, .ax, .raised] s t) ∧
  (∀ (s : State) (a v acc : Nat) (rel : Bool) (x : Int), 8 ≤ a → completes (.axisMove a rel x v acc) s fun t => t = s) ∧
  (∀ (s : State) (a e den : Nat) (num : Int), s.pwr.rails = true → mayIssue s = true → a < 8 → e < 8 → -2147483648 ≤ num → num ≤ 2147483647 → 1 ≤ den
      → den < 2 ^ 32 → (Ax.axis s a).mode = .hold → (Ax.axis s a).gear = none → Ax.devOk s = true → completes (.gearSet a e false num den) s fun t =>
      (Ax.axis t a).mode = .geared ∧ (Ax.axis t a).gear = some ⟨e, num, den, (Ax.axis s a).pos, 0, none⟩ ∧ (Ax.axis t a).goal = .target (Ax.axis s
      a).pos ∧ (Ax.axis t a).pos = (Ax.axis s a).pos ∧ t.cat.next = s.cat.next + 1 ∧ t.cat.waiting = none ∧ t.cat.mode = .issue ∧ State.rCat t
      D.iCAT_STATUS D.CAT_STATUS_PC = (Arith.toUnsigned 16 (s.cat.next : Int) : Int) ∧ otherAxes a s t ∧ keeps [.cat, .ax] s t) ∧
  (∀ (s : State) (a e den : Nat) (num : Int), s.pwr.rails = true → mayIssue s = true → a < 8 → e < 8 → -2147483648 ≤ num → num ≤ 2147483647 → 1 ≤ den
      → den < 2 ^ 32 → ((Ax.axis s a).mode = .restOff ∨ (Ax.axis s a).mode = .restShort) → Ax.devOk s = true → completes (.gearSet a e false num den)
      s fun t => (Ax.axis t a).mode = .waking ∧ (Ax.axis t a).after = .geared ∧ (Ax.axis t a).pos = (Ax.axis s a).pos ∧ (Ax.gearReg t a 0, Ax.gearReg
      t a 1, Ax.gearReg t a 2) = ((e : Int), num, (den : Int)) ∧ t.cat.next = s.cat.next + 1 ∧ t.cat.waiting = none ∧ t.cat.mode = .issue ∧ State.rCat
      t D.iCAT_STATUS D.CAT_STATUS_PC = (Arith.toUnsigned 16 (s.cat.next : Int) : Int) ∧ otherAxes a s t ∧ keeps [.cat, .ax] s t) ∧
  (∀ (s : State) (a e den : Nat) (num : Int) (g : AxGear), s.pwr.rails = true → mayIssue s = true → a < 8 → e < 8 → -2147483648 ≤ num → num ≤
      2147483647 → 1 ≤ den → den < 2 ^ 32 → (Ax.axis s a).mode = .geared → (Ax.axis s a).gear = some g → Ax.devOk s = true → completes (.gearSet a e
      false num den) s fun t => (Ax.axis t a).mode = .geared ∧ (Ax.axis t a).gear = some ⟨e, num, den, Ax.gearCommand g, 0, g.armed⟩ ∧ (Ax.axis t
      a).pos = (Ax.axis s a).pos ∧ t.cat.next = s.cat.next + 1 ∧ t.cat.waiting = none ∧ t.cat.mode = .issue ∧ State.rCat t D.iCAT_STATUS
      D.CAT_STATUS_PC = (Arith.toUnsigned 16 (s.cat.next : Int) : Int) ∧ otherAxes a s t ∧ keeps [.cat, .ax] s t) ∧
  (∀ (s : State) (a e den : Nat) (num : Int), s.pwr.rails = true → mayIssue s = true → a < 8 → e < 8 → -2147483648 ≤ num → num ≤ 2147483647 → 1 ≤ den
      → den < 2 ^ 32 → (Ax.axis s a).mode = .geared → completes (.gearSet a e true num den) s fun t => (Ax.axis t a).mode = .stopping ∧ (Ax.axis t
      a).goal = .stop (Ax.reg s a D.AX_DECEL).toNat ∧ (Ax.axis t a).gear = none ∧ (Ax.axis t a).pos = (Ax.axis s a).pos ∧ t.cat.next = s.cat.next + 1
      ∧ t.cat.waiting = none ∧ t.cat.mode = .issue ∧ State.rCat t D.iCAT_STATUS D.CAT_STATUS_PC = (Arith.toUnsigned 16 (s.cat.next : Int) : Int) ∧
      otherAxes a s t ∧ keeps [.cat, .ax] s t) ∧
  (∀ (s : State) (a e den : Nat) (num : Int) (d : Bool), s.pwr.rails = true → mayIssue s = true → a < 8 → e < 8 → -2147483648 ≤ num → num ≤
      2147483647 → 1 ≤ den → den < 2 ^ 32 → Ax.gearStepOk s a d = false → completes (.gearSet a e d num den) s fun t => (Ax.axis t a) = (Ax.axis s a)
      ∧ lastRaised s (0x160 + a) 0x3F (s.cat.next % 65536 + 65536 * 0x12) t ∧ t.cat.next = s.cat.next + 1 ∧ t.cat.waiting = none ∧ t.cat.mode = .issue
      ∧ State.rCat t D.iCAT_STATUS D.CAT_STATUS_PC = (Arith.toUnsigned 16 (s.cat.next : Int) : Int) ∧ otherAxes a s t ∧ keeps [.cat, .ax, .raised] s t) ∧
  (∀ (s : State) (a e den : Nat) (num : Int) (d : Bool), (8 ≤ a ∨ 8 ≤ e ∧ e < 256 ∨ den = 0) → completes (.gearSet a e d num den) s fun t => t = s) ∧
  (∀ (s : State) (p : Nat) (armed wait folio : Bool), s.pwr.rails = true → mayIssue s = true → armed = true → Img.canCapture s p = true → completes
      (.capture p true wait folio) s fun t => (Ilm.portOf t p) = { Ilm.portOf s p with mode := .armed, folio := folio, event := false } ∧ (wait =
      false → t.cat.next = s.cat.next + 1 ∧ t.cat.waiting = none) ∧ (wait = true → t.cat.waiting = some ⟨0x20, p, armed.toNat + 2 * wait.toNat + 4 *
      folio.toNat, 0, 0, 0⟩ ∧ t.cat.mode = .wait) ∧ State.rCat t D.iCAT_STATUS D.CAT_STATUS_PC = (Arith.toUnsigned 16 (s.cat.next : Int) : Int) ∧
      otherPorts p s t ∧ keeps [.cat, .img] s t) ∧
  (∀ (s : State) (p : Nat) (armed wait folio : Bool), s.pwr.rails = true → mayIssue s = true → armed = false → Img.canCapture s p = true →
      s.txn.queue = [] → (Img.inlineOf s p = true ∨ Img.rawUsed s p < 2) → completes (.capture p false wait folio) s fun t => (Ilm.portOf t p).mode =
      .exposing ∧ (Img.frameOf t p).map (fun f => (f.no, f.trigTick, f.folio)) = some ((Img.cam s p D.CAM_FRAME_NO + 1) % 2 ^ 32, s.tick, folio) ∧
      (wait = false → t.cat.next = s.cat.next + 1 ∧ t.cat.waiting = none) ∧ (wait = true → t.cat.waiting = some ⟨0x20, p, armed.toNat + 2 * wait.toNat
      + 4 * folio.toNat, 0, 0, 0⟩ ∧ t.cat.mode = .wait) ∧ State.rCat t D.iCAT_STATUS D.CAT_STATUS_PC = (Arith.toUnsigned 16 (s.cat.next : Int) : Int)
      ∧ otherPorts p s t ∧ keeps [.cat, .img, .ilm, .raised] s t) ∧
  (∀ (s : State) (p : Nat) (armed wait folio : Bool), s.pwr.rails = true → mayIssue s = true → p < 4 → Img.canCapture s p = false → completes
      (.capture p armed wait folio) s fun t => lastRaised s (0x100 + p) 0x3F (s.cat.next % 65536 + 65536 * 0x20) t ∧ t.cat.next = s.cat.next + 1 ∧
      t.cat.waiting = none ∧ t.cat.mode = .issue ∧ State.rCat t D.iCAT_STATUS D.CAT_STATUS_PC = (Arith.toUnsigned 16 (s.cat.next : Int) : Int) ∧ keeps
      [.cat, .raised] s t) ∧
  (∀ (s : State) (p : Nat) (armed wait folio : Bool), 4 ≤ p → completes (.capture p armed wait folio) s fun t => t = s) ∧
  (∀ (s : State) (p mask : Nat), s.pwr.rails = true → mayIssue s = true → p < 4 → mask < 2 ^ 16 → Ilm.blocked s mask = none → completes (.strobe p
      mask) s fun t => (∀ l < 16, Ilm.lampOf t l = (if Arith.bit mask l then { Ilm.lampOf s l with armed := some p, lastPort := some p } else
      Ilm.lampOf s l)) ∧ t.cat.next = s.cat.next + 1 ∧ t.cat.waiting = none ∧ t.cat.mode = .issue ∧ State.rCat t D.iCAT_STATUS D.CAT_STATUS_PC =
      (Arith.toUnsigned 16 (s.cat.next : Int) : Int) ∧ keeps [.cat, .ilm, .raised] s t) ∧
  (∀ (s : State) (p mask l : Nat), s.pwr.rails = true → mayIssue s = true → p < 4 → mask < 2 ^ 16 → Ilm.blocked s mask = some l → completes (.strobe
      p mask) s fun t => lastRaised s (0x130 + l) 0x3F (s.cat.next % 65536 + 65536 * 0x21) t ∧ t.cat.next = s.cat.next + 1 ∧ t.cat.waiting = none ∧
      t.cat.mode = .issue ∧ State.rCat t D.iCAT_STATUS D.CAT_STATUS_PC = (Arith.toUnsigned 16 (s.cat.next : Int) : Int) ∧ keeps [.cat, .raised] s t) ∧
  (∀ (s : State) (p mask : Nat), (4 ≤ p ∨ 2 ^ 16 ≤ mask) → completes (.strobe p mask) s fun t => t = s) ∧
  (∀ (s : State) (folio wait : Bool), s.pwr.rails = true → mayIssue s = true → Grid.snapOk s = true → completes (.gridSnapshot folio wait) s fun t =>
      t.grd.snapMode = .armed ∧ t.grd.snapFolio = folio ∧ (wait = false → t.cat.next = s.cat.next + 1 ∧ t.cat.waiting = none) ∧ (wait = true →
      t.cat.waiting = some ⟨0x22, 0, folio.toNat + 2 * wait.toNat, 0, 0, 0⟩ ∧ t.cat.mode = .wait) ∧ State.rCat t D.iCAT_STATUS D.CAT_STATUS_PC =
      (Arith.toUnsigned 16 (s.cat.next : Int) : Int) ∧ keeps [.cat, .grd] s t) ∧
  (∀ (s : State) (folio wait : Bool), s.pwr.rails = true → mayIssue s = true → Grid.snapOk s = false → completes (.gridSnapshot folio wait) s fun t
      => lastRaised s (0xF0) 0x3F (s.cat.next % 65536 + 65536 * 0x22) t ∧ t.cat.next = s.cat.next + 1 ∧ t.cat.waiting = none ∧ t.cat.mode = .issue ∧
      State.rCat t D.iCAT_STATUS D.CAT_STATUS_PC = (Arith.toUnsigned 16 (s.cat.next : Int) : Int) ∧ keeps [.cat, .raised] s t) ∧
  (∀ (s : State) (kind port : Nat) (wait : Bool), s.pwr.rails = true → mayIssue s = true → 1 ≤ kind → kind ≤ 3 → (if kind = 1 then port ≤ 3 else port
      = 0) → s.stk.mode = .mounted → completes (.storeObject kind wait port) s fun t => t.stk.writes.length = s.stk.writes.length + 1 ∧
      t.stk.writes.getLast?.map (fun w => (w.kind, w.job, w.layer, w.unit, w.wait)) = some (kind, Stk.ctl s D.STK_CTRL_JOB, State.layerNo s, (if kind
      = 1 then port else 0), wait) ∧ (wait = false → t.cat.next = s.cat.next + 1 ∧ t.cat.waiting = none) ∧ (wait = true → t.cat.waiting = some ⟨0x23,
      kind, wait.toNat, port, 0, 0⟩ ∧ t.cat.mode = .wait) ∧ State.rCat t D.iCAT_STATUS D.CAT_STATUS_PC = (Arith.toUnsigned 16 (s.cat.next : Int) :
      Int) ∧ keeps [.cat, .stk, .grd] s t) ∧
  (∀ (s : State) (kind port : Nat) (wait : Bool), s.pwr.rails = true → mayIssue s = true → 1 ≤ kind → kind ≤ 3 → (if kind = 1 then port ≤ 3 else port
      = 0) → s.stk.mode = .readOnly → completes (.storeObject kind wait port) s fun t => t.stk = s.stk ∧ lastRaised s 0x158 2 (State.freeVal s % 2 ^
      32) t ∧ (wait = false → t.cat.next = s.cat.next + 1 ∧ t.cat.waiting = none) ∧ (wait = true → t.cat.waiting = some ⟨0x23, kind, wait.toNat, port,
      0, 0⟩ ∧ t.cat.mode = .wait) ∧ State.rCat t D.iCAT_STATUS D.CAT_STATUS_PC = (Arith.toUnsigned 16 (s.cat.next : Int) : Int) ∧ keeps [.cat, .grd,
      .raised, .free] s t) ∧
  (∀ (s : State) (kind port : Nat) (wait : Bool), s.pwr.rails = true → mayIssue s = true → 1 ≤ kind → kind ≤ 3 → (if kind = 1 then port ≤ 3 else port
      = 0) → Stk.up s = false → completes (.storeObject kind wait port) s fun t => lastRaised s (0x158) 0x3F (s.cat.next % 65536 + 65536 * 0x23) t ∧
      t.cat.next = s.cat.next + 1 ∧ t.cat.waiting = none ∧ t.cat.mode = .issue ∧ State.rCat t D.iCAT_STATUS D.CAT_STATUS_PC = (Arith.toUnsigned 16
      (s.cat.next : Int) : Int) ∧ keeps [.cat, .raised] s t) ∧
  (∀ (s : State) (kind port : Nat) (wait : Bool), (kind = 0 ∨ 3 < kind ∨ kind ≠ 1 ∧ port ≠ 0 ∨ 3 < port) → completes (.storeObject kind wait port) s
      fun t => t = s)

/-- For every command c and state s with c at the front of its queue, step s is exec c on s with the rest of the queue. With an empty queue step answers s
  itself (the model's choice, log entry 4). Rests on 00_scope.md. -/
def Obligations.StepRunsFront : Prop :=
  (∀ (c : Instr) (rest : List Instr) (s : State), s.pending = c :: rest → step s = exec c { s with pending := rest }) ∧
  (∀ s : State, s.pending = [] → step s = .next s)

/-- For every command and every state, exec answers a next state, and the queue of waiting commands is in it as it was: no command of the table faults or
  is refused (log entry 1: an event that cannot arise changes nothing). Rests on 95_what_each_step_holds.md. -/
def Obligations.EveryCommandCompletes : Prop :=
  ∀ (c : Instr) (s : State), completes c s fun t => t.pending = s.pending

/-- For every command and state: TICK is as it was, or the command is a TICK while the VEC clock runs and TICK is one more, or the command is one that can
  start the core domain, the device is then in BOOT and TICK is 0. Fault kinds, host writes and time adjustments are among the commands that leave it.
  Rests on R4, R13, R498, R499. -/
def Obligations.TickMovesOnlyByTick : Prop :=
  ∀ (c : Instr) (s t : State), exec c s = .next t →
    t.tick = s.tick ∨
    ((∃ inp : TickIn, c = .tick inp) ∧ Tick.runs s = true ∧ t.tick = s.tick + 1) ∨
    (bootsModule c = true ∧ t.tick = 0 ∧ t.dev.mode = .boot)

/-- For every bound N and state s whose TICK and waiting TICKs together are within N, the state that step answers is within N as well: no step skips a
  TICK value ahead of the TICKs sent. Rests on R4, R13, R499. -/
def Obligations.TickBudgetIsKept : Prop :=
  ∀ (N : Nat) (s t : State), s.tick + ticksQueued s.pending ≤ N → step s = .next t → t.tick + ticksQueued t.pending ≤ N

/-- State.reset has TICK 0 and BTICK 0, the device state BOOT with start-up step 1a in progress, the core rails on, no message raised, no transaction and
  no command waiting; TICK and the waiting TICKs together are 0. The registers start at their defaults. Rests on R4, R14, R23, R498, R499. -/
def Obligations.ResetIsTheStartOfBoot : Prop :=
  State.reset.tick = 0 ∧ State.reset.btick = 0 ∧ State.reset.dev.mode = .boot ∧ State.reset.pwr.boot = some .rails ∧ State.reset.pwr.rails = true ∧
  State.reset.raised = [] ∧ State.reset.pending = [] ∧ State.reset.txn.queue = [] ∧ State.reset.tick + ticksQueued State.reset.pending ≤ 0 ∧
  (∀ n, n < 256 → State.rTrj State.reset (D.iPS + n) D.PS_P_MIN = 0 ∧ State.rTrj State.reset (D.iPS + n) D.PS_P_MAX = 0)

/-- With the core rails off, every command but those of the standby domain, of the supply and of the laser interlock leaves the whole state as it is; TICK
  does not advance. Rests on R498, R499, R500. -/
def Obligations.CoreStandsStillWithoutRails : Prop :=
  ∀ (c : Instr) (s : State), s.pwr.rails = false → ofStandby c = false → exec c s = .next s

/-- A write of DEV_STATE.CMD over an open path whose code is not allowed in the present state, or whose condition is not met, answers STATE and changes
  LAST_REFUSED alone in the state that the collection of its CORE cycle left (R24). The seven commands are these writes, and codes 0 and 8 to 255 are
  always refused. Rests on R22. -/
def Obligations.StateCommandsAreRefused : Prop :=
  (∀ (p v : Nat) (s : State), pathOpen p D.iDEV_STATE s = true → v ≤ 255 → Seq.cmdOk (Flt.collect s) v = false →
    Write.write p D.iDEV_STATE D.DEV_STATE_CMD (.num v) s = (State.wDev (Flt.collect s) D.iDEV_STATE D.DEV_STATE_LAST_REFUSED v, .state)) ∧
  (∀ (s : State) (v : Nat), v ≤ 255 → State.rDev (State.wDev s D.iDEV_STATE D.DEV_STATE_LAST_REFUSED v) D.iDEV_STATE D.DEV_STATE_LAST_REFUSED = v) ∧
  (∀ (s : State) (v : Nat), v = 0 ∨ 8 ≤ v → Seq.cmdOk s v = false) ∧
  (∀ (c : Instr) (v : Nat) (s : State),
    (c, v) ∈ [(Instr.goReady, 1), (.goService, 2), (.startBuild, 3), (.pause, 4), (.resume, 5), (.stop, 6), (.safe, 7)] →
    pathOpen 0 D.iDEV_STATE s = true → Seq.cmdOk (Flt.collect s) v = false →
    exec c s = .next { State.wDev (Flt.collect s) D.iDEV_STATE D.DEV_STATE_LAST_REFUSED v with tick := s.tick, pending := s.pending })

/-- With a transaction open on the path, TXN_ROLLBACK completes: the path has none, the other paths keep theirs, and a record stays locked only by a
  committed transaction or by another path's. Whatever the state, a roll-back leaves the queue of committed transactions as it is. Rests on R63. -/
def Obligations.RollbackDiscardsAndReleases : Prop :=
  (∀ (p : Nat) (x : Txn) (s : State), pathOpen p D.iTXN_CTRL s = true → (State.pathOf s p).txn = some x → Tab.wf Path.init s.txn.paths = true →
    completes (.txnRollback p) s fun t =>
      (State.pathOf t p).txn = none ∧ t.txn.queue = s.txn.queue ∧ (∀ q, q ≠ p → State.pathOf t q = State.pathOf s q) ∧
      (∀ q idx : Nat, Write.locked t q idx = true →
        (s.txn.queue.any fun y => y.writes.any fun w => w.idx == idx) = true ∨
        ∃ (r : Nat) (y : Txn), r ≠ q ∧ r ≠ p ∧ (State.pathOf s r).txn = some y ∧ (y.writes.any fun w => w.idx == idx) = true) ∧
      keeps [.txn] s t) ∧
  (∀ (p : Nat) (s t : State), exec (.txnRollback p) s = .next t → t.txn.queue = s.txn.queue)

/-- A plain write of P_MIN or P_MAX over an open path that would leave P_MIN > P_MAX in its set answers RANGE and changes nothing. TXN_COMMIT of a
  transaction that writes to a set and would leave P_MIN > P_MAX in it answers INCONSISTENT, and the transaction stays open. Rests on R92. -/
def Obligations.PowerLimitsKeepTheirOrder : Prop :=
  (∀ (p n sub v : Nat) (s : State), n < 256 → pathOpen p (D.iPS + n) s = true → (State.pathOf s p).txn = none → v ≤ 65535 →
    (sub = D.PS_P_MIN ∧ State.rTrj s (D.iPS + n) D.PS_P_MAX < (v : Int) ∨ sub = D.PS_P_MAX ∧ (v : Int) < State.rTrj s (D.iPS + n) D.PS_P_MIN) →
    Write.write p (D.iPS + n) sub (.num v) s = (s, .range)) ∧
  (∀ (p n : Nat) (x : Txn) (w : Staged) (s after : State), n < 256 → pathOpen p D.iTXN_CTRL s = true → (State.pathOf s p).txn = some x →
    w ∈ x.writes → w.idx = D.iPS + n →
    after = Apply.preview x.path x.writes (s.txn.queue.foldl (fun u q => Apply.preview q.path q.writes u) s) →
    State.rTrj after (D.iPS + n) D.PS_P_MAX < State.rTrj after (D.iPS + n) D.PS_P_MIN →
    (Write.write p D.iTXN_CTRL D.TXN_CTRL_CMD (.num 2) s).2 = .inconsistent ∧
    completes (.txnCommit p) s fun t => (State.pathOf t p).txn = some x ∧ t.trj = s.trj ∧ t.txn.queue = s.txn.queue ∧
      Read.stored t p D.iTXN_CTRL D.TXN_CTRL_LAST_RESULT = 0x0D)
end

