-- ==== Sys2Proof/Laws/Tab.lean ====
section
/-!
SUPPORT. Tables and register files: reading after writing, and the canonical form that every write keeps.
-/
namespace Sys2Proof.Machine

variable {α : Type}

/-! ### Reading after writing -/

theorem Tab.find_ins_same (m : Tab α) (i : Nat) (v : α) : Tab.find (Tab.ins m i v) i = some v := by
  induction m with
  | nil => simp [Tab.ins, Tab.find]
  | cons c m ih =>
    obtain ⟨k, w⟩ := c
    unfold Tab.ins
    split
    · simp [Tab.find]
    · split
      · simp [Tab.find]
      · simp only [Tab.find]; split
        · contradiction
        · exact ih

theorem Tab.find_ins_other (m : Tab α) {i j : Nat} (v : α) (h : j ≠ i) : Tab.find (Tab.ins m i v) j = Tab.find m j := by
  induction m with
  | nil => simp [Tab.ins, Tab.find, h]
  | cons c m ih =>
    obtain ⟨k, w⟩ := c
    unfold Tab.ins
    split
    · simp [Tab.find, h]
    · split
      · subst_vars; simp [Tab.find, h]
      · simp only [Tab.find, ih]

theorem Tab.find_del_same (m : Tab α) (i : Nat) : Tab.find (Tab.del m i) i = none := by
  induction m with
  | nil => rfl
  | cons c m ih =>
    obtain ⟨k, w⟩ := c
    unfold Tab.del
    split
    · exact ih
    · simp only [Tab.find]; split
      · contradiction
      · exact ih

theorem Tab.find_del_other (m : Tab α) {i j : Nat} (h : j ≠ i) : Tab.find (Tab.del m i) j = Tab.find m j := by
  induction m with
  | nil => rfl
  | cons c m ih =>
    obtain ⟨k, w⟩ := c
    unfold Tab.del
    split
    · subst_vars; simp [Tab.find, h, ih]
    · simp only [Tab.find, ih]

variable [DecidableEq α] (d : Nat → α)

@[simp] theorem Tab.get_set_same (m : Tab α) (i : Nat) (v : α) : Tab.get d (Tab.set d m i v) i = v := by
  unfold Tab.get Tab.set
  by_cases h : v = d i
  · simp [h, Tab.find_del_same]
  · simp [h, Tab.find_ins_same]

theorem Tab.get_set_other (m : Tab α) {i j : Nat} (v : α) (h : j ≠ i) : Tab.get d (Tab.set d m i v) j = Tab.get d m j := by
  unfold Tab.get Tab.set
  by_cases hv : v = d i
  · simp [hv, Tab.find_del_other m h]
  · simp [hv, Tab.find_ins_other m v h]

/-! ### The canonical form -/

theorem Tab.wfFrom_mono {lo lo' : Nat} (m : Tab α) (h : lo' ≤ lo) (w : Tab.wfFrom d lo m = true) : Tab.wfFrom d lo' m = true := by
  cases m with
  | nil => rfl
  | cons c m =>
    obtain ⟨k, x⟩ := c
    simp only [Tab.wfFrom, Bool.and_eq_true, decide_eq_true_eq] at w ⊢
    exact ⟨⟨by omega, w.1.2⟩, w.2⟩

theorem Tab.wfFrom_ins (m : Tab α) (lo i : Nat) (v : α) (hv : v ≠ d i) (h : lo ≤ i) (w : Tab.wfFrom d lo m = true) :
    Tab.wfFrom d lo (Tab.ins m i v) = true := by
  induction m generalizing lo with
  | nil => simp [Tab.ins, Tab.wfFrom, h, hv]
  | cons c m ih =>
    obtain ⟨k, x⟩ := c
    simp only [Tab.wfFrom, Bool.and_eq_true, decide_eq_true_eq] at w
    unfold Tab.ins
    split
    · simp only [Tab.wfFrom, Bool.and_eq_true, decide_eq_true_eq]
      exact ⟨⟨h, hv⟩, ⟨by omega, w.1.2⟩, w.2⟩
    · split
      · subst_vars
        simp only [Tab.wfFrom, Bool.and_eq_true, decide_eq_true_eq]
        exact ⟨⟨h, hv⟩, w.2⟩
      · simp only [Tab.wfFrom, Bool.and_eq_true, decide_eq_true_eq]
        exact ⟨w.1, ih (k + 1) (by omega) w.2⟩

theorem Tab.wfFrom_del (m : Tab α) (lo i : Nat) (w : Tab.wfFrom d lo m = true) : Tab.wfFrom d lo (Tab.del m i) = true := by
  induction m generalizing lo with
  | nil => rfl
  | cons c m ih =>
    obtain ⟨k, x⟩ := c
    simp only [Tab.wfFrom, Bool.and_eq_true, decide_eq_true_eq] at w
    unfold Tab.del
    split
    · exact Tab.wfFrom_mono d (Tab.del m i) (by omega) (ih (k + 1) w.2)
    · simp only [Tab.wfFrom, Bool.and_eq_true, decide_eq_true_eq]
      exact ⟨w.1, ih (k + 1) w.2⟩

/-- Setting a value keeps a table in its canonical form. -/
theorem Tab.wf_set (m : Tab α) (i : Nat) (v : α) (w : Tab.wf d m = true) : Tab.wf d (Tab.set d m i v) = true := by
  unfold Tab.set Tab.wf at *
  by_cases h : v = d i
  · simpa [h] using Tab.wfFrom_del d m 0 i w
  · simpa [h] using Tab.wfFrom_ins d m 0 i v h (Nat.zero_le _) w

/-! ### Register files -/

theorem Regs.get_set_same {rows : List Dict.Row} {k : Nat} {r : Dict.Row} (h : Dict.find rows (k / 256 % 65536) (k % 256) = some r) (m : Regs) (v : Int) :
    Regs.get rows (Regs.set rows m k v) k = Dict.norm r.ty v := by
  simp [Regs.get, Regs.set, h]

theorem Regs.get_set_other (rows : List Dict.Row) {k j : Nat} (m : Regs) (v : Int) (h : j ≠ k) :
    Regs.get rows (Regs.set rows m k v) j = Regs.get rows m j := by
  unfold Regs.get Regs.set
  split
  · exact Tab.get_set_other _ m _ h
  · rfl

/-! ### Every listed value is one its entry can hold -/

theorem Arith.toUnsigned_mod (n : Nat) (v : Int) : ((Arith.toUnsigned n v : Nat) : Int) = v % ((2 ^ n : Nat) : Int) := by
  have h : ((2 ^ n : Nat) : Int) ≠ 0 := by have := Nat.two_pow_pos n; omega
  exact Int.toNat_of_nonneg (Int.emod_nonneg v h)

theorem Arith.toUnsigned_lt (n : Nat) (v : Int) : Arith.toUnsigned n v < 2 ^ n := by
  have h : (0 : Int) < ((2 ^ n : Nat) : Int) := by have := Nat.two_pow_pos n; omega
  have := Arith.toUnsigned_mod n v
  have := Int.emod_lt_of_pos v h
  omega

theorem Arith.toUnsigned_idem (n : Nat) (v : Int) : Arith.toUnsigned n ((Arith.toUnsigned n v : Nat) : Int) = Arith.toUnsigned n v := by
  have := Arith.toUnsigned_mod n ((Arith.toUnsigned n v : Nat) : Int)
  rw [Arith.toUnsigned_mod n v, Int.emod_emod] at this
  have h := Arith.toUnsigned_mod n v
  rw [Arith.toUnsigned_mod n v]; omega

theorem Arith.toUnsigned_toSigned (n w : Nat) (h : w < 2 ^ n) : Arith.toUnsigned n (Arith.toSigned n w) = w := by
  have hw : w % 2 ^ n = w := Nat.mod_eq_of_lt h
  have e := Arith.toUnsigned_mod n (Arith.toSigned n w)
  have c : Arith.toSigned n w % ((2 ^ n : Nat) : Int) = (w : Int) := by
    simp only [Arith.toSigned, hw]
    split
    · exact Int.emod_eq_of_lt (by omega) (by omega)
    · rw [Int.sub_emod_right]; exact Int.emod_eq_of_lt (by omega) (by omega)
  omega

/-- What a type holds is held as it is. -/
theorem Dict.norm_norm (t : Dict.Ty) (v : Int) : Dict.norm t (Dict.norm t v) = Dict.norm t v := by
  cases t <;> simp only [Dict.norm, Dict.signed, if_true, Bool.false_eq_true, if_false, Arith.toUnsigned_idem]
  · split <;> simp
  all_goals rw [Arith.toUnsigned_toSigned _ _ (Arith.toUnsigned_lt _ _)]

theorem Tab.all_ins {α : Type} (q : Nat × α → Bool) (m : Tab α) (i : Nat) (v : α) (hv : q (i, v) = true) (h : m.all q = true) :
    (Tab.ins m i v).all q = true := by
  induction m with
  | nil => simp [Tab.ins, hv]
  | cons c m ih =>
    obtain ⟨k, w⟩ := c
    simp only [List.all_cons, Bool.and_eq_true] at h
    unfold Tab.ins
    split
    · simp [hv, h.1, h.2]
    · split
      · simp [hv, h.2]
      · simp [h.1, ih h.2]

theorem Tab.all_del {α : Type} (q : Nat × α → Bool) (m : Tab α) (i : Nat) (h : m.all q = true) : (Tab.del m i).all q = true := by
  induction m with
  | nil => rfl
  | cons c m ih =>
    obtain ⟨k, w⟩ := c
    simp only [List.all_cons, Bool.and_eq_true] at h
    unfold Tab.del
    split
    · exact ih h.2
    · simp [h.1, ih h.2]

/-- A register write keeps the canonical form of its file. -/
theorem Regs.wf_set (rows : List Dict.Row) (m : Regs) (k : Nat) (v : Int) (w : Regs.wf rows m = true) : Regs.wf rows (Regs.set rows m k v) = true := by
  unfold Regs.set
  split
  · rename_i r hr
    simp only [Regs.wf, Bool.and_eq_true] at w ⊢
    refine ⟨Tab.wf_set _ m k _ w.1, ?_⟩
    unfold Tab.set
    split
    · exact Tab.all_del _ m k w.2
    · exact Tab.all_ins _ m k _ (by simp [Regs.inType, hr, Dict.norm_norm]) w.2
  · exact w

end Sys2Proof.Machine
end

