-- ==== Sys2Proof/Laws/State.lean ====
section
/-!
SUPPORT. Every field of the state after every basic update of it, and the reading of a unit or of a register after it was set.
-/
namespace Sys2Proof.Machine

/-! ### Fields after an update: the register file that was written need not be opened to see that the other fields stand -/

section

seal Regs.set Regs.inc

@[simp] theorem Ax.setAxis_tick (s : State) (a : Nat) (x : Axis) : (Ax.setAxis s a x).tick = s.tick := rfl
@[simp] theorem Ax.setAxis_btick (s : State) (a : Nat) (x : Axis) : (Ax.setAxis s a x).btick = s.btick := rfl
@[simp] theorem Ax.setAxis_dev (s : State) (a : Nat) (x : Axis) : (Ax.setAxis s a x).dev = s.dev := rfl
@[simp] theorem Ax.setAxis_txn (s : State) (a : Nat) (x : Axis) : (Ax.setAxis s a x).txn = s.txn := rfl
@[simp] theorem Ax.setAxis_ctx (s : State) (a : Nat) (x : Axis) : (Ax.setAxis s a x).ctx = s.ctx := rfl
@[simp] theorem Ax.setAxis_trj (s : State) (a : Nat) (x : Axis) : (Ax.setAxis s a x).trj = s.trj := rfl
@[simp] theorem Ax.setAxis_lnd (s : State) (a : Nat) (x : Axis) : (Ax.setAxis s a x).lnd = s.lnd := rfl
@[simp] theorem Ax.setAxis_cat (s : State) (a : Nat) (x : Axis) : (Ax.setAxis s a x).cat = s.cat := rfl
@[simp] theorem Ax.setAxis_mpl (s : State) (a : Nat) (x : Axis) : (Ax.setAxis s a x).mpl = s.mpl := rfl
@[simp] theorem Ax.setAxis_grd (s : State) (a : Nat) (x : Axis) : (Ax.setAxis s a x).grd = s.grd := rfl
@[simp] theorem Ax.setAxis_lnk (s : State) (a : Nat) (x : Axis) : (Ax.setAxis s a x).lnk = s.lnk := rfl
@[simp] theorem Ax.setAxis_att (s : State) (a : Nat) (x : Axis) : (Ax.setAxis s a x).att = s.att := rfl
@[simp] theorem Ax.setAxis_img (s : State) (a : Nat) (x : Axis) : (Ax.setAxis s a x).img = s.img := rfl
@[simp] theorem Ax.setAxis_ilm (s : State) (a : Nat) (x : Axis) : (Ax.setAxis s a x).ilm = s.ilm := rfl
@[simp] theorem Ax.setAxis_fol (s : State) (a : Nat) (x : Axis) : (Ax.setAxis s a x).fol = s.fol := rfl
@[simp] theorem Ax.setAxis_stk (s : State) (a : Nat) (x : Axis) : (Ax.setAxis s a x).stk = s.stk := rfl
@[simp] theorem Ax.setAxis_net (s : State) (a : Nat) (x : Axis) : (Ax.setAxis s a x).net = s.net := rfl
@[simp] theorem Ax.setAxis_flt (s : State) (a : Nat) (x : Axis) : (Ax.setAxis s a x).flt = s.flt := rfl
@[simp] theorem Ax.setAxis_ldg (s : State) (a : Nat) (x : Axis) : (Ax.setAxis s a x).ldg = s.ldg := rfl
@[simp] theorem Ax.setAxis_tmp (s : State) (a : Nat) (x : Axis) : (Ax.setAxis s a x).tmp = s.tmp := rfl
@[simp] theorem Ax.setAxis_pwr (s : State) (a : Nat) (x : Axis) : (Ax.setAxis s a x).pwr = s.pwr := rfl
@[simp] theorem Ax.setAxis_raised (s : State) (a : Nat) (x : Axis) : (Ax.setAxis s a x).raised = s.raised := rfl
@[simp] theorem Ax.setAxis_free (s : State) (a : Nat) (x : Axis) : (Ax.setAxis s a x).free = s.free := rfl
@[simp] theorem Ax.setAxis_pending (s : State) (a : Nat) (x : Axis) : (Ax.setAxis s a x).pending = s.pending := rfl

@[simp] theorem Ax.modEnc_tick (s : State) (e : Nat) (f : Enc → Enc) : (Ax.modEnc s e f).tick = s.tick := rfl
@[simp] theorem Ax.modEnc_btick (s : State) (e : Nat) (f : Enc → Enc) : (Ax.modEnc s e f).btick = s.btick := rfl
@[simp] theorem Ax.modEnc_dev (s : State) (e : Nat) (f : Enc → Enc) : (Ax.modEnc s e f).dev = s.dev := rfl
@[simp] theorem Ax.modEnc_txn (s : State) (e : Nat) (f : Enc → Enc) : (Ax.modEnc s e f).txn = s.txn := rfl
@[simp] theorem Ax.modEnc_ctx (s : State) (e : Nat) (f : Enc → Enc) : (Ax.modEnc s e f).ctx = s.ctx := rfl
@[simp] theorem Ax.modEnc_trj (s : State) (e : Nat) (f : Enc → Enc) : (Ax.modEnc s e f).trj = s.trj := rfl
@[simp] theorem Ax.modEnc_lnd (s : State) (e : Nat) (f : Enc → Enc) : (Ax.modEnc s e f).lnd = s.lnd := rfl
@[simp] theorem Ax.modEnc_cat (s : State) (e : Nat) (f : Enc → Enc) : (Ax.modEnc s e f).cat = s.cat := rfl
@[simp] theorem Ax.modEnc_mpl (s : State) (e : Nat) (f : Enc → Enc) : (Ax.modEnc s e f).mpl = s.mpl := rfl
@[simp] theorem Ax.modEnc_grd (s : State) (e : Nat) (f : Enc → Enc) : (Ax.modEnc s e f).grd = s.grd := rfl
@[simp] theorem Ax.modEnc_lnk (s : State) (e : Nat) (f : Enc → Enc) : (Ax.modEnc s e f).lnk = s.lnk := rfl
@[simp] theorem Ax.modEnc_att (s : State) (e : Nat) (f : Enc → Enc) : (Ax.modEnc s e f).att = s.att := rfl
@[simp] theorem Ax.modEnc_img (s : State) (e : Nat) (f : Enc → Enc) : (Ax.modEnc s e f).img = s.img := rfl
@[simp] theorem Ax.modEnc_ilm (s : State) (e : Nat) (f : Enc → Enc) : (Ax.modEnc s e f).ilm = s.ilm := rfl
@[simp] theorem Ax.modEnc_fol (s : State) (e : Nat) (f : Enc → Enc) : (Ax.modEnc s e f).fol = s.fol := rfl
@[simp] theorem Ax.modEnc_stk (s : State) (e : Nat) (f : Enc → Enc) : (Ax.modEnc s e f).stk = s.stk := rfl
@[simp] theorem Ax.modEnc_net (s : State) (e : Nat) (f : Enc → Enc) : (Ax.modEnc s e f).net = s.net := rfl
@[simp] theorem Ax.modEnc_flt (s : State) (e : Nat) (f : Enc → Enc) : (Ax.modEnc s e f).flt = s.flt := rfl
@[simp] theorem Ax.modEnc_ldg (s : State) (e : Nat) (f : Enc → Enc) : (Ax.modEnc s e f).ldg = s.ldg := rfl
@[simp] theorem Ax.modEnc_tmp (s : State) (e : Nat) (f : Enc → Enc) : (Ax.modEnc s e f).tmp = s.tmp := rfl
@[simp] theorem Ax.modEnc_pwr (s : State) (e : Nat) (f : Enc → Enc) : (Ax.modEnc s e f).pwr = s.pwr := rfl
@[simp] theorem Ax.modEnc_raised (s : State) (e : Nat) (f : Enc → Enc) : (Ax.modEnc s e f).raised = s.raised := rfl
@[simp] theorem Ax.modEnc_free (s : State) (e : Nat) (f : Enc → Enc) : (Ax.modEnc s e f).free = s.free := rfl
@[simp] theorem Ax.modEnc_pending (s : State) (e : Nat) (f : Enc → Enc) : (Ax.modEnc s e f).pending = s.pending := rfl

@[simp] theorem Ax.modCmp_tick (s : State) (u : Nat) (f : Cmp → Cmp) : (Ax.modCmp s u f).tick = s.tick := rfl
@[simp] theorem Ax.modCmp_btick (s : State) (u : Nat) (f : Cmp → Cmp) : (Ax.modCmp s u f).btick = s.btick := rfl
@[simp] theorem Ax.modCmp_dev (s : State) (u : Nat) (f : Cmp → Cmp) : (Ax.modCmp s u f).dev = s.dev := rfl
@[simp] theorem Ax.modCmp_txn (s : State) (u : Nat) (f : Cmp → Cmp) : (Ax.modCmp s u f).txn = s.txn := rfl
@[simp] theorem Ax.modCmp_ctx (s : State) (u : Nat) (f : Cmp → Cmp) : (Ax.modCmp s u f).ctx = s.ctx := rfl
@[simp] theorem Ax.modCmp_trj (s : State) (u : Nat) (f : Cmp → Cmp) : (Ax.modCmp s u f).trj = s.trj := rfl
@[simp] theorem Ax.modCmp_lnd (s : State) (u : Nat) (f : Cmp → Cmp) : (Ax.modCmp s u f).lnd = s.lnd := rfl
@[simp] theorem Ax.modCmp_cat (s : State) (u : Nat) (f : Cmp → Cmp) : (Ax.modCmp s u f).cat = s.cat := rfl
@[simp] theorem Ax.modCmp_mpl (s : State) (u : Nat) (f : Cmp → Cmp) : (Ax.modCmp s u f).mpl = s.mpl := rfl
@[simp] theorem Ax.modCmp_grd (s : State) (u : Nat) (f : Cmp → Cmp) : (Ax.modCmp s u f).grd = s.grd := rfl
@[simp] theorem Ax.modCmp_lnk (s : State) (u : Nat) (f : Cmp → Cmp) : (Ax.modCmp s u f).lnk = s.lnk := rfl
@[simp] theorem Ax.modCmp_att (s : State) (u : Nat) (f : Cmp → Cmp) : (Ax.modCmp s u f).att = s.att := rfl
@[simp] theorem Ax.modCmp_img (s : State) (u : Nat) (f : Cmp → Cmp) : (Ax.modCmp s u f).img = s.img := rfl
@[simp] theorem Ax.modCmp_ilm (s : State) (u : Nat) (f : Cmp → Cmp) : (Ax.modCmp s u f).ilm = s.ilm := rfl
@[simp] theorem Ax.modCmp_fol (s : State) (u : Nat) (f : Cmp → Cmp) : (Ax.modCmp s u f).fol = s.fol := rfl
@[simp] theorem Ax.modCmp_stk (s : State) (u : Nat) (f : Cmp → Cmp) : (Ax.modCmp s u f).stk = s.stk := rfl
@[simp] theorem Ax.modCmp_net (s : State) (u : Nat) (f : Cmp → Cmp) : (Ax.modCmp s u f).net = s.net := rfl
@[simp] theorem Ax.modCmp_flt (s : State) (u : Nat) (f : Cmp → Cmp) : (Ax.modCmp s u f).flt = s.flt := rfl
@[simp] theorem Ax.modCmp_ldg (s : State) (u : Nat) (f : Cmp → Cmp) : (Ax.modCmp s u f).ldg = s.ldg := rfl
@[simp] theorem Ax.modCmp_tmp (s : State) (u : Nat) (f : Cmp → Cmp) : (Ax.modCmp s u f).tmp = s.tmp := rfl
@[simp] theorem Ax.modCmp_pwr (s : State) (u : Nat) (f : Cmp → Cmp) : (Ax.modCmp s u f).pwr = s.pwr := rfl
@[simp] theorem Ax.modCmp_raised (s : State) (u : Nat) (f : Cmp → Cmp) : (Ax.modCmp s u f).raised = s.raised := rfl
@[simp] theorem Ax.modCmp_free (s : State) (u : Nat) (f : Cmp → Cmp) : (Ax.modCmp s u f).free = s.free := rfl
@[simp] theorem Ax.modCmp_pending (s : State) (u : Nat) (f : Cmp → Cmp) : (Ax.modCmp s u f).pending = s.pending := rfl

@[simp] theorem State.setBar0_tick (s : State) (off v : Nat) : (State.setBar0 s off v).tick = s.tick := rfl
@[simp] theorem State.setBar0_btick (s : State) (off v : Nat) : (State.setBar0 s off v).btick = s.btick := rfl
@[simp] theorem State.setBar0_dev (s : State) (off v : Nat) : (State.setBar0 s off v).dev = s.dev := rfl
@[simp] theorem State.setBar0_ctx (s : State) (off v : Nat) : (State.setBar0 s off v).ctx = s.ctx := rfl
@[simp] theorem State.setBar0_trj (s : State) (off v : Nat) : (State.setBar0 s off v).trj = s.trj := rfl
@[simp] theorem State.setBar0_lnd (s : State) (off v : Nat) : (State.setBar0 s off v).lnd = s.lnd := rfl
@[simp] theorem State.setBar0_cat (s : State) (off v : Nat) : (State.setBar0 s off v).cat = s.cat := rfl
@[simp] theorem State.setBar0_mpl (s : State) (off v : Nat) : (State.setBar0 s off v).mpl = s.mpl := rfl
@[simp] theorem State.setBar0_grd (s : State) (off v : Nat) : (State.setBar0 s off v).grd = s.grd := rfl
@[simp] theorem State.setBar0_lnk (s : State) (off v : Nat) : (State.setBar0 s off v).lnk = s.lnk := rfl
@[simp] theorem State.setBar0_att (s : State) (off v : Nat) : (State.setBar0 s off v).att = s.att := rfl
@[simp] theorem State.setBar0_img (s : State) (off v : Nat) : (State.setBar0 s off v).img = s.img := rfl
@[simp] theorem State.setBar0_ilm (s : State) (off v : Nat) : (State.setBar0 s off v).ilm = s.ilm := rfl
@[simp] theorem State.setBar0_fol (s : State) (off v : Nat) : (State.setBar0 s off v).fol = s.fol := rfl
@[simp] theorem State.setBar0_stk (s : State) (off v : Nat) : (State.setBar0 s off v).stk = s.stk := rfl
@[simp] theorem State.setBar0_ax (s : State) (off v : Nat) : (State.setBar0 s off v).ax = s.ax := rfl
@[simp] theorem State.setBar0_net (s : State) (off v : Nat) : (State.setBar0 s off v).net = s.net := rfl
@[simp] theorem State.setBar0_flt (s : State) (off v : Nat) : (State.setBar0 s off v).flt = s.flt := rfl
@[simp] theorem State.setBar0_ldg (s : State) (off v : Nat) : (State.setBar0 s off v).ldg = s.ldg := rfl
@[simp] theorem State.setBar0_tmp (s : State) (off v : Nat) : (State.setBar0 s off v).tmp = s.tmp := rfl
@[simp] theorem State.setBar0_pwr (s : State) (off v : Nat) : (State.setBar0 s off v).pwr = s.pwr := rfl
@[simp] theorem State.setBar0_raised (s : State) (off v : Nat) : (State.setBar0 s off v).raised = s.raised := rfl
@[simp] theorem State.setBar0_free (s : State) (off v : Nat) : (State.setBar0 s off v).free = s.free := rfl
@[simp] theorem State.setBar0_pending (s : State) (off v : Nat) : (State.setBar0 s off v).pending = s.pending := rfl

@[simp] theorem State.irq_tick (s : State) (v : Nat) : (State.irq s v).tick = s.tick := rfl
@[simp] theorem State.irq_btick (s : State) (v : Nat) : (State.irq s v).btick = s.btick := rfl
@[simp] theorem State.irq_txn (s : State) (v : Nat) : (State.irq s v).txn = s.txn := rfl
@[simp] theorem State.irq_ctx (s : State) (v : Nat) : (State.irq s v).ctx = s.ctx := rfl
@[simp] theorem State.irq_trj (s : State) (v : Nat) : (State.irq s v).trj = s.trj := rfl
@[simp] theorem State.irq_lnd (s : State) (v : Nat) : (State.irq s v).lnd = s.lnd := rfl
@[simp] theorem State.irq_cat (s : State) (v : Nat) : (State.irq s v).cat = s.cat := rfl
@[simp] theorem State.irq_mpl (s : State) (v : Nat) : (State.irq s v).mpl = s.mpl := rfl
@[simp] theorem State.irq_grd (s : State) (v : Nat) : (State.irq s v).grd = s.grd := rfl
@[simp] theorem State.irq_lnk (s : State) (v : Nat) : (State.irq s v).lnk = s.lnk := rfl
@[simp] theorem State.irq_att (s : State) (v : Nat) : (State.irq s v).att = s.att := rfl
@[simp] theorem State.irq_img (s : State) (v : Nat) : (State.irq s v).img = s.img := rfl
@[simp] theorem State.irq_ilm (s : State) (v : Nat) : (State.irq s v).ilm = s.ilm := rfl
@[simp] theorem State.irq_fol (s : State) (v : Nat) : (State.irq s v).fol = s.fol := rfl
@[simp] theorem State.irq_stk (s : State) (v : Nat) : (State.irq s v).stk = s.stk := rfl
@[simp] theorem State.irq_ax (s : State) (v : Nat) : (State.irq s v).ax = s.ax := rfl
@[simp] theorem State.irq_net (s : State) (v : Nat) : (State.irq s v).net = s.net := rfl
@[simp] theorem State.irq_flt (s : State) (v : Nat) : (State.irq s v).flt = s.flt := rfl
@[simp] theorem State.irq_ldg (s : State) (v : Nat) : (State.irq s v).ldg = s.ldg := rfl
@[simp] theorem State.irq_tmp (s : State) (v : Nat) : (State.irq s v).tmp = s.tmp := rfl
@[simp] theorem State.irq_pwr (s : State) (v : Nat) : (State.irq s v).pwr = s.pwr := rfl
@[simp] theorem State.irq_raised (s : State) (v : Nat) : (State.irq s v).raised = s.raised := rfl
@[simp] theorem State.irq_free (s : State) (v : Nat) : (State.irq s v).free = s.free := rfl
@[simp] theorem State.irq_pending (s : State) (v : Nat) : (State.irq s v).pending = s.pending := rfl

@[simp] theorem Fol.modSlot_tick (s : State) (i : Nat) (f : FolSlot → FolSlot) : (Fol.modSlot s i f).tick = s.tick := rfl
@[simp] theorem Fol.modSlot_btick (s : State) (i : Nat) (f : FolSlot → FolSlot) : (Fol.modSlot s i f).btick = s.btick := rfl
@[simp] theorem Fol.modSlot_dev (s : State) (i : Nat) (f : FolSlot → FolSlot) : (Fol.modSlot s i f).dev = s.dev := rfl
@[simp] theorem Fol.modSlot_txn (s : State) (i : Nat) (f : FolSlot → FolSlot) : (Fol.modSlot s i f).txn = s.txn := rfl
@[simp] theorem Fol.modSlot_ctx (s : State) (i : Nat) (f : FolSlot → FolSlot) : (Fol.modSlot s i f).ctx = s.ctx := rfl
@[simp] theorem Fol.modSlot_trj (s : State) (i : Nat) (f : FolSlot → FolSlot) : (Fol.modSlot s i f).trj = s.trj := rfl
@[simp] theorem Fol.modSlot_lnd (s : State) (i : Nat) (f : FolSlot → FolSlot) : (Fol.modSlot s i f).lnd = s.lnd := rfl
@[simp] theorem Fol.modSlot_cat (s : State) (i : Nat) (f : FolSlot → FolSlot) : (Fol.modSlot s i f).cat = s.cat := rfl
@[simp] theorem Fol.modSlot_mpl (s : State) (i : Nat) (f : FolSlot → FolSlot) : (Fol.modSlot s i f).mpl = s.mpl := rfl
@[simp] theorem Fol.modSlot_grd (s : State) (i : Nat) (f : FolSlot → FolSlot) : (Fol.modSlot s i f).grd = s.grd := rfl
@[simp] theorem Fol.modSlot_lnk (s : State) (i : Nat) (f : FolSlot → FolSlot) : (Fol.modSlot s i f).lnk = s.lnk := rfl
@[simp] theorem Fol.modSlot_att (s : State) (i : Nat) (f : FolSlot → FolSlot) : (Fol.modSlot s i f).att = s.att := rfl
@[simp] theorem Fol.modSlot_img (s : State) (i : Nat) (f : FolSlot → FolSlot) : (Fol.modSlot s i f).img = s.img := rfl
@[simp] theorem Fol.modSlot_ilm (s : State) (i : Nat) (f : FolSlot → FolSlot) : (Fol.modSlot s i f).ilm = s.ilm := rfl
@[simp] theorem Fol.modSlot_stk (s : State) (i : Nat) (f : FolSlot → FolSlot) : (Fol.modSlot s i f).stk = s.stk := rfl
@[simp] theorem Fol.modSlot_ax (s : State) (i : Nat) (f : FolSlot → FolSlot) : (Fol.modSlot s i f).ax = s.ax := rfl
@[simp] theorem Fol.modSlot_net (s : State) (i : Nat) (f : FolSlot → FolSlot) : (Fol.modSlot s i f).net = s.net := rfl
@[simp] theorem Fol.modSlot_flt (s : State) (i : Nat) (f : FolSlot → FolSlot) : (Fol.modSlot s i f).flt = s.flt := rfl
@[simp] theorem Fol.modSlot_ldg (s : State) (i : Nat) (f : FolSlot → FolSlot) : (Fol.modSlot s i f).ldg = s.ldg := rfl
@[simp] theorem Fol.modSlot_tmp (s : State) (i : Nat) (f : FolSlot → FolSlot) : (Fol.modSlot s i f).tmp = s.tmp := rfl
@[simp] theorem Fol.modSlot_pwr (s : State) (i : Nat) (f : FolSlot → FolSlot) : (Fol.modSlot s i f).pwr = s.pwr := rfl
@[simp] theorem Fol.modSlot_raised (s : State) (i : Nat) (f : FolSlot → FolSlot) : (Fol.modSlot s i f).raised = s.raised := rfl
@[simp] theorem Fol.modSlot_free (s : State) (i : Nat) (f : FolSlot → FolSlot) : (Fol.modSlot s i f).free = s.free := rfl
@[simp] theorem Fol.modSlot_pending (s : State) (i : Nat) (f : FolSlot → FolSlot) : (Fol.modSlot s i f).pending = s.pending := rfl

@[simp] theorem Img.modPort_tick (s : State) (p : Nat) (f : Port → Port) : (Img.modPort s p f).tick = s.tick := rfl
@[simp] theorem Img.modPort_btick (s : State) (p : Nat) (f : Port → Port) : (Img.modPort s p f).btick = s.btick := rfl
@[simp] theorem Img.modPort_dev (s : State) (p : Nat) (f : Port → Port) : (Img.modPort s p f).dev = s.dev := rfl
@[simp] theorem Img.modPort_txn (s : State) (p : Nat) (f : Port → Port) : (Img.modPort s p f).txn = s.txn := rfl
@[simp] theorem Img.modPort_ctx (s : State) (p : Nat) (f : Port → Port) : (Img.modPort s p f).ctx = s.ctx := rfl
@[simp] theorem Img.modPort_trj (s : State) (p : Nat) (f : Port → Port) : (Img.modPort s p f).trj = s.trj := rfl
@[simp] theorem Img.modPort_lnd (s : State) (p : Nat) (f : Port → Port) : (Img.modPort s p f).lnd = s.lnd := rfl
@[simp] theorem Img.modPort_cat (s : State) (p : Nat) (f : Port → Port) : (Img.modPort s p f).cat = s.cat := rfl
@[simp] theorem Img.modPort_mpl (s : State) (p : Nat) (f : Port → Port) : (Img.modPort s p f).mpl = s.mpl := rfl
@[simp] theorem Img.modPort_grd (s : State) (p : Nat) (f : Port → Port) : (Img.modPort s p f).grd = s.grd := rfl
@[simp] theorem Img.modPort_lnk (s : State) (p : Nat) (f : Port → Port) : (Img.modPort s p f).lnk = s.lnk := rfl
@[simp] theorem Img.modPort_att (s : State) (p : Nat) (f : Port → Port) : (Img.modPort s p f).att = s.att := rfl
@[simp] theorem Img.modPort_ilm (s : State) (p : Nat) (f : Port → Port) : (Img.modPort s p f).ilm = s.ilm := rfl
@[simp] theorem Img.modPort_fol (s : State) (p : Nat) (f : Port → Port) : (Img.modPort s p f).fol = s.fol := rfl
@[simp] theorem Img.modPort_stk (s : State) (p : Nat) (f : Port → Port) : (Img.modPort s p f).stk = s.stk := rfl
@[simp] theorem Img.modPort_ax (s : State) (p : Nat) (f : Port → Port) : (Img.modPort s p f).ax = s.ax := rfl
@[simp] theorem Img.modPort_net (s : State) (p : Nat) (f : Port → Port) : (Img.modPort s p f).net = s.net := rfl
@[simp] theorem Img.modPort_flt (s : State) (p : Nat) (f : Port → Port) : (Img.modPort s p f).flt = s.flt := rfl
@[simp] theorem Img.modPort_ldg (s : State) (p : Nat) (f : Port → Port) : (Img.modPort s p f).ldg = s.ldg := rfl
@[simp] theorem Img.modPort_tmp (s : State) (p : Nat) (f : Port → Port) : (Img.modPort s p f).tmp = s.tmp := rfl
@[simp] theorem Img.modPort_pwr (s : State) (p : Nat) (f : Port → Port) : (Img.modPort s p f).pwr = s.pwr := rfl
@[simp] theorem Img.modPort_raised (s : State) (p : Nat) (f : Port → Port) : (Img.modPort s p f).raised = s.raised := rfl
@[simp] theorem Img.modPort_free (s : State) (p : Nat) (f : Port → Port) : (Img.modPort s p f).free = s.free := rfl
@[simp] theorem Img.modPort_pending (s : State) (p : Nat) (f : Port → Port) : (Img.modPort s p f).pending = s.pending := rfl

@[simp] theorem Img.modFrame_tick (s : State) (p : Nat) (f : Frame → Frame) : (Img.modFrame s p f).tick = s.tick := rfl
@[simp] theorem Img.modFrame_btick (s : State) (p : Nat) (f : Frame → Frame) : (Img.modFrame s p f).btick = s.btick := rfl
@[simp] theorem Img.modFrame_dev (s : State) (p : Nat) (f : Frame → Frame) : (Img.modFrame s p f).dev = s.dev := rfl
@[simp] theorem Img.modFrame_txn (s : State) (p : Nat) (f : Frame → Frame) : (Img.modFrame s p f).txn = s.txn := rfl
@[simp] theorem Img.modFrame_ctx (s : State) (p : Nat) (f : Frame → Frame) : (Img.modFrame s p f).ctx = s.ctx := rfl
@[simp] theorem Img.modFrame_trj (s : State) (p : Nat) (f : Frame → Frame) : (Img.modFrame s p f).trj = s.trj := rfl
@[simp] theorem Img.modFrame_lnd (s : State) (p : Nat) (f : Frame → Frame) : (Img.modFrame s p f).lnd = s.lnd := rfl
@[simp] theorem Img.modFrame_cat (s : State) (p : Nat) (f : Frame → Frame) : (Img.modFrame s p f).cat = s.cat := rfl
@[simp] theorem Img.modFrame_mpl (s : State) (p : Nat) (f : Frame → Frame) : (Img.modFrame s p f).mpl = s.mpl := rfl
@[simp] theorem Img.modFrame_grd (s : State) (p : Nat) (f : Frame → Frame) : (Img.modFrame s p f).grd = s.grd := rfl
@[simp] theorem Img.modFrame_lnk (s : State) (p : Nat) (f : Frame → Frame) : (Img.modFrame s p f).lnk = s.lnk := rfl
@[simp] theorem Img.modFrame_att (s : State) (p : Nat) (f : Frame → Frame) : (Img.modFrame s p f).att = s.att := rfl
@[simp] theorem Img.modFrame_ilm (s : State) (p : Nat) (f : Frame → Frame) : (Img.modFrame s p f).ilm = s.ilm := rfl
@[simp] theorem Img.modFrame_fol (s : State) (p : Nat) (f : Frame → Frame) : (Img.modFrame s p f).fol = s.fol := rfl
@[simp] theorem Img.modFrame_stk (s : State) (p : Nat) (f : Frame → Frame) : (Img.modFrame s p f).stk = s.stk := rfl
@[simp] theorem Img.modFrame_ax (s : State) (p : Nat) (f : Frame → Frame) : (Img.modFrame s p f).ax = s.ax := rfl
@[simp] theorem Img.modFrame_net (s : State) (p : Nat) (f : Frame → Frame) : (Img.modFrame s p f).net = s.net := rfl
@[simp] theorem Img.modFrame_flt (s : State) (p : Nat) (f : Frame → Frame) : (Img.modFrame s p f).flt = s.flt := rfl
@[simp] theorem Img.modFrame_ldg (s : State) (p : Nat) (f : Frame → Frame) : (Img.modFrame s p f).ldg = s.ldg := rfl
@[simp] theorem Img.modFrame_tmp (s : State) (p : Nat) (f : Frame → Frame) : (Img.modFrame s p f).tmp = s.tmp := rfl
@[simp] theorem Img.modFrame_pwr (s : State) (p : Nat) (f : Frame → Frame) : (Img.modFrame s p f).pwr = s.pwr := rfl
@[simp] theorem Img.modFrame_raised (s : State) (p : Nat) (f : Frame → Frame) : (Img.modFrame s p f).raised = s.raised := rfl
@[simp] theorem Img.modFrame_free (s : State) (p : Nat) (f : Frame → Frame) : (Img.modFrame s p f).free = s.free := rfl
@[simp] theorem Img.modFrame_pending (s : State) (p : Nat) (f : Frame → Frame) : (Img.modFrame s p f).pending = s.pending := rfl

@[simp] theorem Feat.modUnit_tick (s : State) (n : Nat) (f : Mpf → Mpf) : (Feat.modUnit s n f).tick = s.tick := rfl
@[simp] theorem Feat.modUnit_btick (s : State) (n : Nat) (f : Mpf → Mpf) : (Feat.modUnit s n f).btick = s.btick := rfl
@[simp] theorem Feat.modUnit_dev (s : State) (n : Nat) (f : Mpf → Mpf) : (Feat.modUnit s n f).dev = s.dev := rfl
@[simp] theorem Feat.modUnit_txn (s : State) (n : Nat) (f : Mpf → Mpf) : (Feat.modUnit s n f).txn = s.txn := rfl
@[simp] theorem Feat.modUnit_ctx (s : State) (n : Nat) (f : Mpf → Mpf) : (Feat.modUnit s n f).ctx = s.ctx := rfl
@[simp] theorem Feat.modUnit_trj (s : State) (n : Nat) (f : Mpf → Mpf) : (Feat.modUnit s n f).trj = s.trj := rfl
@[simp] theorem Feat.modUnit_lnd (s : State) (n : Nat) (f : Mpf → Mpf) : (Feat.modUnit s n f).lnd = s.lnd := rfl
@[simp] theorem Feat.modUnit_cat (s : State) (n : Nat) (f : Mpf → Mpf) : (Feat.modUnit s n f).cat = s.cat := rfl
@[simp] theorem Feat.modUnit_mpl (s : State) (n : Nat) (f : Mpf → Mpf) : (Feat.modUnit s n f).mpl = s.mpl := rfl
@[simp] theorem Feat.modUnit_grd (s : State) (n : Nat) (f : Mpf → Mpf) : (Feat.modUnit s n f).grd = s.grd := rfl
@[simp] theorem Feat.modUnit_lnk (s : State) (n : Nat) (f : Mpf → Mpf) : (Feat.modUnit s n f).lnk = s.lnk := rfl
@[simp] theorem Feat.modUnit_att (s : State) (n : Nat) (f : Mpf → Mpf) : (Feat.modUnit s n f).att = s.att := rfl
@[simp] theorem Feat.modUnit_ilm (s : State) (n : Nat) (f : Mpf → Mpf) : (Feat.modUnit s n f).ilm = s.ilm := rfl
@[simp] theorem Feat.modUnit_fol (s : State) (n : Nat) (f : Mpf → Mpf) : (Feat.modUnit s n f).fol = s.fol := rfl
@[simp] theorem Feat.modUnit_stk (s : State) (n : Nat) (f : Mpf → Mpf) : (Feat.modUnit s n f).stk = s.stk := rfl
@[simp] theorem Feat.modUnit_ax (s : State) (n : Nat) (f : Mpf → Mpf) : (Feat.modUnit s n f).ax = s.ax := rfl
@[simp] theorem Feat.modUnit_net (s : State) (n : Nat) (f : Mpf → Mpf) : (Feat.modUnit s n f).net = s.net := rfl
@[simp] theorem Feat.modUnit_flt (s : State) (n : Nat) (f : Mpf → Mpf) : (Feat.modUnit s n f).flt = s.flt := rfl
@[simp] theorem Feat.modUnit_ldg (s : State) (n : Nat) (f : Mpf → Mpf) : (Feat.modUnit s n f).ldg = s.ldg := rfl
@[simp] theorem Feat.modUnit_tmp (s : State) (n : Nat) (f : Mpf → Mpf) : (Feat.modUnit s n f).tmp = s.tmp := rfl
@[simp] theorem Feat.modUnit_pwr (s : State) (n : Nat) (f : Mpf → Mpf) : (Feat.modUnit s n f).pwr = s.pwr := rfl
@[simp] theorem Feat.modUnit_raised (s : State) (n : Nat) (f : Mpf → Mpf) : (Feat.modUnit s n f).raised = s.raised := rfl
@[simp] theorem Feat.modUnit_free (s : State) (n : Nat) (f : Mpf → Mpf) : (Feat.modUnit s n f).free = s.free := rfl
@[simp] theorem Feat.modUnit_pending (s : State) (n : Nat) (f : Mpf → Mpf) : (Feat.modUnit s n f).pending = s.pending := rfl

@[simp] theorem Ilm.modLamp_tick (s : State) (l : Nat) (f : Lamp → Lamp) : (Ilm.modLamp s l f).tick = s.tick := rfl
@[simp] theorem Ilm.modLamp_btick (s : State) (l : Nat) (f : Lamp → Lamp) : (Ilm.modLamp s l f).btick = s.btick := rfl
@[simp] theorem Ilm.modLamp_dev (s : State) (l : Nat) (f : Lamp → Lamp) : (Ilm.modLamp s l f).dev = s.dev := rfl
@[simp] theorem Ilm.modLamp_txn (s : State) (l : Nat) (f : Lamp → Lamp) : (Ilm.modLamp s l f).txn = s.txn := rfl
@[simp] theorem Ilm.modLamp_ctx (s : State) (l : Nat) (f : Lamp → Lamp) : (Ilm.modLamp s l f).ctx = s.ctx := rfl
@[simp] theorem Ilm.modLamp_trj (s : State) (l : Nat) (f : Lamp → Lamp) : (Ilm.modLamp s l f).trj = s.trj := rfl
@[simp] theorem Ilm.modLamp_lnd (s : State) (l : Nat) (f : Lamp → Lamp) : (Ilm.modLamp s l f).lnd = s.lnd := rfl
@[simp] theorem Ilm.modLamp_cat (s : State) (l : Nat) (f : Lamp → Lamp) : (Ilm.modLamp s l f).cat = s.cat := rfl
@[simp] theorem Ilm.modLamp_mpl (s : State) (l : Nat) (f : Lamp → Lamp) : (Ilm.modLamp s l f).mpl = s.mpl := rfl
@[simp] theorem Ilm.modLamp_grd (s : State) (l : Nat) (f : Lamp → Lamp) : (Ilm.modLamp s l f).grd = s.grd := rfl
@[simp] theorem Ilm.modLamp_lnk (s : State) (l : Nat) (f : Lamp → Lamp) : (Ilm.modLamp s l f).lnk = s.lnk := rfl
@[simp] theorem Ilm.modLamp_att (s : State) (l : Nat) (f : Lamp → Lamp) : (Ilm.modLamp s l f).att = s.att := rfl
@[simp] theorem Ilm.modLamp_img (s : State) (l : Nat) (f : Lamp → Lamp) : (Ilm.modLamp s l f).img = s.img := rfl
@[simp] theorem Ilm.modLamp_fol (s : State) (l : Nat) (f : Lamp → Lamp) : (Ilm.modLamp s l f).fol = s.fol := rfl
@[simp] theorem Ilm.modLamp_stk (s : State) (l : Nat) (f : Lamp → Lamp) : (Ilm.modLamp s l f).stk = s.stk := rfl
@[simp] theorem Ilm.modLamp_ax (s : State) (l : Nat) (f : Lamp → Lamp) : (Ilm.modLamp s l f).ax = s.ax := rfl
@[simp] theorem Ilm.modLamp_net (s : State) (l : Nat) (f : Lamp → Lamp) : (Ilm.modLamp s l f).net = s.net := rfl
@[simp] theorem Ilm.modLamp_flt (s : State) (l : Nat) (f : Lamp → Lamp) : (Ilm.modLamp s l f).flt = s.flt := rfl
@[simp] theorem Ilm.modLamp_ldg (s : State) (l : Nat) (f : Lamp → Lamp) : (Ilm.modLamp s l f).ldg = s.ldg := rfl
@[simp] theorem Ilm.modLamp_tmp (s : State) (l : Nat) (f : Lamp → Lamp) : (Ilm.modLamp s l f).tmp = s.tmp := rfl
@[simp] theorem Ilm.modLamp_pwr (s : State) (l : Nat) (f : Lamp → Lamp) : (Ilm.modLamp s l f).pwr = s.pwr := rfl
@[simp] theorem Ilm.modLamp_raised (s : State) (l : Nat) (f : Lamp → Lamp) : (Ilm.modLamp s l f).raised = s.raised := rfl
@[simp] theorem Ilm.modLamp_free (s : State) (l : Nat) (f : Lamp → Lamp) : (Ilm.modLamp s l f).free = s.free := rfl
@[simp] theorem Ilm.modLamp_pending (s : State) (l : Nat) (f : Lamp → Lamp) : (Ilm.modLamp s l f).pending = s.pending := rfl

@[simp] theorem State.modLane_tick (s : State) (m : Nat) (f : Lane → Lane) : (State.modLane s m f).tick = s.tick := rfl
@[simp] theorem State.modLane_btick (s : State) (m : Nat) (f : Lane → Lane) : (State.modLane s m f).btick = s.btick := rfl
@[simp] theorem State.modLane_dev (s : State) (m : Nat) (f : Lane → Lane) : (State.modLane s m f).dev = s.dev := rfl
@[simp] theorem State.modLane_txn (s : State) (m : Nat) (f : Lane → Lane) : (State.modLane s m f).txn = s.txn := rfl
@[simp] theorem State.modLane_ctx (s : State) (m : Nat) (f : Lane → Lane) : (State.modLane s m f).ctx = s.ctx := rfl
@[simp] theorem State.modLane_trj (s : State) (m : Nat) (f : Lane → Lane) : (State.modLane s m f).trj = s.trj := rfl
@[simp] theorem State.modLane_lnd (s : State) (m : Nat) (f : Lane → Lane) : (State.modLane s m f).lnd = s.lnd := rfl
@[simp] theorem State.modLane_cat (s : State) (m : Nat) (f : Lane → Lane) : (State.modLane s m f).cat = s.cat := rfl
@[simp] theorem State.modLane_mpl (s : State) (m : Nat) (f : Lane → Lane) : (State.modLane s m f).mpl = s.mpl := rfl
@[simp] theorem State.modLane_grd (s : State) (m : Nat) (f : Lane → Lane) : (State.modLane s m f).grd = s.grd := rfl
@[simp] theorem State.modLane_att (s : State) (m : Nat) (f : Lane → Lane) : (State.modLane s m f).att = s.att := rfl
@[simp] theorem State.modLane_img (s : State) (m : Nat) (f : Lane → Lane) : (State.modLane s m f).img = s.img := rfl
@[simp] theorem State.modLane_ilm (s : State) (m : Nat) (f : Lane → Lane) : (State.modLane s m f).ilm = s.ilm := rfl
@[simp] theorem State.modLane_fol (s : State) (m : Nat) (f : Lane → Lane) : (State.modLane s m f).fol = s.fol := rfl
@[simp] theorem State.modLane_stk (s : State) (m : Nat) (f : Lane → Lane) : (State.modLane s m f).stk = s.stk := rfl
@[simp] theorem State.modLane_ax (s : State) (m : Nat) (f : Lane → Lane) : (State.modLane s m f).ax = s.ax := rfl
@[simp] theorem State.modLane_net (s : State) (m : Nat) (f : Lane → Lane) : (State.modLane s m f).net = s.net := rfl
@[simp] theorem State.modLane_flt (s : State) (m : Nat) (f : Lane → Lane) : (State.modLane s m f).flt = s.flt := rfl
@[simp] theorem State.modLane_ldg (s : State) (m : Nat) (f : Lane → Lane) : (State.modLane s m f).ldg = s.ldg := rfl
@[simp] theorem State.modLane_tmp (s : State) (m : Nat) (f : Lane → Lane) : (State.modLane s m f).tmp = s.tmp := rfl
@[simp] theorem State.modLane_pwr (s : State) (m : Nat) (f : Lane → Lane) : (State.modLane s m f).pwr = s.pwr := rfl
@[simp] theorem State.modLane_raised (s : State) (m : Nat) (f : Lane → Lane) : (State.modLane s m f).raised = s.raised := rfl
@[simp] theorem State.modLane_free (s : State) (m : Nat) (f : Lane → Lane) : (State.modLane s m f).free = s.free := rfl
@[simp] theorem State.modLane_pending (s : State) (m : Nat) (f : Lane → Lane) : (State.modLane s m f).pending = s.pending := rfl

@[simp] theorem State.modAtt_tick (s : State) (c : Nat) (f : Attach → Attach) : (State.modAtt s c f).tick = s.tick := rfl
@[simp] theorem State.modAtt_btick (s : State) (c : Nat) (f : Attach → Attach) : (State.modAtt s c f).btick = s.btick := rfl
@[simp] theorem State.modAtt_dev (s : State) (c : Nat) (f : Attach → Attach) : (State.modAtt s c f).dev = s.dev := rfl
@[simp] theorem State.modAtt_txn (s : State) (c : Nat) (f : Attach → Attach) : (State.modAtt s c f).txn = s.txn := rfl
@[simp] theorem State.modAtt_ctx (s : State) (c : Nat) (f : Attach → Attach) : (State.modAtt s c f).ctx = s.ctx := rfl
@[simp] theorem State.modAtt_trj (s : State) (c : Nat) (f : Attach → Attach) : (State.modAtt s c f).trj = s.trj := rfl
@[simp] theorem State.modAtt_lnd (s : State) (c : Nat) (f : Attach → Attach) : (State.modAtt s c f).lnd = s.lnd := rfl
@[simp] theorem State.modAtt_cat (s : State) (c : Nat) (f : Attach → Attach) : (State.modAtt s c f).cat = s.cat := rfl
@[simp] theorem State.modAtt_mpl (s : State) (c : Nat) (f : Attach → Attach) : (State.modAtt s c f).mpl = s.mpl := rfl
@[simp] theorem State.modAtt_grd (s : State) (c : Nat) (f : Attach → Attach) : (State.modAtt s c f).grd = s.grd := rfl
@[simp] theorem State.modAtt_lnk (s : State) (c : Nat) (f : Attach → Attach) : (State.modAtt s c f).lnk = s.lnk := rfl
@[simp] theorem State.modAtt_img (s : State) (c : Nat) (f : Attach → Attach) : (State.modAtt s c f).img = s.img := rfl
@[simp] theorem State.modAtt_ilm (s : State) (c : Nat) (f : Attach → Attach) : (State.modAtt s c f).ilm = s.ilm := rfl
@[simp] theorem State.modAtt_fol (s : State) (c : Nat) (f : Attach → Attach) : (State.modAtt s c f).fol = s.fol := rfl
@[simp] theorem State.modAtt_stk (s : State) (c : Nat) (f : Attach → Attach) : (State.modAtt s c f).stk = s.stk := rfl
@[simp] theorem State.modAtt_ax (s : State) (c : Nat) (f : Attach → Attach) : (State.modAtt s c f).ax = s.ax := rfl
@[simp] theorem State.modAtt_net (s : State) (c : Nat) (f : Attach → Attach) : (State.modAtt s c f).net = s.net := rfl
@[simp] theorem State.modAtt_flt (s : State) (c : Nat) (f : Attach → Attach) : (State.modAtt s c f).flt = s.flt := rfl
@[simp] theorem State.modAtt_ldg (s : State) (c : Nat) (f : Attach → Attach) : (State.modAtt s c f).ldg = s.ldg := rfl
@[simp] theorem State.modAtt_tmp (s : State) (c : Nat) (f : Attach → Attach) : (State.modAtt s c f).tmp = s.tmp := rfl
@[simp] theorem State.modAtt_pwr (s : State) (c : Nat) (f : Attach → Attach) : (State.modAtt s c f).pwr = s.pwr := rfl
@[simp] theorem State.modAtt_raised (s : State) (c : Nat) (f : Attach → Attach) : (State.modAtt s c f).raised = s.raised := rfl
@[simp] theorem State.modAtt_free (s : State) (c : Nat) (f : Attach → Attach) : (State.modAtt s c f).free = s.free := rfl
@[simp] theorem State.modAtt_pending (s : State) (c : Nat) (f : Attach → Attach) : (State.modAtt s c f).pending = s.pending := rfl

@[simp] theorem State.modLoop_tick (s : State) (c : Nat) (f : MpLoop → MpLoop) : (State.modLoop s c f).tick = s.tick := rfl
@[simp] theorem State.modLoop_btick (s : State) (c : Nat) (f : MpLoop → MpLoop) : (State.modLoop s c f).btick = s.btick := rfl
@[simp] theorem State.modLoop_dev (s : State) (c : Nat) (f : MpLoop → MpLoop) : (State.modLoop s c f).dev = s.dev := rfl
@[simp] theorem State.modLoop_txn (s : State) (c : Nat) (f : MpLoop → MpLoop) : (State.modLoop s c f).txn = s.txn := rfl
@[simp] theorem State.modLoop_ctx (s : State) (c : Nat) (f : MpLoop → MpLoop) : (State.modLoop s c f).ctx = s.ctx := rfl
@[simp] theorem State.modLoop_trj (s : State) (c : Nat) (f : MpLoop → MpLoop) : (State.modLoop s c f).trj = s.trj := rfl
@[simp] theorem State.modLoop_lnd (s : State) (c : Nat) (f : MpLoop → MpLoop) : (State.modLoop s c f).lnd = s.lnd := rfl
@[simp] theorem State.modLoop_cat (s : State) (c : Nat) (f : MpLoop → MpLoop) : (State.modLoop s c f).cat = s.cat := rfl
@[simp] theorem State.modLoop_grd (s : State) (c : Nat) (f : MpLoop → MpLoop) : (State.modLoop s c f).grd = s.grd := rfl
@[simp] theorem State.modLoop_lnk (s : State) (c : Nat) (f : MpLoop → MpLoop) : (State.modLoop s c f).lnk = s.lnk := rfl
@[simp] theorem State.modLoop_att (s : State) (c : Nat) (f : MpLoop → MpLoop) : (State.modLoop s c f).att = s.att := rfl
@[simp] theorem State.modLoop_img (s : State) (c : Nat) (f : MpLoop → MpLoop) : (State.modLoop s c f).img = s.img := rfl
@[simp] theorem State.modLoop_ilm (s : State) (c : Nat) (f : MpLoop → MpLoop) : (State.modLoop s c f).ilm = s.ilm := rfl
@[simp] theorem State.modLoop_fol (s : State) (c : Nat) (f : MpLoop → MpLoop) : (State.modLoop s c f).fol = s.fol := rfl
@[simp] theorem State.modLoop_stk (s : State) (c : Nat) (f : MpLoop → MpLoop) : (State.modLoop s c f).stk = s.stk := rfl
@[simp] theorem State.modLoop_ax (s : State) (c : Nat) (f : MpLoop → MpLoop) : (State.modLoop s c f).ax = s.ax := rfl
@[simp] theorem State.modLoop_net (s : State) (c : Nat) (f : MpLoop → MpLoop) : (State.modLoop s c f).net = s.net := rfl
@[simp] theorem State.modLoop_flt (s : State) (c : Nat) (f : MpLoop → MpLoop) : (State.modLoop s c f).flt = s.flt := rfl
@[simp] theorem State.modLoop_ldg (s : State) (c : Nat) (f : MpLoop → MpLoop) : (State.modLoop s c f).ldg = s.ldg := rfl
@[simp] theorem State.modLoop_tmp (s : State) (c : Nat) (f : MpLoop → MpLoop) : (State.modLoop s c f).tmp = s.tmp := rfl
@[simp] theorem State.modLoop_pwr (s : State) (c : Nat) (f : MpLoop → MpLoop) : (State.modLoop s c f).pwr = s.pwr := rfl
@[simp] theorem State.modLoop_raised (s : State) (c : Nat) (f : MpLoop → MpLoop) : (State.modLoop s c f).raised = s.raised := rfl
@[simp] theorem State.modLoop_free (s : State) (c : Nat) (f : MpLoop → MpLoop) : (State.modLoop s c f).free = s.free := rfl
@[simp] theorem State.modLoop_pending (s : State) (c : Nat) (f : MpLoop → MpLoop) : (State.modLoop s c f).pending = s.pending := rfl

@[simp] theorem State.setCtx_tick (s : State) (n : Nat) (c : Ctx) : (State.setCtx s n c).tick = s.tick := rfl
@[simp] theorem State.setCtx_btick (s : State) (n : Nat) (c : Ctx) : (State.setCtx s n c).btick = s.btick := rfl
@[simp] theorem State.setCtx_dev (s : State) (n : Nat) (c : Ctx) : (State.setCtx s n c).dev = s.dev := rfl
@[simp] theorem State.setCtx_txn (s : State) (n : Nat) (c : Ctx) : (State.setCtx s n c).txn = s.txn := rfl
@[simp] theorem State.setCtx_trj (s : State) (n : Nat) (c : Ctx) : (State.setCtx s n c).trj = s.trj := rfl
@[simp] theorem State.setCtx_lnd (s : State) (n : Nat) (c : Ctx) : (State.setCtx s n c).lnd = s.lnd := rfl
@[simp] theorem State.setCtx_cat (s : State) (n : Nat) (c : Ctx) : (State.setCtx s n c).cat = s.cat := rfl
@[simp] theorem State.setCtx_mpl (s : State) (n : Nat) (c : Ctx) : (State.setCtx s n c).mpl = s.mpl := rfl
@[simp] theorem State.setCtx_grd (s : State) (n : Nat) (c : Ctx) : (State.setCtx s n c).grd = s.grd := rfl
@[simp] theorem State.setCtx_lnk (s : State) (n : Nat) (c : Ctx) : (State.setCtx s n c).lnk = s.lnk := rfl
@[simp] theorem State.setCtx_att (s : State) (n : Nat) (c : Ctx) : (State.setCtx s n c).att = s.att := rfl
@[simp] theorem State.setCtx_img (s : State) (n : Nat) (c : Ctx) : (State.setCtx s n c).img = s.img := rfl
@[simp] theorem State.setCtx_ilm (s : State) (n : Nat) (c : Ctx) : (State.setCtx s n c).ilm = s.ilm := rfl
@[simp] theorem State.setCtx_fol (s : State) (n : Nat) (c : Ctx) : (State.setCtx s n c).fol = s.fol := rfl
@[simp] theorem State.setCtx_stk (s : State) (n : Nat) (c : Ctx) : (State.setCtx s n c).stk = s.stk := rfl
@[simp] theorem State.setCtx_ax (s : State) (n : Nat) (c : Ctx) : (State.setCtx s n c).ax = s.ax := rfl
@[simp] theorem State.setCtx_net (s : State) (n : Nat) (c : Ctx) : (State.setCtx s n c).net = s.net := rfl
@[simp] theorem State.setCtx_flt (s : State) (n : Nat) (c : Ctx) : (State.setCtx s n c).flt = s.flt := rfl
@[simp] theorem State.setCtx_ldg (s : State) (n : Nat) (c : Ctx) : (State.setCtx s n c).ldg = s.ldg := rfl
@[simp] theorem State.setCtx_tmp (s : State) (n : Nat) (c : Ctx) : (State.setCtx s n c).tmp = s.tmp := rfl
@[simp] theorem State.setCtx_pwr (s : State) (n : Nat) (c : Ctx) : (State.setCtx s n c).pwr = s.pwr := rfl
@[simp] theorem State.setCtx_raised (s : State) (n : Nat) (c : Ctx) : (State.setCtx s n c).raised = s.raised := rfl
@[simp] theorem State.setCtx_free (s : State) (n : Nat) (c : Ctx) : (State.setCtx s n c).free = s.free := rfl
@[simp] theorem State.setCtx_pending (s : State) (n : Nat) (c : Ctx) : (State.setCtx s n c).pending = s.pending := rfl

@[simp] theorem State.setEng_tick (s : State) (c : Nat) (e : Engine) : (State.setEng s c e).tick = s.tick := rfl
@[simp] theorem State.setEng_btick (s : State) (c : Nat) (e : Engine) : (State.setEng s c e).btick = s.btick := rfl
@[simp] theorem State.setEng_dev (s : State) (c : Nat) (e : Engine) : (State.setEng s c e).dev = s.dev := rfl
@[simp] theorem State.setEng_txn (s : State) (c : Nat) (e : Engine) : (State.setEng s c e).txn = s.txn := rfl
@[simp] theorem State.setEng_ctx (s : State) (c : Nat) (e : Engine) : (State.setEng s c e).ctx = s.ctx := rfl
@[simp] theorem State.setEng_lnd (s : State) (c : Nat) (e : Engine) : (State.setEng s c e).lnd = s.lnd := rfl
@[simp] theorem State.setEng_cat (s : State) (c : Nat) (e : Engine) : (State.setEng s c e).cat = s.cat := rfl
@[simp] theorem State.setEng_mpl (s : State) (c : Nat) (e : Engine) : (State.setEng s c e).mpl = s.mpl := rfl
@[simp] theorem State.setEng_grd (s : State) (c : Nat) (e : Engine) : (State.setEng s c e).grd = s.grd := rfl
@[simp] theorem State.setEng_lnk (s : State) (c : Nat) (e : Engine) : (State.setEng s c e).lnk = s.lnk := rfl
@[simp] theorem State.setEng_att (s : State) (c : Nat) (e : Engine) : (State.setEng s c e).att = s.att := rfl
@[simp] theorem State.setEng_img (s : State) (c : Nat) (e : Engine) : (State.setEng s c e).img = s.img := rfl
@[simp] theorem State.setEng_ilm (s : State) (c : Nat) (e : Engine) : (State.setEng s c e).ilm = s.ilm := rfl
@[simp] theorem State.setEng_fol (s : State) (c : Nat) (e : Engine) : (State.setEng s c e).fol = s.fol := rfl
@[simp] theorem State.setEng_stk (s : State) (c : Nat) (e : Engine) : (State.setEng s c e).stk = s.stk := rfl
@[simp] theorem State.setEng_ax (s : State) (c : Nat) (e : Engine) : (State.setEng s c e).ax = s.ax := rfl
@[simp] theorem State.setEng_net (s : State) (c : Nat) (e : Engine) : (State.setEng s c e).net = s.net := rfl
@[simp] theorem State.setEng_flt (s : State) (c : Nat) (e : Engine) : (State.setEng s c e).flt = s.flt := rfl
@[simp] theorem State.setEng_ldg (s : State) (c : Nat) (e : Engine) : (State.setEng s c e).ldg = s.ldg := rfl
@[simp] theorem State.setEng_tmp (s : State) (c : Nat) (e : Engine) : (State.setEng s c e).tmp = s.tmp := rfl
@[simp] theorem State.setEng_pwr (s : State) (c : Nat) (e : Engine) : (State.setEng s c e).pwr = s.pwr := rfl
@[simp] theorem State.setEng_raised (s : State) (c : Nat) (e : Engine) : (State.setEng s c e).raised = s.raised := rfl
@[simp] theorem State.setEng_free (s : State) (c : Nat) (e : Engine) : (State.setEng s c e).free = s.free := rfl
@[simp] theorem State.setEng_pending (s : State) (c : Nat) (e : Engine) : (State.setEng s c e).pending = s.pending := rfl

@[simp] theorem State.setCh_tick (s : State) (c : Nat) (m : ChMode) : (State.setCh s c m).tick = s.tick := rfl
@[simp] theorem State.setCh_btick (s : State) (c : Nat) (m : ChMode) : (State.setCh s c m).btick = s.btick := rfl
@[simp] theorem State.setCh_dev (s : State) (c : Nat) (m : ChMode) : (State.setCh s c m).dev = s.dev := rfl
@[simp] theorem State.setCh_txn (s : State) (c : Nat) (m : ChMode) : (State.setCh s c m).txn = s.txn := rfl
@[simp] theorem State.setCh_ctx (s : State) (c : Nat) (m : ChMode) : (State.setCh s c m).ctx = s.ctx := rfl
@[simp] theorem State.setCh_trj (s : State) (c : Nat) (m : ChMode) : (State.setCh s c m).trj = s.trj := rfl
@[simp] theorem State.setCh_lnd (s : State) (c : Nat) (m : ChMode) : (State.setCh s c m).lnd = s.lnd := rfl
@[simp] theorem State.setCh_mpl (s : State) (c : Nat) (m : ChMode) : (State.setCh s c m).mpl = s.mpl := rfl
@[simp] theorem State.setCh_grd (s : State) (c : Nat) (m : ChMode) : (State.setCh s c m).grd = s.grd := rfl
@[simp] theorem State.setCh_lnk (s : State) (c : Nat) (m : ChMode) : (State.setCh s c m).lnk = s.lnk := rfl
@[simp] theorem State.setCh_att (s : State) (c : Nat) (m : ChMode) : (State.setCh s c m).att = s.att := rfl
@[simp] theorem State.setCh_img (s : State) (c : Nat) (m : ChMode) : (State.setCh s c m).img = s.img := rfl
@[simp] theorem State.setCh_ilm (s : State) (c : Nat) (m : ChMode) : (State.setCh s c m).ilm = s.ilm := rfl
@[simp] theorem State.setCh_fol (s : State) (c : Nat) (m : ChMode) : (State.setCh s c m).fol = s.fol := rfl
@[simp] theorem State.setCh_stk (s : State) (c : Nat) (m : ChMode) : (State.setCh s c m).stk = s.stk := rfl
@[simp] theorem State.setCh_ax (s : State) (c : Nat) (m : ChMode) : (State.setCh s c m).ax = s.ax := rfl
@[simp] theorem State.setCh_net (s : State) (c : Nat) (m : ChMode) : (State.setCh s c m).net = s.net := rfl
@[simp] theorem State.setCh_flt (s : State) (c : Nat) (m : ChMode) : (State.setCh s c m).flt = s.flt := rfl
@[simp] theorem State.setCh_ldg (s : State) (c : Nat) (m : ChMode) : (State.setCh s c m).ldg = s.ldg := rfl
@[simp] theorem State.setCh_tmp (s : State) (c : Nat) (m : ChMode) : (State.setCh s c m).tmp = s.tmp := rfl
@[simp] theorem State.setCh_pwr (s : State) (c : Nat) (m : ChMode) : (State.setCh s c m).pwr = s.pwr := rfl
@[simp] theorem State.setCh_raised (s : State) (c : Nat) (m : ChMode) : (State.setCh s c m).raised = s.raised := rfl
@[simp] theorem State.setCh_free (s : State) (c : Nat) (m : ChMode) : (State.setCh s c m).free = s.free := rfl
@[simp] theorem State.setCh_pending (s : State) (c : Nat) (m : ChMode) : (State.setCh s c m).pending = s.pending := rfl

@[simp] theorem State.wDev_tick (s : State) (idx sub : Nat) (v : Int) : (State.wDev s idx sub v).tick = s.tick := rfl
@[simp] theorem State.wDev_btick (s : State) (idx sub : Nat) (v : Int) : (State.wDev s idx sub v).btick = s.btick := rfl
@[simp] theorem State.wDev_txn (s : State) (idx sub : Nat) (v : Int) : (State.wDev s idx sub v).txn = s.txn := rfl
@[simp] theorem State.wDev_ctx (s : State) (idx sub : Nat) (v : Int) : (State.wDev s idx sub v).ctx = s.ctx := rfl
@[simp] theorem State.wDev_trj (s : State) (idx sub : Nat) (v : Int) : (State.wDev s idx sub v).trj = s.trj := rfl
@[simp] theorem State.wDev_lnd (s : State) (idx sub : Nat) (v : Int) : (State.wDev s idx sub v).lnd = s.lnd := rfl
@[simp] theorem State.wDev_cat (s : State) (idx sub : Nat) (v : Int) : (State.wDev s idx sub v).cat = s.cat := rfl
@[simp] theorem State.wDev_mpl (s : State) (idx sub : Nat) (v : Int) : (State.wDev s idx sub v).mpl = s.mpl := rfl
@[simp] theorem State.wDev_grd (s : State) (idx sub : Nat) (v : Int) : (State.wDev s idx sub v).grd = s.grd := rfl
@[simp] theorem State.wDev_lnk (s : State) (idx sub : Nat) (v : Int) : (State.wDev s idx sub v).lnk = s.lnk := rfl
@[simp] theorem State.wDev_att (s : State) (idx sub : Nat) (v : Int) : (State.wDev s idx sub v).att = s.att := rfl
@[simp] theorem State.wDev_img (s : State) (idx sub : Nat) (v : Int) : (State.wDev s idx sub v).img = s.img := rfl
@[simp] theorem State.wDev_ilm (s : State) (idx sub : Nat) (v : Int) : (State.wDev s idx sub v).ilm = s.ilm := rfl
@[simp] theorem State.wDev_fol (s : State) (idx sub : Nat) (v : Int) : (State.wDev s idx sub v).fol = s.fol := rfl
@[simp] theorem State.wDev_stk (s : State) (idx sub : Nat) (v : Int) : (State.wDev s idx sub v).stk = s.stk := rfl
@[simp] theorem State.wDev_ax (s : State) (idx sub : Nat) (v : Int) : (State.wDev s idx sub v).ax = s.ax := rfl
@[simp] theorem State.wDev_net (s : State) (idx sub : Nat) (v : Int) : (State.wDev s idx sub v).net = s.net := rfl
@[simp] theorem State.wDev_flt (s : State) (idx sub : Nat) (v : Int) : (State.wDev s idx sub v).flt = s.flt := rfl
@[simp] theorem State.wDev_ldg (s : State) (idx sub : Nat) (v : Int) : (State.wDev s idx sub v).ldg = s.ldg := rfl
@[simp] theorem State.wDev_tmp (s : State) (idx sub : Nat) (v : Int) : (State.wDev s idx sub v).tmp = s.tmp := rfl
@[simp] theorem State.wDev_pwr (s : State) (idx sub : Nat) (v : Int) : (State.wDev s idx sub v).pwr = s.pwr := rfl
@[simp] theorem State.wDev_raised (s : State) (idx sub : Nat) (v : Int) : (State.wDev s idx sub v).raised = s.raised := rfl
@[simp] theorem State.wDev_free (s : State) (idx sub : Nat) (v : Int) : (State.wDev s idx sub v).free = s.free := rfl
@[simp] theorem State.wDev_pending (s : State) (idx sub : Nat) (v : Int) : (State.wDev s idx sub v).pending = s.pending := rfl

@[simp] theorem State.incDev_tick (s : State) (idx sub : Nat) (d : Int) : (State.incDev s idx sub d).tick = s.tick := rfl
@[simp] theorem State.incDev_btick (s : State) (idx sub : Nat) (d : Int) : (State.incDev s idx sub d).btick = s.btick := rfl
@[simp] theorem State.incDev_txn (s : State) (idx sub : Nat) (d : Int) : (State.incDev s idx sub d).txn = s.txn := rfl
@[simp] theorem State.incDev_ctx (s : State) (idx sub : Nat) (d : Int) : (State.incDev s idx sub d).ctx = s.ctx := rfl
@[simp] theorem State.incDev_trj (s : State) (idx sub : Nat) (d : Int) : (State.incDev s idx sub d).trj = s.trj := rfl
@[simp] theorem State.incDev_lnd (s : State) (idx sub : Nat) (d : Int) : (State.incDev s idx sub d).lnd = s.lnd := rfl
@[simp] theorem State.incDev_cat (s : State) (idx sub : Nat) (d : Int) : (State.incDev s idx sub d).cat = s.cat := rfl
@[simp] theorem State.incDev_mpl (s : State) (idx sub : Nat) (d : Int) : (State.incDev s idx sub d).mpl = s.mpl := rfl
@[simp] theorem State.incDev_grd (s : State) (idx sub : Nat) (d : Int) : (State.incDev s idx sub d).grd = s.grd := rfl
@[simp] theorem State.incDev_lnk (s : State) (idx sub : Nat) (d : Int) : (State.incDev s idx sub d).lnk = s.lnk := rfl
@[simp] theorem State.incDev_att (s : State) (idx sub : Nat) (d : Int) : (State.incDev s idx sub d).att = s.att := rfl
@[simp] theorem State.incDev_img (s : State) (idx sub : Nat) (d : Int) : (State.incDev s idx sub d).img = s.img := rfl
@[simp] theorem State.incDev_ilm (s : State) (idx sub : Nat) (d : Int) : (State.incDev s idx sub d).ilm = s.ilm := rfl
@[simp] theorem State.incDev_fol (s : State) (idx sub : Nat) (d : Int) : (State.incDev s idx sub d).fol = s.fol := rfl
@[simp] theorem State.incDev_stk (s : State) (idx sub : Nat) (d : Int) : (State.incDev s idx sub d).stk = s.stk := rfl
@[simp] theorem State.incDev_ax (s : State) (idx sub : Nat) (d : Int) : (State.incDev s idx sub d).ax = s.ax := rfl
@[simp] theorem State.incDev_net (s : State) (idx sub : Nat) (d : Int) : (State.incDev s idx sub d).net = s.net := rfl
@[simp] theorem State.incDev_flt (s : State) (idx sub : Nat) (d : Int) : (State.incDev s idx sub d).flt = s.flt := rfl
@[simp] theorem State.incDev_ldg (s : State) (idx sub : Nat) (d : Int) : (State.incDev s idx sub d).ldg = s.ldg := rfl
@[simp] theorem State.incDev_tmp (s : State) (idx sub : Nat) (d : Int) : (State.incDev s idx sub d).tmp = s.tmp := rfl
@[simp] theorem State.incDev_pwr (s : State) (idx sub : Nat) (d : Int) : (State.incDev s idx sub d).pwr = s.pwr := rfl
@[simp] theorem State.incDev_raised (s : State) (idx sub : Nat) (d : Int) : (State.incDev s idx sub d).raised = s.raised := rfl
@[simp] theorem State.incDev_free (s : State) (idx sub : Nat) (d : Int) : (State.incDev s idx sub d).free = s.free := rfl
@[simp] theorem State.incDev_pending (s : State) (idx sub : Nat) (d : Int) : (State.incDev s idx sub d).pending = s.pending := rfl

@[simp] theorem State.wTxn_tick (s : State) (idx sub : Nat) (v : Int) : (State.wTxn s idx sub v).tick = s.tick := rfl
@[simp] theorem State.wTxn_btick (s : State) (idx sub : Nat) (v : Int) : (State.wTxn s idx sub v).btick = s.btick := rfl
@[simp] theorem State.wTxn_dev (s : State) (idx sub : Nat) (v : Int) : (State.wTxn s idx sub v).dev = s.dev := rfl
@[simp] theorem State.wTxn_ctx (s : State) (idx sub : Nat) (v : Int) : (State.wTxn s idx sub v).ctx = s.ctx := rfl
@[simp] theorem State.wTxn_trj (s : State) (idx sub : Nat) (v : Int) : (State.wTxn s idx sub v).trj = s.trj := rfl
@[simp] theorem State.wTxn_lnd (s : State) (idx sub : Nat) (v : Int) : (State.wTxn s idx sub v).lnd = s.lnd := rfl
@[simp] theorem State.wTxn_cat (s : State) (idx sub : Nat) (v : Int) : (State.wTxn s idx sub v).cat = s.cat := rfl
@[simp] theorem State.wTxn_mpl (s : State) (idx sub : Nat) (v : Int) : (State.wTxn s idx sub v).mpl = s.mpl := rfl
@[simp] theorem State.wTxn_grd (s : State) (idx sub : Nat) (v : Int) : (State.wTxn s idx sub v).grd = s.grd := rfl
@[simp] theorem State.wTxn_lnk (s : State) (idx sub : Nat) (v : Int) : (State.wTxn s idx sub v).lnk = s.lnk := rfl
@[simp] theorem State.wTxn_att (s : State) (idx sub : Nat) (v : Int) : (State.wTxn s idx sub v).att = s.att := rfl
@[simp] theorem State.wTxn_img (s : State) (idx sub : Nat) (v : Int) : (State.wTxn s idx sub v).img = s.img := rfl
@[simp] theorem State.wTxn_ilm (s : State) (idx sub : Nat) (v : Int) : (State.wTxn s idx sub v).ilm = s.ilm := rfl
@[simp] theorem State.wTxn_fol (s : State) (idx sub : Nat) (v : Int) : (State.wTxn s idx sub v).fol = s.fol := rfl
@[simp] theorem State.wTxn_stk (s : State) (idx sub : Nat) (v : Int) : (State.wTxn s idx sub v).stk = s.stk := rfl
@[simp] theorem State.wTxn_ax (s : State) (idx sub : Nat) (v : Int) : (State.wTxn s idx sub v).ax = s.ax := rfl
@[simp] theorem State.wTxn_net (s : State) (idx sub : Nat) (v : Int) : (State.wTxn s idx sub v).net = s.net := rfl
@[simp] theorem State.wTxn_flt (s : State) (idx sub : Nat) (v : Int) : (State.wTxn s idx sub v).flt = s.flt := rfl
@[simp] theorem State.wTxn_ldg (s : State) (idx sub : Nat) (v : Int) : (State.wTxn s idx sub v).ldg = s.ldg := rfl
@[simp] theorem State.wTxn_tmp (s : State) (idx sub : Nat) (v : Int) : (State.wTxn s idx sub v).tmp = s.tmp := rfl
@[simp] theorem State.wTxn_pwr (s : State) (idx sub : Nat) (v : Int) : (State.wTxn s idx sub v).pwr = s.pwr := rfl
@[simp] theorem State.wTxn_raised (s : State) (idx sub : Nat) (v : Int) : (State.wTxn s idx sub v).raised = s.raised := rfl
@[simp] theorem State.wTxn_free (s : State) (idx sub : Nat) (v : Int) : (State.wTxn s idx sub v).free = s.free := rfl
@[simp] theorem State.wTxn_pending (s : State) (idx sub : Nat) (v : Int) : (State.wTxn s idx sub v).pending = s.pending := rfl

@[simp] theorem State.incTxn_tick (s : State) (idx sub : Nat) (d : Int) : (State.incTxn s idx sub d).tick = s.tick := rfl
@[simp] theorem State.incTxn_btick (s : State) (idx sub : Nat) (d : Int) : (State.incTxn s idx sub d).btick = s.btick := rfl
@[simp] theorem State.incTxn_dev (s : State) (idx sub : Nat) (d : Int) : (State.incTxn s idx sub d).dev = s.dev := rfl
@[simp] theorem State.incTxn_ctx (s : State) (idx sub : Nat) (d : Int) : (State.incTxn s idx sub d).ctx = s.ctx := rfl
@[simp] theorem State.incTxn_trj (s : State) (idx sub : Nat) (d : Int) : (State.incTxn s idx sub d).trj = s.trj := rfl
@[simp] theorem State.incTxn_lnd (s : State) (idx sub : Nat) (d : Int) : (State.incTxn s idx sub d).lnd = s.lnd := rfl
@[simp] theorem State.incTxn_cat (s : State) (idx sub : Nat) (d : Int) : (State.incTxn s idx sub d).cat = s.cat := rfl
@[simp] theorem State.incTxn_mpl (s : State) (idx sub : Nat) (d : Int) : (State.incTxn s idx sub d).mpl = s.mpl := rfl
@[simp] theorem State.incTxn_grd (s : State) (idx sub : Nat) (d : Int) : (State.incTxn s idx sub d).grd = s.grd := rfl
@[simp] theorem State.incTxn_lnk (s : State) (idx sub : Nat) (d : Int) : (State.incTxn s idx sub d).lnk = s.lnk := rfl
@[simp] theorem State.incTxn_att (s : State) (idx sub : Nat) (d : Int) : (State.incTxn s idx sub d).att = s.att := rfl
@[simp] theorem State.incTxn_img (s : State) (idx sub : Nat) (d : Int) : (State.incTxn s idx sub d).img = s.img := rfl
@[simp] theorem State.incTxn_ilm (s : State) (idx sub : Nat) (d : Int) : (State.incTxn s idx sub d).ilm = s.ilm := rfl
@[simp] theorem State.incTxn_fol (s : State) (idx sub : Nat) (d : Int) : (State.incTxn s idx sub d).fol = s.fol := rfl
@[simp] theorem State.incTxn_stk (s : State) (idx sub : Nat) (d : Int) : (State.incTxn s idx sub d).stk = s.stk := rfl
@[simp] theorem State.incTxn_ax (s : State) (idx sub : Nat) (d : Int) : (State.incTxn s idx sub d).ax = s.ax := rfl
@[simp] theorem State.incTxn_net (s : State) (idx sub : Nat) (d : Int) : (State.incTxn s idx sub d).net = s.net := rfl
@[simp] theorem State.incTxn_flt (s : State) (idx sub : Nat) (d : Int) : (State.incTxn s idx sub d).flt = s.flt := rfl
@[simp] theorem State.incTxn_ldg (s : State) (idx sub : Nat) (d : Int) : (State.incTxn s idx sub d).ldg = s.ldg := rfl
@[simp] theorem State.incTxn_tmp (s : State) (idx sub : Nat) (d : Int) : (State.incTxn s idx sub d).tmp = s.tmp := rfl
@[simp] theorem State.incTxn_pwr (s : State) (idx sub : Nat) (d : Int) : (State.incTxn s idx sub d).pwr = s.pwr := rfl
@[simp] theorem State.incTxn_raised (s : State) (idx sub : Nat) (d : Int) : (State.incTxn s idx sub d).raised = s.raised := rfl
@[simp] theorem State.incTxn_free (s : State) (idx sub : Nat) (d : Int) : (State.incTxn s idx sub d).free = s.free := rfl
@[simp] theorem State.incTxn_pending (s : State) (idx sub : Nat) (d : Int) : (State.incTxn s idx sub d).pending = s.pending := rfl

@[simp] theorem State.wCtx_tick (s : State) (idx sub : Nat) (v : Int) : (State.wCtx s idx sub v).tick = s.tick := rfl
@[simp] theorem State.wCtx_btick (s : State) (idx sub : Nat) (v : Int) : (State.wCtx s idx sub v).btick = s.btick := rfl
@[simp] theorem State.wCtx_dev (s : State) (idx sub : Nat) (v : Int) : (State.wCtx s idx sub v).dev = s.dev := rfl
@[simp] theorem State.wCtx_txn (s : State) (idx sub : Nat) (v : Int) : (State.wCtx s idx sub v).txn = s.txn := rfl
@[simp] theorem State.wCtx_trj (s : State) (idx sub : Nat) (v : Int) : (State.wCtx s idx sub v).trj = s.trj := rfl
@[simp] theorem State.wCtx_lnd (s : State) (idx sub : Nat) (v : Int) : (State.wCtx s idx sub v).lnd = s.lnd := rfl
@[simp] theorem State.wCtx_cat (s : State) (idx sub : Nat) (v : Int) : (State.wCtx s idx sub v).cat = s.cat := rfl
@[simp] theorem State.wCtx_mpl (s : State) (idx sub : Nat) (v : Int) : (State.wCtx s idx sub v).mpl = s.mpl := rfl
@[simp] theorem State.wCtx_grd (s : State) (idx sub : Nat) (v : Int) : (State.wCtx s idx sub v).grd = s.grd := rfl
@[simp] theorem State.wCtx_lnk (s : State) (idx sub : Nat) (v : Int) : (State.wCtx s idx sub v).lnk = s.lnk := rfl
@[simp] theorem State.wCtx_att (s : State) (idx sub : Nat) (v : Int) : (State.wCtx s idx sub v).att = s.att := rfl
@[simp] theorem State.wCtx_img (s : State) (idx sub : Nat) (v : Int) : (State.wCtx s idx sub v).img = s.img := rfl
@[simp] theorem State.wCtx_ilm (s : State) (idx sub : Nat) (v : Int) : (State.wCtx s idx sub v).ilm = s.ilm := rfl
@[simp] theorem State.wCtx_fol (s : State) (idx sub : Nat) (v : Int) : (State.wCtx s idx sub v).fol = s.fol := rfl
@[simp] theorem State.wCtx_stk (s : State) (idx sub : Nat) (v : Int) : (State.wCtx s idx sub v).stk = s.stk := rfl
@[simp] theorem State.wCtx_ax (s : State) (idx sub : Nat) (v : Int) : (State.wCtx s idx sub v).ax = s.ax := rfl
@[simp] theorem State.wCtx_net (s : State) (idx sub : Nat) (v : Int) : (State.wCtx s idx sub v).net = s.net := rfl
@[simp] theorem State.wCtx_flt (s : State) (idx sub : Nat) (v : Int) : (State.wCtx s idx sub v).flt = s.flt := rfl
@[simp] theorem State.wCtx_ldg (s : State) (idx sub : Nat) (v : Int) : (State.wCtx s idx sub v).ldg = s.ldg := rfl
@[simp] theorem State.wCtx_tmp (s : State) (idx sub : Nat) (v : Int) : (State.wCtx s idx sub v).tmp = s.tmp := rfl
@[simp] theorem State.wCtx_pwr (s : State) (idx sub : Nat) (v : Int) : (State.wCtx s idx sub v).pwr = s.pwr := rfl
@[simp] theorem State.wCtx_raised (s : State) (idx sub : Nat) (v : Int) : (State.wCtx s idx sub v).raised = s.raised := rfl
@[simp] theorem State.wCtx_free (s : State) (idx sub : Nat) (v : Int) : (State.wCtx s idx sub v).free = s.free := rfl
@[simp] theorem State.wCtx_pending (s : State) (idx sub : Nat) (v : Int) : (State.wCtx s idx sub v).pending = s.pending := rfl

@[simp] theorem State.incCtx_tick (s : State) (idx sub : Nat) (d : Int) : (State.incCtx s idx sub d).tick = s.tick := rfl
@[simp] theorem State.incCtx_btick (s : State) (idx sub : Nat) (d : Int) : (State.incCtx s idx sub d).btick = s.btick := rfl
@[simp] theorem State.incCtx_dev (s : State) (idx sub : Nat) (d : Int) : (State.incCtx s idx sub d).dev = s.dev := rfl
@[simp] theorem State.incCtx_txn (s : State) (idx sub : Nat) (d : Int) : (State.incCtx s idx sub d).txn = s.txn := rfl
@[simp] theorem State.incCtx_trj (s : State) (idx sub : Nat) (d : Int) : (State.incCtx s idx sub d).trj = s.trj := rfl
@[simp] theorem State.incCtx_lnd (s : State) (idx sub : Nat) (d : Int) : (State.incCtx s idx sub d).lnd = s.lnd := rfl
@[simp] theorem State.incCtx_cat (s : State) (idx sub : Nat) (d : Int) : (State.incCtx s idx sub d).cat = s.cat := rfl
@[simp] theorem State.incCtx_mpl (s : State) (idx sub : Nat) (d : Int) : (State.incCtx s idx sub d).mpl = s.mpl := rfl
@[simp] theorem State.incCtx_grd (s : State) (idx sub : Nat) (d : Int) : (State.incCtx s idx sub d).grd = s.grd := rfl
@[simp] theorem State.incCtx_lnk (s : State) (idx sub : Nat) (d : Int) : (State.incCtx s idx sub d).lnk = s.lnk := rfl
@[simp] theorem State.incCtx_att (s : State) (idx sub : Nat) (d : Int) : (State.incCtx s idx sub d).att = s.att := rfl
@[simp] theorem State.incCtx_img (s : State) (idx sub : Nat) (d : Int) : (State.incCtx s idx sub d).img = s.img := rfl
@[simp] theorem State.incCtx_ilm (s : State) (idx sub : Nat) (d : Int) : (State.incCtx s idx sub d).ilm = s.ilm := rfl
@[simp] theorem State.incCtx_fol (s : State) (idx sub : Nat) (d : Int) : (State.incCtx s idx sub d).fol = s.fol := rfl
@[simp] theorem State.incCtx_stk (s : State) (idx sub : Nat) (d : Int) : (State.incCtx s idx sub d).stk = s.stk := rfl
@[simp] theorem State.incCtx_ax (s : State) (idx sub : Nat) (d : Int) : (State.incCtx s idx sub d).ax = s.ax := rfl
@[simp] theorem State.incCtx_net (s : State) (idx sub : Nat) (d : Int) : (State.incCtx s idx sub d).net = s.net := rfl
@[simp] theorem State.incCtx_flt (s : State) (idx sub : Nat) (d : Int) : (State.incCtx s idx sub d).flt = s.flt := rfl
@[simp] theorem State.incCtx_ldg (s : State) (idx sub : Nat) (d : Int) : (State.incCtx s idx sub d).ldg = s.ldg := rfl
@[simp] theorem State.incCtx_tmp (s : State) (idx sub : Nat) (d : Int) : (State.incCtx s idx sub d).tmp = s.tmp := rfl
@[simp] theorem State.incCtx_pwr (s : State) (idx sub : Nat) (d : Int) : (State.incCtx s idx sub d).pwr = s.pwr := rfl
@[simp] theorem State.incCtx_raised (s : State) (idx sub : Nat) (d : Int) : (State.incCtx s idx sub d).raised = s.raised := rfl
@[simp] theorem State.incCtx_free (s : State) (idx sub : Nat) (d : Int) : (State.incCtx s idx sub d).free = s.free := rfl
@[simp] theorem State.incCtx_pending (s : State) (idx sub : Nat) (d : Int) : (State.incCtx s idx sub d).pending = s.pending := rfl

@[simp] theorem State.wTrj_tick (s : State) (idx sub : Nat) (v : Int) : (State.wTrj s idx sub v).tick = s.tick := rfl
@[simp] theorem State.wTrj_btick (s : State) (idx sub : Nat) (v : Int) : (State.wTrj s idx sub v).btick = s.btick := rfl
@[simp] theorem State.wTrj_dev (s : State) (idx sub : Nat) (v : Int) : (State.wTrj s idx sub v).dev = s.dev := rfl
@[simp] theorem State.wTrj_txn (s : State) (idx sub : Nat) (v : Int) : (State.wTrj s idx sub v).txn = s.txn := rfl
@[simp] theorem State.wTrj_ctx (s : State) (idx sub : Nat) (v : Int) : (State.wTrj s idx sub v).ctx = s.ctx := rfl
@[simp] theorem State.wTrj_lnd (s : State) (idx sub : Nat) (v : Int) : (State.wTrj s idx sub v).lnd = s.lnd := rfl
@[simp] theorem State.wTrj_cat (s : State) (idx sub : Nat) (v : Int) : (State.wTrj s idx sub v).cat = s.cat := rfl
@[simp] theorem State.wTrj_mpl (s : State) (idx sub : Nat) (v : Int) : (State.wTrj s idx sub v).mpl = s.mpl := rfl
@[simp] theorem State.wTrj_grd (s : State) (idx sub : Nat) (v : Int) : (State.wTrj s idx sub v).grd = s.grd := rfl
@[simp] theorem State.wTrj_lnk (s : State) (idx sub : Nat) (v : Int) : (State.wTrj s idx sub v).lnk = s.lnk := rfl
@[simp] theorem State.wTrj_att (s : State) (idx sub : Nat) (v : Int) : (State.wTrj s idx sub v).att = s.att := rfl
@[simp] theorem State.wTrj_img (s : State) (idx sub : Nat) (v : Int) : (State.wTrj s idx sub v).img = s.img := rfl
@[simp] theorem State.wTrj_ilm (s : State) (idx sub : Nat) (v : Int) : (State.wTrj s idx sub v).ilm = s.ilm := rfl
@[simp] theorem State.wTrj_fol (s : State) (idx sub : Nat) (v : Int) : (State.wTrj s idx sub v).fol = s.fol := rfl
@[simp] theorem State.wTrj_stk (s : State) (idx sub : Nat) (v : Int) : (State.wTrj s idx sub v).stk = s.stk := rfl
@[simp] theorem State.wTrj_ax (s : State) (idx sub : Nat) (v : Int) : (State.wTrj s idx sub v).ax = s.ax := rfl
@[simp] theorem State.wTrj_net (s : State) (idx sub : Nat) (v : Int) : (State.wTrj s idx sub v).net = s.net := rfl
@[simp] theorem State.wTrj_flt (s : State) (idx sub : Nat) (v : Int) : (State.wTrj s idx sub v).flt = s.flt := rfl
@[simp] theorem State.wTrj_ldg (s : State) (idx sub : Nat) (v : Int) : (State.wTrj s idx sub v).ldg = s.ldg := rfl
@[simp] theorem State.wTrj_tmp (s : State) (idx sub : Nat) (v : Int) : (State.wTrj s idx sub v).tmp = s.tmp := rfl
@[simp] theorem State.wTrj_pwr (s : State) (idx sub : Nat) (v : Int) : (State.wTrj s idx sub v).pwr = s.pwr := rfl
@[simp] theorem State.wTrj_raised (s : State) (idx sub : Nat) (v : Int) : (State.wTrj s idx sub v).raised = s.raised := rfl
@[simp] theorem State.wTrj_free (s : State) (idx sub : Nat) (v : Int) : (State.wTrj s idx sub v).free = s.free := rfl
@[simp] theorem State.wTrj_pending (s : State) (idx sub : Nat) (v : Int) : (State.wTrj s idx sub v).pending = s.pending := rfl

@[simp] theorem State.incTrj_tick (s : State) (idx sub : Nat) (d : Int) : (State.incTrj s idx sub d).tick = s.tick := rfl
@[simp] theorem State.incTrj_btick (s : State) (idx sub : Nat) (d : Int) : (State.incTrj s idx sub d).btick = s.btick := rfl
@[simp] theorem State.incTrj_dev (s : State) (idx sub : Nat) (d : Int) : (State.incTrj s idx sub d).dev = s.dev := rfl
@[simp] theorem State.incTrj_txn (s : State) (idx sub : Nat) (d : Int) : (State.incTrj s idx sub d).txn = s.txn := rfl
@[simp] theorem State.incTrj_ctx (s : State) (idx sub : Nat) (d : Int) : (State.incTrj s idx sub d).ctx = s.ctx := rfl
@[simp] theorem State.incTrj_lnd (s : State) (idx sub : Nat) (d : Int) : (State.incTrj s idx sub d).lnd = s.lnd := rfl
@[simp] theorem State.incTrj_cat (s : State) (idx sub : Nat) (d : Int) : (State.incTrj s idx sub d).cat = s.cat := rfl
@[simp] theorem State.incTrj_mpl (s : State) (idx sub : Nat) (d : Int) : (State.incTrj s idx sub d).mpl = s.mpl := rfl
@[simp] theorem State.incTrj_grd (s : State) (idx sub : Nat) (d : Int) : (State.incTrj s idx sub d).grd = s.grd := rfl
@[simp] theorem State.incTrj_lnk (s : State) (idx sub : Nat) (d : Int) : (State.incTrj s idx sub d).lnk = s.lnk := rfl
@[simp] theorem State.incTrj_att (s : State) (idx sub : Nat) (d : Int) : (State.incTrj s idx sub d).att = s.att := rfl
@[simp] theorem State.incTrj_img (s : State) (idx sub : Nat) (d : Int) : (State.incTrj s idx sub d).img = s.img := rfl
@[simp] theorem State.incTrj_ilm (s : State) (idx sub : Nat) (d : Int) : (State.incTrj s idx sub d).ilm = s.ilm := rfl
@[simp] theorem State.incTrj_fol (s : State) (idx sub : Nat) (d : Int) : (State.incTrj s idx sub d).fol = s.fol := rfl
@[simp] theorem State.incTrj_stk (s : State) (idx sub : Nat) (d : Int) : (State.incTrj s idx sub d).stk = s.stk := rfl
@[simp] theorem State.incTrj_ax (s : State) (idx sub : Nat) (d : Int) : (State.incTrj s idx sub d).ax = s.ax := rfl
@[simp] theorem State.incTrj_net (s : State) (idx sub : Nat) (d : Int) : (State.incTrj s idx sub d).net = s.net := rfl
@[simp] theorem State.incTrj_flt (s : State) (idx sub : Nat) (d : Int) : (State.incTrj s idx sub d).flt = s.flt := rfl
@[simp] theorem State.incTrj_ldg (s : State) (idx sub : Nat) (d : Int) : (State.incTrj s idx sub d).ldg = s.ldg := rfl
@[simp] theorem State.incTrj_tmp (s : State) (idx sub : Nat) (d : Int) : (State.incTrj s idx sub d).tmp = s.tmp := rfl
@[simp] theorem State.incTrj_pwr (s : State) (idx sub : Nat) (d : Int) : (State.incTrj s idx sub d).pwr = s.pwr := rfl
@[simp] theorem State.incTrj_raised (s : State) (idx sub : Nat) (d : Int) : (State.incTrj s idx sub d).raised = s.raised := rfl
@[simp] theorem State.incTrj_free (s : State) (idx sub : Nat) (d : Int) : (State.incTrj s idx sub d).free = s.free := rfl
@[simp] theorem State.incTrj_pending (s : State) (idx sub : Nat) (d : Int) : (State.incTrj s idx sub d).pending = s.pending := rfl

@[simp] theorem State.wLnd_tick (s : State) (idx sub : Nat) (v : Int) : (State.wLnd s idx sub v).tick = s.tick := rfl
@[simp] theorem State.wLnd_btick (s : State) (idx sub : Nat) (v : Int) : (State.wLnd s idx sub v).btick = s.btick := rfl
@[simp] theorem State.wLnd_dev (s : State) (idx sub : Nat) (v : Int) : (State.wLnd s idx sub v).dev = s.dev := rfl
@[simp] theorem State.wLnd_txn (s : State) (idx sub : Nat) (v : Int) : (State.wLnd s idx sub v).txn = s.txn := rfl
@[simp] theorem State.wLnd_ctx (s : State) (idx sub : Nat) (v : Int) : (State.wLnd s idx sub v).ctx = s.ctx := rfl
@[simp] theorem State.wLnd_trj (s : State) (idx sub : Nat) (v : Int) : (State.wLnd s idx sub v).trj = s.trj := rfl
@[simp] theorem State.wLnd_cat (s : State) (idx sub : Nat) (v : Int) : (State.wLnd s idx sub v).cat = s.cat := rfl
@[simp] theorem State.wLnd_mpl (s : State) (idx sub : Nat) (v : Int) : (State.wLnd s idx sub v).mpl = s.mpl := rfl
@[simp] theorem State.wLnd_grd (s : State) (idx sub : Nat) (v : Int) : (State.wLnd s idx sub v).grd = s.grd := rfl
@[simp] theorem State.wLnd_lnk (s : State) (idx sub : Nat) (v : Int) : (State.wLnd s idx sub v).lnk = s.lnk := rfl
@[simp] theorem State.wLnd_att (s : State) (idx sub : Nat) (v : Int) : (State.wLnd s idx sub v).att = s.att := rfl
@[simp] theorem State.wLnd_img (s : State) (idx sub : Nat) (v : Int) : (State.wLnd s idx sub v).img = s.img := rfl
@[simp] theorem State.wLnd_ilm (s : State) (idx sub : Nat) (v : Int) : (State.wLnd s idx sub v).ilm = s.ilm := rfl
@[simp] theorem State.wLnd_fol (s : State) (idx sub : Nat) (v : Int) : (State.wLnd s idx sub v).fol = s.fol := rfl
@[simp] theorem State.wLnd_stk (s : State) (idx sub : Nat) (v : Int) : (State.wLnd s idx sub v).stk = s.stk := rfl
@[simp] theorem State.wLnd_ax (s : State) (idx sub : Nat) (v : Int) : (State.wLnd s idx sub v).ax = s.ax := rfl
@[simp] theorem State.wLnd_net (s : State) (idx sub : Nat) (v : Int) : (State.wLnd s idx sub v).net = s.net := rfl
@[simp] theorem State.wLnd_flt (s : State) (idx sub : Nat) (v : Int) : (State.wLnd s idx sub v).flt = s.flt := rfl
@[simp] theorem State.wLnd_ldg (s : State) (idx sub : Nat) (v : Int) : (State.wLnd s idx sub v).ldg = s.ldg := rfl
@[simp] theorem State.wLnd_tmp (s : State) (idx sub : Nat) (v : Int) : (State.wLnd s idx sub v).tmp = s.tmp := rfl
@[simp] theorem State.wLnd_pwr (s : State) (idx sub : Nat) (v : Int) : (State.wLnd s idx sub v).pwr = s.pwr := rfl
@[simp] theorem State.wLnd_raised (s : State) (idx sub : Nat) (v : Int) : (State.wLnd s idx sub v).raised = s.raised := rfl
@[simp] theorem State.wLnd_free (s : State) (idx sub : Nat) (v : Int) : (State.wLnd s idx sub v).free = s.free := rfl
@[simp] theorem State.wLnd_pending (s : State) (idx sub : Nat) (v : Int) : (State.wLnd s idx sub v).pending = s.pending := rfl

@[simp] theorem State.incLnd_tick (s : State) (idx sub : Nat) (d : Int) : (State.incLnd s idx sub d).tick = s.tick := rfl
@[simp] theorem State.incLnd_btick (s : State) (idx sub : Nat) (d : Int) : (State.incLnd s idx sub d).btick = s.btick := rfl
@[simp] theorem State.incLnd_dev (s : State) (idx sub : Nat) (d : Int) : (State.incLnd s idx sub d).dev = s.dev := rfl
@[simp] theorem State.incLnd_txn (s : State) (idx sub : Nat) (d : Int) : (State.incLnd s idx sub d).txn = s.txn := rfl
@[simp] theorem State.incLnd_ctx (s : State) (idx sub : Nat) (d : Int) : (State.incLnd s idx sub d).ctx = s.ctx := rfl
@[simp] theorem State.incLnd_trj (s : State) (idx sub : Nat) (d : Int) : (State.incLnd s idx sub d).trj = s.trj := rfl
@[simp] theorem State.incLnd_cat (s : State) (idx sub : Nat) (d : Int) : (State.incLnd s idx sub d).cat = s.cat := rfl
@[simp] theorem State.incLnd_mpl (s : State) (idx sub : Nat) (d : Int) : (State.incLnd s idx sub d).mpl = s.mpl := rfl
@[simp] theorem State.incLnd_grd (s : State) (idx sub : Nat) (d : Int) : (State.incLnd s idx sub d).grd = s.grd := rfl
@[simp] theorem State.incLnd_lnk (s : State) (idx sub : Nat) (d : Int) : (State.incLnd s idx sub d).lnk = s.lnk := rfl
@[simp] theorem State.incLnd_att (s : State) (idx sub : Nat) (d : Int) : (State.incLnd s idx sub d).att = s.att := rfl
@[simp] theorem State.incLnd_img (s : State) (idx sub : Nat) (d : Int) : (State.incLnd s idx sub d).img = s.img := rfl
@[simp] theorem State.incLnd_ilm (s : State) (idx sub : Nat) (d : Int) : (State.incLnd s idx sub d).ilm = s.ilm := rfl
@[simp] theorem State.incLnd_fol (s : State) (idx sub : Nat) (d : Int) : (State.incLnd s idx sub d).fol = s.fol := rfl
@[simp] theorem State.incLnd_stk (s : State) (idx sub : Nat) (d : Int) : (State.incLnd s idx sub d).stk = s.stk := rfl
@[simp] theorem State.incLnd_ax (s : State) (idx sub : Nat) (d : Int) : (State.incLnd s idx sub d).ax = s.ax := rfl
@[simp] theorem State.incLnd_net (s : State) (idx sub : Nat) (d : Int) : (State.incLnd s idx sub d).net = s.net := rfl
@[simp] theorem State.incLnd_flt (s : State) (idx sub : Nat) (d : Int) : (State.incLnd s idx sub d).flt = s.flt := rfl
@[simp] theorem State.incLnd_ldg (s : State) (idx sub : Nat) (d : Int) : (State.incLnd s idx sub d).ldg = s.ldg := rfl
@[simp] theorem State.incLnd_tmp (s : State) (idx sub : Nat) (d : Int) : (State.incLnd s idx sub d).tmp = s.tmp := rfl
@[simp] theorem State.incLnd_pwr (s : State) (idx sub : Nat) (d : Int) : (State.incLnd s idx sub d).pwr = s.pwr := rfl
@[simp] theorem State.incLnd_raised (s : State) (idx sub : Nat) (d : Int) : (State.incLnd s idx sub d).raised = s.raised := rfl
@[simp] theorem State.incLnd_free (s : State) (idx sub : Nat) (d : Int) : (State.incLnd s idx sub d).free = s.free := rfl
@[simp] theorem State.incLnd_pending (s : State) (idx sub : Nat) (d : Int) : (State.incLnd s idx sub d).pending = s.pending := rfl

@[simp] theorem State.wCat_tick (s : State) (idx sub : Nat) (v : Int) : (State.wCat s idx sub v).tick = s.tick := rfl
@[simp] theorem State.wCat_btick (s : State) (idx sub : Nat) (v : Int) : (State.wCat s idx sub v).btick = s.btick := rfl
@[simp] theorem State.wCat_dev (s : State) (idx sub : Nat) (v : Int) : (State.wCat s idx sub v).dev = s.dev := rfl
@[simp] theorem State.wCat_txn (s : State) (idx sub : Nat) (v : Int) : (State.wCat s idx sub v).txn = s.txn := rfl
@[simp] theorem State.wCat_ctx (s : State) (idx sub : Nat) (v : Int) : (State.wCat s idx sub v).ctx = s.ctx := rfl
@[simp] theorem State.wCat_trj (s : State) (idx sub : Nat) (v : Int) : (State.wCat s idx sub v).trj = s.trj := rfl
@[simp] theorem State.wCat_lnd (s : State) (idx sub : Nat) (v : Int) : (State.wCat s idx sub v).lnd = s.lnd := rfl
@[simp] theorem State.wCat_mpl (s : State) (idx sub : Nat) (v : Int) : (State.wCat s idx sub v).mpl = s.mpl := rfl
@[simp] theorem State.wCat_grd (s : State) (idx sub : Nat) (v : Int) : (State.wCat s idx sub v).grd = s.grd := rfl
@[simp] theorem State.wCat_lnk (s : State) (idx sub : Nat) (v : Int) : (State.wCat s idx sub v).lnk = s.lnk := rfl
@[simp] theorem State.wCat_att (s : State) (idx sub : Nat) (v : Int) : (State.wCat s idx sub v).att = s.att := rfl
@[simp] theorem State.wCat_img (s : State) (idx sub : Nat) (v : Int) : (State.wCat s idx sub v).img = s.img := rfl
@[simp] theorem State.wCat_ilm (s : State) (idx sub : Nat) (v : Int) : (State.wCat s idx sub v).ilm = s.ilm := rfl
@[simp] theorem State.wCat_fol (s : State) (idx sub : Nat) (v : Int) : (State.wCat s idx sub v).fol = s.fol := rfl
@[simp] theorem State.wCat_stk (s : State) (idx sub : Nat) (v : Int) : (State.wCat s idx sub v).stk = s.stk := rfl
@[simp] theorem State.wCat_ax (s : State) (idx sub : Nat) (v : Int) : (State.wCat s idx sub v).ax = s.ax := rfl
@[simp] theorem State.wCat_net (s : State) (idx sub : Nat) (v : Int) : (State.wCat s idx sub v).net = s.net := rfl
@[simp] theorem State.wCat_flt (s : State) (idx sub : Nat) (v : Int) : (State.wCat s idx sub v).flt = s.flt := rfl
@[simp] theorem State.wCat_ldg (s : State) (idx sub : Nat) (v : Int) : (State.wCat s idx sub v).ldg = s.ldg := rfl
@[simp] theorem State.wCat_tmp (s : State) (idx sub : Nat) (v : Int) : (State.wCat s idx sub v).tmp = s.tmp := rfl
@[simp] theorem State.wCat_pwr (s : State) (idx sub : Nat) (v : Int) : (State.wCat s idx sub v).pwr = s.pwr := rfl
@[simp] theorem State.wCat_raised (s : State) (idx sub : Nat) (v : Int) : (State.wCat s idx sub v).raised = s.raised := rfl
@[simp] theorem State.wCat_free (s : State) (idx sub : Nat) (v : Int) : (State.wCat s idx sub v).free = s.free := rfl
@[simp] theorem State.wCat_pending (s : State) (idx sub : Nat) (v : Int) : (State.wCat s idx sub v).pending = s.pending := rfl

@[simp] theorem State.incCat_tick (s : State) (idx sub : Nat) (d : Int) : (State.incCat s idx sub d).tick = s.tick := rfl
@[simp] theorem State.incCat_btick (s : State) (idx sub : Nat) (d : Int) : (State.incCat s idx sub d).btick = s.btick := rfl
@[simp] theorem State.incCat_dev (s : State) (idx sub : Nat) (d : Int) : (State.incCat s idx sub d).dev = s.dev := rfl
@[simp] theorem State.incCat_txn (s : State) (idx sub : Nat) (d : Int) : (State.incCat s idx sub d).txn = s.txn := rfl
@[simp] theorem State.incCat_ctx (s : State) (idx sub : Nat) (d : Int) : (State.incCat s idx sub d).ctx = s.ctx := rfl
@[simp] theorem State.incCat_trj (s : State) (idx sub : Nat) (d : Int) : (State.incCat s idx sub d).trj = s.trj := rfl
@[simp] theorem State.incCat_lnd (s : State) (idx sub : Nat) (d : Int) : (State.incCat s idx sub d).lnd = s.lnd := rfl
@[simp] theorem State.incCat_mpl (s : State) (idx sub : Nat) (d : Int) : (State.incCat s idx sub d).mpl = s.mpl := rfl
@[simp] theorem State.incCat_grd (s : State) (idx sub : Nat) (d : Int) : (State.incCat s idx sub d).grd = s.grd := rfl
@[simp] theorem State.incCat_lnk (s : State) (idx sub : Nat) (d : Int) : (State.incCat s idx sub d).lnk = s.lnk := rfl
@[simp] theorem State.incCat_att (s : State) (idx sub : Nat) (d : Int) : (State.incCat s idx sub d).att = s.att := rfl
@[simp] theorem State.incCat_img (s : State) (idx sub : Nat) (d : Int) : (State.incCat s idx sub d).img = s.img := rfl
@[simp] theorem State.incCat_ilm (s : State) (idx sub : Nat) (d : Int) : (State.incCat s idx sub d).ilm = s.ilm := rfl
@[simp] theorem State.incCat_fol (s : State) (idx sub : Nat) (d : Int) : (State.incCat s idx sub d).fol = s.fol := rfl
@[simp] theorem State.incCat_stk (s : State) (idx sub : Nat) (d : Int) : (State.incCat s idx sub d).stk = s.stk := rfl
@[simp] theorem State.incCat_ax (s : State) (idx sub : Nat) (d : Int) : (State.incCat s idx sub d).ax = s.ax := rfl
@[simp] theorem State.incCat_net (s : State) (idx sub : Nat) (d : Int) : (State.incCat s idx sub d).net = s.net := rfl
@[simp] theorem State.incCat_flt (s : State) (idx sub : Nat) (d : Int) : (State.incCat s idx sub d).flt = s.flt := rfl
@[simp] theorem State.incCat_ldg (s : State) (idx sub : Nat) (d : Int) : (State.incCat s idx sub d).ldg = s.ldg := rfl
@[simp] theorem State.incCat_tmp (s : State) (idx sub : Nat) (d : Int) : (State.incCat s idx sub d).tmp = s.tmp := rfl
@[simp] theorem State.incCat_pwr (s : State) (idx sub : Nat) (d : Int) : (State.incCat s idx sub d).pwr = s.pwr := rfl
@[simp] theorem State.incCat_raised (s : State) (idx sub : Nat) (d : Int) : (State.incCat s idx sub d).raised = s.raised := rfl
@[simp] theorem State.incCat_free (s : State) (idx sub : Nat) (d : Int) : (State.incCat s idx sub d).free = s.free := rfl
@[simp] theorem State.incCat_pending (s : State) (idx sub : Nat) (d : Int) : (State.incCat s idx sub d).pending = s.pending := rfl

@[simp] theorem State.wPwr_tick (s : State) (idx sub : Nat) (v : Int) : (State.wPwr s idx sub v).tick = s.tick := rfl
@[simp] theorem State.wPwr_btick (s : State) (idx sub : Nat) (v : Int) : (State.wPwr s idx sub v).btick = s.btick := rfl
@[simp] theorem State.wPwr_dev (s : State) (idx sub : Nat) (v : Int) : (State.wPwr s idx sub v).dev = s.dev := rfl
@[simp] theorem State.wPwr_txn (s : State) (idx sub : Nat) (v : Int) : (State.wPwr s idx sub v).txn = s.txn := rfl
@[simp] theorem State.wPwr_ctx (s : State) (idx sub : Nat) (v : Int) : (State.wPwr s idx sub v).ctx = s.ctx := rfl
@[simp] theorem State.wPwr_trj (s : State) (idx sub : Nat) (v : Int) : (State.wPwr s idx sub v).trj = s.trj := rfl
@[simp] theorem State.wPwr_lnd (s : State) (idx sub : Nat) (v : Int) : (State.wPwr s idx sub v).lnd = s.lnd := rfl
@[simp] theorem State.wPwr_cat (s : State) (idx sub : Nat) (v : Int) : (State.wPwr s idx sub v).cat = s.cat := rfl
@[simp] theorem State.wPwr_mpl (s : State) (idx sub : Nat) (v : Int) : (State.wPwr s idx sub v).mpl = s.mpl := rfl
@[simp] theorem State.wPwr_grd (s : State) (idx sub : Nat) (v : Int) : (State.wPwr s idx sub v).grd = s.grd := rfl
@[simp] theorem State.wPwr_lnk (s : State) (idx sub : Nat) (v : Int) : (State.wPwr s idx sub v).lnk = s.lnk := rfl
@[simp] theorem State.wPwr_att (s : State) (idx sub : Nat) (v : Int) : (State.wPwr s idx sub v).att = s.att := rfl
@[simp] theorem State.wPwr_img (s : State) (idx sub : Nat) (v : Int) : (State.wPwr s idx sub v).img = s.img := rfl
@[simp] theorem State.wPwr_ilm (s : State) (idx sub : Nat) (v : Int) : (State.wPwr s idx sub v).ilm = s.ilm := rfl
@[simp] theorem State.wPwr_fol (s : State) (idx sub : Nat) (v : Int) : (State.wPwr s idx sub v).fol = s.fol := rfl
@[simp] theorem State.wPwr_stk (s : State) (idx sub : Nat) (v : Int) : (State.wPwr s idx sub v).stk = s.stk := rfl
@[simp] theorem State.wPwr_ax (s : State) (idx sub : Nat) (v : Int) : (State.wPwr s idx sub v).ax = s.ax := rfl
@[simp] theorem State.wPwr_net (s : State) (idx sub : Nat) (v : Int) : (State.wPwr s idx sub v).net = s.net := rfl
@[simp] theorem State.wPwr_flt (s : State) (idx sub : Nat) (v : Int) : (State.wPwr s idx sub v).flt = s.flt := rfl
@[simp] theorem State.wPwr_ldg (s : State) (idx sub : Nat) (v : Int) : (State.wPwr s idx sub v).ldg = s.ldg := rfl
@[simp] theorem State.wPwr_tmp (s : State) (idx sub : Nat) (v : Int) : (State.wPwr s idx sub v).tmp = s.tmp := rfl
@[simp] theorem State.wPwr_raised (s : State) (idx sub : Nat) (v : Int) : (State.wPwr s idx sub v).raised = s.raised := rfl
@[simp] theorem State.wPwr_free (s : State) (idx sub : Nat) (v : Int) : (State.wPwr s idx sub v).free = s.free := rfl
@[simp] theorem State.wPwr_pending (s : State) (idx sub : Nat) (v : Int) : (State.wPwr s idx sub v).pending = s.pending := rfl

@[simp] theorem State.incPwr_tick (s : State) (idx sub : Nat) (d : Int) : (State.incPwr s idx sub d).tick = s.tick := rfl
@[simp] theorem State.incPwr_btick (s : State) (idx sub : Nat) (d : Int) : (State.incPwr s idx sub d).btick = s.btick := rfl
@[simp] theorem State.incPwr_dev (s : State) (idx sub : Nat) (d : Int) : (State.incPwr s idx sub d).dev = s.dev := rfl
@[simp] theorem State.incPwr_txn (s : State) (idx sub : Nat) (d : Int) : (State.incPwr s idx sub d).txn = s.txn := rfl
@[simp] theorem State.incPwr_ctx (s : State) (idx sub : Nat) (d : Int) : (State.incPwr s idx sub d).ctx = s.ctx := rfl
@[simp] theorem State.incPwr_trj (s : State) (idx sub : Nat) (d : Int) : (State.incPwr s idx sub d).trj = s.trj := rfl
@[simp] theorem State.incPwr_lnd (s : State) (idx sub : Nat) (d : Int) : (State.incPwr s idx sub d).lnd = s.lnd := rfl
@[simp] theorem State.incPwr_cat (s : State) (idx sub : Nat) (d : Int) : (State.incPwr s idx sub d).cat = s.cat := rfl
@[simp] theorem State.incPwr_mpl (s : State) (idx sub : Nat) (d : Int) : (State.incPwr s idx sub d).mpl = s.mpl := rfl
@[simp] theorem State.incPwr_grd (s : State) (idx sub : Nat) (d : Int) : (State.incPwr s idx sub d).grd = s.grd := rfl
@[simp] theorem State.incPwr_lnk (s : State) (idx sub : Nat) (d : Int) : (State.incPwr s idx sub d).lnk = s.lnk := rfl
@[simp] theorem State.incPwr_att (s : State) (idx sub : Nat) (d : Int) : (State.incPwr s idx sub d).att = s.att := rfl
@[simp] theorem State.incPwr_img (s : State) (idx sub : Nat) (d : Int) : (State.incPwr s idx sub d).img = s.img := rfl
@[simp] theorem State.incPwr_ilm (s : State) (idx sub : Nat) (d : Int) : (State.incPwr s idx sub d).ilm = s.ilm := rfl
@[simp] theorem State.incPwr_fol (s : State) (idx sub : Nat) (d : Int) : (State.incPwr s idx sub d).fol = s.fol := rfl
@[simp] theorem State.incPwr_stk (s : State) (idx sub : Nat) (d : Int) : (State.incPwr s idx sub d).stk = s.stk := rfl
@[simp] theorem State.incPwr_ax (s : State) (idx sub : Nat) (d : Int) : (State.incPwr s idx sub d).ax = s.ax := rfl
@[simp] theorem State.incPwr_net (s : State) (idx sub : Nat) (d : Int) : (State.incPwr s idx sub d).net = s.net := rfl
@[simp] theorem State.incPwr_flt (s : State) (idx sub : Nat) (d : Int) : (State.incPwr s idx sub d).flt = s.flt := rfl
@[simp] theorem State.incPwr_ldg (s : State) (idx sub : Nat) (d : Int) : (State.incPwr s idx sub d).ldg = s.ldg := rfl
@[simp] theorem State.incPwr_tmp (s : State) (idx sub : Nat) (d : Int) : (State.incPwr s idx sub d).tmp = s.tmp := rfl
@[simp] theorem State.incPwr_raised (s : State) (idx sub : Nat) (d : Int) : (State.incPwr s idx sub d).raised = s.raised := rfl
@[simp] theorem State.incPwr_free (s : State) (idx sub : Nat) (d : Int) : (State.incPwr s idx sub d).free = s.free := rfl
@[simp] theorem State.incPwr_pending (s : State) (idx sub : Nat) (d : Int) : (State.incPwr s idx sub d).pending = s.pending := rfl

@[simp] theorem State.wMpl_tick (s : State) (idx sub : Nat) (v : Int) : (State.wMpl s idx sub v).tick = s.tick := rfl
@[simp] theorem State.wMpl_btick (s : State) (idx sub : Nat) (v : Int) : (State.wMpl s idx sub v).btick = s.btick := rfl
@[simp] theorem State.wMpl_dev (s : State) (idx sub : Nat) (v : Int) : (State.wMpl s idx sub v).dev = s.dev := rfl
@[simp] theorem State.wMpl_txn (s : State) (idx sub : Nat) (v : Int) : (State.wMpl s idx sub v).txn = s.txn := rfl
@[simp] theorem State.wMpl_ctx (s : State) (idx sub : Nat) (v : Int) : (State.wMpl s idx sub v).ctx = s.ctx := rfl
@[simp] theorem State.wMpl_trj (s : State) (idx sub : Nat) (v : Int) : (State.wMpl s idx sub v).trj = s.trj := rfl
@[simp] theorem State.wMpl_lnd (s : State) (idx sub : Nat) (v : Int) : (State.wMpl s idx sub v).lnd = s.lnd := rfl
@[simp] theorem State.wMpl_cat (s : State) (idx sub : Nat) (v : Int) : (State.wMpl s idx sub v).cat = s.cat := rfl
@[simp] theorem State.wMpl_grd (s : State) (idx sub : Nat) (v : Int) : (State.wMpl s idx sub v).grd = s.grd := rfl
@[simp] theorem State.wMpl_lnk (s : State) (idx sub : Nat) (v : Int) : (State.wMpl s idx sub v).lnk = s.lnk := rfl
@[simp] theorem State.wMpl_att (s : State) (idx sub : Nat) (v : Int) : (State.wMpl s idx sub v).att = s.att := rfl
@[simp] theorem State.wMpl_img (s : State) (idx sub : Nat) (v : Int) : (State.wMpl s idx sub v).img = s.img := rfl
@[simp] theorem State.wMpl_ilm (s : State) (idx sub : Nat) (v : Int) : (State.wMpl s idx sub v).ilm = s.ilm := rfl
@[simp] theorem State.wMpl_fol (s : State) (idx sub : Nat) (v : Int) : (State.wMpl s idx sub v).fol = s.fol := rfl
@[simp] theorem State.wMpl_stk (s : State) (idx sub : Nat) (v : Int) : (State.wMpl s idx sub v).stk = s.stk := rfl
@[simp] theorem State.wMpl_ax (s : State) (idx sub : Nat) (v : Int) : (State.wMpl s idx sub v).ax = s.ax := rfl
@[simp] theorem State.wMpl_net (s : State) (idx sub : Nat) (v : Int) : (State.wMpl s idx sub v).net = s.net := rfl
@[simp] theorem State.wMpl_flt (s : State) (idx sub : Nat) (v : Int) : (State.wMpl s idx sub v).flt = s.flt := rfl
@[simp] theorem State.wMpl_ldg (s : State) (idx sub : Nat) (v : Int) : (State.wMpl s idx sub v).ldg = s.ldg := rfl
@[simp] theorem State.wMpl_tmp (s : State) (idx sub : Nat) (v : Int) : (State.wMpl s idx sub v).tmp = s.tmp := rfl
@[simp] theorem State.wMpl_pwr (s : State) (idx sub : Nat) (v : Int) : (State.wMpl s idx sub v).pwr = s.pwr := rfl
@[simp] theorem State.wMpl_raised (s : State) (idx sub : Nat) (v : Int) : (State.wMpl s idx sub v).raised = s.raised := rfl
@[simp] theorem State.wMpl_free (s : State) (idx sub : Nat) (v : Int) : (State.wMpl s idx sub v).free = s.free := rfl
@[simp] theorem State.wMpl_pending (s : State) (idx sub : Nat) (v : Int) : (State.wMpl s idx sub v).pending = s.pending := rfl

@[simp] theorem State.incMpl_tick (s : State) (idx sub : Nat) (d : Int) : (State.incMpl s idx sub d).tick = s.tick := rfl
@[simp] theorem State.incMpl_btick (s : State) (idx sub : Nat) (d : Int) : (State.incMpl s idx sub d).btick = s.btick := rfl
@[simp] theorem State.incMpl_dev (s : State) (idx sub : Nat) (d : Int) : (State.incMpl s idx sub d).dev = s.dev := rfl
@[simp] theorem State.incMpl_txn (s : State) (idx sub : Nat) (d : Int) : (State.incMpl s idx sub d).txn = s.txn := rfl
@[simp] theorem State.incMpl_ctx (s : State) (idx sub : Nat) (d : Int) : (State.incMpl s idx sub d).ctx = s.ctx := rfl
@[simp] theorem State.incMpl_trj (s : State) (idx sub : Nat) (d : Int) : (State.incMpl s idx sub d).trj = s.trj := rfl
@[simp] theorem State.incMpl_lnd (s : State) (idx sub : Nat) (d : Int) : (State.incMpl s idx sub d).lnd = s.lnd := rfl
@[simp] theorem State.incMpl_cat (s : State) (idx sub : Nat) (d : Int) : (State.incMpl s idx sub d).cat = s.cat := rfl
@[simp] theorem State.incMpl_grd (s : State) (idx sub : Nat) (d : Int) : (State.incMpl s idx sub d).grd = s.grd := rfl
@[simp] theorem State.incMpl_lnk (s : State) (idx sub : Nat) (d : Int) : (State.incMpl s idx sub d).lnk = s.lnk := rfl
@[simp] theorem State.incMpl_att (s : State) (idx sub : Nat) (d : Int) : (State.incMpl s idx sub d).att = s.att := rfl
@[simp] theorem State.incMpl_img (s : State) (idx sub : Nat) (d : Int) : (State.incMpl s idx sub d).img = s.img := rfl
@[simp] theorem State.incMpl_ilm (s : State) (idx sub : Nat) (d : Int) : (State.incMpl s idx sub d).ilm = s.ilm := rfl
@[simp] theorem State.incMpl_fol (s : State) (idx sub : Nat) (d : Int) : (State.incMpl s idx sub d).fol = s.fol := rfl
@[simp] theorem State.incMpl_stk (s : State) (idx sub : Nat) (d : Int) : (State.incMpl s idx sub d).stk = s.stk := rfl
@[simp] theorem State.incMpl_ax (s : State) (idx sub : Nat) (d : Int) : (State.incMpl s idx sub d).ax = s.ax := rfl
@[simp] theorem State.incMpl_net (s : State) (idx sub : Nat) (d : Int) : (State.incMpl s idx sub d).net = s.net := rfl
@[simp] theorem State.incMpl_flt (s : State) (idx sub : Nat) (d : Int) : (State.incMpl s idx sub d).flt = s.flt := rfl
@[simp] theorem State.incMpl_ldg (s : State) (idx sub : Nat) (d : Int) : (State.incMpl s idx sub d).ldg = s.ldg := rfl
@[simp] theorem State.incMpl_tmp (s : State) (idx sub : Nat) (d : Int) : (State.incMpl s idx sub d).tmp = s.tmp := rfl
@[simp] theorem State.incMpl_pwr (s : State) (idx sub : Nat) (d : Int) : (State.incMpl s idx sub d).pwr = s.pwr := rfl
@[simp] theorem State.incMpl_raised (s : State) (idx sub : Nat) (d : Int) : (State.incMpl s idx sub d).raised = s.raised := rfl
@[simp] theorem State.incMpl_free (s : State) (idx sub : Nat) (d : Int) : (State.incMpl s idx sub d).free = s.free := rfl
@[simp] theorem State.incMpl_pending (s : State) (idx sub : Nat) (d : Int) : (State.incMpl s idx sub d).pending = s.pending := rfl

@[simp] theorem State.wGrd_tick (s : State) (idx sub : Nat) (v : Int) : (State.wGrd s idx sub v).tick = s.tick := rfl
@[simp] theorem State.wGrd_btick (s : State) (idx sub : Nat) (v : Int) : (State.wGrd s idx sub v).btick = s.btick := rfl
@[simp] theorem State.wGrd_dev (s : State) (idx sub : Nat) (v : Int) : (State.wGrd s idx sub v).dev = s.dev := rfl
@[simp] theorem State.wGrd_txn (s : State) (idx sub : Nat) (v : Int) : (State.wGrd s idx sub v).txn = s.txn := rfl
@[simp] theorem State.wGrd_ctx (s : State) (idx sub : Nat) (v : Int) : (State.wGrd s idx sub v).ctx = s.ctx := rfl
@[simp] theorem State.wGrd_trj (s : State) (idx sub : Nat) (v : Int) : (State.wGrd s idx sub v).trj = s.trj := rfl
@[simp] theorem State.wGrd_lnd (s : State) (idx sub : Nat) (v : Int) : (State.wGrd s idx sub v).lnd = s.lnd := rfl
@[simp] theorem State.wGrd_cat (s : State) (idx sub : Nat) (v : Int) : (State.wGrd s idx sub v).cat = s.cat := rfl
@[simp] theorem State.wGrd_mpl (s : State) (idx sub : Nat) (v : Int) : (State.wGrd s idx sub v).mpl = s.mpl := rfl
@[simp] theorem State.wGrd_lnk (s : State) (idx sub : Nat) (v : Int) : (State.wGrd s idx sub v).lnk = s.lnk := rfl
@[simp] theorem State.wGrd_att (s : State) (idx sub : Nat) (v : Int) : (State.wGrd s idx sub v).att = s.att := rfl
@[simp] theorem State.wGrd_img (s : State) (idx sub : Nat) (v : Int) : (State.wGrd s idx sub v).img = s.img := rfl
@[simp] theorem State.wGrd_ilm (s : State) (idx sub : Nat) (v : Int) : (State.wGrd s idx sub v).ilm = s.ilm := rfl
@[simp] theorem State.wGrd_fol (s : State) (idx sub : Nat) (v : Int) : (State.wGrd s idx sub v).fol = s.fol := rfl
@[simp] theorem State.wGrd_stk (s : State) (idx sub : Nat) (v : Int) : (State.wGrd s idx sub v).stk = s.stk := rfl
@[simp] theorem State.wGrd_ax (s : State) (idx sub : Nat) (v : Int) : (State.wGrd s idx sub v).ax = s.ax := rfl
@[simp] theorem State.wGrd_net (s : State) (idx sub : Nat) (v : Int) : (State.wGrd s idx sub v).net = s.net := rfl
@[simp] theorem State.wGrd_flt (s : State) (idx sub : Nat) (v : Int) : (State.wGrd s idx sub v).flt = s.flt := rfl
@[simp] theorem State.wGrd_ldg (s : State) (idx sub : Nat) (v : Int) : (State.wGrd s idx sub v).ldg = s.ldg := rfl
@[simp] theorem State.wGrd_tmp (s : State) (idx sub : Nat) (v : Int) : (State.wGrd s idx sub v).tmp = s.tmp := rfl
@[simp] theorem State.wGrd_pwr (s : State) (idx sub : Nat) (v : Int) : (State.wGrd s idx sub v).pwr = s.pwr := rfl
@[simp] theorem State.wGrd_raised (s : State) (idx sub : Nat) (v : Int) : (State.wGrd s idx sub v).raised = s.raised := rfl
@[simp] theorem State.wGrd_free (s : State) (idx sub : Nat) (v : Int) : (State.wGrd s idx sub v).free = s.free := rfl
@[simp] theorem State.wGrd_pending (s : State) (idx sub : Nat) (v : Int) : (State.wGrd s idx sub v).pending = s.pending := rfl

@[simp] theorem State.incGrd_tick (s : State) (idx sub : Nat) (d : Int) : (State.incGrd s idx sub d).tick = s.tick := rfl
@[simp] theorem State.incGrd_btick (s : State) (idx sub : Nat) (d : Int) : (State.incGrd s idx sub d).btick = s.btick := rfl
@[simp] theorem State.incGrd_dev (s : State) (idx sub : Nat) (d : Int) : (State.incGrd s idx sub d).dev = s.dev := rfl
@[simp] theorem State.incGrd_txn (s : State) (idx sub : Nat) (d : Int) : (State.incGrd s idx sub d).txn = s.txn := rfl
@[simp] theorem State.incGrd_ctx (s : State) (idx sub : Nat) (d : Int) : (State.incGrd s idx sub d).ctx = s.ctx := rfl
@[simp] theorem State.incGrd_trj (s : State) (idx sub : Nat) (d : Int) : (State.incGrd s idx sub d).trj = s.trj := rfl
@[simp] theorem State.incGrd_lnd (s : State) (idx sub : Nat) (d : Int) : (State.incGrd s idx sub d).lnd = s.lnd := rfl
@[simp] theorem State.incGrd_cat (s : State) (idx sub : Nat) (d : Int) : (State.incGrd s idx sub d).cat = s.cat := rfl
@[simp] theorem State.incGrd_mpl (s : State) (idx sub : Nat) (d : Int) : (State.incGrd s idx sub d).mpl = s.mpl := rfl
@[simp] theorem State.incGrd_lnk (s : State) (idx sub : Nat) (d : Int) : (State.incGrd s idx sub d).lnk = s.lnk := rfl
@[simp] theorem State.incGrd_att (s : State) (idx sub : Nat) (d : Int) : (State.incGrd s idx sub d).att = s.att := rfl
@[simp] theorem State.incGrd_img (s : State) (idx sub : Nat) (d : Int) : (State.incGrd s idx sub d).img = s.img := rfl
@[simp] theorem State.incGrd_ilm (s : State) (idx sub : Nat) (d : Int) : (State.incGrd s idx sub d).ilm = s.ilm := rfl
@[simp] theorem State.incGrd_fol (s : State) (idx sub : Nat) (d : Int) : (State.incGrd s idx sub d).fol = s.fol := rfl
@[simp] theorem State.incGrd_stk (s : State) (idx sub : Nat) (d : Int) : (State.incGrd s idx sub d).stk = s.stk := rfl
@[simp] theorem State.incGrd_ax (s : State) (idx sub : Nat) (d : Int) : (State.incGrd s idx sub d).ax = s.ax := rfl
@[simp] theorem State.incGrd_net (s : State) (idx sub : Nat) (d : Int) : (State.incGrd s idx sub d).net = s.net := rfl
@[simp] theorem State.incGrd_flt (s : State) (idx sub : Nat) (d : Int) : (State.incGrd s idx sub d).flt = s.flt := rfl
@[simp] theorem State.incGrd_ldg (s : State) (idx sub : Nat) (d : Int) : (State.incGrd s idx sub d).ldg = s.ldg := rfl
@[simp] theorem State.incGrd_tmp (s : State) (idx sub : Nat) (d : Int) : (State.incGrd s idx sub d).tmp = s.tmp := rfl
@[simp] theorem State.incGrd_pwr (s : State) (idx sub : Nat) (d : Int) : (State.incGrd s idx sub d).pwr = s.pwr := rfl
@[simp] theorem State.incGrd_raised (s : State) (idx sub : Nat) (d : Int) : (State.incGrd s idx sub d).raised = s.raised := rfl
@[simp] theorem State.incGrd_free (s : State) (idx sub : Nat) (d : Int) : (State.incGrd s idx sub d).free = s.free := rfl
@[simp] theorem State.incGrd_pending (s : State) (idx sub : Nat) (d : Int) : (State.incGrd s idx sub d).pending = s.pending := rfl

@[simp] theorem State.wLnk_tick (s : State) (idx sub : Nat) (v : Int) : (State.wLnk s idx sub v).tick = s.tick := rfl
@[simp] theorem State.wLnk_btick (s : State) (idx sub : Nat) (v : Int) : (State.wLnk s idx sub v).btick = s.btick := rfl
@[simp] theorem State.wLnk_dev (s : State) (idx sub : Nat) (v : Int) : (State.wLnk s idx sub v).dev = s.dev := rfl
@[simp] theorem State.wLnk_txn (s : State) (idx sub : Nat) (v : Int) : (State.wLnk s idx sub v).txn = s.txn := rfl
@[simp] theorem State.wLnk_ctx (s : State) (idx sub : Nat) (v : Int) : (State.wLnk s idx sub v).ctx = s.ctx := rfl
@[simp] theorem State.wLnk_trj (s : State) (idx sub : Nat) (v : Int) : (State.wLnk s idx sub v).trj = s.trj := rfl
@[simp] theorem State.wLnk_lnd (s : State) (idx sub : Nat) (v : Int) : (State.wLnk s idx sub v).lnd = s.lnd := rfl
@[simp] theorem State.wLnk_cat (s : State) (idx sub : Nat) (v : Int) : (State.wLnk s idx sub v).cat = s.cat := rfl
@[simp] theorem State.wLnk_mpl (s : State) (idx sub : Nat) (v : Int) : (State.wLnk s idx sub v).mpl = s.mpl := rfl
@[simp] theorem State.wLnk_grd (s : State) (idx sub : Nat) (v : Int) : (State.wLnk s idx sub v).grd = s.grd := rfl
@[simp] theorem State.wLnk_att (s : State) (idx sub : Nat) (v : Int) : (State.wLnk s idx sub v).att = s.att := rfl
@[simp] theorem State.wLnk_img (s : State) (idx sub : Nat) (v : Int) : (State.wLnk s idx sub v).img = s.img := rfl
@[simp] theorem State.wLnk_ilm (s : State) (idx sub : Nat) (v : Int) : (State.wLnk s idx sub v).ilm = s.ilm := rfl
@[simp] theorem State.wLnk_fol (s : State) (idx sub : Nat) (v : Int) : (State.wLnk s idx sub v).fol = s.fol := rfl
@[simp] theorem State.wLnk_stk (s : State) (idx sub : Nat) (v : Int) : (State.wLnk s idx sub v).stk = s.stk := rfl
@[simp] theorem State.wLnk_ax (s : State) (idx sub : Nat) (v : Int) : (State.wLnk s idx sub v).ax = s.ax := rfl
@[simp] theorem State.wLnk_net (s : State) (idx sub : Nat) (v : Int) : (State.wLnk s idx sub v).net = s.net := rfl
@[simp] theorem State.wLnk_flt (s : State) (idx sub : Nat) (v : Int) : (State.wLnk s idx sub v).flt = s.flt := rfl
@[simp] theorem State.wLnk_ldg (s : State) (idx sub : Nat) (v : Int) : (State.wLnk s idx sub v).ldg = s.ldg := rfl
@[simp] theorem State.wLnk_tmp (s : State) (idx sub : Nat) (v : Int) : (State.wLnk s idx sub v).tmp = s.tmp := rfl
@[simp] theorem State.wLnk_pwr (s : State) (idx sub : Nat) (v : Int) : (State.wLnk s idx sub v).pwr = s.pwr := rfl
@[simp] theorem State.wLnk_raised (s : State) (idx sub : Nat) (v : Int) : (State.wLnk s idx sub v).raised = s.raised := rfl
@[simp] theorem State.wLnk_free (s : State) (idx sub : Nat) (v : Int) : (State.wLnk s idx sub v).free = s.free := rfl
@[simp] theorem State.wLnk_pending (s : State) (idx sub : Nat) (v : Int) : (State.wLnk s idx sub v).pending = s.pending := rfl

@[simp] theorem State.incLnk_tick (s : State) (idx sub : Nat) (d : Int) : (State.incLnk s idx sub d).tick = s.tick := rfl
@[simp] theorem State.incLnk_btick (s : State) (idx sub : Nat) (d : Int) : (State.incLnk s idx sub d).btick = s.btick := rfl
@[simp] theorem State.incLnk_dev (s : State) (idx sub : Nat) (d : Int) : (State.incLnk s idx sub d).dev = s.dev := rfl
@[simp] theorem State.incLnk_txn (s : State) (idx sub : Nat) (d : Int) : (State.incLnk s idx sub d).txn = s.txn := rfl
@[simp] theorem State.incLnk_ctx (s : State) (idx sub : Nat) (d : Int) : (State.incLnk s idx sub d).ctx = s.ctx := rfl
@[simp] theorem State.incLnk_trj (s : State) (idx sub : Nat) (d : Int) : (State.incLnk s idx sub d).trj = s.trj := rfl
@[simp] theorem State.incLnk_lnd (s : State) (idx sub : Nat) (d : Int) : (State.incLnk s idx sub d).lnd = s.lnd := rfl
@[simp] theorem State.incLnk_cat (s : State) (idx sub : Nat) (d : Int) : (State.incLnk s idx sub d).cat = s.cat := rfl
@[simp] theorem State.incLnk_mpl (s : State) (idx sub : Nat) (d : Int) : (State.incLnk s idx sub d).mpl = s.mpl := rfl
@[simp] theorem State.incLnk_grd (s : State) (idx sub : Nat) (d : Int) : (State.incLnk s idx sub d).grd = s.grd := rfl
@[simp] theorem State.incLnk_att (s : State) (idx sub : Nat) (d : Int) : (State.incLnk s idx sub d).att = s.att := rfl
@[simp] theorem State.incLnk_img (s : State) (idx sub : Nat) (d : Int) : (State.incLnk s idx sub d).img = s.img := rfl
@[simp] theorem State.incLnk_ilm (s : State) (idx sub : Nat) (d : Int) : (State.incLnk s idx sub d).ilm = s.ilm := rfl
@[simp] theorem State.incLnk_fol (s : State) (idx sub : Nat) (d : Int) : (State.incLnk s idx sub d).fol = s.fol := rfl
@[simp] theorem State.incLnk_stk (s : State) (idx sub : Nat) (d : Int) : (State.incLnk s idx sub d).stk = s.stk := rfl
@[simp] theorem State.incLnk_ax (s : State) (idx sub : Nat) (d : Int) : (State.incLnk s idx sub d).ax = s.ax := rfl
@[simp] theorem State.incLnk_net (s : State) (idx sub : Nat) (d : Int) : (State.incLnk s idx sub d).net = s.net := rfl
@[simp] theorem State.incLnk_flt (s : State) (idx sub : Nat) (d : Int) : (State.incLnk s idx sub d).flt = s.flt := rfl
@[simp] theorem State.incLnk_ldg (s : State) (idx sub : Nat) (d : Int) : (State.incLnk s idx sub d).ldg = s.ldg := rfl
@[simp] theorem State.incLnk_tmp (s : State) (idx sub : Nat) (d : Int) : (State.incLnk s idx sub d).tmp = s.tmp := rfl
@[simp] theorem State.incLnk_pwr (s : State) (idx sub : Nat) (d : Int) : (State.incLnk s idx sub d).pwr = s.pwr := rfl
@[simp] theorem State.incLnk_raised (s : State) (idx sub : Nat) (d : Int) : (State.incLnk s idx sub d).raised = s.raised := rfl
@[simp] theorem State.incLnk_free (s : State) (idx sub : Nat) (d : Int) : (State.incLnk s idx sub d).free = s.free := rfl
@[simp] theorem State.incLnk_pending (s : State) (idx sub : Nat) (d : Int) : (State.incLnk s idx sub d).pending = s.pending := rfl

@[simp] theorem State.wAtt_tick (s : State) (idx sub : Nat) (v : Int) : (State.wAtt s idx sub v).tick = s.tick := rfl
@[simp] theorem State.wAtt_btick (s : State) (idx sub : Nat) (v : Int) : (State.wAtt s idx sub v).btick = s.btick := rfl
@[simp] theorem State.wAtt_dev (s : State) (idx sub : Nat) (v : Int) : (State.wAtt s idx sub v).dev = s.dev := rfl
@[simp] theorem State.wAtt_txn (s : State) (idx sub : Nat) (v : Int) : (State.wAtt s idx sub v).txn = s.txn := rfl
@[simp] theorem State.wAtt_ctx (s : State) (idx sub : Nat) (v : Int) : (State.wAtt s idx sub v).ctx = s.ctx := rfl
@[simp] theorem State.wAtt_trj (s : State) (idx sub : Nat) (v : Int) : (State.wAtt s idx sub v).trj = s.trj := rfl
@[simp] theorem State.wAtt_lnd (s : State) (idx sub : Nat) (v : Int) : (State.wAtt s idx sub v).lnd = s.lnd := rfl
@[simp] theorem State.wAtt_cat (s : State) (idx sub : Nat) (v : Int) : (State.wAtt s idx sub v).cat = s.cat := rfl
@[simp] theorem State.wAtt_mpl (s : State) (idx sub : Nat) (v : Int) : (State.wAtt s idx sub v).mpl = s.mpl := rfl
@[simp] theorem State.wAtt_grd (s : State) (idx sub : Nat) (v : Int) : (State.wAtt s idx sub v).grd = s.grd := rfl
@[simp] theorem State.wAtt_lnk (s : State) (idx sub : Nat) (v : Int) : (State.wAtt s idx sub v).lnk = s.lnk := rfl
@[simp] theorem State.wAtt_img (s : State) (idx sub : Nat) (v : Int) : (State.wAtt s idx sub v).img = s.img := rfl
@[simp] theorem State.wAtt_ilm (s : State) (idx sub : Nat) (v : Int) : (State.wAtt s idx sub v).ilm = s.ilm := rfl
@[simp] theorem State.wAtt_fol (s : State) (idx sub : Nat) (v : Int) : (State.wAtt s idx sub v).fol = s.fol := rfl
@[simp] theorem State.wAtt_stk (s : State) (idx sub : Nat) (v : Int) : (State.wAtt s idx sub v).stk = s.stk := rfl
@[simp] theorem State.wAtt_ax (s : State) (idx sub : Nat) (v : Int) : (State.wAtt s idx sub v).ax = s.ax := rfl
@[simp] theorem State.wAtt_net (s : State) (idx sub : Nat) (v : Int) : (State.wAtt s idx sub v).net = s.net := rfl
@[simp] theorem State.wAtt_flt (s : State) (idx sub : Nat) (v : Int) : (State.wAtt s idx sub v).flt = s.flt := rfl
@[simp] theorem State.wAtt_ldg (s : State) (idx sub : Nat) (v : Int) : (State.wAtt s idx sub v).ldg = s.ldg := rfl
@[simp] theorem State.wAtt_tmp (s : State) (idx sub : Nat) (v : Int) : (State.wAtt s idx sub v).tmp = s.tmp := rfl
@[simp] theorem State.wAtt_pwr (s : State) (idx sub : Nat) (v : Int) : (State.wAtt s idx sub v).pwr = s.pwr := rfl
@[simp] theorem State.wAtt_raised (s : State) (idx sub : Nat) (v : Int) : (State.wAtt s idx sub v).raised = s.raised := rfl
@[simp] theorem State.wAtt_free (s : State) (idx sub : Nat) (v : Int) : (State.wAtt s idx sub v).free = s.free := rfl
@[simp] theorem State.wAtt_pending (s : State) (idx sub : Nat) (v : Int) : (State.wAtt s idx sub v).pending = s.pending := rfl

@[simp] theorem State.incAtt_tick (s : State) (idx sub : Nat) (d : Int) : (State.incAtt s idx sub d).tick = s.tick := rfl
@[simp] theorem State.incAtt_btick (s : State) (idx sub : Nat) (d : Int) : (State.incAtt s idx sub d).btick = s.btick := rfl
@[simp] theorem State.incAtt_dev (s : State) (idx sub : Nat) (d : Int) : (State.incAtt s idx sub d).dev = s.dev := rfl
@[simp] theorem State.incAtt_txn (s : State) (idx sub : Nat) (d : Int) : (State.incAtt s idx sub d).txn = s.txn := rfl
@[simp] theorem State.incAtt_ctx (s : State) (idx sub : Nat) (d : Int) : (State.incAtt s idx sub d).ctx = s.ctx := rfl
@[simp] theorem State.incAtt_trj (s : State) (idx sub : Nat) (d : Int) : (State.incAtt s idx sub d).trj = s.trj := rfl
@[simp] theorem State.incAtt_lnd (s : State) (idx sub : Nat) (d : Int) : (State.incAtt s idx sub d).lnd = s.lnd := rfl
@[simp] theorem State.incAtt_cat (s : State) (idx sub : Nat) (d : Int) : (State.incAtt s idx sub d).cat = s.cat := rfl
@[simp] theorem State.incAtt_mpl (s : State) (idx sub : Nat) (d : Int) : (State.incAtt s idx sub d).mpl = s.mpl := rfl
@[simp] theorem State.incAtt_grd (s : State) (idx sub : Nat) (d : Int) : (State.incAtt s idx sub d).grd = s.grd := rfl
@[simp] theorem State.incAtt_lnk (s : State) (idx sub : Nat) (d : Int) : (State.incAtt s idx sub d).lnk = s.lnk := rfl
@[simp] theorem State.incAtt_img (s : State) (idx sub : Nat) (d : Int) : (State.incAtt s idx sub d).img = s.img := rfl
@[simp] theorem State.incAtt_ilm (s : State) (idx sub : Nat) (d : Int) : (State.incAtt s idx sub d).ilm = s.ilm := rfl
@[simp] theorem State.incAtt_fol (s : State) (idx sub : Nat) (d : Int) : (State.incAtt s idx sub d).fol = s.fol := rfl
@[simp] theorem State.incAtt_stk (s : State) (idx sub : Nat) (d : Int) : (State.incAtt s idx sub d).stk = s.stk := rfl
@[simp] theorem State.incAtt_ax (s : State) (idx sub : Nat) (d : Int) : (State.incAtt s idx sub d).ax = s.ax := rfl
@[simp] theorem State.incAtt_net (s : State) (idx sub : Nat) (d : Int) : (State.incAtt s idx sub d).net = s.net := rfl
@[simp] theorem State.incAtt_flt (s : State) (idx sub : Nat) (d : Int) : (State.incAtt s idx sub d).flt = s.flt := rfl
@[simp] theorem State.incAtt_ldg (s : State) (idx sub : Nat) (d : Int) : (State.incAtt s idx sub d).ldg = s.ldg := rfl
@[simp] theorem State.incAtt_tmp (s : State) (idx sub : Nat) (d : Int) : (State.incAtt s idx sub d).tmp = s.tmp := rfl
@[simp] theorem State.incAtt_pwr (s : State) (idx sub : Nat) (d : Int) : (State.incAtt s idx sub d).pwr = s.pwr := rfl
@[simp] theorem State.incAtt_raised (s : State) (idx sub : Nat) (d : Int) : (State.incAtt s idx sub d).raised = s.raised := rfl
@[simp] theorem State.incAtt_free (s : State) (idx sub : Nat) (d : Int) : (State.incAtt s idx sub d).free = s.free := rfl
@[simp] theorem State.incAtt_pending (s : State) (idx sub : Nat) (d : Int) : (State.incAtt s idx sub d).pending = s.pending := rfl

@[simp] theorem State.wImg_tick (s : State) (idx sub : Nat) (v : Int) : (State.wImg s idx sub v).tick = s.tick := rfl
@[simp] theorem State.wImg_btick (s : State) (idx sub : Nat) (v : Int) : (State.wImg s idx sub v).btick = s.btick := rfl
@[simp] theorem State.wImg_dev (s : State) (idx sub : Nat) (v : Int) : (State.wImg s idx sub v).dev = s.dev := rfl
@[simp] theorem State.wImg_txn (s : State) (idx sub : Nat) (v : Int) : (State.wImg s idx sub v).txn = s.txn := rfl
@[simp] theorem State.wImg_ctx (s : State) (idx sub : Nat) (v : Int) : (State.wImg s idx sub v).ctx = s.ctx := rfl
@[simp] theorem State.wImg_trj (s : State) (idx sub : Nat) (v : Int) : (State.wImg s idx sub v).trj = s.trj := rfl
@[simp] theorem State.wImg_lnd (s : State) (idx sub : Nat) (v : Int) : (State.wImg s idx sub v).lnd = s.lnd := rfl
@[simp] theorem State.wImg_cat (s : State) (idx sub : Nat) (v : Int) : (State.wImg s idx sub v).cat = s.cat := rfl
@[simp] theorem State.wImg_mpl (s : State) (idx sub : Nat) (v : Int) : (State.wImg s idx sub v).mpl = s.mpl := rfl
@[simp] theorem State.wImg_grd (s : State) (idx sub : Nat) (v : Int) : (State.wImg s idx sub v).grd = s.grd := rfl
@[simp] theorem State.wImg_lnk (s : State) (idx sub : Nat) (v : Int) : (State.wImg s idx sub v).lnk = s.lnk := rfl
@[simp] theorem State.wImg_att (s : State) (idx sub : Nat) (v : Int) : (State.wImg s idx sub v).att = s.att := rfl
@[simp] theorem State.wImg_ilm (s : State) (idx sub : Nat) (v : Int) : (State.wImg s idx sub v).ilm = s.ilm := rfl
@[simp] theorem State.wImg_fol (s : State) (idx sub : Nat) (v : Int) : (State.wImg s idx sub v).fol = s.fol := rfl
@[simp] theorem State.wImg_stk (s : State) (idx sub : Nat) (v : Int) : (State.wImg s idx sub v).stk = s.stk := rfl
@[simp] theorem State.wImg_ax (s : State) (idx sub : Nat) (v : Int) : (State.wImg s idx sub v).ax = s.ax := rfl
@[simp] theorem State.wImg_net (s : State) (idx sub : Nat) (v : Int) : (State.wImg s idx sub v).net = s.net := rfl
@[simp] theorem State.wImg_flt (s : State) (idx sub : Nat) (v : Int) : (State.wImg s idx sub v).flt = s.flt := rfl
@[simp] theorem State.wImg_ldg (s : State) (idx sub : Nat) (v : Int) : (State.wImg s idx sub v).ldg = s.ldg := rfl
@[simp] theorem State.wImg_tmp (s : State) (idx sub : Nat) (v : Int) : (State.wImg s idx sub v).tmp = s.tmp := rfl
@[simp] theorem State.wImg_pwr (s : State) (idx sub : Nat) (v : Int) : (State.wImg s idx sub v).pwr = s.pwr := rfl
@[simp] theorem State.wImg_raised (s : State) (idx sub : Nat) (v : Int) : (State.wImg s idx sub v).raised = s.raised := rfl
@[simp] theorem State.wImg_free (s : State) (idx sub : Nat) (v : Int) : (State.wImg s idx sub v).free = s.free := rfl
@[simp] theorem State.wImg_pending (s : State) (idx sub : Nat) (v : Int) : (State.wImg s idx sub v).pending = s.pending := rfl

@[simp] theorem State.incImg_tick (s : State) (idx sub : Nat) (d : Int) : (State.incImg s idx sub d).tick = s.tick := rfl
@[simp] theorem State.incImg_btick (s : State) (idx sub : Nat) (d : Int) : (State.incImg s idx sub d).btick = s.btick := rfl
@[simp] theorem State.incImg_dev (s : State) (idx sub : Nat) (d : Int) : (State.incImg s idx sub d).dev = s.dev := rfl
@[simp] theorem State.incImg_txn (s : State) (idx sub : Nat) (d : Int) : (State.incImg s idx sub d).txn = s.txn := rfl
@[simp] theorem State.incImg_ctx (s : State) (idx sub : Nat) (d : Int) : (State.incImg s idx sub d).ctx = s.ctx := rfl
@[simp] theorem State.incImg_trj (s : State) (idx sub : Nat) (d : Int) : (State.incImg s idx sub d).trj = s.trj := rfl
@[simp] theorem State.incImg_lnd (s : State) (idx sub : Nat) (d : Int) : (State.incImg s idx sub d).lnd = s.lnd := rfl
@[simp] theorem State.incImg_cat (s : State) (idx sub : Nat) (d : Int) : (State.incImg s idx sub d).cat = s.cat := rfl
@[simp] theorem State.incImg_mpl (s : State) (idx sub : Nat) (d : Int) : (State.incImg s idx sub d).mpl = s.mpl := rfl
@[simp] theorem State.incImg_grd (s : State) (idx sub : Nat) (d : Int) : (State.incImg s idx sub d).grd = s.grd := rfl
@[simp] theorem State.incImg_lnk (s : State) (idx sub : Nat) (d : Int) : (State.incImg s idx sub d).lnk = s.lnk := rfl
@[simp] theorem State.incImg_att (s : State) (idx sub : Nat) (d : Int) : (State.incImg s idx sub d).att = s.att := rfl
@[simp] theorem State.incImg_ilm (s : State) (idx sub : Nat) (d : Int) : (State.incImg s idx sub d).ilm = s.ilm := rfl
@[simp] theorem State.incImg_fol (s : State) (idx sub : Nat) (d : Int) : (State.incImg s idx sub d).fol = s.fol := rfl
@[simp] theorem State.incImg_stk (s : State) (idx sub : Nat) (d : Int) : (State.incImg s idx sub d).stk = s.stk := rfl
@[simp] theorem State.incImg_ax (s : State) (idx sub : Nat) (d : Int) : (State.incImg s idx sub d).ax = s.ax := rfl
@[simp] theorem State.incImg_net (s : State) (idx sub : Nat) (d : Int) : (State.incImg s idx sub d).net = s.net := rfl
@[simp] theorem State.incImg_flt (s : State) (idx sub : Nat) (d : Int) : (State.incImg s idx sub d).flt = s.flt := rfl
@[simp] theorem State.incImg_ldg (s : State) (idx sub : Nat) (d : Int) : (State.incImg s idx sub d).ldg = s.ldg := rfl
@[simp] theorem State.incImg_tmp (s : State) (idx sub : Nat) (d : Int) : (State.incImg s idx sub d).tmp = s.tmp := rfl
@[simp] theorem State.incImg_pwr (s : State) (idx sub : Nat) (d : Int) : (State.incImg s idx sub d).pwr = s.pwr := rfl
@[simp] theorem State.incImg_raised (s : State) (idx sub : Nat) (d : Int) : (State.incImg s idx sub d).raised = s.raised := rfl
@[simp] theorem State.incImg_free (s : State) (idx sub : Nat) (d : Int) : (State.incImg s idx sub d).free = s.free := rfl
@[simp] theorem State.incImg_pending (s : State) (idx sub : Nat) (d : Int) : (State.incImg s idx sub d).pending = s.pending := rfl

@[simp] theorem State.wIlm_tick (s : State) (idx sub : Nat) (v : Int) : (State.wIlm s idx sub v).tick = s.tick := rfl
@[simp] theorem State.wIlm_btick (s : State) (idx sub : Nat) (v : Int) : (State.wIlm s idx sub v).btick = s.btick := rfl
@[simp] theorem State.wIlm_dev (s : State) (idx sub : Nat) (v : Int) : (State.wIlm s idx sub v).dev = s.dev := rfl
@[simp] theorem State.wIlm_txn (s : State) (idx sub : Nat) (v : Int) : (State.wIlm s idx sub v).txn = s.txn := rfl
@[simp] theorem State.wIlm_ctx (s : State) (idx sub : Nat) (v : Int) : (State.wIlm s idx sub v).ctx = s.ctx := rfl
@[simp] theorem State.wIlm_trj (s : State) (idx sub : Nat) (v : Int) : (State.wIlm s idx sub v).trj = s.trj := rfl
@[simp] theorem State.wIlm_lnd (s : State) (idx sub : Nat) (v : Int) : (State.wIlm s idx sub v).lnd = s.lnd := rfl
@[simp] theorem State.wIlm_cat (s : State) (idx sub : Nat) (v : Int) : (State.wIlm s idx sub v).cat = s.cat := rfl
@[simp] theorem State.wIlm_mpl (s : State) (idx sub : Nat) (v : Int) : (State.wIlm s idx sub v).mpl = s.mpl := rfl
@[simp] theorem State.wIlm_grd (s : State) (idx sub : Nat) (v : Int) : (State.wIlm s idx sub v).grd = s.grd := rfl
@[simp] theorem State.wIlm_lnk (s : State) (idx sub : Nat) (v : Int) : (State.wIlm s idx sub v).lnk = s.lnk := rfl
@[simp] theorem State.wIlm_att (s : State) (idx sub : Nat) (v : Int) : (State.wIlm s idx sub v).att = s.att := rfl
@[simp] theorem State.wIlm_img (s : State) (idx sub : Nat) (v : Int) : (State.wIlm s idx sub v).img = s.img := rfl
@[simp] theorem State.wIlm_fol (s : State) (idx sub : Nat) (v : Int) : (State.wIlm s idx sub v).fol = s.fol := rfl
@[simp] theorem State.wIlm_stk (s : State) (idx sub : Nat) (v : Int) : (State.wIlm s idx sub v).stk = s.stk := rfl
@[simp] theorem State.wIlm_ax (s : State) (idx sub : Nat) (v : Int) : (State.wIlm s idx sub v).ax = s.ax := rfl
@[simp] theorem State.wIlm_net (s : State) (idx sub : Nat) (v : Int) : (State.wIlm s idx sub v).net = s.net := rfl
@[simp] theorem State.wIlm_flt (s : State) (idx sub : Nat) (v : Int) : (State.wIlm s idx sub v).flt = s.flt := rfl
@[simp] theorem State.wIlm_ldg (s : State) (idx sub : Nat) (v : Int) : (State.wIlm s idx sub v).ldg = s.ldg := rfl
@[simp] theorem State.wIlm_tmp (s : State) (idx sub : Nat) (v : Int) : (State.wIlm s idx sub v).tmp = s.tmp := rfl
@[simp] theorem State.wIlm_pwr (s : State) (idx sub : Nat) (v : Int) : (State.wIlm s idx sub v).pwr = s.pwr := rfl
@[simp] theorem State.wIlm_raised (s : State) (idx sub : Nat) (v : Int) : (State.wIlm s idx sub v).raised = s.raised := rfl
@[simp] theorem State.wIlm_free (s : State) (idx sub : Nat) (v : Int) : (State.wIlm s idx sub v).free = s.free := rfl
@[simp] theorem State.wIlm_pending (s : State) (idx sub : Nat) (v : Int) : (State.wIlm s idx sub v).pending = s.pending := rfl

@[simp] theorem State.incIlm_tick (s : State) (idx sub : Nat) (d : Int) : (State.incIlm s idx sub d).tick = s.tick := rfl
@[simp] theorem State.incIlm_btick (s : State) (idx sub : Nat) (d : Int) : (State.incIlm s idx sub d).btick = s.btick := rfl
@[simp] theorem State.incIlm_dev (s : State) (idx sub : Nat) (d : Int) : (State.incIlm s idx sub d).dev = s.dev := rfl
@[simp] theorem State.incIlm_txn (s : State) (idx sub : Nat) (d : Int) : (State.incIlm s idx sub d).txn = s.txn := rfl
@[simp] theorem State.incIlm_ctx (s : State) (idx sub : Nat) (d : Int) : (State.incIlm s idx sub d).ctx = s.ctx := rfl
@[simp] theorem State.incIlm_trj (s : State) (idx sub : Nat) (d : Int) : (State.incIlm s idx sub d).trj = s.trj := rfl
@[simp] theorem State.incIlm_lnd (s : State) (idx sub : Nat) (d : Int) : (State.incIlm s idx sub d).lnd = s.lnd := rfl
@[simp] theorem State.incIlm_cat (s : State) (idx sub : Nat) (d : Int) : (State.incIlm s idx sub d).cat = s.cat := rfl
@[simp] theorem State.incIlm_mpl (s : State) (idx sub : Nat) (d : Int) : (State.incIlm s idx sub d).mpl = s.mpl := rfl
@[simp] theorem State.incIlm_grd (s : State) (idx sub : Nat) (d : Int) : (State.incIlm s idx sub d).grd = s.grd := rfl
@[simp] theorem State.incIlm_lnk (s : State) (idx sub : Nat) (d : Int) : (State.incIlm s idx sub d).lnk = s.lnk := rfl
@[simp] theorem State.incIlm_att (s : State) (idx sub : Nat) (d : Int) : (State.incIlm s idx sub d).att = s.att := rfl
@[simp] theorem State.incIlm_img (s : State) (idx sub : Nat) (d : Int) : (State.incIlm s idx sub d).img = s.img := rfl
@[simp] theorem State.incIlm_fol (s : State) (idx sub : Nat) (d : Int) : (State.incIlm s idx sub d).fol = s.fol := rfl
@[simp] theorem State.incIlm_stk (s : State) (idx sub : Nat) (d : Int) : (State.incIlm s idx sub d).stk = s.stk := rfl
@[simp] theorem State.incIlm_ax (s : State) (idx sub : Nat) (d : Int) : (State.incIlm s idx sub d).ax = s.ax := rfl
@[simp] theorem State.incIlm_net (s : State) (idx sub : Nat) (d : Int) : (State.incIlm s idx sub d).net = s.net := rfl
@[simp] theorem State.incIlm_flt (s : State) (idx sub : Nat) (d : Int) : (State.incIlm s idx sub d).flt = s.flt := rfl
@[simp] theorem State.incIlm_ldg (s : State) (idx sub : Nat) (d : Int) : (State.incIlm s idx sub d).ldg = s.ldg := rfl
@[simp] theorem State.incIlm_tmp (s : State) (idx sub : Nat) (d : Int) : (State.incIlm s idx sub d).tmp = s.tmp := rfl
@[simp] theorem State.incIlm_pwr (s : State) (idx sub : Nat) (d : Int) : (State.incIlm s idx sub d).pwr = s.pwr := rfl
@[simp] theorem State.incIlm_raised (s : State) (idx sub : Nat) (d : Int) : (State.incIlm s idx sub d).raised = s.raised := rfl
@[simp] theorem State.incIlm_free (s : State) (idx sub : Nat) (d : Int) : (State.incIlm s idx sub d).free = s.free := rfl
@[simp] theorem State.incIlm_pending (s : State) (idx sub : Nat) (d : Int) : (State.incIlm s idx sub d).pending = s.pending := rfl

@[simp] theorem State.wFol_tick (s : State) (idx sub : Nat) (v : Int) : (State.wFol s idx sub v).tick = s.tick := rfl
@[simp] theorem State.wFol_btick (s : State) (idx sub : Nat) (v : Int) : (State.wFol s idx sub v).btick = s.btick := rfl
@[simp] theorem State.wFol_dev (s : State) (idx sub : Nat) (v : Int) : (State.wFol s idx sub v).dev = s.dev := rfl
@[simp] theorem State.wFol_txn (s : State) (idx sub : Nat) (v : Int) : (State.wFol s idx sub v).txn = s.txn := rfl
@[simp] theorem State.wFol_ctx (s : State) (idx sub : Nat) (v : Int) : (State.wFol s idx sub v).ctx = s.ctx := rfl
@[simp] theorem State.wFol_trj (s : State) (idx sub : Nat) (v : Int) : (State.wFol s idx sub v).trj = s.trj := rfl
@[simp] theorem State.wFol_lnd (s : State) (idx sub : Nat) (v : Int) : (State.wFol s idx sub v).lnd = s.lnd := rfl
@[simp] theorem State.wFol_cat (s : State) (idx sub : Nat) (v : Int) : (State.wFol s idx sub v).cat = s.cat := rfl
@[simp] theorem State.wFol_mpl (s : State) (idx sub : Nat) (v : Int) : (State.wFol s idx sub v).mpl = s.mpl := rfl
@[simp] theorem State.wFol_grd (s : State) (idx sub : Nat) (v : Int) : (State.wFol s idx sub v).grd = s.grd := rfl
@[simp] theorem State.wFol_lnk (s : State) (idx sub : Nat) (v : Int) : (State.wFol s idx sub v).lnk = s.lnk := rfl
@[simp] theorem State.wFol_att (s : State) (idx sub : Nat) (v : Int) : (State.wFol s idx sub v).att = s.att := rfl
@[simp] theorem State.wFol_img (s : State) (idx sub : Nat) (v : Int) : (State.wFol s idx sub v).img = s.img := rfl
@[simp] theorem State.wFol_ilm (s : State) (idx sub : Nat) (v : Int) : (State.wFol s idx sub v).ilm = s.ilm := rfl
@[simp] theorem State.wFol_stk (s : State) (idx sub : Nat) (v : Int) : (State.wFol s idx sub v).stk = s.stk := rfl
@[simp] theorem State.wFol_ax (s : State) (idx sub : Nat) (v : Int) : (State.wFol s idx sub v).ax = s.ax := rfl
@[simp] theorem State.wFol_net (s : State) (idx sub : Nat) (v : Int) : (State.wFol s idx sub v).net = s.net := rfl
@[simp] theorem State.wFol_flt (s : State) (idx sub : Nat) (v : Int) : (State.wFol s idx sub v).flt = s.flt := rfl
@[simp] theorem State.wFol_ldg (s : State) (idx sub : Nat) (v : Int) : (State.wFol s idx sub v).ldg = s.ldg := rfl
@[simp] theorem State.wFol_tmp (s : State) (idx sub : Nat) (v : Int) : (State.wFol s idx sub v).tmp = s.tmp := rfl
@[simp] theorem State.wFol_pwr (s : State) (idx sub : Nat) (v : Int) : (State.wFol s idx sub v).pwr = s.pwr := rfl
@[simp] theorem State.wFol_raised (s : State) (idx sub : Nat) (v : Int) : (State.wFol s idx sub v).raised = s.raised := rfl
@[simp] theorem State.wFol_free (s : State) (idx sub : Nat) (v : Int) : (State.wFol s idx sub v).free = s.free := rfl
@[simp] theorem State.wFol_pending (s : State) (idx sub : Nat) (v : Int) : (State.wFol s idx sub v).pending = s.pending := rfl

@[simp] theorem State.incFol_tick (s : State) (idx sub : Nat) (d : Int) : (State.incFol s idx sub d).tick = s.tick := rfl
@[simp] theorem State.incFol_btick (s : State) (idx sub : Nat) (d : Int) : (State.incFol s idx sub d).btick = s.btick := rfl
@[simp] theorem State.incFol_dev (s : State) (idx sub : Nat) (d : Int) : (State.incFol s idx sub d).dev = s.dev := rfl
@[simp] theorem State.incFol_txn (s : State) (idx sub : Nat) (d : Int) : (State.incFol s idx sub d).txn = s.txn := rfl
@[simp] theorem State.incFol_ctx (s : State) (idx sub : Nat) (d : Int) : (State.incFol s idx sub d).ctx = s.ctx := rfl
@[simp] theorem State.incFol_trj (s : State) (idx sub : Nat) (d : Int) : (State.incFol s idx sub d).trj = s.trj := rfl
@[simp] theorem State.incFol_lnd (s : State) (idx sub : Nat) (d : Int) : (State.incFol s idx sub d).lnd = s.lnd := rfl
@[simp] theorem State.incFol_cat (s : State) (idx sub : Nat) (d : Int) : (State.incFol s idx sub d).cat = s.cat := rfl
@[simp] theorem State.incFol_mpl (s : State) (idx sub : Nat) (d : Int) : (State.incFol s idx sub d).mpl = s.mpl := rfl
@[simp] theorem State.incFol_grd (s : State) (idx sub : Nat) (d : Int) : (State.incFol s idx sub d).grd = s.grd := rfl
@[simp] theorem State.incFol_lnk (s : State) (idx sub : Nat) (d : Int) : (State.incFol s idx sub d).lnk = s.lnk := rfl
@[simp] theorem State.incFol_att (s : State) (idx sub : Nat) (d : Int) : (State.incFol s idx sub d).att = s.att := rfl
@[simp] theorem State.incFol_img (s : State) (idx sub : Nat) (d : Int) : (State.incFol s idx sub d).img = s.img := rfl
@[simp] theorem State.incFol_ilm (s : State) (idx sub : Nat) (d : Int) : (State.incFol s idx sub d).ilm = s.ilm := rfl
@[simp] theorem State.incFol_stk (s : State) (idx sub : Nat) (d : Int) : (State.incFol s idx sub d).stk = s.stk := rfl
@[simp] theorem State.incFol_ax (s : State) (idx sub : Nat) (d : Int) : (State.incFol s idx sub d).ax = s.ax := rfl
@[simp] theorem State.incFol_net (s : State) (idx sub : Nat) (d : Int) : (State.incFol s idx sub d).net = s.net := rfl
@[simp] theorem State.incFol_flt (s : State) (idx sub : Nat) (d : Int) : (State.incFol s idx sub d).flt = s.flt := rfl
@[simp] theorem State.incFol_ldg (s : State) (idx sub : Nat) (d : Int) : (State.incFol s idx sub d).ldg = s.ldg := rfl
@[simp] theorem State.incFol_tmp (s : State) (idx sub : Nat) (d : Int) : (State.incFol s idx sub d).tmp = s.tmp := rfl
@[simp] theorem State.incFol_pwr (s : State) (idx sub : Nat) (d : Int) : (State.incFol s idx sub d).pwr = s.pwr := rfl
@[simp] theorem State.incFol_raised (s : State) (idx sub : Nat) (d : Int) : (State.incFol s idx sub d).raised = s.raised := rfl
@[simp] theorem State.incFol_free (s : State) (idx sub : Nat) (d : Int) : (State.incFol s idx sub d).free = s.free := rfl
@[simp] theorem State.incFol_pending (s : State) (idx sub : Nat) (d : Int) : (State.incFol s idx sub d).pending = s.pending := rfl

@[simp] theorem State.wStk_tick (s : State) (idx sub : Nat) (v : Int) : (State.wStk s idx sub v).tick = s.tick := rfl
@[simp] theorem State.wStk_btick (s : State) (idx sub : Nat) (v : Int) : (State.wStk s idx sub v).btick = s.btick := rfl
@[simp] theorem State.wStk_dev (s : State) (idx sub : Nat) (v : Int) : (State.wStk s idx sub v).dev = s.dev := rfl
@[simp] theorem State.wStk_txn (s : State) (idx sub : Nat) (v : Int) : (State.wStk s idx sub v).txn = s.txn := rfl
@[simp] theorem State.wStk_ctx (s : State) (idx sub : Nat) (v : Int) : (State.wStk s idx sub v).ctx = s.ctx := rfl
@[simp] theorem State.wStk_trj (s : State) (idx sub : Nat) (v : Int) : (State.wStk s idx sub v).trj = s.trj := rfl
@[simp] theorem State.wStk_lnd (s : State) (idx sub : Nat) (v : Int) : (State.wStk s idx sub v).lnd = s.lnd := rfl
@[simp] theorem State.wStk_cat (s : State) (idx sub : Nat) (v : Int) : (State.wStk s idx sub v).cat = s.cat := rfl
@[simp] theorem State.wStk_mpl (s : State) (idx sub : Nat) (v : Int) : (State.wStk s idx sub v).mpl = s.mpl := rfl
@[simp] theorem State.wStk_grd (s : State) (idx sub : Nat) (v : Int) : (State.wStk s idx sub v).grd = s.grd := rfl
@[simp] theorem State.wStk_lnk (s : State) (idx sub : Nat) (v : Int) : (State.wStk s idx sub v).lnk = s.lnk := rfl
@[simp] theorem State.wStk_att (s : State) (idx sub : Nat) (v : Int) : (State.wStk s idx sub v).att = s.att := rfl
@[simp] theorem State.wStk_img (s : State) (idx sub : Nat) (v : Int) : (State.wStk s idx sub v).img = s.img := rfl
@[simp] theorem State.wStk_ilm (s : State) (idx sub : Nat) (v : Int) : (State.wStk s idx sub v).ilm = s.ilm := rfl
@[simp] theorem State.wStk_fol (s : State) (idx sub : Nat) (v : Int) : (State.wStk s idx sub v).fol = s.fol := rfl
@[simp] theorem State.wStk_ax (s : State) (idx sub : Nat) (v : Int) : (State.wStk s idx sub v).ax = s.ax := rfl
@[simp] theorem State.wStk_net (s : State) (idx sub : Nat) (v : Int) : (State.wStk s idx sub v).net = s.net := rfl
@[simp] theorem State.wStk_flt (s : State) (idx sub : Nat) (v : Int) : (State.wStk s idx sub v).flt = s.flt := rfl
@[simp] theorem State.wStk_ldg (s : State) (idx sub : Nat) (v : Int) : (State.wStk s idx sub v).ldg = s.ldg := rfl
@[simp] theorem State.wStk_tmp (s : State) (idx sub : Nat) (v : Int) : (State.wStk s idx sub v).tmp = s.tmp := rfl
@[simp] theorem State.wStk_pwr (s : State) (idx sub : Nat) (v : Int) : (State.wStk s idx sub v).pwr = s.pwr := rfl
@[simp] theorem State.wStk_raised (s : State) (idx sub : Nat) (v : Int) : (State.wStk s idx sub v).raised = s.raised := rfl
@[simp] theorem State.wStk_free (s : State) (idx sub : Nat) (v : Int) : (State.wStk s idx sub v).free = s.free := rfl
@[simp] theorem State.wStk_pending (s : State) (idx sub : Nat) (v : Int) : (State.wStk s idx sub v).pending = s.pending := rfl

@[simp] theorem State.incStk_tick (s : State) (idx sub : Nat) (d : Int) : (State.incStk s idx sub d).tick = s.tick := rfl
@[simp] theorem State.incStk_btick (s : State) (idx sub : Nat) (d : Int) : (State.incStk s idx sub d).btick = s.btick := rfl
@[simp] theorem State.incStk_dev (s : State) (idx sub : Nat) (d : Int) : (State.incStk s idx sub d).dev = s.dev := rfl
@[simp] theorem State.incStk_txn (s : State) (idx sub : Nat) (d : Int) : (State.incStk s idx sub d).txn = s.txn := rfl
@[simp] theorem State.incStk_ctx (s : State) (idx sub : Nat) (d : Int) : (State.incStk s idx sub d).ctx = s.ctx := rfl
@[simp] theorem State.incStk_trj (s : State) (idx sub : Nat) (d : Int) : (State.incStk s idx sub d).trj = s.trj := rfl
@[simp] theorem State.incStk_lnd (s : State) (idx sub : Nat) (d : Int) : (State.incStk s idx sub d).lnd = s.lnd := rfl
@[simp] theorem State.incStk_cat (s : State) (idx sub : Nat) (d : Int) : (State.incStk s idx sub d).cat = s.cat := rfl
@[simp] theorem State.incStk_mpl (s : State) (idx sub : Nat) (d : Int) : (State.incStk s idx sub d).mpl = s.mpl := rfl
@[simp] theorem State.incStk_grd (s : State) (idx sub : Nat) (d : Int) : (State.incStk s idx sub d).grd = s.grd := rfl
@[simp] theorem State.incStk_lnk (s : State) (idx sub : Nat) (d : Int) : (State.incStk s idx sub d).lnk = s.lnk := rfl
@[simp] theorem State.incStk_att (s : State) (idx sub : Nat) (d : Int) : (State.incStk s idx sub d).att = s.att := rfl
@[simp] theorem State.incStk_img (s : State) (idx sub : Nat) (d : Int) : (State.incStk s idx sub d).img = s.img := rfl
@[simp] theorem State.incStk_ilm (s : State) (idx sub : Nat) (d : Int) : (State.incStk s idx sub d).ilm = s.ilm := rfl
@[simp] theorem State.incStk_fol (s : State) (idx sub : Nat) (d : Int) : (State.incStk s idx sub d).fol = s.fol := rfl
@[simp] theorem State.incStk_ax (s : State) (idx sub : Nat) (d : Int) : (State.incStk s idx sub d).ax = s.ax := rfl
@[simp] theorem State.incStk_net (s : State) (idx sub : Nat) (d : Int) : (State.incStk s idx sub d).net = s.net := rfl
@[simp] theorem State.incStk_flt (s : State) (idx sub : Nat) (d : Int) : (State.incStk s idx sub d).flt = s.flt := rfl
@[simp] theorem State.incStk_ldg (s : State) (idx sub : Nat) (d : Int) : (State.incStk s idx sub d).ldg = s.ldg := rfl
@[simp] theorem State.incStk_tmp (s : State) (idx sub : Nat) (d : Int) : (State.incStk s idx sub d).tmp = s.tmp := rfl
@[simp] theorem State.incStk_pwr (s : State) (idx sub : Nat) (d : Int) : (State.incStk s idx sub d).pwr = s.pwr := rfl
@[simp] theorem State.incStk_raised (s : State) (idx sub : Nat) (d : Int) : (State.incStk s idx sub d).raised = s.raised := rfl
@[simp] theorem State.incStk_free (s : State) (idx sub : Nat) (d : Int) : (State.incStk s idx sub d).free = s.free := rfl
@[simp] theorem State.incStk_pending (s : State) (idx sub : Nat) (d : Int) : (State.incStk s idx sub d).pending = s.pending := rfl

@[simp] theorem State.wAx_tick (s : State) (idx sub : Nat) (v : Int) : (State.wAx s idx sub v).tick = s.tick := rfl
@[simp] theorem State.wAx_btick (s : State) (idx sub : Nat) (v : Int) : (State.wAx s idx sub v).btick = s.btick := rfl
@[simp] theorem State.wAx_dev (s : State) (idx sub : Nat) (v : Int) : (State.wAx s idx sub v).dev = s.dev := rfl
@[simp] theorem State.wAx_txn (s : State) (idx sub : Nat) (v : Int) : (State.wAx s idx sub v).txn = s.txn := rfl
@[simp] theorem State.wAx_ctx (s : State) (idx sub : Nat) (v : Int) : (State.wAx s idx sub v).ctx = s.ctx := rfl
@[simp] theorem State.wAx_trj (s : State) (idx sub : Nat) (v : Int) : (State.wAx s idx sub v).trj = s.trj := rfl
@[simp] theorem State.wAx_lnd (s : State) (idx sub : Nat) (v : Int) : (State.wAx s idx sub v).lnd = s.lnd := rfl
@[simp] theorem State.wAx_cat (s : State) (idx sub : Nat) (v : Int) : (State.wAx s idx sub v).cat = s.cat := rfl
@[simp] theorem State.wAx_mpl (s : State) (idx sub : Nat) (v : Int) : (State.wAx s idx sub v).mpl = s.mpl := rfl
@[simp] theorem State.wAx_grd (s : State) (idx sub : Nat) (v : Int) : (State.wAx s idx sub v).grd = s.grd := rfl
@[simp] theorem State.wAx_lnk (s : State) (idx sub : Nat) (v : Int) : (State.wAx s idx sub v).lnk = s.lnk := rfl
@[simp] theorem State.wAx_att (s : State) (idx sub : Nat) (v : Int) : (State.wAx s idx sub v).att = s.att := rfl
@[simp] theorem State.wAx_img (s : State) (idx sub : Nat) (v : Int) : (State.wAx s idx sub v).img = s.img := rfl
@[simp] theorem State.wAx_ilm (s : State) (idx sub : Nat) (v : Int) : (State.wAx s idx sub v).ilm = s.ilm := rfl
@[simp] theorem State.wAx_fol (s : State) (idx sub : Nat) (v : Int) : (State.wAx s idx sub v).fol = s.fol := rfl
@[simp] theorem State.wAx_stk (s : State) (idx sub : Nat) (v : Int) : (State.wAx s idx sub v).stk = s.stk := rfl
@[simp] theorem State.wAx_net (s : State) (idx sub : Nat) (v : Int) : (State.wAx s idx sub v).net = s.net := rfl
@[simp] theorem State.wAx_flt (s : State) (idx sub : Nat) (v : Int) : (State.wAx s idx sub v).flt = s.flt := rfl
@[simp] theorem State.wAx_ldg (s : State) (idx sub : Nat) (v : Int) : (State.wAx s idx sub v).ldg = s.ldg := rfl
@[simp] theorem State.wAx_tmp (s : State) (idx sub : Nat) (v : Int) : (State.wAx s idx sub v).tmp = s.tmp := rfl
@[simp] theorem State.wAx_pwr (s : State) (idx sub : Nat) (v : Int) : (State.wAx s idx sub v).pwr = s.pwr := rfl
@[simp] theorem State.wAx_raised (s : State) (idx sub : Nat) (v : Int) : (State.wAx s idx sub v).raised = s.raised := rfl
@[simp] theorem State.wAx_free (s : State) (idx sub : Nat) (v : Int) : (State.wAx s idx sub v).free = s.free := rfl
@[simp] theorem State.wAx_pending (s : State) (idx sub : Nat) (v : Int) : (State.wAx s idx sub v).pending = s.pending := rfl

@[simp] theorem State.incAx_tick (s : State) (idx sub : Nat) (d : Int) : (State.incAx s idx sub d).tick = s.tick := rfl
@[simp] theorem State.incAx_btick (s : State) (idx sub : Nat) (d : Int) : (State.incAx s idx sub d).btick = s.btick := rfl
@[simp] theorem State.incAx_dev (s : State) (idx sub : Nat) (d : Int) : (State.incAx s idx sub d).dev = s.dev := rfl
@[simp] theorem State.incAx_txn (s : State) (idx sub : Nat) (d : Int) : (State.incAx s idx sub d).txn = s.txn := rfl
@[simp] theorem State.incAx_ctx (s : State) (idx sub : Nat) (d : Int) : (State.incAx s idx sub d).ctx = s.ctx := rfl
@[simp] theorem State.incAx_trj (s : State) (idx sub : Nat) (d : Int) : (State.incAx s idx sub d).trj = s.trj := rfl
@[simp] theorem State.incAx_lnd (s : State) (idx sub : Nat) (d : Int) : (State.incAx s idx sub d).lnd = s.lnd := rfl
@[simp] theorem State.incAx_cat (s : State) (idx sub : Nat) (d : Int) : (State.incAx s idx sub d).cat = s.cat := rfl
@[simp] theorem State.incAx_mpl (s : State) (idx sub : Nat) (d : Int) : (State.incAx s idx sub d).mpl = s.mpl := rfl
@[simp] theorem State.incAx_grd (s : State) (idx sub : Nat) (d : Int) : (State.incAx s idx sub d).grd = s.grd := rfl
@[simp] theorem State.incAx_lnk (s : State) (idx sub : Nat) (d : Int) : (State.incAx s idx sub d).lnk = s.lnk := rfl
@[simp] theorem State.incAx_att (s : State) (idx sub : Nat) (d : Int) : (State.incAx s idx sub d).att = s.att := rfl
@[simp] theorem State.incAx_img (s : State) (idx sub : Nat) (d : Int) : (State.incAx s idx sub d).img = s.img := rfl
@[simp] theorem State.incAx_ilm (s : State) (idx sub : Nat) (d : Int) : (State.incAx s idx sub d).ilm = s.ilm := rfl
@[simp] theorem State.incAx_fol (s : State) (idx sub : Nat) (d : Int) : (State.incAx s idx sub d).fol = s.fol := rfl
@[simp] theorem State.incAx_stk (s : State) (idx sub : Nat) (d : Int) : (State.incAx s idx sub d).stk = s.stk := rfl
@[simp] theorem State.incAx_net (s : State) (idx sub : Nat) (d : Int) : (State.incAx s idx sub d).net = s.net := rfl
@[simp] theorem State.incAx_flt (s : State) (idx sub : Nat) (d : Int) : (State.incAx s idx sub d).flt = s.flt := rfl
@[simp] theorem State.incAx_ldg (s : State) (idx sub : Nat) (d : Int) : (State.incAx s idx sub d).ldg = s.ldg := rfl
@[simp] theorem State.incAx_tmp (s : State) (idx sub : Nat) (d : Int) : (State.incAx s idx sub d).tmp = s.tmp := rfl
@[simp] theorem State.incAx_pwr (s : State) (idx sub : Nat) (d : Int) : (State.incAx s idx sub d).pwr = s.pwr := rfl
@[simp] theorem State.incAx_raised (s : State) (idx sub : Nat) (d : Int) : (State.incAx s idx sub d).raised = s.raised := rfl
@[simp] theorem State.incAx_free (s : State) (idx sub : Nat) (d : Int) : (State.incAx s idx sub d).free = s.free := rfl
@[simp] theorem State.incAx_pending (s : State) (idx sub : Nat) (d : Int) : (State.incAx s idx sub d).pending = s.pending := rfl

@[simp] theorem State.wNet_tick (s : State) (idx sub : Nat) (v : Int) : (State.wNet s idx sub v).tick = s.tick := rfl
@[simp] theorem State.wNet_btick (s : State) (idx sub : Nat) (v : Int) : (State.wNet s idx sub v).btick = s.btick := rfl
@[simp] theorem State.wNet_dev (s : State) (idx sub : Nat) (v : Int) : (State.wNet s idx sub v).dev = s.dev := rfl
@[simp] theorem State.wNet_txn (s : State) (idx sub : Nat) (v : Int) : (State.wNet s idx sub v).txn = s.txn := rfl
@[simp] theorem State.wNet_ctx (s : State) (idx sub : Nat) (v : Int) : (State.wNet s idx sub v).ctx = s.ctx := rfl
@[simp] theorem State.wNet_trj (s : State) (idx sub : Nat) (v : Int) : (State.wNet s idx sub v).trj = s.trj := rfl
@[simp] theorem State.wNet_lnd (s : State) (idx sub : Nat) (v : Int) : (State.wNet s idx sub v).lnd = s.lnd := rfl
@[simp] theorem State.wNet_cat (s : State) (idx sub : Nat) (v : Int) : (State.wNet s idx sub v).cat = s.cat := rfl
@[simp] theorem State.wNet_mpl (s : State) (idx sub : Nat) (v : Int) : (State.wNet s idx sub v).mpl = s.mpl := rfl
@[simp] theorem State.wNet_grd (s : State) (idx sub : Nat) (v : Int) : (State.wNet s idx sub v).grd = s.grd := rfl
@[simp] theorem State.wNet_lnk (s : State) (idx sub : Nat) (v : Int) : (State.wNet s idx sub v).lnk = s.lnk := rfl
@[simp] theorem State.wNet_att (s : State) (idx sub : Nat) (v : Int) : (State.wNet s idx sub v).att = s.att := rfl
@[simp] theorem State.wNet_img (s : State) (idx sub : Nat) (v : Int) : (State.wNet s idx sub v).img = s.img := rfl
@[simp] theorem State.wNet_ilm (s : State) (idx sub : Nat) (v : Int) : (State.wNet s idx sub v).ilm = s.ilm := rfl
@[simp] theorem State.wNet_fol (s : State) (idx sub : Nat) (v : Int) : (State.wNet s idx sub v).fol = s.fol := rfl
@[simp] theorem State.wNet_stk (s : State) (idx sub : Nat) (v : Int) : (State.wNet s idx sub v).stk = s.stk := rfl
@[simp] theorem State.wNet_ax (s : State) (idx sub : Nat) (v : Int) : (State.wNet s idx sub v).ax = s.ax := rfl
@[simp] theorem State.wNet_flt (s : State) (idx sub : Nat) (v : Int) : (State.wNet s idx sub v).flt = s.flt := rfl
@[simp] theorem State.wNet_ldg (s : State) (idx sub : Nat) (v : Int) : (State.wNet s idx sub v).ldg = s.ldg := rfl
@[simp] theorem State.wNet_tmp (s : State) (idx sub : Nat) (v : Int) : (State.wNet s idx sub v).tmp = s.tmp := rfl
@[simp] theorem State.wNet_pwr (s : State) (idx sub : Nat) (v : Int) : (State.wNet s idx sub v).pwr = s.pwr := rfl
@[simp] theorem State.wNet_raised (s : State) (idx sub : Nat) (v : Int) : (State.wNet s idx sub v).raised = s.raised := rfl
@[simp] theorem State.wNet_free (s : State) (idx sub : Nat) (v : Int) : (State.wNet s idx sub v).free = s.free := rfl
@[simp] theorem State.wNet_pending (s : State) (idx sub : Nat) (v : Int) : (State.wNet s idx sub v).pending = s.pending := rfl

@[simp] theorem State.incNet_tick (s : State) (idx sub : Nat) (d : Int) : (State.incNet s idx sub d).tick = s.tick := rfl
@[simp] theorem State.incNet_btick (s : State) (idx sub : Nat) (d : Int) : (State.incNet s idx sub d).btick = s.btick := rfl
@[simp] theorem State.incNet_dev (s : State) (idx sub : Nat) (d : Int) : (State.incNet s idx sub d).dev = s.dev := rfl
@[simp] theorem State.incNet_txn (s : State) (idx sub : Nat) (d : Int) : (State.incNet s idx sub d).txn = s.txn := rfl
@[simp] theorem State.incNet_ctx (s : State) (idx sub : Nat) (d : Int) : (State.incNet s idx sub d).ctx = s.ctx := rfl
@[simp] theorem State.incNet_trj (s : State) (idx sub : Nat) (d : Int) : (State.incNet s idx sub d).trj = s.trj := rfl
@[simp] theorem State.incNet_lnd (s : State) (idx sub : Nat) (d : Int) : (State.incNet s idx sub d).lnd = s.lnd := rfl
@[simp] theorem State.incNet_cat (s : State) (idx sub : Nat) (d : Int) : (State.incNet s idx sub d).cat = s.cat := rfl
@[simp] theorem State.incNet_mpl (s : State) (idx sub : Nat) (d : Int) : (State.incNet s idx sub d).mpl = s.mpl := rfl
@[simp] theorem State.incNet_grd (s : State) (idx sub : Nat) (d : Int) : (State.incNet s idx sub d).grd = s.grd := rfl
@[simp] theorem State.incNet_lnk (s : State) (idx sub : Nat) (d : Int) : (State.incNet s idx sub d).lnk = s.lnk := rfl
@[simp] theorem State.incNet_att (s : State) (idx sub : Nat) (d : Int) : (State.incNet s idx sub d).att = s.att := rfl
@[simp] theorem State.incNet_img (s : State) (idx sub : Nat) (d : Int) : (State.incNet s idx sub d).img = s.img := rfl
@[simp] theorem State.incNet_ilm (s : State) (idx sub : Nat) (d : Int) : (State.incNet s idx sub d).ilm = s.ilm := rfl
@[simp] theorem State.incNet_fol (s : State) (idx sub : Nat) (d : Int) : (State.incNet s idx sub d).fol = s.fol := rfl
@[simp] theorem State.incNet_stk (s : State) (idx sub : Nat) (d : Int) : (State.incNet s idx sub d).stk = s.stk := rfl
@[simp] theorem State.incNet_ax (s : State) (idx sub : Nat) (d : Int) : (State.incNet s idx sub d).ax = s.ax := rfl
@[simp] theorem State.incNet_flt (s : State) (idx sub : Nat) (d : Int) : (State.incNet s idx sub d).flt = s.flt := rfl
@[simp] theorem State.incNet_ldg (s : State) (idx sub : Nat) (d : Int) : (State.incNet s idx sub d).ldg = s.ldg := rfl
@[simp] theorem State.incNet_tmp (s : State) (idx sub : Nat) (d : Int) : (State.incNet s idx sub d).tmp = s.tmp := rfl
@[simp] theorem State.incNet_pwr (s : State) (idx sub : Nat) (d : Int) : (State.incNet s idx sub d).pwr = s.pwr := rfl
@[simp] theorem State.incNet_raised (s : State) (idx sub : Nat) (d : Int) : (State.incNet s idx sub d).raised = s.raised := rfl
@[simp] theorem State.incNet_free (s : State) (idx sub : Nat) (d : Int) : (State.incNet s idx sub d).free = s.free := rfl
@[simp] theorem State.incNet_pending (s : State) (idx sub : Nat) (d : Int) : (State.incNet s idx sub d).pending = s.pending := rfl

@[simp] theorem State.wFlt_tick (s : State) (idx sub : Nat) (v : Int) : (State.wFlt s idx sub v).tick = s.tick := rfl
@[simp] theorem State.wFlt_btick (s : State) (idx sub : Nat) (v : Int) : (State.wFlt s idx sub v).btick = s.btick := rfl
@[simp] theorem State.wFlt_dev (s : State) (idx sub : Nat) (v : Int) : (State.wFlt s idx sub v).dev = s.dev := rfl
@[simp] theorem State.wFlt_txn (s : State) (idx sub : Nat) (v : Int) : (State.wFlt s idx sub v).txn = s.txn := rfl
@[simp] theorem State.wFlt_ctx (s : State) (idx sub : Nat) (v : Int) : (State.wFlt s idx sub v).ctx = s.ctx := rfl
@[simp] theorem State.wFlt_trj (s : State) (idx sub : Nat) (v : Int) : (State.wFlt s idx sub v).trj = s.trj := rfl
@[simp] theorem State.wFlt_lnd (s : State) (idx sub : Nat) (v : Int) : (State.wFlt s idx sub v).lnd = s.lnd := rfl
@[simp] theorem State.wFlt_cat (s : State) (idx sub : Nat) (v : Int) : (State.wFlt s idx sub v).cat = s.cat := rfl
@[simp] theorem State.wFlt_mpl (s : State) (idx sub : Nat) (v : Int) : (State.wFlt s idx sub v).mpl = s.mpl := rfl
@[simp] theorem State.wFlt_grd (s : State) (idx sub : Nat) (v : Int) : (State.wFlt s idx sub v).grd = s.grd := rfl
@[simp] theorem State.wFlt_lnk (s : State) (idx sub : Nat) (v : Int) : (State.wFlt s idx sub v).lnk = s.lnk := rfl
@[simp] theorem State.wFlt_att (s : State) (idx sub : Nat) (v : Int) : (State.wFlt s idx sub v).att = s.att := rfl
@[simp] theorem State.wFlt_img (s : State) (idx sub : Nat) (v : Int) : (State.wFlt s idx sub v).img = s.img := rfl
@[simp] theorem State.wFlt_ilm (s : State) (idx sub : Nat) (v : Int) : (State.wFlt s idx sub v).ilm = s.ilm := rfl
@[simp] theorem State.wFlt_fol (s : State) (idx sub : Nat) (v : Int) : (State.wFlt s idx sub v).fol = s.fol := rfl
@[simp] theorem State.wFlt_stk (s : State) (idx sub : Nat) (v : Int) : (State.wFlt s idx sub v).stk = s.stk := rfl
@[simp] theorem State.wFlt_ax (s : State) (idx sub : Nat) (v : Int) : (State.wFlt s idx sub v).ax = s.ax := rfl
@[simp] theorem State.wFlt_net (s : State) (idx sub : Nat) (v : Int) : (State.wFlt s idx sub v).net = s.net := rfl
@[simp] theorem State.wFlt_ldg (s : State) (idx sub : Nat) (v : Int) : (State.wFlt s idx sub v).ldg = s.ldg := rfl
@[simp] theorem State.wFlt_tmp (s : State) (idx sub : Nat) (v : Int) : (State.wFlt s idx sub v).tmp = s.tmp := rfl
@[simp] theorem State.wFlt_pwr (s : State) (idx sub : Nat) (v : Int) : (State.wFlt s idx sub v).pwr = s.pwr := rfl
@[simp] theorem State.wFlt_raised (s : State) (idx sub : Nat) (v : Int) : (State.wFlt s idx sub v).raised = s.raised := rfl
@[simp] theorem State.wFlt_free (s : State) (idx sub : Nat) (v : Int) : (State.wFlt s idx sub v).free = s.free := rfl
@[simp] theorem State.wFlt_pending (s : State) (idx sub : Nat) (v : Int) : (State.wFlt s idx sub v).pending = s.pending := rfl

@[simp] theorem State.incFlt_tick (s : State) (idx sub : Nat) (d : Int) : (State.incFlt s idx sub d).tick = s.tick := rfl
@[simp] theorem State.incFlt_btick (s : State) (idx sub : Nat) (d : Int) : (State.incFlt s idx sub d).btick = s.btick := rfl
@[simp] theorem State.incFlt_dev (s : State) (idx sub : Nat) (d : Int) : (State.incFlt s idx sub d).dev = s.dev := rfl
@[simp] theorem State.incFlt_txn (s : State) (idx sub : Nat) (d : Int) : (State.incFlt s idx sub d).txn = s.txn := rfl
@[simp] theorem State.incFlt_ctx (s : State) (idx sub : Nat) (d : Int) : (State.incFlt s idx sub d).ctx = s.ctx := rfl
@[simp] theorem State.incFlt_trj (s : State) (idx sub : Nat) (d : Int) : (State.incFlt s idx sub d).trj = s.trj := rfl
@[simp] theorem State.incFlt_lnd (s : State) (idx sub : Nat) (d : Int) : (State.incFlt s idx sub d).lnd = s.lnd := rfl
@[simp] theorem State.incFlt_cat (s : State) (idx sub : Nat) (d : Int) : (State.incFlt s idx sub d).cat = s.cat := rfl
@[simp] theorem State.incFlt_mpl (s : State) (idx sub : Nat) (d : Int) : (State.incFlt s idx sub d).mpl = s.mpl := rfl
@[simp] theorem State.incFlt_grd (s : State) (idx sub : Nat) (d : Int) : (State.incFlt s idx sub d).grd = s.grd := rfl
@[simp] theorem State.incFlt_lnk (s : State) (idx sub : Nat) (d : Int) : (State.incFlt s idx sub d).lnk = s.lnk := rfl
@[simp] theorem State.incFlt_att (s : State) (idx sub : Nat) (d : Int) : (State.incFlt s idx sub d).att = s.att := rfl
@[simp] theorem State.incFlt_img (s : State) (idx sub : Nat) (d : Int) : (State.incFlt s idx sub d).img = s.img := rfl
@[simp] theorem State.incFlt_ilm (s : State) (idx sub : Nat) (d : Int) : (State.incFlt s idx sub d).ilm = s.ilm := rfl
@[simp] theorem State.incFlt_fol (s : State) (idx sub : Nat) (d : Int) : (State.incFlt s idx sub d).fol = s.fol := rfl
@[simp] theorem State.incFlt_stk (s : State) (idx sub : Nat) (d : Int) : (State.incFlt s idx sub d).stk = s.stk := rfl
@[simp] theorem State.incFlt_ax (s : State) (idx sub : Nat) (d : Int) : (State.incFlt s idx sub d).ax = s.ax := rfl
@[simp] theorem State.incFlt_net (s : State) (idx sub : Nat) (d : Int) : (State.incFlt s idx sub d).net = s.net := rfl
@[simp] theorem State.incFlt_ldg (s : State) (idx sub : Nat) (d : Int) : (State.incFlt s idx sub d).ldg = s.ldg := rfl
@[simp] theorem State.incFlt_tmp (s : State) (idx sub : Nat) (d : Int) : (State.incFlt s idx sub d).tmp = s.tmp := rfl
@[simp] theorem State.incFlt_pwr (s : State) (idx sub : Nat) (d : Int) : (State.incFlt s idx sub d).pwr = s.pwr := rfl
@[simp] theorem State.incFlt_raised (s : State) (idx sub : Nat) (d : Int) : (State.incFlt s idx sub d).raised = s.raised := rfl
@[simp] theorem State.incFlt_free (s : State) (idx sub : Nat) (d : Int) : (State.incFlt s idx sub d).free = s.free := rfl
@[simp] theorem State.incFlt_pending (s : State) (idx sub : Nat) (d : Int) : (State.incFlt s idx sub d).pending = s.pending := rfl

@[simp] theorem State.wLdg_tick (s : State) (idx sub : Nat) (v : Int) : (State.wLdg s idx sub v).tick = s.tick := rfl
@[simp] theorem State.wLdg_btick (s : State) (idx sub : Nat) (v : Int) : (State.wLdg s idx sub v).btick = s.btick := rfl
@[simp] theorem State.wLdg_dev (s : State) (idx sub : Nat) (v : Int) : (State.wLdg s idx sub v).dev = s.dev := rfl
@[simp] theorem State.wLdg_txn (s : State) (idx sub : Nat) (v : Int) : (State.wLdg s idx sub v).txn = s.txn := rfl
@[simp] theorem State.wLdg_ctx (s : State) (idx sub : Nat) (v : Int) : (State.wLdg s idx sub v).ctx = s.ctx := rfl
@[simp] theorem State.wLdg_trj (s : State) (idx sub : Nat) (v : Int) : (State.wLdg s idx sub v).trj = s.trj := rfl
@[simp] theorem State.wLdg_lnd (s : State) (idx sub : Nat) (v : Int) : (State.wLdg s idx sub v).lnd = s.lnd := rfl
@[simp] theorem State.wLdg_cat (s : State) (idx sub : Nat) (v : Int) : (State.wLdg s idx sub v).cat = s.cat := rfl
@[simp] theorem State.wLdg_mpl (s : State) (idx sub : Nat) (v : Int) : (State.wLdg s idx sub v).mpl = s.mpl := rfl
@[simp] theorem State.wLdg_grd (s : State) (idx sub : Nat) (v : Int) : (State.wLdg s idx sub v).grd = s.grd := rfl
@[simp] theorem State.wLdg_lnk (s : State) (idx sub : Nat) (v : Int) : (State.wLdg s idx sub v).lnk = s.lnk := rfl
@[simp] theorem State.wLdg_att (s : State) (idx sub : Nat) (v : Int) : (State.wLdg s idx sub v).att = s.att := rfl
@[simp] theorem State.wLdg_img (s : State) (idx sub : Nat) (v : Int) : (State.wLdg s idx sub v).img = s.img := rfl
@[simp] theorem State.wLdg_ilm (s : State) (idx sub : Nat) (v : Int) : (State.wLdg s idx sub v).ilm = s.ilm := rfl
@[simp] theorem State.wLdg_fol (s : State) (idx sub : Nat) (v : Int) : (State.wLdg s idx sub v).fol = s.fol := rfl
@[simp] theorem State.wLdg_stk (s : State) (idx sub : Nat) (v : Int) : (State.wLdg s idx sub v).stk = s.stk := rfl
@[simp] theorem State.wLdg_ax (s : State) (idx sub : Nat) (v : Int) : (State.wLdg s idx sub v).ax = s.ax := rfl
@[simp] theorem State.wLdg_net (s : State) (idx sub : Nat) (v : Int) : (State.wLdg s idx sub v).net = s.net := rfl
@[simp] theorem State.wLdg_flt (s : State) (idx sub : Nat) (v : Int) : (State.wLdg s idx sub v).flt = s.flt := rfl
@[simp] theorem State.wLdg_tmp (s : State) (idx sub : Nat) (v : Int) : (State.wLdg s idx sub v).tmp = s.tmp := rfl
@[simp] theorem State.wLdg_pwr (s : State) (idx sub : Nat) (v : Int) : (State.wLdg s idx sub v).pwr = s.pwr := rfl
@[simp] theorem State.wLdg_raised (s : State) (idx sub : Nat) (v : Int) : (State.wLdg s idx sub v).raised = s.raised := rfl
@[simp] theorem State.wLdg_free (s : State) (idx sub : Nat) (v : Int) : (State.wLdg s idx sub v).free = s.free := rfl
@[simp] theorem State.wLdg_pending (s : State) (idx sub : Nat) (v : Int) : (State.wLdg s idx sub v).pending = s.pending := rfl

@[simp] theorem State.incLdg_tick (s : State) (idx sub : Nat) (d : Int) : (State.incLdg s idx sub d).tick = s.tick := rfl
@[simp] theorem State.incLdg_btick (s : State) (idx sub : Nat) (d : Int) : (State.incLdg s idx sub d).btick = s.btick := rfl
@[simp] theorem State.incLdg_dev (s : State) (idx sub : Nat) (d : Int) : (State.incLdg s idx sub d).dev = s.dev := rfl
@[simp] theorem State.incLdg_txn (s : State) (idx sub : Nat) (d : Int) : (State.incLdg s idx sub d).txn = s.txn := rfl
@[simp] theorem State.incLdg_ctx (s : State) (idx sub : Nat) (d : Int) : (State.incLdg s idx sub d).ctx = s.ctx := rfl
@[simp] theorem State.incLdg_trj (s : State) (idx sub : Nat) (d : Int) : (State.incLdg s idx sub d).trj = s.trj := rfl
@[simp] theorem State.incLdg_lnd (s : State) (idx sub : Nat) (d : Int) : (State.incLdg s idx sub d).lnd = s.lnd := rfl
@[simp] theorem State.incLdg_cat (s : State) (idx sub : Nat) (d : Int) : (State.incLdg s idx sub d).cat = s.cat := rfl
@[simp] theorem State.incLdg_mpl (s : State) (idx sub : Nat) (d : Int) : (State.incLdg s idx sub d).mpl = s.mpl := rfl
@[simp] theorem State.incLdg_grd (s : State) (idx sub : Nat) (d : Int) : (State.incLdg s idx sub d).grd = s.grd := rfl
@[simp] theorem State.incLdg_lnk (s : State) (idx sub : Nat) (d : Int) : (State.incLdg s idx sub d).lnk = s.lnk := rfl
@[simp] theorem State.incLdg_att (s : State) (idx sub : Nat) (d : Int) : (State.incLdg s idx sub d).att = s.att := rfl
@[simp] theorem State.incLdg_img (s : State) (idx sub : Nat) (d : Int) : (State.incLdg s idx sub d).img = s.img := rfl
@[simp] theorem State.incLdg_ilm (s : State) (idx sub : Nat) (d : Int) : (State.incLdg s idx sub d).ilm = s.ilm := rfl
@[simp] theorem State.incLdg_fol (s : State) (idx sub : Nat) (d : Int) : (State.incLdg s idx sub d).fol = s.fol := rfl
@[simp] theorem State.incLdg_stk (s : State) (idx sub : Nat) (d : Int) : (State.incLdg s idx sub d).stk = s.stk := rfl
@[simp] theorem State.incLdg_ax (s : State) (idx sub : Nat) (d : Int) : (State.incLdg s idx sub d).ax = s.ax := rfl
@[simp] theorem State.incLdg_net (s : State) (idx sub : Nat) (d : Int) : (State.incLdg s idx sub d).net = s.net := rfl
@[simp] theorem State.incLdg_flt (s : State) (idx sub : Nat) (d : Int) : (State.incLdg s idx sub d).flt = s.flt := rfl
@[simp] theorem State.incLdg_tmp (s : State) (idx sub : Nat) (d : Int) : (State.incLdg s idx sub d).tmp = s.tmp := rfl
@[simp] theorem State.incLdg_pwr (s : State) (idx sub : Nat) (d : Int) : (State.incLdg s idx sub d).pwr = s.pwr := rfl
@[simp] theorem State.incLdg_raised (s : State) (idx sub : Nat) (d : Int) : (State.incLdg s idx sub d).raised = s.raised := rfl
@[simp] theorem State.incLdg_free (s : State) (idx sub : Nat) (d : Int) : (State.incLdg s idx sub d).free = s.free := rfl
@[simp] theorem State.incLdg_pending (s : State) (idx sub : Nat) (d : Int) : (State.incLdg s idx sub d).pending = s.pending := rfl

@[simp] theorem State.wTmp_tick (s : State) (idx sub : Nat) (v : Int) : (State.wTmp s idx sub v).tick = s.tick := rfl
@[simp] theorem State.wTmp_btick (s : State) (idx sub : Nat) (v : Int) : (State.wTmp s idx sub v).btick = s.btick := rfl
@[simp] theorem State.wTmp_dev (s : State) (idx sub : Nat) (v : Int) : (State.wTmp s idx sub v).dev = s.dev := rfl
@[simp] theorem State.wTmp_txn (s : State) (idx sub : Nat) (v : Int) : (State.wTmp s idx sub v).txn = s.txn := rfl
@[simp] theorem State.wTmp_ctx (s : State) (idx sub : Nat) (v : Int) : (State.wTmp s idx sub v).ctx = s.ctx := rfl
@[simp] theorem State.wTmp_trj (s : State) (idx sub : Nat) (v : Int) : (State.wTmp s idx sub v).trj = s.trj := rfl
@[simp] theorem State.wTmp_lnd (s : State) (idx sub : Nat) (v : Int) : (State.wTmp s idx sub v).lnd = s.lnd := rfl
@[simp] theorem State.wTmp_cat (s : State) (idx sub : Nat) (v : Int) : (State.wTmp s idx sub v).cat = s.cat := rfl
@[simp] theorem State.wTmp_mpl (s : State) (idx sub : Nat) (v : Int) : (State.wTmp s idx sub v).mpl = s.mpl := rfl
@[simp] theorem State.wTmp_grd (s : State) (idx sub : Nat) (v : Int) : (State.wTmp s idx sub v).grd = s.grd := rfl
@[simp] theorem State.wTmp_lnk (s : State) (idx sub : Nat) (v : Int) : (State.wTmp s idx sub v).lnk = s.lnk := rfl
@[simp] theorem State.wTmp_att (s : State) (idx sub : Nat) (v : Int) : (State.wTmp s idx sub v).att = s.att := rfl
@[simp] theorem State.wTmp_img (s : State) (idx sub : Nat) (v : Int) : (State.wTmp s idx sub v).img = s.img := rfl
@[simp] theorem State.wTmp_ilm (s : State) (idx sub : Nat) (v : Int) : (State.wTmp s idx sub v).ilm = s.ilm := rfl
@[simp] theorem State.wTmp_fol (s : State) (idx sub : Nat) (v : Int) : (State.wTmp s idx sub v).fol = s.fol := rfl
@[simp] theorem State.wTmp_stk (s : State) (idx sub : Nat) (v : Int) : (State.wTmp s idx sub v).stk = s.stk := rfl
@[simp] theorem State.wTmp_ax (s : State) (idx sub : Nat) (v : Int) : (State.wTmp s idx sub v).ax = s.ax := rfl
@[simp] theorem State.wTmp_net (s : State) (idx sub : Nat) (v : Int) : (State.wTmp s idx sub v).net = s.net := rfl
@[simp] theorem State.wTmp_flt (s : State) (idx sub : Nat) (v : Int) : (State.wTmp s idx sub v).flt = s.flt := rfl
@[simp] theorem State.wTmp_ldg (s : State) (idx sub : Nat) (v : Int) : (State.wTmp s idx sub v).ldg = s.ldg := rfl
@[simp] theorem State.wTmp_pwr (s : State) (idx sub : Nat) (v : Int) : (State.wTmp s idx sub v).pwr = s.pwr := rfl
@[simp] theorem State.wTmp_raised (s : State) (idx sub : Nat) (v : Int) : (State.wTmp s idx sub v).raised = s.raised := rfl
@[simp] theorem State.wTmp_free (s : State) (idx sub : Nat) (v : Int) : (State.wTmp s idx sub v).free = s.free := rfl
@[simp] theorem State.wTmp_pending (s : State) (idx sub : Nat) (v : Int) : (State.wTmp s idx sub v).pending = s.pending := rfl

@[simp] theorem State.incTmp_tick (s : State) (idx sub : Nat) (d : Int) : (State.incTmp s idx sub d).tick = s.tick := rfl
@[simp] theorem State.incTmp_btick (s : State) (idx sub : Nat) (d : Int) : (State.incTmp s idx sub d).btick = s.btick := rfl
@[simp] theorem State.incTmp_dev (s : State) (idx sub : Nat) (d : Int) : (State.incTmp s idx sub d).dev = s.dev := rfl
@[simp] theorem State.incTmp_txn (s : State) (idx sub : Nat) (d : Int) : (State.incTmp s idx sub d).txn = s.txn := rfl
@[simp] theorem State.incTmp_ctx (s : State) (idx sub : Nat) (d : Int) : (State.incTmp s idx sub d).ctx = s.ctx := rfl
@[simp] theorem State.incTmp_trj (s : State) (idx sub : Nat) (d : Int) : (State.incTmp s idx sub d).trj = s.trj := rfl
@[simp] theorem State.incTmp_lnd (s : State) (idx sub : Nat) (d : Int) : (State.incTmp s idx sub d).lnd = s.lnd := rfl
@[simp] theorem State.incTmp_cat (s : State) (idx sub : Nat) (d : Int) : (State.incTmp s idx sub d).cat = s.cat := rfl
@[simp] theorem State.incTmp_mpl (s : State) (idx sub : Nat) (d : Int) : (State.incTmp s idx sub d).mpl = s.mpl := rfl
@[simp] theorem State.incTmp_grd (s : State) (idx sub : Nat) (d : Int) : (State.incTmp s idx sub d).grd = s.grd := rfl
@[simp] theorem State.incTmp_lnk (s : State) (idx sub : Nat) (d : Int) : (State.incTmp s idx sub d).lnk = s.lnk := rfl
@[simp] theorem State.incTmp_att (s : State) (idx sub : Nat) (d : Int) : (State.incTmp s idx sub d).att = s.att := rfl
@[simp] theorem State.incTmp_img (s : State) (idx sub : Nat) (d : Int) : (State.incTmp s idx sub d).img = s.img := rfl
@[simp] theorem State.incTmp_ilm (s : State) (idx sub : Nat) (d : Int) : (State.incTmp s idx sub d).ilm = s.ilm := rfl
@[simp] theorem State.incTmp_fol (s : State) (idx sub : Nat) (d : Int) : (State.incTmp s idx sub d).fol = s.fol := rfl
@[simp] theorem State.incTmp_stk (s : State) (idx sub : Nat) (d : Int) : (State.incTmp s idx sub d).stk = s.stk := rfl
@[simp] theorem State.incTmp_ax (s : State) (idx sub : Nat) (d : Int) : (State.incTmp s idx sub d).ax = s.ax := rfl
@[simp] theorem State.incTmp_net (s : State) (idx sub : Nat) (d : Int) : (State.incTmp s idx sub d).net = s.net := rfl
@[simp] theorem State.incTmp_flt (s : State) (idx sub : Nat) (d : Int) : (State.incTmp s idx sub d).flt = s.flt := rfl
@[simp] theorem State.incTmp_ldg (s : State) (idx sub : Nat) (d : Int) : (State.incTmp s idx sub d).ldg = s.ldg := rfl
@[simp] theorem State.incTmp_pwr (s : State) (idx sub : Nat) (d : Int) : (State.incTmp s idx sub d).pwr = s.pwr := rfl
@[simp] theorem State.incTmp_raised (s : State) (idx sub : Nat) (d : Int) : (State.incTmp s idx sub d).raised = s.raised := rfl
@[simp] theorem State.incTmp_free (s : State) (idx sub : Nat) (d : Int) : (State.incTmp s idx sub d).free = s.free := rfl
@[simp] theorem State.incTmp_pending (s : State) (idx sub : Nat) (d : Int) : (State.incTmp s idx sub d).pending = s.pending := rfl

@[simp] theorem State.raise_tick (s : State) (src kind addr : Nat) : (State.raise s src kind addr).tick = s.tick := rfl
@[simp] theorem State.raise_btick (s : State) (src kind addr : Nat) : (State.raise s src kind addr).btick = s.btick := rfl
@[simp] theorem State.raise_dev (s : State) (src kind addr : Nat) : (State.raise s src kind addr).dev = s.dev := rfl
@[simp] theorem State.raise_txn (s : State) (src kind addr : Nat) : (State.raise s src kind addr).txn = s.txn := rfl
@[simp] theorem State.raise_ctx (s : State) (src kind addr : Nat) : (State.raise s src kind addr).ctx = s.ctx := rfl
@[simp] theorem State.raise_trj (s : State) (src kind addr : Nat) : (State.raise s src kind addr).trj = s.trj := rfl
@[simp] theorem State.raise_lnd (s : State) (src kind addr : Nat) : (State.raise s src kind addr).lnd = s.lnd := rfl
@[simp] theorem State.raise_cat (s : State) (src kind addr : Nat) : (State.raise s src kind addr).cat = s.cat := rfl
@[simp] theorem State.raise_mpl (s : State) (src kind addr : Nat) : (State.raise s src kind addr).mpl = s.mpl := rfl
@[simp] theorem State.raise_grd (s : State) (src kind addr : Nat) : (State.raise s src kind addr).grd = s.grd := rfl
@[simp] theorem State.raise_lnk (s : State) (src kind addr : Nat) : (State.raise s src kind addr).lnk = s.lnk := rfl
@[simp] theorem State.raise_att (s : State) (src kind addr : Nat) : (State.raise s src kind addr).att = s.att := rfl
@[simp] theorem State.raise_img (s : State) (src kind addr : Nat) : (State.raise s src kind addr).img = s.img := rfl
@[simp] theorem State.raise_ilm (s : State) (src kind addr : Nat) : (State.raise s src kind addr).ilm = s.ilm := rfl
@[simp] theorem State.raise_fol (s : State) (src kind addr : Nat) : (State.raise s src kind addr).fol = s.fol := rfl
@[simp] theorem State.raise_stk (s : State) (src kind addr : Nat) : (State.raise s src kind addr).stk = s.stk := rfl
@[simp] theorem State.raise_ax (s : State) (src kind addr : Nat) : (State.raise s src kind addr).ax = s.ax := rfl
@[simp] theorem State.raise_net (s : State) (src kind addr : Nat) : (State.raise s src kind addr).net = s.net := rfl
@[simp] theorem State.raise_flt (s : State) (src kind addr : Nat) : (State.raise s src kind addr).flt = s.flt := rfl
@[simp] theorem State.raise_ldg (s : State) (src kind addr : Nat) : (State.raise s src kind addr).ldg = s.ldg := rfl
@[simp] theorem State.raise_tmp (s : State) (src kind addr : Nat) : (State.raise s src kind addr).tmp = s.tmp := rfl
@[simp] theorem State.raise_pwr (s : State) (src kind addr : Nat) : (State.raise s src kind addr).pwr = s.pwr := rfl
@[simp] theorem State.raise_free (s : State) (src kind addr : Nat) : (State.raise s src kind addr).free = s.free := rfl
@[simp] theorem State.raise_pending (s : State) (src kind addr : Nat) : (State.raise s src kind addr).pending = s.pending := rfl

@[simp] theorem State.draw_tick (s : State) : (State.draw s).tick = s.tick := rfl
@[simp] theorem State.draw_btick (s : State) : (State.draw s).btick = s.btick := rfl
@[simp] theorem State.draw_dev (s : State) : (State.draw s).dev = s.dev := rfl
@[simp] theorem State.draw_txn (s : State) : (State.draw s).txn = s.txn := rfl
@[simp] theorem State.draw_ctx (s : State) : (State.draw s).ctx = s.ctx := rfl
@[simp] theorem State.draw_trj (s : State) : (State.draw s).trj = s.trj := rfl
@[simp] theorem State.draw_lnd (s : State) : (State.draw s).lnd = s.lnd := rfl
@[simp] theorem State.draw_cat (s : State) : (State.draw s).cat = s.cat := rfl
@[simp] theorem State.draw_mpl (s : State) : (State.draw s).mpl = s.mpl := rfl
@[simp] theorem State.draw_grd (s : State) : (State.draw s).grd = s.grd := rfl
@[simp] theorem State.draw_lnk (s : State) : (State.draw s).lnk = s.lnk := rfl
@[simp] theorem State.draw_att (s : State) : (State.draw s).att = s.att := rfl
@[simp] theorem State.draw_img (s : State) : (State.draw s).img = s.img := rfl
@[simp] theorem State.draw_ilm (s : State) : (State.draw s).ilm = s.ilm := rfl
@[simp] theorem State.draw_fol (s : State) : (State.draw s).fol = s.fol := rfl
@[simp] theorem State.draw_stk (s : State) : (State.draw s).stk = s.stk := rfl
@[simp] theorem State.draw_ax (s : State) : (State.draw s).ax = s.ax := rfl
@[simp] theorem State.draw_net (s : State) : (State.draw s).net = s.net := rfl
@[simp] theorem State.draw_flt (s : State) : (State.draw s).flt = s.flt := rfl
@[simp] theorem State.draw_ldg (s : State) : (State.draw s).ldg = s.ldg := rfl
@[simp] theorem State.draw_tmp (s : State) : (State.draw s).tmp = s.tmp := rfl
@[simp] theorem State.draw_pwr (s : State) : (State.draw s).pwr = s.pwr := rfl
@[simp] theorem State.draw_raised (s : State) : (State.draw s).raised = s.raised := rfl
@[simp] theorem State.draw_pending (s : State) : (State.draw s).pending = s.pending := rfl

@[simp] theorem State.modSrc_tick (s : State) (n : Nat) (f : FltSrc → FltSrc) : (State.modSrc s n f).tick = s.tick := rfl
@[simp] theorem State.modSrc_btick (s : State) (n : Nat) (f : FltSrc → FltSrc) : (State.modSrc s n f).btick = s.btick := rfl
@[simp] theorem State.modSrc_dev (s : State) (n : Nat) (f : FltSrc → FltSrc) : (State.modSrc s n f).dev = s.dev := rfl
@[simp] theorem State.modSrc_txn (s : State) (n : Nat) (f : FltSrc → FltSrc) : (State.modSrc s n f).txn = s.txn := rfl
@[simp] theorem State.modSrc_ctx (s : State) (n : Nat) (f : FltSrc → FltSrc) : (State.modSrc s n f).ctx = s.ctx := rfl
@[simp] theorem State.modSrc_trj (s : State) (n : Nat) (f : FltSrc → FltSrc) : (State.modSrc s n f).trj = s.trj := rfl
@[simp] theorem State.modSrc_lnd (s : State) (n : Nat) (f : FltSrc → FltSrc) : (State.modSrc s n f).lnd = s.lnd := rfl
@[simp] theorem State.modSrc_cat (s : State) (n : Nat) (f : FltSrc → FltSrc) : (State.modSrc s n f).cat = s.cat := rfl
@[simp] theorem State.modSrc_mpl (s : State) (n : Nat) (f : FltSrc → FltSrc) : (State.modSrc s n f).mpl = s.mpl := rfl
@[simp] theorem State.modSrc_grd (s : State) (n : Nat) (f : FltSrc → FltSrc) : (State.modSrc s n f).grd = s.grd := rfl
@[simp] theorem State.modSrc_lnk (s : State) (n : Nat) (f : FltSrc → FltSrc) : (State.modSrc s n f).lnk = s.lnk := rfl
@[simp] theorem State.modSrc_att (s : State) (n : Nat) (f : FltSrc → FltSrc) : (State.modSrc s n f).att = s.att := rfl
@[simp] theorem State.modSrc_img (s : State) (n : Nat) (f : FltSrc → FltSrc) : (State.modSrc s n f).img = s.img := rfl
@[simp] theorem State.modSrc_ilm (s : State) (n : Nat) (f : FltSrc → FltSrc) : (State.modSrc s n f).ilm = s.ilm := rfl
@[simp] theorem State.modSrc_fol (s : State) (n : Nat) (f : FltSrc → FltSrc) : (State.modSrc s n f).fol = s.fol := rfl
@[simp] theorem State.modSrc_stk (s : State) (n : Nat) (f : FltSrc → FltSrc) : (State.modSrc s n f).stk = s.stk := rfl
@[simp] theorem State.modSrc_ax (s : State) (n : Nat) (f : FltSrc → FltSrc) : (State.modSrc s n f).ax = s.ax := rfl
@[simp] theorem State.modSrc_net (s : State) (n : Nat) (f : FltSrc → FltSrc) : (State.modSrc s n f).net = s.net := rfl
@[simp] theorem State.modSrc_ldg (s : State) (n : Nat) (f : FltSrc → FltSrc) : (State.modSrc s n f).ldg = s.ldg := rfl
@[simp] theorem State.modSrc_tmp (s : State) (n : Nat) (f : FltSrc → FltSrc) : (State.modSrc s n f).tmp = s.tmp := rfl
@[simp] theorem State.modSrc_pwr (s : State) (n : Nat) (f : FltSrc → FltSrc) : (State.modSrc s n f).pwr = s.pwr := rfl
@[simp] theorem State.modSrc_raised (s : State) (n : Nat) (f : FltSrc → FltSrc) : (State.modSrc s n f).raised = s.raised := rfl
@[simp] theorem State.modSrc_free (s : State) (n : Nat) (f : FltSrc → FltSrc) : (State.modSrc s n f).free = s.free := rfl
@[simp] theorem State.modSrc_pending (s : State) (n : Nat) (f : FltSrc → FltSrc) : (State.modSrc s n f).pending = s.pending := rfl

@[simp] theorem State.modPath_tick (s : State) (p : Nat) (f : Path → Path) : (State.modPath s p f).tick = s.tick := rfl
@[simp] theorem State.modPath_btick (s : State) (p : Nat) (f : Path → Path) : (State.modPath s p f).btick = s.btick := rfl
@[simp] theorem State.modPath_dev (s : State) (p : Nat) (f : Path → Path) : (State.modPath s p f).dev = s.dev := rfl
@[simp] theorem State.modPath_ctx (s : State) (p : Nat) (f : Path → Path) : (State.modPath s p f).ctx = s.ctx := rfl
@[simp] theorem State.modPath_trj (s : State) (p : Nat) (f : Path → Path) : (State.modPath s p f).trj = s.trj := rfl
@[simp] theorem State.modPath_lnd (s : State) (p : Nat) (f : Path → Path) : (State.modPath s p f).lnd = s.lnd := rfl
@[simp] theorem State.modPath_cat (s : State) (p : Nat) (f : Path → Path) : (State.modPath s p f).cat = s.cat := rfl
@[simp] theorem State.modPath_mpl (s : State) (p : Nat) (f : Path → Path) : (State.modPath s p f).mpl = s.mpl := rfl
@[simp] theorem State.modPath_grd (s : State) (p : Nat) (f : Path → Path) : (State.modPath s p f).grd = s.grd := rfl
@[simp] theorem State.modPath_lnk (s : State) (p : Nat) (f : Path → Path) : (State.modPath s p f).lnk = s.lnk := rfl
@[simp] theorem State.modPath_att (s : State) (p : Nat) (f : Path → Path) : (State.modPath s p f).att = s.att := rfl
@[simp] theorem State.modPath_img (s : State) (p : Nat) (f : Path → Path) : (State.modPath s p f).img = s.img := rfl
@[simp] theorem State.modPath_ilm (s : State) (p : Nat) (f : Path → Path) : (State.modPath s p f).ilm = s.ilm := rfl
@[simp] theorem State.modPath_fol (s : State) (p : Nat) (f : Path → Path) : (State.modPath s p f).fol = s.fol := rfl
@[simp] theorem State.modPath_stk (s : State) (p : Nat) (f : Path → Path) : (State.modPath s p f).stk = s.stk := rfl
@[simp] theorem State.modPath_ax (s : State) (p : Nat) (f : Path → Path) : (State.modPath s p f).ax = s.ax := rfl
@[simp] theorem State.modPath_net (s : State) (p : Nat) (f : Path → Path) : (State.modPath s p f).net = s.net := rfl
@[simp] theorem State.modPath_flt (s : State) (p : Nat) (f : Path → Path) : (State.modPath s p f).flt = s.flt := rfl
@[simp] theorem State.modPath_ldg (s : State) (p : Nat) (f : Path → Path) : (State.modPath s p f).ldg = s.ldg := rfl
@[simp] theorem State.modPath_tmp (s : State) (p : Nat) (f : Path → Path) : (State.modPath s p f).tmp = s.tmp := rfl
@[simp] theorem State.modPath_pwr (s : State) (p : Nat) (f : Path → Path) : (State.modPath s p f).pwr = s.pwr := rfl
@[simp] theorem State.modPath_raised (s : State) (p : Nat) (f : Path → Path) : (State.modPath s p f).raised = s.raised := rfl
@[simp] theorem State.modPath_free (s : State) (p : Nat) (f : Path → Path) : (State.modPath s p f).free = s.free := rfl
@[simp] theorem State.modPath_pending (s : State) (p : Nat) (f : Path → Path) : (State.modPath s p f).pending = s.pending := rfl

@[simp] theorem Stk.enter_tick (m : StkMode) (s : State) : (Stk.enter m s).tick = s.tick := rfl
@[simp] theorem Stk.enter_btick (m : StkMode) (s : State) : (Stk.enter m s).btick = s.btick := rfl
@[simp] theorem Stk.enter_dev (m : StkMode) (s : State) : (Stk.enter m s).dev = s.dev := rfl
@[simp] theorem Stk.enter_txn (m : StkMode) (s : State) : (Stk.enter m s).txn = s.txn := rfl
@[simp] theorem Stk.enter_ctx (m : StkMode) (s : State) : (Stk.enter m s).ctx = s.ctx := rfl
@[simp] theorem Stk.enter_trj (m : StkMode) (s : State) : (Stk.enter m s).trj = s.trj := rfl
@[simp] theorem Stk.enter_lnd (m : StkMode) (s : State) : (Stk.enter m s).lnd = s.lnd := rfl
@[simp] theorem Stk.enter_cat (m : StkMode) (s : State) : (Stk.enter m s).cat = s.cat := rfl
@[simp] theorem Stk.enter_mpl (m : StkMode) (s : State) : (Stk.enter m s).mpl = s.mpl := rfl
@[simp] theorem Stk.enter_grd (m : StkMode) (s : State) : (Stk.enter m s).grd = s.grd := rfl
@[simp] theorem Stk.enter_lnk (m : StkMode) (s : State) : (Stk.enter m s).lnk = s.lnk := rfl
@[simp] theorem Stk.enter_att (m : StkMode) (s : State) : (Stk.enter m s).att = s.att := rfl
@[simp] theorem Stk.enter_img (m : StkMode) (s : State) : (Stk.enter m s).img = s.img := rfl
@[simp] theorem Stk.enter_ilm (m : StkMode) (s : State) : (Stk.enter m s).ilm = s.ilm := rfl
@[simp] theorem Stk.enter_fol (m : StkMode) (s : State) : (Stk.enter m s).fol = s.fol := rfl
@[simp] theorem Stk.enter_ax (m : StkMode) (s : State) : (Stk.enter m s).ax = s.ax := rfl
@[simp] theorem Stk.enter_net (m : StkMode) (s : State) : (Stk.enter m s).net = s.net := rfl
@[simp] theorem Stk.enter_flt (m : StkMode) (s : State) : (Stk.enter m s).flt = s.flt := rfl
@[simp] theorem Stk.enter_ldg (m : StkMode) (s : State) : (Stk.enter m s).ldg = s.ldg := rfl
@[simp] theorem Stk.enter_tmp (m : StkMode) (s : State) : (Stk.enter m s).tmp = s.tmp := rfl
@[simp] theorem Stk.enter_pwr (m : StkMode) (s : State) : (Stk.enter m s).pwr = s.pwr := rfl
@[simp] theorem Stk.enter_raised (m : StkMode) (s : State) : (Stk.enter m s).raised = s.raised := rfl
@[simp] theorem Stk.enter_free (m : StkMode) (s : State) : (Stk.enter m s).free = s.free := rfl
@[simp] theorem Stk.enter_pending (m : StkMode) (s : State) : (Stk.enter m s).pending = s.pending := rfl

@[simp] theorem Stk.modStore_tick (f : Store → Store) (s : State) : (Stk.modStore f s).tick = s.tick := rfl
@[simp] theorem Stk.modStore_btick (f : Store → Store) (s : State) : (Stk.modStore f s).btick = s.btick := rfl
@[simp] theorem Stk.modStore_dev (f : Store → Store) (s : State) : (Stk.modStore f s).dev = s.dev := rfl
@[simp] theorem Stk.modStore_txn (f : Store → Store) (s : State) : (Stk.modStore f s).txn = s.txn := rfl
@[simp] theorem Stk.modStore_ctx (f : Store → Store) (s : State) : (Stk.modStore f s).ctx = s.ctx := rfl
@[simp] theorem Stk.modStore_trj (f : Store → Store) (s : State) : (Stk.modStore f s).trj = s.trj := rfl
@[simp] theorem Stk.modStore_lnd (f : Store → Store) (s : State) : (Stk.modStore f s).lnd = s.lnd := rfl
@[simp] theorem Stk.modStore_cat (f : Store → Store) (s : State) : (Stk.modStore f s).cat = s.cat := rfl
@[simp] theorem Stk.modStore_mpl (f : Store → Store) (s : State) : (Stk.modStore f s).mpl = s.mpl := rfl
@[simp] theorem Stk.modStore_grd (f : Store → Store) (s : State) : (Stk.modStore f s).grd = s.grd := rfl
@[simp] theorem Stk.modStore_lnk (f : Store → Store) (s : State) : (Stk.modStore f s).lnk = s.lnk := rfl
@[simp] theorem Stk.modStore_att (f : Store → Store) (s : State) : (Stk.modStore f s).att = s.att := rfl
@[simp] theorem Stk.modStore_img (f : Store → Store) (s : State) : (Stk.modStore f s).img = s.img := rfl
@[simp] theorem Stk.modStore_ilm (f : Store → Store) (s : State) : (Stk.modStore f s).ilm = s.ilm := rfl
@[simp] theorem Stk.modStore_fol (f : Store → Store) (s : State) : (Stk.modStore f s).fol = s.fol := rfl
@[simp] theorem Stk.modStore_ax (f : Store → Store) (s : State) : (Stk.modStore f s).ax = s.ax := rfl
@[simp] theorem Stk.modStore_net (f : Store → Store) (s : State) : (Stk.modStore f s).net = s.net := rfl
@[simp] theorem Stk.modStore_flt (f : Store → Store) (s : State) : (Stk.modStore f s).flt = s.flt := rfl
@[simp] theorem Stk.modStore_ldg (f : Store → Store) (s : State) : (Stk.modStore f s).ldg = s.ldg := rfl
@[simp] theorem Stk.modStore_tmp (f : Store → Store) (s : State) : (Stk.modStore f s).tmp = s.tmp := rfl
@[simp] theorem Stk.modStore_pwr (f : Store → Store) (s : State) : (Stk.modStore f s).pwr = s.pwr := rfl
@[simp] theorem Stk.modStore_raised (f : Store → Store) (s : State) : (Stk.modStore f s).raised = s.raised := rfl
@[simp] theorem Stk.modStore_free (f : Store → Store) (s : State) : (Stk.modStore f s).free = s.free := rfl
@[simp] theorem Stk.modStore_pending (f : Store → Store) (s : State) : (Stk.modStore f s).pending = s.pending := rfl

@[simp] theorem Tmp.modSensor_tick (s : State) (i : Nat) (f : Sensor → Sensor) : (Tmp.modSensor s i f).tick = s.tick := rfl
@[simp] theorem Tmp.modSensor_btick (s : State) (i : Nat) (f : Sensor → Sensor) : (Tmp.modSensor s i f).btick = s.btick := rfl
@[simp] theorem Tmp.modSensor_dev (s : State) (i : Nat) (f : Sensor → Sensor) : (Tmp.modSensor s i f).dev = s.dev := rfl
@[simp] theorem Tmp.modSensor_txn (s : State) (i : Nat) (f : Sensor → Sensor) : (Tmp.modSensor s i f).txn = s.txn := rfl
@[simp] theorem Tmp.modSensor_ctx (s : State) (i : Nat) (f : Sensor → Sensor) : (Tmp.modSensor s i f).ctx = s.ctx := rfl
@[simp] theorem Tmp.modSensor_trj (s : State) (i : Nat) (f : Sensor → Sensor) : (Tmp.modSensor s i f).trj = s.trj := rfl
@[simp] theorem Tmp.modSensor_lnd (s : State) (i : Nat) (f : Sensor → Sensor) : (Tmp.modSensor s i f).lnd = s.lnd := rfl
@[simp] theorem Tmp.modSensor_cat (s : State) (i : Nat) (f : Sensor → Sensor) : (Tmp.modSensor s i f).cat = s.cat := rfl
@[simp] theorem Tmp.modSensor_mpl (s : State) (i : Nat) (f : Sensor → Sensor) : (Tmp.modSensor s i f).mpl = s.mpl := rfl
@[simp] theorem Tmp.modSensor_grd (s : State) (i : Nat) (f : Sensor → Sensor) : (Tmp.modSensor s i f).grd = s.grd := rfl
@[simp] theorem Tmp.modSensor_lnk (s : State) (i : Nat) (f : Sensor → Sensor) : (Tmp.modSensor s i f).lnk = s.lnk := rfl
@[simp] theorem Tmp.modSensor_att (s : State) (i : Nat) (f : Sensor → Sensor) : (Tmp.modSensor s i f).att = s.att := rfl
@[simp] theorem Tmp.modSensor_img (s : State) (i : Nat) (f : Sensor → Sensor) : (Tmp.modSensor s i f).img = s.img := rfl
@[simp] theorem Tmp.modSensor_ilm (s : State) (i : Nat) (f : Sensor → Sensor) : (Tmp.modSensor s i f).ilm = s.ilm := rfl
@[simp] theorem Tmp.modSensor_fol (s : State) (i : Nat) (f : Sensor → Sensor) : (Tmp.modSensor s i f).fol = s.fol := rfl
@[simp] theorem Tmp.modSensor_stk (s : State) (i : Nat) (f : Sensor → Sensor) : (Tmp.modSensor s i f).stk = s.stk := rfl
@[simp] theorem Tmp.modSensor_ax (s : State) (i : Nat) (f : Sensor → Sensor) : (Tmp.modSensor s i f).ax = s.ax := rfl
@[simp] theorem Tmp.modSensor_net (s : State) (i : Nat) (f : Sensor → Sensor) : (Tmp.modSensor s i f).net = s.net := rfl
@[simp] theorem Tmp.modSensor_flt (s : State) (i : Nat) (f : Sensor → Sensor) : (Tmp.modSensor s i f).flt = s.flt := rfl
@[simp] theorem Tmp.modSensor_ldg (s : State) (i : Nat) (f : Sensor → Sensor) : (Tmp.modSensor s i f).ldg = s.ldg := rfl
@[simp] theorem Tmp.modSensor_pwr (s : State) (i : Nat) (f : Sensor → Sensor) : (Tmp.modSensor s i f).pwr = s.pwr := rfl
@[simp] theorem Tmp.modSensor_raised (s : State) (i : Nat) (f : Sensor → Sensor) : (Tmp.modSensor s i f).raised = s.raised := rfl
@[simp] theorem Tmp.modSensor_free (s : State) (i : Nat) (f : Sensor → Sensor) : (Tmp.modSensor s i f).free = s.free := rfl
@[simp] theorem Tmp.modSensor_pending (s : State) (i : Nat) (f : Sensor → Sensor) : (Tmp.modSensor s i f).pending = s.pending := rfl

@[simp] theorem State.raiseIf_tick (s : State) (b : Bool) (src kind addr : Nat) : (State.raiseIf s b src kind addr).tick = s.tick := by unfold State.raiseIf; split <;> rfl
@[simp] theorem State.raiseIf_btick (s : State) (b : Bool) (src kind addr : Nat) : (State.raiseIf s b src kind addr).btick = s.btick := by unfold State.raiseIf; split <;> rfl
@[simp] theorem State.raiseIf_dev (s : State) (b : Bool) (src kind addr : Nat) : (State.raiseIf s b src kind addr).dev = s.dev := by unfold State.raiseIf; split <;> rfl
@[simp] theorem State.raiseIf_txn (s : State) (b : Bool) (src kind addr : Nat) : (State.raiseIf s b src kind addr).txn = s.txn := by unfold State.raiseIf; split <;> rfl
@[simp] theorem State.raiseIf_ctx (s : State) (b : Bool) (src kind addr : Nat) : (State.raiseIf s b src kind addr).ctx = s.ctx := by unfold State.raiseIf; split <;> rfl
@[simp] theorem State.raiseIf_trj (s : State) (b : Bool) (src kind addr : Nat) : (State.raiseIf s b src kind addr).trj = s.trj := by unfold State.raiseIf; split <;> rfl
@[simp] theorem State.raiseIf_lnd (s : State) (b : Bool) (src kind addr : Nat) : (State.raiseIf s b src kind addr).lnd = s.lnd := by unfold State.raiseIf; split <;> rfl
@[simp] theorem State.raiseIf_cat (s : State) (b : Bool) (src kind addr : Nat) : (State.raiseIf s b src kind addr).cat = s.cat := by unfold State.raiseIf; split <;> rfl
@[simp] theorem State.raiseIf_mpl (s : State) (b : Bool) (src kind addr : Nat) : (State.raiseIf s b src kind addr).mpl = s.mpl := by unfold State.raiseIf; split <;> rfl
@[simp] theorem State.raiseIf_grd (s : State) (b : Bool) (src kind addr : Nat) : (State.raiseIf s b src kind addr).grd = s.grd := by unfold State.raiseIf; split <;> rfl
@[simp] theorem State.raiseIf_lnk (s : State) (b : Bool) (src kind addr : Nat) : (State.raiseIf s b src kind addr).lnk = s.lnk := by unfold State.raiseIf; split <;> rfl
@[simp] theorem State.raiseIf_att (s : State) (b : Bool) (src kind addr : Nat) : (State.raiseIf s b src kind addr).att = s.att := by unfold State.raiseIf; split <;> rfl
@[simp] theorem State.raiseIf_img (s : State) (b : Bool) (src kind addr : Nat) : (State.raiseIf s b src kind addr).img = s.img := by unfold State.raiseIf; split <;> rfl
@[simp] theorem State.raiseIf_ilm (s : State) (b : Bool) (src kind addr : Nat) : (State.raiseIf s b src kind addr).ilm = s.ilm := by unfold State.raiseIf; split <;> rfl
@[simp] theorem State.raiseIf_fol (s : State) (b : Bool) (src kind addr : Nat) : (State.raiseIf s b src kind addr).fol = s.fol := by unfold State.raiseIf; split <;> rfl
@[simp] theorem State.raiseIf_stk (s : State) (b : Bool) (src kind addr : Nat) : (State.raiseIf s b src kind addr).stk = s.stk := by unfold State.raiseIf; split <;> rfl
@[simp] theorem State.raiseIf_ax (s : State) (b : Bool) (src kind addr : Nat) : (State.raiseIf s b src kind addr).ax = s.ax := by unfold State.raiseIf; split <;> rfl
@[simp] theorem State.raiseIf_net (s : State) (b : Bool) (src kind addr : Nat) : (State.raiseIf s b src kind addr).net = s.net := by unfold State.raiseIf; split <;> rfl
@[simp] theorem State.raiseIf_flt (s : State) (b : Bool) (src kind addr : Nat) : (State.raiseIf s b src kind addr).flt = s.flt := by unfold State.raiseIf; split <;> rfl
@[simp] theorem State.raiseIf_ldg (s : State) (b : Bool) (src kind addr : Nat) : (State.raiseIf s b src kind addr).ldg = s.ldg := by unfold State.raiseIf; split <;> rfl
@[simp] theorem State.raiseIf_tmp (s : State) (b : Bool) (src kind addr : Nat) : (State.raiseIf s b src kind addr).tmp = s.tmp := by unfold State.raiseIf; split <;> rfl
@[simp] theorem State.raiseIf_pwr (s : State) (b : Bool) (src kind addr : Nat) : (State.raiseIf s b src kind addr).pwr = s.pwr := by unfold State.raiseIf; split <;> rfl
@[simp] theorem State.raiseIf_free (s : State) (b : Bool) (src kind addr : Nat) : (State.raiseIf s b src kind addr).free = s.free := by unfold State.raiseIf; split <;> rfl
@[simp] theorem State.raiseIf_pending (s : State) (b : Bool) (src kind addr : Nat) : (State.raiseIf s b src kind addr).pending = s.pending := by unfold State.raiseIf; split <;> rfl

@[simp] theorem State.raiseOpen_tick (s : State) (src kind : Nat) : (State.raiseOpen s src kind).tick = s.tick := rfl
@[simp] theorem State.raiseOpen_btick (s : State) (src kind : Nat) : (State.raiseOpen s src kind).btick = s.btick := rfl
@[simp] theorem State.raiseOpen_dev (s : State) (src kind : Nat) : (State.raiseOpen s src kind).dev = s.dev := rfl
@[simp] theorem State.raiseOpen_txn (s : State) (src kind : Nat) : (State.raiseOpen s src kind).txn = s.txn := rfl
@[simp] theorem State.raiseOpen_ctx (s : State) (src kind : Nat) : (State.raiseOpen s src kind).ctx = s.ctx := rfl
@[simp] theorem State.raiseOpen_trj (s : State) (src kind : Nat) : (State.raiseOpen s src kind).trj = s.trj := rfl
@[simp] theorem State.raiseOpen_lnd (s : State) (src kind : Nat) : (State.raiseOpen s src kind).lnd = s.lnd := rfl
@[simp] theorem State.raiseOpen_cat (s : State) (src kind : Nat) : (State.raiseOpen s src kind).cat = s.cat := rfl
@[simp] theorem State.raiseOpen_mpl (s : State) (src kind : Nat) : (State.raiseOpen s src kind).mpl = s.mpl := rfl
@[simp] theorem State.raiseOpen_grd (s : State) (src kind : Nat) : (State.raiseOpen s src kind).grd = s.grd := rfl
@[simp] theorem State.raiseOpen_lnk (s : State) (src kind : Nat) : (State.raiseOpen s src kind).lnk = s.lnk := rfl
@[simp] theorem State.raiseOpen_att (s : State) (src kind : Nat) : (State.raiseOpen s src kind).att = s.att := rfl
@[simp] theorem State.raiseOpen_img (s : State) (src kind : Nat) : (State.raiseOpen s src kind).img = s.img := rfl
@[simp] theorem State.raiseOpen_ilm (s : State) (src kind : Nat) : (State.raiseOpen s src kind).ilm = s.ilm := rfl
@[simp] theorem State.raiseOpen_fol (s : State) (src kind : Nat) : (State.raiseOpen s src kind).fol = s.fol := rfl
@[simp] theorem State.raiseOpen_stk (s : State) (src kind : Nat) : (State.raiseOpen s src kind).stk = s.stk := rfl
@[simp] theorem State.raiseOpen_ax (s : State) (src kind : Nat) : (State.raiseOpen s src kind).ax = s.ax := rfl
@[simp] theorem State.raiseOpen_net (s : State) (src kind : Nat) : (State.raiseOpen s src kind).net = s.net := rfl
@[simp] theorem State.raiseOpen_flt (s : State) (src kind : Nat) : (State.raiseOpen s src kind).flt = s.flt := rfl
@[simp] theorem State.raiseOpen_ldg (s : State) (src kind : Nat) : (State.raiseOpen s src kind).ldg = s.ldg := rfl
@[simp] theorem State.raiseOpen_tmp (s : State) (src kind : Nat) : (State.raiseOpen s src kind).tmp = s.tmp := rfl
@[simp] theorem State.raiseOpen_pwr (s : State) (src kind : Nat) : (State.raiseOpen s src kind).pwr = s.pwr := rfl
@[simp] theorem State.raiseOpen_pending (s : State) (src kind : Nat) : (State.raiseOpen s src kind).pending = s.pending := rfl

@[simp] theorem State.modCtx_tick (s : State) (n : Nat) (f : Ctx → Ctx) : (State.modCtx s n f).tick = s.tick := rfl
@[simp] theorem State.modCtx_btick (s : State) (n : Nat) (f : Ctx → Ctx) : (State.modCtx s n f).btick = s.btick := rfl
@[simp] theorem State.modCtx_dev (s : State) (n : Nat) (f : Ctx → Ctx) : (State.modCtx s n f).dev = s.dev := rfl
@[simp] theorem State.modCtx_txn (s : State) (n : Nat) (f : Ctx → Ctx) : (State.modCtx s n f).txn = s.txn := rfl
@[simp] theorem State.modCtx_trj (s : State) (n : Nat) (f : Ctx → Ctx) : (State.modCtx s n f).trj = s.trj := rfl
@[simp] theorem State.modCtx_lnd (s : State) (n : Nat) (f : Ctx → Ctx) : (State.modCtx s n f).lnd = s.lnd := rfl
@[simp] theorem State.modCtx_cat (s : State) (n : Nat) (f : Ctx → Ctx) : (State.modCtx s n f).cat = s.cat := rfl
@[simp] theorem State.modCtx_mpl (s : State) (n : Nat) (f : Ctx → Ctx) : (State.modCtx s n f).mpl = s.mpl := rfl
@[simp] theorem State.modCtx_grd (s : State) (n : Nat) (f : Ctx → Ctx) : (State.modCtx s n f).grd = s.grd := rfl
@[simp] theorem State.modCtx_lnk (s : State) (n : Nat) (f : Ctx → Ctx) : (State.modCtx s n f).lnk = s.lnk := rfl
@[simp] theorem State.modCtx_att (s : State) (n : Nat) (f : Ctx → Ctx) : (State.modCtx s n f).att = s.att := rfl
@[simp] theorem State.modCtx_img (s : State) (n : Nat) (f : Ctx → Ctx) : (State.modCtx s n f).img = s.img := rfl
@[simp] theorem State.modCtx_ilm (s : State) (n : Nat) (f : Ctx → Ctx) : (State.modCtx s n f).ilm = s.ilm := rfl
@[simp] theorem State.modCtx_fol (s : State) (n : Nat) (f : Ctx → Ctx) : (State.modCtx s n f).fol = s.fol := rfl
@[simp] theorem State.modCtx_stk (s : State) (n : Nat) (f : Ctx → Ctx) : (State.modCtx s n f).stk = s.stk := rfl
@[simp] theorem State.modCtx_ax (s : State) (n : Nat) (f : Ctx → Ctx) : (State.modCtx s n f).ax = s.ax := rfl
@[simp] theorem State.modCtx_net (s : State) (n : Nat) (f : Ctx → Ctx) : (State.modCtx s n f).net = s.net := rfl
@[simp] theorem State.modCtx_flt (s : State) (n : Nat) (f : Ctx → Ctx) : (State.modCtx s n f).flt = s.flt := rfl
@[simp] theorem State.modCtx_ldg (s : State) (n : Nat) (f : Ctx → Ctx) : (State.modCtx s n f).ldg = s.ldg := rfl
@[simp] theorem State.modCtx_tmp (s : State) (n : Nat) (f : Ctx → Ctx) : (State.modCtx s n f).tmp = s.tmp := rfl
@[simp] theorem State.modCtx_pwr (s : State) (n : Nat) (f : Ctx → Ctx) : (State.modCtx s n f).pwr = s.pwr := rfl
@[simp] theorem State.modCtx_raised (s : State) (n : Nat) (f : Ctx → Ctx) : (State.modCtx s n f).raised = s.raised := rfl
@[simp] theorem State.modCtx_free (s : State) (n : Nat) (f : Ctx → Ctx) : (State.modCtx s n f).free = s.free := rfl
@[simp] theorem State.modCtx_pending (s : State) (n : Nat) (f : Ctx → Ctx) : (State.modCtx s n f).pending = s.pending := rfl

@[simp] theorem State.modEng_tick (s : State) (c : Nat) (f : Engine → Engine) : (State.modEng s c f).tick = s.tick := rfl
@[simp] theorem State.modEng_btick (s : State) (c : Nat) (f : Engine → Engine) : (State.modEng s c f).btick = s.btick := rfl
@[simp] theorem State.modEng_dev (s : State) (c : Nat) (f : Engine → Engine) : (State.modEng s c f).dev = s.dev := rfl
@[simp] theorem State.modEng_txn (s : State) (c : Nat) (f : Engine → Engine) : (State.modEng s c f).txn = s.txn := rfl
@[simp] theorem State.modEng_ctx (s : State) (c : Nat) (f : Engine → Engine) : (State.modEng s c f).ctx = s.ctx := rfl
@[simp] theorem State.modEng_lnd (s : State) (c : Nat) (f : Engine → Engine) : (State.modEng s c f).lnd = s.lnd := rfl
@[simp] theorem State.modEng_cat (s : State) (c : Nat) (f : Engine → Engine) : (State.modEng s c f).cat = s.cat := rfl
@[simp] theorem State.modEng_mpl (s : State) (c : Nat) (f : Engine → Engine) : (State.modEng s c f).mpl = s.mpl := rfl
@[simp] theorem State.modEng_grd (s : State) (c : Nat) (f : Engine → Engine) : (State.modEng s c f).grd = s.grd := rfl
@[simp] theorem State.modEng_lnk (s : State) (c : Nat) (f : Engine → Engine) : (State.modEng s c f).lnk = s.lnk := rfl
@[simp] theorem State.modEng_att (s : State) (c : Nat) (f : Engine → Engine) : (State.modEng s c f).att = s.att := rfl
@[simp] theorem State.modEng_img (s : State) (c : Nat) (f : Engine → Engine) : (State.modEng s c f).img = s.img := rfl
@[simp] theorem State.modEng_ilm (s : State) (c : Nat) (f : Engine → Engine) : (State.modEng s c f).ilm = s.ilm := rfl
@[simp] theorem State.modEng_fol (s : State) (c : Nat) (f : Engine → Engine) : (State.modEng s c f).fol = s.fol := rfl
@[simp] theorem State.modEng_stk (s : State) (c : Nat) (f : Engine → Engine) : (State.modEng s c f).stk = s.stk := rfl
@[simp] theorem State.modEng_ax (s : State) (c : Nat) (f : Engine → Engine) : (State.modEng s c f).ax = s.ax := rfl
@[simp] theorem State.modEng_net (s : State) (c : Nat) (f : Engine → Engine) : (State.modEng s c f).net = s.net := rfl
@[simp] theorem State.modEng_flt (s : State) (c : Nat) (f : Engine → Engine) : (State.modEng s c f).flt = s.flt := rfl
@[simp] theorem State.modEng_ldg (s : State) (c : Nat) (f : Engine → Engine) : (State.modEng s c f).ldg = s.ldg := rfl
@[simp] theorem State.modEng_tmp (s : State) (c : Nat) (f : Engine → Engine) : (State.modEng s c f).tmp = s.tmp := rfl
@[simp] theorem State.modEng_pwr (s : State) (c : Nat) (f : Engine → Engine) : (State.modEng s c f).pwr = s.pwr := rfl
@[simp] theorem State.modEng_raised (s : State) (c : Nat) (f : Engine → Engine) : (State.modEng s c f).raised = s.raised := rfl
@[simp] theorem State.modEng_free (s : State) (c : Nat) (f : Engine → Engine) : (State.modEng s c f).free = s.free := rfl
@[simp] theorem State.modEng_pending (s : State) (c : Nat) (f : Engine → Engine) : (State.modEng s c f).pending = s.pending := rfl

@[simp] theorem Ax.modAxis_tick (s : State) (a : Nat) (f : Axis → Axis) : (Ax.modAxis s a f).tick = s.tick := rfl
@[simp] theorem Ax.modAxis_btick (s : State) (a : Nat) (f : Axis → Axis) : (Ax.modAxis s a f).btick = s.btick := rfl
@[simp] theorem Ax.modAxis_dev (s : State) (a : Nat) (f : Axis → Axis) : (Ax.modAxis s a f).dev = s.dev := rfl
@[simp] theorem Ax.modAxis_txn (s : State) (a : Nat) (f : Axis → Axis) : (Ax.modAxis s a f).txn = s.txn := rfl
@[simp] theorem Ax.modAxis_ctx (s : State) (a : Nat) (f : Axis → Axis) : (Ax.modAxis s a f).ctx = s.ctx := rfl
@[simp] theorem Ax.modAxis_trj (s : State) (a : Nat) (f : Axis → Axis) : (Ax.modAxis s a f).trj = s.trj := rfl
@[simp] theorem Ax.modAxis_lnd (s : State) (a : Nat) (f : Axis → Axis) : (Ax.modAxis s a f).lnd = s.lnd := rfl
@[simp] theorem Ax.modAxis_cat (s : State) (a : Nat) (f : Axis → Axis) : (Ax.modAxis s a f).cat = s.cat := rfl
@[simp] theorem Ax.modAxis_mpl (s : State) (a : Nat) (f : Axis → Axis) : (Ax.modAxis s a f).mpl = s.mpl := rfl
@[simp] theorem Ax.modAxis_grd (s : State) (a : Nat) (f : Axis → Axis) : (Ax.modAxis s a f).grd = s.grd := rfl
@[simp] theorem Ax.modAxis_lnk (s : State) (a : Nat) (f : Axis → Axis) : (Ax.modAxis s a f).lnk = s.lnk := rfl
@[simp] theorem Ax.modAxis_att (s : State) (a : Nat) (f : Axis → Axis) : (Ax.modAxis s a f).att = s.att := rfl
@[simp] theorem Ax.modAxis_img (s : State) (a : Nat) (f : Axis → Axis) : (Ax.modAxis s a f).img = s.img := rfl
@[simp] theorem Ax.modAxis_ilm (s : State) (a : Nat) (f : Axis → Axis) : (Ax.modAxis s a f).ilm = s.ilm := rfl
@[simp] theorem Ax.modAxis_fol (s : State) (a : Nat) (f : Axis → Axis) : (Ax.modAxis s a f).fol = s.fol := rfl
@[simp] theorem Ax.modAxis_stk (s : State) (a : Nat) (f : Axis → Axis) : (Ax.modAxis s a f).stk = s.stk := rfl
@[simp] theorem Ax.modAxis_net (s : State) (a : Nat) (f : Axis → Axis) : (Ax.modAxis s a f).net = s.net := rfl
@[simp] theorem Ax.modAxis_flt (s : State) (a : Nat) (f : Axis → Axis) : (Ax.modAxis s a f).flt = s.flt := rfl
@[simp] theorem Ax.modAxis_ldg (s : State) (a : Nat) (f : Axis → Axis) : (Ax.modAxis s a f).ldg = s.ldg := rfl
@[simp] theorem Ax.modAxis_tmp (s : State) (a : Nat) (f : Axis → Axis) : (Ax.modAxis s a f).tmp = s.tmp := rfl
@[simp] theorem Ax.modAxis_pwr (s : State) (a : Nat) (f : Axis → Axis) : (Ax.modAxis s a f).pwr = s.pwr := rfl
@[simp] theorem Ax.modAxis_raised (s : State) (a : Nat) (f : Axis → Axis) : (Ax.modAxis s a f).raised = s.raised := rfl
@[simp] theorem Ax.modAxis_free (s : State) (a : Nat) (f : Axis → Axis) : (Ax.modAxis s a f).free = s.free := rfl
@[simp] theorem Ax.modAxis_pending (s : State) (a : Nat) (f : Axis → Axis) : (Ax.modAxis s a f).pending = s.pending := rfl

@[simp] theorem Stk.modMedium_tick (f : Medium → Medium) (s : State) : (Stk.modMedium f s).tick = s.tick := rfl
@[simp] theorem Stk.modMedium_btick (f : Medium → Medium) (s : State) : (Stk.modMedium f s).btick = s.btick := rfl
@[simp] theorem Stk.modMedium_dev (f : Medium → Medium) (s : State) : (Stk.modMedium f s).dev = s.dev := rfl
@[simp] theorem Stk.modMedium_txn (f : Medium → Medium) (s : State) : (Stk.modMedium f s).txn = s.txn := rfl
@[simp] theorem Stk.modMedium_ctx (f : Medium → Medium) (s : State) : (Stk.modMedium f s).ctx = s.ctx := rfl
@[simp] theorem Stk.modMedium_trj (f : Medium → Medium) (s : State) : (Stk.modMedium f s).trj = s.trj := rfl
@[simp] theorem Stk.modMedium_lnd (f : Medium → Medium) (s : State) : (Stk.modMedium f s).lnd = s.lnd := rfl
@[simp] theorem Stk.modMedium_cat (f : Medium → Medium) (s : State) : (Stk.modMedium f s).cat = s.cat := rfl
@[simp] theorem Stk.modMedium_mpl (f : Medium → Medium) (s : State) : (Stk.modMedium f s).mpl = s.mpl := rfl
@[simp] theorem Stk.modMedium_grd (f : Medium → Medium) (s : State) : (Stk.modMedium f s).grd = s.grd := rfl
@[simp] theorem Stk.modMedium_lnk (f : Medium → Medium) (s : State) : (Stk.modMedium f s).lnk = s.lnk := rfl
@[simp] theorem Stk.modMedium_att (f : Medium → Medium) (s : State) : (Stk.modMedium f s).att = s.att := rfl
@[simp] theorem Stk.modMedium_img (f : Medium → Medium) (s : State) : (Stk.modMedium f s).img = s.img := rfl
@[simp] theorem Stk.modMedium_ilm (f : Medium → Medium) (s : State) : (Stk.modMedium f s).ilm = s.ilm := rfl
@[simp] theorem Stk.modMedium_fol (f : Medium → Medium) (s : State) : (Stk.modMedium f s).fol = s.fol := rfl
@[simp] theorem Stk.modMedium_ax (f : Medium → Medium) (s : State) : (Stk.modMedium f s).ax = s.ax := rfl
@[simp] theorem Stk.modMedium_net (f : Medium → Medium) (s : State) : (Stk.modMedium f s).net = s.net := rfl
@[simp] theorem Stk.modMedium_flt (f : Medium → Medium) (s : State) : (Stk.modMedium f s).flt = s.flt := rfl
@[simp] theorem Stk.modMedium_ldg (f : Medium → Medium) (s : State) : (Stk.modMedium f s).ldg = s.ldg := rfl
@[simp] theorem Stk.modMedium_tmp (f : Medium → Medium) (s : State) : (Stk.modMedium f s).tmp = s.tmp := rfl
@[simp] theorem Stk.modMedium_pwr (f : Medium → Medium) (s : State) : (Stk.modMedium f s).pwr = s.pwr := rfl
@[simp] theorem Stk.modMedium_raised (f : Medium → Medium) (s : State) : (Stk.modMedium f s).raised = s.raised := rfl
@[simp] theorem Stk.modMedium_free (f : Medium → Medium) (s : State) : (Stk.modMedium f s).free = s.free := rfl
@[simp] theorem Stk.modMedium_pending (f : Medium → Medium) (s : State) : (Stk.modMedium f s).pending = s.pending := rfl

@[simp] theorem Stk.modBlock_tick (b : Nat) (f : NandBlock → NandBlock) (s : State) : (Stk.modBlock b f s).tick = s.tick := rfl
@[simp] theorem Stk.modBlock_btick (b : Nat) (f : NandBlock → NandBlock) (s : State) : (Stk.modBlock b f s).btick = s.btick := rfl
@[simp] theorem Stk.modBlock_dev (b : Nat) (f : NandBlock → NandBlock) (s : State) : (Stk.modBlock b f s).dev = s.dev := rfl
@[simp] theorem Stk.modBlock_txn (b : Nat) (f : NandBlock → NandBlock) (s : State) : (Stk.modBlock b f s).txn = s.txn := rfl
@[simp] theorem Stk.modBlock_ctx (b : Nat) (f : NandBlock → NandBlock) (s : State) : (Stk.modBlock b f s).ctx = s.ctx := rfl
@[simp] theorem Stk.modBlock_trj (b : Nat) (f : NandBlock → NandBlock) (s : State) : (Stk.modBlock b f s).trj = s.trj := rfl
@[simp] theorem Stk.modBlock_lnd (b : Nat) (f : NandBlock → NandBlock) (s : State) : (Stk.modBlock b f s).lnd = s.lnd := rfl
@[simp] theorem Stk.modBlock_cat (b : Nat) (f : NandBlock → NandBlock) (s : State) : (Stk.modBlock b f s).cat = s.cat := rfl
@[simp] theorem Stk.modBlock_mpl (b : Nat) (f : NandBlock → NandBlock) (s : State) : (Stk.modBlock b f s).mpl = s.mpl := rfl
@[simp] theorem Stk.modBlock_grd (b : Nat) (f : NandBlock → NandBlock) (s : State) : (Stk.modBlock b f s).grd = s.grd := rfl
@[simp] theorem Stk.modBlock_lnk (b : Nat) (f : NandBlock → NandBlock) (s : State) : (Stk.modBlock b f s).lnk = s.lnk := rfl
@[simp] theorem Stk.modBlock_att (b : Nat) (f : NandBlock → NandBlock) (s : State) : (Stk.modBlock b f s).att = s.att := rfl
@[simp] theorem Stk.modBlock_img (b : Nat) (f : NandBlock → NandBlock) (s : State) : (Stk.modBlock b f s).img = s.img := rfl
@[simp] theorem Stk.modBlock_ilm (b : Nat) (f : NandBlock → NandBlock) (s : State) : (Stk.modBlock b f s).ilm = s.ilm := rfl
@[simp] theorem Stk.modBlock_fol (b : Nat) (f : NandBlock → NandBlock) (s : State) : (Stk.modBlock b f s).fol = s.fol := rfl
@[simp] theorem Stk.modBlock_ax (b : Nat) (f : NandBlock → NandBlock) (s : State) : (Stk.modBlock b f s).ax = s.ax := rfl
@[simp] theorem Stk.modBlock_net (b : Nat) (f : NandBlock → NandBlock) (s : State) : (Stk.modBlock b f s).net = s.net := rfl
@[simp] theorem Stk.modBlock_flt (b : Nat) (f : NandBlock → NandBlock) (s : State) : (Stk.modBlock b f s).flt = s.flt := rfl
@[simp] theorem Stk.modBlock_ldg (b : Nat) (f : NandBlock → NandBlock) (s : State) : (Stk.modBlock b f s).ldg = s.ldg := rfl
@[simp] theorem Stk.modBlock_tmp (b : Nat) (f : NandBlock → NandBlock) (s : State) : (Stk.modBlock b f s).tmp = s.tmp := rfl
@[simp] theorem Stk.modBlock_pwr (b : Nat) (f : NandBlock → NandBlock) (s : State) : (Stk.modBlock b f s).pwr = s.pwr := rfl
@[simp] theorem Stk.modBlock_raised (b : Nat) (f : NandBlock → NandBlock) (s : State) : (Stk.modBlock b f s).raised = s.raised := rfl
@[simp] theorem Stk.modBlock_free (b : Nat) (f : NandBlock → NandBlock) (s : State) : (Stk.modBlock b f s).free = s.free := rfl
@[simp] theorem Stk.modBlock_pending (b : Nat) (f : NandBlock → NandBlock) (s : State) : (Stk.modBlock b f s).pending = s.pending := rfl

@[simp] theorem Stk.readOver_tick (p : Nat) (s : State) : (Stk.readOver p s).tick = s.tick := rfl
@[simp] theorem Stk.readOver_btick (p : Nat) (s : State) : (Stk.readOver p s).btick = s.btick := rfl
@[simp] theorem Stk.readOver_dev (p : Nat) (s : State) : (Stk.readOver p s).dev = s.dev := rfl
@[simp] theorem Stk.readOver_txn (p : Nat) (s : State) : (Stk.readOver p s).txn = s.txn := rfl
@[simp] theorem Stk.readOver_ctx (p : Nat) (s : State) : (Stk.readOver p s).ctx = s.ctx := rfl
@[simp] theorem Stk.readOver_trj (p : Nat) (s : State) : (Stk.readOver p s).trj = s.trj := rfl
@[simp] theorem Stk.readOver_lnd (p : Nat) (s : State) : (Stk.readOver p s).lnd = s.lnd := rfl
@[simp] theorem Stk.readOver_cat (p : Nat) (s : State) : (Stk.readOver p s).cat = s.cat := rfl
@[simp] theorem Stk.readOver_mpl (p : Nat) (s : State) : (Stk.readOver p s).mpl = s.mpl := rfl
@[simp] theorem Stk.readOver_grd (p : Nat) (s : State) : (Stk.readOver p s).grd = s.grd := rfl
@[simp] theorem Stk.readOver_lnk (p : Nat) (s : State) : (Stk.readOver p s).lnk = s.lnk := rfl
@[simp] theorem Stk.readOver_att (p : Nat) (s : State) : (Stk.readOver p s).att = s.att := rfl
@[simp] theorem Stk.readOver_img (p : Nat) (s : State) : (Stk.readOver p s).img = s.img := rfl
@[simp] theorem Stk.readOver_ilm (p : Nat) (s : State) : (Stk.readOver p s).ilm = s.ilm := rfl
@[simp] theorem Stk.readOver_fol (p : Nat) (s : State) : (Stk.readOver p s).fol = s.fol := rfl
@[simp] theorem Stk.readOver_ax (p : Nat) (s : State) : (Stk.readOver p s).ax = s.ax := rfl
@[simp] theorem Stk.readOver_net (p : Nat) (s : State) : (Stk.readOver p s).net = s.net := rfl
@[simp] theorem Stk.readOver_flt (p : Nat) (s : State) : (Stk.readOver p s).flt = s.flt := rfl
@[simp] theorem Stk.readOver_ldg (p : Nat) (s : State) : (Stk.readOver p s).ldg = s.ldg := rfl
@[simp] theorem Stk.readOver_tmp (p : Nat) (s : State) : (Stk.readOver p s).tmp = s.tmp := rfl
@[simp] theorem Stk.readOver_pwr (p : Nat) (s : State) : (Stk.readOver p s).pwr = s.pwr := rfl
@[simp] theorem Stk.readOver_raised (p : Nat) (s : State) : (Stk.readOver p s).raised = s.raised := rfl
@[simp] theorem Stk.readOver_free (p : Nat) (s : State) : (Stk.readOver p s).free = s.free := rfl
@[simp] theorem Stk.readOver_pending (p : Nat) (s : State) : (Stk.readOver p s).pending = s.pending := rfl

@[simp] theorem Seq.waitOn_tick (e : CatEntry) (s : State) : (Seq.waitOn e s).tick = s.tick := rfl
@[simp] theorem Seq.waitOn_btick (e : CatEntry) (s : State) : (Seq.waitOn e s).btick = s.btick := rfl
@[simp] theorem Seq.waitOn_dev (e : CatEntry) (s : State) : (Seq.waitOn e s).dev = s.dev := rfl
@[simp] theorem Seq.waitOn_txn (e : CatEntry) (s : State) : (Seq.waitOn e s).txn = s.txn := rfl
@[simp] theorem Seq.waitOn_ctx (e : CatEntry) (s : State) : (Seq.waitOn e s).ctx = s.ctx := rfl
@[simp] theorem Seq.waitOn_trj (e : CatEntry) (s : State) : (Seq.waitOn e s).trj = s.trj := rfl
@[simp] theorem Seq.waitOn_lnd (e : CatEntry) (s : State) : (Seq.waitOn e s).lnd = s.lnd := rfl
@[simp] theorem Seq.waitOn_mpl (e : CatEntry) (s : State) : (Seq.waitOn e s).mpl = s.mpl := rfl
@[simp] theorem Seq.waitOn_grd (e : CatEntry) (s : State) : (Seq.waitOn e s).grd = s.grd := rfl
@[simp] theorem Seq.waitOn_lnk (e : CatEntry) (s : State) : (Seq.waitOn e s).lnk = s.lnk := rfl
@[simp] theorem Seq.waitOn_att (e : CatEntry) (s : State) : (Seq.waitOn e s).att = s.att := rfl
@[simp] theorem Seq.waitOn_img (e : CatEntry) (s : State) : (Seq.waitOn e s).img = s.img := rfl
@[simp] theorem Seq.waitOn_ilm (e : CatEntry) (s : State) : (Seq.waitOn e s).ilm = s.ilm := rfl
@[simp] theorem Seq.waitOn_fol (e : CatEntry) (s : State) : (Seq.waitOn e s).fol = s.fol := rfl
@[simp] theorem Seq.waitOn_stk (e : CatEntry) (s : State) : (Seq.waitOn e s).stk = s.stk := rfl
@[simp] theorem Seq.waitOn_ax (e : CatEntry) (s : State) : (Seq.waitOn e s).ax = s.ax := rfl
@[simp] theorem Seq.waitOn_net (e : CatEntry) (s : State) : (Seq.waitOn e s).net = s.net := rfl
@[simp] theorem Seq.waitOn_flt (e : CatEntry) (s : State) : (Seq.waitOn e s).flt = s.flt := rfl
@[simp] theorem Seq.waitOn_ldg (e : CatEntry) (s : State) : (Seq.waitOn e s).ldg = s.ldg := rfl
@[simp] theorem Seq.waitOn_tmp (e : CatEntry) (s : State) : (Seq.waitOn e s).tmp = s.tmp := rfl
@[simp] theorem Seq.waitOn_pwr (e : CatEntry) (s : State) : (Seq.waitOn e s).pwr = s.pwr := rfl
@[simp] theorem Seq.waitOn_raised (e : CatEntry) (s : State) : (Seq.waitOn e s).raised = s.raised := rfl
@[simp] theorem Seq.waitOn_free (e : CatEntry) (s : State) : (Seq.waitOn e s).free = s.free := rfl
@[simp] theorem Seq.waitOn_pending (e : CatEntry) (s : State) : (Seq.waitOn e s).pending = s.pending := rfl

/-! The parts of the job store after an update of one of them -/

@[simp] theorem Stk.enter_stk_regs (m : StkMode) (s : State) : (Stk.enter m s).stk.regs = s.stk.regs := rfl
@[simp] theorem Stk.enter_stk_store (m : StkMode) (s : State) : (Stk.enter m s).stk.store = s.stk.store := rfl
@[simp] theorem Stk.enter_stk_medium (m : StkMode) (s : State) : (Stk.enter m s).stk.medium = s.stk.medium := rfl
@[simp] theorem Stk.enter_stk_readers (m : StkMode) (s : State) : (Stk.enter m s).stk.readers = s.stk.readers := rfl
@[simp] theorem Stk.enter_stk_staged (m : StkMode) (s : State) : (Stk.enter m s).stk.staged = s.stk.staged := rfl
@[simp] theorem Stk.enter_stk_progress (m : StkMode) (s : State) : (Stk.enter m s).stk.progress = s.stk.progress := rfl

@[simp] theorem Stk.modStore_stk_regs (f : Store → Store) (s : State) : (Stk.modStore f s).stk.regs = s.stk.regs := rfl
@[simp] theorem Stk.modStore_stk_mode (f : Store → Store) (s : State) : (Stk.modStore f s).stk.mode = s.stk.mode := rfl
@[simp] theorem Stk.modStore_stk_medium (f : Store → Store) (s : State) : (Stk.modStore f s).stk.medium = s.stk.medium := rfl
@[simp] theorem Stk.modStore_stk_readers (f : Store → Store) (s : State) : (Stk.modStore f s).stk.readers = s.stk.readers := rfl
@[simp] theorem Stk.modStore_stk_staged (f : Store → Store) (s : State) : (Stk.modStore f s).stk.staged = s.stk.staged := rfl
@[simp] theorem Stk.modStore_stk_progress (f : Store → Store) (s : State) : (Stk.modStore f s).stk.progress = s.stk.progress := rfl

@[simp] theorem Stk.modMedium_stk_regs (f : Medium → Medium) (s : State) : (Stk.modMedium f s).stk.regs = s.stk.regs := rfl
@[simp] theorem Stk.modMedium_stk_mode (f : Medium → Medium) (s : State) : (Stk.modMedium f s).stk.mode = s.stk.mode := rfl
@[simp] theorem Stk.modMedium_stk_store (f : Medium → Medium) (s : State) : (Stk.modMedium f s).stk.store = s.stk.store := rfl
@[simp] theorem Stk.modMedium_stk_readers (f : Medium → Medium) (s : State) : (Stk.modMedium f s).stk.readers = s.stk.readers := rfl
@[simp] theorem Stk.modMedium_stk_staged (f : Medium → Medium) (s : State) : (Stk.modMedium f s).stk.staged = s.stk.staged := rfl
@[simp] theorem Stk.modMedium_stk_progress (f : Medium → Medium) (s : State) : (Stk.modMedium f s).stk.progress = s.stk.progress := rfl

@[simp] theorem Stk.readOver_stk_regs (p : Nat) (s : State) : (Stk.readOver p s).stk.regs = s.stk.regs := rfl
@[simp] theorem Stk.readOver_stk_mode (p : Nat) (s : State) : (Stk.readOver p s).stk.mode = s.stk.mode := rfl
@[simp] theorem Stk.readOver_stk_store (p : Nat) (s : State) : (Stk.readOver p s).stk.store = s.stk.store := rfl
@[simp] theorem Stk.readOver_stk_medium (p : Nat) (s : State) : (Stk.readOver p s).stk.medium = s.stk.medium := rfl
@[simp] theorem Stk.readOver_stk_staged (p : Nat) (s : State) : (Stk.readOver p s).stk.staged = s.stk.staged := rfl
@[simp] theorem Stk.readOver_stk_progress (p : Nat) (s : State) : (Stk.readOver p s).stk.progress = s.stk.progress := rfl

@[simp] theorem Stk.enter_mode (m : StkMode) (s : State) : (Stk.enter m s).stk.mode = m := rfl
@[simp] theorem Stk.modStore_store (f : Store → Store) (s : State) : (Stk.modStore f s).stk.store = s.stk.store.map f := rfl
@[simp] theorem Stk.modMedium_medium (f : Medium → Medium) (s : State) : (Stk.modMedium f s).stk.medium = f s.stk.medium := rfl

end

/-! ### Units after they were set -/

@[simp] theorem State.setEng_same (s : State) (i : Nat) (e : Engine) : State.engOf (State.setEng s i e) i = e := Tab.get_set_same _ _ _ _

theorem State.setEng_other (s : State) (i : Nat) (e : Engine) {j : Nat} (h : j ≠ i) : State.engOf (State.setEng s i e) j = State.engOf s j := Tab.get_set_other _ _ _ h

@[simp] theorem State.setCtx_same (s : State) (i : Nat) (e : Ctx) : State.ctxOf (State.setCtx s i e) i = e := Tab.get_set_same _ _ _ _

theorem State.setCtx_other (s : State) (i : Nat) (e : Ctx) {j : Nat} (h : j ≠ i) : State.ctxOf (State.setCtx s i e) j = State.ctxOf s j := Tab.get_set_other _ _ _ h

@[simp] theorem State.modEng_same (s : State) (i : Nat) (f : Engine → Engine) : State.engOf (State.modEng s i f) i = f (State.engOf s i) := Tab.get_set_same _ _ _ _

theorem State.modEng_other (s : State) (i : Nat) (f : Engine → Engine) {j : Nat} (h : j ≠ i) : State.engOf (State.modEng s i f) j = State.engOf s j := Tab.get_set_other _ _ _ h

@[simp] theorem State.modCtx_same (s : State) (i : Nat) (f : Ctx → Ctx) : State.ctxOf (State.modCtx s i f) i = f (State.ctxOf s i) := Tab.get_set_same _ _ _ _

theorem State.modCtx_other (s : State) (i : Nat) (f : Ctx → Ctx) {j : Nat} (h : j ≠ i) : State.ctxOf (State.modCtx s i f) j = State.ctxOf s j := Tab.get_set_other _ _ _ h

@[simp] theorem State.modLane_same (s : State) (i : Nat) (f : Lane → Lane) : State.laneOf (State.modLane s i f) i = f (State.laneOf s i) := Tab.get_set_same _ _ _ _

theorem State.modLane_other (s : State) (i : Nat) (f : Lane → Lane) {j : Nat} (h : j ≠ i) : State.laneOf (State.modLane s i f) j = State.laneOf s j := Tab.get_set_other _ _ _ h

@[simp] theorem State.modAtt_same (s : State) (i : Nat) (f : Attach → Attach) : State.attOf (State.modAtt s i f) i = f (State.attOf s i) := Tab.get_set_same _ _ _ _

theorem State.modAtt_other (s : State) (i : Nat) (f : Attach → Attach) {j : Nat} (h : j ≠ i) : State.attOf (State.modAtt s i f) j = State.attOf s j := Tab.get_set_other _ _ _ h

@[simp] theorem State.modLoop_same (s : State) (i : Nat) (f : MpLoop → MpLoop) : State.loopOf (State.modLoop s i f) i = f (State.loopOf s i) := Tab.get_set_same _ _ _ _

theorem State.modLoop_other (s : State) (i : Nat) (f : MpLoop → MpLoop) {j : Nat} (h : j ≠ i) : State.loopOf (State.modLoop s i f) j = State.loopOf s j := Tab.get_set_other _ _ _ h

@[simp] theorem State.modSrc_same (s : State) (i : Nat) (f : FltSrc → FltSrc) : State.srcOf (State.modSrc s i f) i = f (State.srcOf s i) := Tab.get_set_same _ _ _ _

theorem State.modSrc_other (s : State) (i : Nat) (f : FltSrc → FltSrc) {j : Nat} (h : j ≠ i) : State.srcOf (State.modSrc s i f) j = State.srcOf s j := Tab.get_set_other _ _ _ h

@[simp] theorem State.modPath_same (s : State) (i : Nat) (f : Path → Path) : State.pathOf (State.modPath s i f) i = f (State.pathOf s i) := Tab.get_set_same _ _ _ _

theorem State.modPath_other (s : State) (i : Nat) (f : Path → Path) {j : Nat} (h : j ≠ i) : State.pathOf (State.modPath s i f) j = State.pathOf s j := Tab.get_set_other _ _ _ h

@[simp] theorem Ax.modAxis_same (s : State) (i : Nat) (f : Axis → Axis) : Ax.axis (Ax.modAxis s i f) i = f (Ax.axis s i) := Tab.get_set_same _ _ _ _

theorem Ax.modAxis_other (s : State) (i : Nat) (f : Axis → Axis) {j : Nat} (h : j ≠ i) : Ax.axis (Ax.modAxis s i f) j = Ax.axis s j := Tab.get_set_other _ _ _ h

@[simp] theorem Ax.modEnc_same (s : State) (i : Nat) (f : Enc → Enc) : Ax.enc (Ax.modEnc s i f) i = f (Ax.enc s i) := Tab.get_set_same _ _ _ _

theorem Ax.modEnc_other (s : State) (i : Nat) (f : Enc → Enc) {j : Nat} (h : j ≠ i) : Ax.enc (Ax.modEnc s i f) j = Ax.enc s j := Tab.get_set_other _ _ _ h

@[simp] theorem Ax.modCmp_same (s : State) (i : Nat) (f : Cmp → Cmp) : Ax.cmp (Ax.modCmp s i f) i = f (Ax.cmp s i) := Tab.get_set_same _ _ _ _

theorem Ax.modCmp_other (s : State) (i : Nat) (f : Cmp → Cmp) {j : Nat} (h : j ≠ i) : Ax.cmp (Ax.modCmp s i f) j = Ax.cmp s j := Tab.get_set_other _ _ _ h

@[simp] theorem Fol.modSlot_same (s : State) (i : Nat) (f : FolSlot → FolSlot) : Fol.slotOf (Fol.modSlot s i f) i = f (Fol.slotOf s i) := Tab.get_set_same _ _ _ _

theorem Fol.modSlot_other (s : State) (i : Nat) (f : FolSlot → FolSlot) {j : Nat} (h : j ≠ i) : Fol.slotOf (Fol.modSlot s i f) j = Fol.slotOf s j := Tab.get_set_other _ _ _ h

@[simp] theorem Img.modPort_same (s : State) (i : Nat) (f : Port → Port) : Ilm.portOf (Img.modPort s i f) i = f (Ilm.portOf s i) := Tab.get_set_same _ _ _ _

theorem Img.modPort_other (s : State) (i : Nat) (f : Port → Port) {j : Nat} (h : j ≠ i) : Ilm.portOf (Img.modPort s i f) j = Ilm.portOf s j := Tab.get_set_other _ _ _ h

@[simp] theorem Feat.modUnit_same (s : State) (i : Nat) (f : Mpf → Mpf) : Feat.unit (Feat.modUnit s i f) i = f (Feat.unit s i) := Tab.get_set_same _ _ _ _

theorem Feat.modUnit_other (s : State) (i : Nat) (f : Mpf → Mpf) {j : Nat} (h : j ≠ i) : Feat.unit (Feat.modUnit s i f) j = Feat.unit s j := Tab.get_set_other _ _ _ h

@[simp] theorem Ilm.modLamp_same (s : State) (i : Nat) (f : Lamp → Lamp) : Ilm.lampOf (Ilm.modLamp s i f) i = f (Ilm.lampOf s i) := Tab.get_set_same _ _ _ _

theorem Ilm.modLamp_other (s : State) (i : Nat) (f : Lamp → Lamp) {j : Nat} (h : j ≠ i) : Ilm.lampOf (Ilm.modLamp s i f) j = Ilm.lampOf s j := Tab.get_set_other _ _ _ h

@[simp] theorem Tmp.modSensor_same (s : State) (i : Nat) (f : Sensor → Sensor) : Tmp.sensor (Tmp.modSensor s i f) i = f (Tmp.sensor s i) := Tab.get_set_same _ _ _ _

theorem Tmp.modSensor_other (s : State) (i : Nat) (f : Sensor → Sensor) {j : Nat} (h : j ≠ i) : Tmp.sensor (Tmp.modSensor s i f) j = Tmp.sensor s j := Tab.get_set_other _ _ _ h

@[simp] theorem State.chOf_setCh_same (s : State) (c : Nat) (m : ChMode) : State.chOf (State.setCh s c m) c = m := Tab.get_set_same _ _ _ _

theorem State.chOf_setCh_other (s : State) (c : Nat) (m : ChMode) {j : Nat} (h : j ≠ c) : State.chOf (State.setCh s c m) j = State.chOf s j := Tab.get_set_other _ _ _ h

/-- A block of the NAND after it was changed. -/
@[simp] theorem Nand.block_setBlock_same (m : Medium) (b : Nat) (x : NandBlock) : Nand.block (Nand.setBlock m b x) b = x := Tab.get_set_same _ _ _ _

theorem Nand.block_setBlock_other (m : Medium) (b : Nat) (x : NandBlock) {j : Nat} (h : j ≠ b) : Nand.block (Nand.setBlock m b x) j = Nand.block m j :=
  Tab.get_set_other _ _ _ h

@[simp] theorem Stk.modBlock_same (b : Nat) (f : NandBlock → NandBlock) (s : State) :
    Nand.block (Stk.modBlock b f s).stk.medium b = f (Nand.block s.stk.medium b) := Tab.get_set_same _ _ _ _

theorem Stk.modBlock_other (b : Nat) (f : NandBlock → NandBlock) (s : State) {j : Nat} (h : j ≠ b) :
    Nand.block (Stk.modBlock b f s).stk.medium j = Nand.block s.stk.medium j := Tab.get_set_other _ _ _ h

/-! ### Registers after they were written -/

theorem State.rDev_wDev {idx sub : Nat} {r : Dict.Row} (h : Dict.find Dict.devRows (Dict.key 0 idx sub / 256 % 65536) (Dict.key 0 idx sub % 256) = some r)
    (s : State) (v : Int) : State.rDev (State.wDev s idx sub v) idx sub = Dict.norm r.ty v := Regs.get_set_same h _ _

theorem State.rDev_wDev_other (s : State) (v : Int) {i j idx sub : Nat} (h : Dict.key 0 i j ≠ Dict.key 0 idx sub) :
    State.rDev (State.wDev s idx sub v) i j = State.rDev s i j := Regs.get_set_other _ _ _ h

theorem State.rTxn_wTxn {idx sub : Nat} {r : Dict.Row} (h : Dict.find Dict.txnRows (Dict.key 0 idx sub / 256 % 65536) (Dict.key 0 idx sub % 256) = some r)
    (s : State) (v : Int) : State.rTxn (State.wTxn s idx sub v) idx sub = Dict.norm r.ty v := Regs.get_set_same h _ _

theorem State.rTxn_wTxn_other (s : State) (v : Int) {i j idx sub : Nat} (h : Dict.key 0 i j ≠ Dict.key 0 idx sub) :
    State.rTxn (State.wTxn s idx sub v) i j = State.rTxn s i j := Regs.get_set_other _ _ _ h

theorem State.rCtx_wCtx {idx sub : Nat} {r : Dict.Row} (h : Dict.find Dict.ctxRows (Dict.key 0 idx sub / 256 % 65536) (Dict.key 0 idx sub % 256) = some r)
    (s : State) (v : Int) : State.rCtx (State.wCtx s idx sub v) idx sub = Dict.norm r.ty v := Regs.get_set_same h _ _

theorem State.rCtx_wCtx_other (s : State) (v : Int) {i j idx sub : Nat} (h : Dict.key 0 i j ≠ Dict.key 0 idx sub) :
    State.rCtx (State.wCtx s idx sub v) i j = State.rCtx s i j := Regs.get_set_other _ _ _ h

theorem State.rTrj_wTrj {idx sub : Nat} {r : Dict.Row} (h : Dict.find Dict.trjRows (Dict.key 0 idx sub / 256 % 65536) (Dict.key 0 idx sub % 256) = some r)
    (s : State) (v : Int) : State.rTrj (State.wTrj s idx sub v) idx sub = Dict.norm r.ty v := Regs.get_set_same h _ _

theorem State.rTrj_wTrj_other (s : State) (v : Int) {i j idx sub : Nat} (h : Dict.key 0 i j ≠ Dict.key 0 idx sub) :
    State.rTrj (State.wTrj s idx sub v) i j = State.rTrj s i j := Regs.get_set_other _ _ _ h

theorem State.rLnd_wLnd {idx sub : Nat} {r : Dict.Row} (h : Dict.find Dict.lndRows (Dict.key 0 idx sub / 256 % 65536) (Dict.key 0 idx sub % 256) = some r)
    (s : State) (v : Int) : State.rLnd (State.wLnd s idx sub v) idx sub = Dict.norm r.ty v := Regs.get_set_same h _ _

theorem State.rLnd_wLnd_other (s : State) (v : Int) {i j idx sub : Nat} (h : Dict.key 0 i j ≠ Dict.key 0 idx sub) :
    State.rLnd (State.wLnd s idx sub v) i j = State.rLnd s i j := Regs.get_set_other _ _ _ h

theorem State.rCat_wCat {idx sub : Nat} {r : Dict.Row} (h : Dict.find Dict.catRows (Dict.key 0 idx sub / 256 % 65536) (Dict.key 0 idx sub % 256) = some r)
    (s : State) (v : Int) : State.rCat (State.wCat s idx sub v) idx sub = Dict.norm r.ty v := Regs.get_set_same h _ _

theorem State.rCat_wCat_other (s : State) (v : Int) {i j idx sub : Nat} (h : Dict.key 0 i j ≠ Dict.key 0 idx sub) :
    State.rCat (State.wCat s idx sub v) i j = State.rCat s i j := Regs.get_set_other _ _ _ h

theorem State.rPwr_wPwr {idx sub : Nat} {r : Dict.Row} (h : Dict.find Dict.pwrRows (Dict.key 0 idx sub / 256 % 65536) (Dict.key 0 idx sub % 256) = some r)
    (s : State) (v : Int) : State.rPwr (State.wPwr s idx sub v) idx sub = Dict.norm r.ty v := Regs.get_set_same h _ _

theorem State.rPwr_wPwr_other (s : State) (v : Int) {i j idx sub : Nat} (h : Dict.key 0 i j ≠ Dict.key 0 idx sub) :
    State.rPwr (State.wPwr s idx sub v) i j = State.rPwr s i j := Regs.get_set_other _ _ _ h

theorem State.rMpl_wMpl {idx sub : Nat} {r : Dict.Row} (h : Dict.find Dict.mplRows (Dict.key 0 idx sub / 256 % 65536) (Dict.key 0 idx sub % 256) = some r)
    (s : State) (v : Int) : State.rMpl (State.wMpl s idx sub v) idx sub = Dict.norm r.ty v := Regs.get_set_same h _ _

theorem State.rMpl_wMpl_other (s : State) (v : Int) {i j idx sub : Nat} (h : Dict.key 0 i j ≠ Dict.key 0 idx sub) :
    State.rMpl (State.wMpl s idx sub v) i j = State.rMpl s i j := Regs.get_set_other _ _ _ h

theorem State.rGrd_wGrd {idx sub : Nat} {r : Dict.Row} (h : Dict.find Dict.grdRows (Dict.key 0 idx sub / 256 % 65536) (Dict.key 0 idx sub % 256) = some r)
    (s : State) (v : Int) : State.rGrd (State.wGrd s idx sub v) idx sub = Dict.norm r.ty v := Regs.get_set_same h _ _

theorem State.rGrd_wGrd_other (s : State) (v : Int) {i j idx sub : Nat} (h : Dict.key 0 i j ≠ Dict.key 0 idx sub) :
    State.rGrd (State.wGrd s idx sub v) i j = State.rGrd s i j := Regs.get_set_other _ _ _ h

theorem State.rLnk_wLnk {idx sub : Nat} {r : Dict.Row} (h : Dict.find Dict.lnkRows (Dict.key 0 idx sub / 256 % 65536) (Dict.key 0 idx sub % 256) = some r)
    (s : State) (v : Int) : State.rLnk (State.wLnk s idx sub v) idx sub = Dict.norm r.ty v := Regs.get_set_same h _ _

theorem State.rLnk_wLnk_other (s : State) (v : Int) {i j idx sub : Nat} (h : Dict.key 0 i j ≠ Dict.key 0 idx sub) :
    State.rLnk (State.wLnk s idx sub v) i j = State.rLnk s i j := Regs.get_set_other _ _ _ h

theorem State.rAtt_wAtt {idx sub : Nat} {r : Dict.Row} (h : Dict.find Dict.attRows (Dict.key 0 idx sub / 256 % 65536) (Dict.key 0 idx sub % 256) = some r)
    (s : State) (v : Int) : State.rAtt (State.wAtt s idx sub v) idx sub = Dict.norm r.ty v := Regs.get_set_same h _ _

theorem State.rAtt_wAtt_other (s : State) (v : Int) {i j idx sub : Nat} (h : Dict.key 0 i j ≠ Dict.key 0 idx sub) :
    State.rAtt (State.wAtt s idx sub v) i j = State.rAtt s i j := Regs.get_set_other _ _ _ h

theorem State.rImg_wImg {idx sub : Nat} {r : Dict.Row} (h : Dict.find Dict.imgRows (Dict.key 0 idx sub / 256 % 65536) (Dict.key 0 idx sub % 256) = some r)
    (s : State) (v : Int) : State.rImg (State.wImg s idx sub v) idx sub = Dict.norm r.ty v := Regs.get_set_same h _ _

theorem State.rImg_wImg_other (s : State) (v : Int) {i j idx sub : Nat} (h : Dict.key 0 i j ≠ Dict.key 0 idx sub) :
    State.rImg (State.wImg s idx sub v) i j = State.rImg s i j := Regs.get_set_other _ _ _ h

theorem State.rIlm_wIlm {idx sub : Nat} {r : Dict.Row} (h : Dict.find Dict.ilmRows (Dict.key 0 idx sub / 256 % 65536) (Dict.key 0 idx sub % 256) = some r)
    (s : State) (v : Int) : State.rIlm (State.wIlm s idx sub v) idx sub = Dict.norm r.ty v := Regs.get_set_same h _ _

theorem State.rIlm_wIlm_other (s : State) (v : Int) {i j idx sub : Nat} (h : Dict.key 0 i j ≠ Dict.key 0 idx sub) :
    State.rIlm (State.wIlm s idx sub v) i j = State.rIlm s i j := Regs.get_set_other _ _ _ h

theorem State.rFol_wFol {idx sub : Nat} {r : Dict.Row} (h : Dict.find Dict.folRows (Dict.key 0 idx sub / 256 % 65536) (Dict.key 0 idx sub % 256) = some r)
    (s : State) (v : Int) : State.rFol (State.wFol s idx sub v) idx sub = Dict.norm r.ty v := Regs.get_set_same h _ _

theorem State.rFol_wFol_other (s : State) (v : Int) {i j idx sub : Nat} (h : Dict.key 0 i j ≠ Dict.key 0 idx sub) :
    State.rFol (State.wFol s idx sub v) i j = State.rFol s i j := Regs.get_set_other _ _ _ h

theorem State.rStk_wStk {idx sub : Nat} {r : Dict.Row} (h : Dict.find Dict.stkRows (Dict.key 0 idx sub / 256 % 65536) (Dict.key 0 idx sub % 256) = some r)
    (s : State) (v : Int) : State.rStk (State.wStk s idx sub v) idx sub = Dict.norm r.ty v := Regs.get_set_same h _ _

theorem State.rStk_wStk_other (s : State) (v : Int) {i j idx sub : Nat} (h : Dict.key 0 i j ≠ Dict.key 0 idx sub) :
    State.rStk (State.wStk s idx sub v) i j = State.rStk s i j := Regs.get_set_other _ _ _ h

theorem State.rAx_wAx {idx sub : Nat} {r : Dict.Row} (h : Dict.find Dict.axRows (Dict.key 0 idx sub / 256 % 65536) (Dict.key 0 idx sub % 256) = some r)
    (s : State) (v : Int) : State.rAx (State.wAx s idx sub v) idx sub = Dict.norm r.ty v := Regs.get_set_same h _ _

theorem State.rAx_wAx_other (s : State) (v : Int) {i j idx sub : Nat} (h : Dict.key 0 i j ≠ Dict.key 0 idx sub) :
    State.rAx (State.wAx s idx sub v) i j = State.rAx s i j := Regs.get_set_other _ _ _ h

theorem State.rNet_wNet {idx sub : Nat} {r : Dict.Row} (h : Dict.find Dict.netRows (Dict.key 0 idx sub / 256 % 65536) (Dict.key 0 idx sub % 256) = some r)
    (s : State) (v : Int) : State.rNet (State.wNet s idx sub v) idx sub = Dict.norm r.ty v := Regs.get_set_same h _ _

theorem State.rNet_wNet_other (s : State) (v : Int) {i j idx sub : Nat} (h : Dict.key 0 i j ≠ Dict.key 0 idx sub) :
    State.rNet (State.wNet s idx sub v) i j = State.rNet s i j := Regs.get_set_other _ _ _ h

theorem State.rFlt_wFlt {idx sub : Nat} {r : Dict.Row} (h : Dict.find Dict.fltRows (Dict.key 0 idx sub / 256 % 65536) (Dict.key 0 idx sub % 256) = some r)
    (s : State) (v : Int) : State.rFlt (State.wFlt s idx sub v) idx sub = Dict.norm r.ty v := Regs.get_set_same h _ _

theorem State.rFlt_wFlt_other (s : State) (v : Int) {i j idx sub : Nat} (h : Dict.key 0 i j ≠ Dict.key 0 idx sub) :
    State.rFlt (State.wFlt s idx sub v) i j = State.rFlt s i j := Regs.get_set_other _ _ _ h

theorem State.rLdg_wLdg {idx sub : Nat} {r : Dict.Row} (h : Dict.find Dict.ldgRows (Dict.key 0 idx sub / 256 % 65536) (Dict.key 0 idx sub % 256) = some r)
    (s : State) (v : Int) : State.rLdg (State.wLdg s idx sub v) idx sub = Dict.norm r.ty v := Regs.get_set_same h _ _

theorem State.rLdg_wLdg_other (s : State) (v : Int) {i j idx sub : Nat} (h : Dict.key 0 i j ≠ Dict.key 0 idx sub) :
    State.rLdg (State.wLdg s idx sub v) i j = State.rLdg s i j := Regs.get_set_other _ _ _ h

theorem State.rTmp_wTmp {idx sub : Nat} {r : Dict.Row} (h : Dict.find Dict.tmpRows (Dict.key 0 idx sub / 256 % 65536) (Dict.key 0 idx sub % 256) = some r)
    (s : State) (v : Int) : State.rTmp (State.wTmp s idx sub v) idx sub = Dict.norm r.ty v := Regs.get_set_same h _ _

theorem State.rTmp_wTmp_other (s : State) (v : Int) {i j idx sub : Nat} (h : Dict.key 0 i j ≠ Dict.key 0 idx sub) :
    State.rTmp (State.wTmp s idx sub v) i j = State.rTmp s i j := Regs.get_set_other _ _ _ h

/-! ### Messages, counters, free values -/

/-- A counter stays within its type: adding writes the entry's clamped sum (R9). -/
theorem Regs.wf_inc (rows : List Dict.Row) (m : Regs) (k : Nat) (d : Int) (w : Regs.wf rows m = true) : Regs.wf rows (Regs.inc rows m k d) = true := by
  unfold Regs.inc
  split
  · exact Regs.wf_set _ _ _ _ w
  · exact w

/-- Raising appends one message. -/
theorem State.mem_raise (s : State) (src kind addr : Nat) : (⟨src, kind, addr % 2 ^ 32⟩ : Msg) ∈ (State.raise s src kind addr).raised := by
  simp [State.raise]

/-- What is raised stays raised. -/
theorem State.raise_mono (s : State) (src kind addr : Nat) {m : Msg} (h : m ∈ s.raised) : m ∈ (State.raise s src kind addr).raised := by
  simp [State.raise, h]

theorem State.raiseIf_false (s : State) (src kind addr : Nat) : State.raiseIf s false src kind addr = s := rfl

theorem State.raiseIf_true (s : State) (src kind addr : Nat) : State.raiseIf s true src kind addr = State.raise s src kind addr := rfl

end Sys2Proof.Machine
end

