-- ==== Sys2Proof/Laws/Act.lean ====
section
/-!
SUPPORT. What the outcome of a command can be: the shared operations run, always, act and actOn say it once for every meaning.
-/
namespace Sys2Proof.Machine

variable {f : State → State} {i n : Nat} {c : Instr} {s t : State} {P : State → Prop}

/-! ### The outcome of each form -/

@[simp] theorem act_rails (h : s.pwr.rails = true) : act f s = always f s := by simp [act, h]

@[simp] theorem act_no_rails (h : s.pwr.rails = false) : act f s = .next s := by simp [act, h]

@[simp] theorem actOn_unit (h : i < n) : actOn i n f s = act f s := by simp [actOn, h]

@[simp] theorem actOn_no_unit (h : ¬i < n) : actOn i n f s = .next s := by simp [actOn, h]

/-! ### Every form answers, and what it cannot touch -/

theorem run_answers (f : State → State) (s : State) : ∃ t, run f s = .next t ∧ t.pending = s.pending := ⟨_, rfl, rfl⟩

theorem always_answers (f : State → State) (s : State) : ∃ t, always f s = .next t ∧ t.tick = s.tick ∧ t.pending = s.pending := ⟨_, rfl, rfl, rfl⟩

theorem act_answers (f : State → State) (s : State) : ∃ t, act f s = .next t ∧ t.tick = s.tick ∧ t.pending = s.pending := by
  unfold act
  split
  · exact always_answers f s
  · exact ⟨s, rfl, rfl, rfl⟩

theorem actOn_answers (i n : Nat) (f : State → State) (s : State) : ∃ t, actOn i n f s = .next t ∧ t.tick = s.tick ∧ t.pending = s.pending := by
  unfold actOn
  split
  · exact act_answers f s
  · exact ⟨s, rfl, rfl, rfl⟩

theorem always_tick (h : always f s = .next t) : t.tick = s.tick := by cases h; rfl

theorem act_tick (h : act f s = .next t) : t.tick = s.tick := by
  obtain ⟨u, hu, ht, -⟩ := act_answers f s
  rw [hu] at h; cases h; exact ht

theorem actOn_tick (h : actOn i n f s = .next t) : t.tick = s.tick := by
  obtain ⟨u, hu, ht, -⟩ := actOn_answers i n f s
  rw [hu] at h; cases h; exact ht

theorem run_inv (h : run f s = .next t) : t = { f s with pending := s.pending } := by cases h; rfl

theorem actOn_no_rails (h : s.pwr.rails = false) : actOn i n f s = .next s := by
  unfold actOn
  split
  · exact act_no_rails h
  · rfl

/-! ### A command completes by its meaning -/

theorem completes_of_always (he : exec c s = always f s) (hp : P { f s with tick := s.tick, pending := s.pending }) : completes c s P :=
  ⟨_, he, hp⟩

theorem completes_of_run (he : exec c s = run f s) (hp : P { f s with pending := s.pending }) : completes c s P := ⟨_, he, hp⟩

theorem completes_of_act (he : exec c s = act f s) (hr : s.pwr.rails = true) (hp : P { f s with tick := s.tick, pending := s.pending }) :
    completes c s P :=
  completes_of_always (he.trans (act_rails hr)) hp

theorem completes_of_actOn (he : exec c s = actOn i n f s) (hi : i < n) (hr : s.pwr.rails = true)
    (hp : P { f s with tick := s.tick, pending := s.pending }) : completes c s P :=
  completes_of_act (he.trans (actOn_unit hi)) hr hp

end Sys2Proof.Machine
end

