-- ==== Sys2Proof/Laws/PerInstr.lean ====
section
/-!
SUPPORT. Families of lemmas with one lemma per command. Boots: a command that can bring the module into BOOT is one of the standby domain, which acts
with the core rails off (R498, R499).
-/
namespace Sys2Proof.Laws.Boots
open Sys2Proof Sys2Proof.Machine

/-- What the family says of one command. -/
def Statement (i : Instr) : Prop := bootsModule i = true → ofStandby i = true

theorem enableRise : Statement .enableRise := fun _ => rfl
theorem enableFall : Statement .enableFall := nofun
theorem enableGlitch : Statement .enableGlitch := nofun
theorem thermalExitCheck (readings : List Int) : Statement (.thermalExitCheck readings) := fun _ => rfl
theorem ejectReq : Statement .ejectReq := nofun
theorem safeToRemove (ckptDone : Bool) (ms : Nat) : Statement (.safeToRemove ckptDone ms) := nofun
theorem prechargeStart : Statement .prechargeStart := nofun
theorem standbyStart : Statement .standbyStart := fun _ => rfl
theorem mainSwitchClose : Statement .mainSwitchClose := fun _ => rfl
theorem prechargeFail : Statement .prechargeFail := nofun
theorem inputLoss (cause : LossCause) : Statement (.inputLoss cause) := nofun
theorem inputReturn (enableHigh : Bool) : Statement (.inputReturn enableHigh) := nofun
theorem powerMeasurement (mv ma mw : Nat) : Statement (.powerMeasurement mv ma mw) := nofun
theorem perstN : Statement .perstN := nofun
theorem pcieLinkDown : Statement .pcieLinkDown := nofun
theorem functionLevelReset : Statement .functionLevelReset := nofun
theorem refclkLost : Statement .refclkLost := nofun
theorem pllUnlock : Statement .pllUnlock := nofun
theorem dramCorrected (addr : Nat) : Statement (.dramCorrected addr) := nofun
theorem dramUncorr (addr : Nat) : Statement (.dramUncorr addr) := nofun
theorem sramCorrected (addr : Nat) : Statement (.sramCorrected addr) := nofun
theorem sramUncorr (addr : Nat) : Statement (.sramUncorr addr) := nofun
theorem tick (inp : TickIn) : Statement (.tick inp) := nofun
theorem laserInterlockAssert : Statement .laserInterlockAssert := nofun
theorem interlockRelease : Statement .interlockRelease := nofun
theorem goReady : Statement .goReady := nofun
theorem goService : Statement .goService := nofun
theorem startBuild : Statement .startBuild := nofun
theorem pause : Statement .pause := nofun
theorem resume : Statement .resume := nofun
theorem stop : Statement .stop := nofun
theorem safe : Statement .safe := nofun
theorem ddpOpen (dg : Datagram) : Statement (.ddpOpen dg) := nofun
theorem close (dg : Datagram) : Statement (.close dg) := nofun
theorem keepalive (dg : Datagram) : Statement (.keepalive dg) := nofun
theorem sessionTimeout (path : Nat) : Statement (.sessionTimeout path) := nofun
theorem read (dg : Datagram) : Statement (.read dg) := nofun
theorem write (dg : Datagram) : Statement (.write dg) := nofun
theorem blobRead (dg : Datagram) : Statement (.blobRead dg) := nofun
theorem blobWrite (dg : Datagram) : Statement (.blobWrite dg) := nofun
theorem blobEnd (dg : Datagram) : Statement (.blobEnd dg) := nofun
theorem badFrameDrop (dg : Datagram) : Statement (.badFrameDrop dg) := nofun
theorem mbxDoorbell (word : Nat) : Statement (.mbxDoorbell word) := nofun
theorem mbxStatusRead : Statement .mbxStatusRead := nofun
theorem registerWrite (w : RegWrite) : Statement (.registerWrite w) := nofun
theorem cfgSave : Statement .cfgSave := nofun
theorem cfgSaveComplete (ok : Bool) : Statement (.cfgSaveComplete ok) := nofun
theorem cfgErase : Statement .cfgErase := nofun
theorem txnBegin (path : Nat) : Statement (.txnBegin path) := nofun
theorem txnCommit (path : Nat) : Statement (.txnCommit path) := nofun
theorem txnRollback (path : Nat) : Statement (.txnRollback path) := nofun
theorem txnTimeout (path : Nat) : Statement (.txnTimeout path) := nofun
theorem itemAccept (ctx : Nat) (units : List Byte) : Statement (.itemAccept ctx units) := nofun
theorem windowWrite (offset : Nat) (data : List Byte) : Statement (.windowWrite offset data) := nofun
theorem ctxDmaDoorbell (word : Nat) : Statement (.ctxDmaDoorbell word) := nofun
theorem dmaFetch (ctx : Nat) (desc data : List Byte) (err : Bool) : Statement (.dmaFetch ctx desc data err) := nofun
theorem ctxEnable (ctx : Nat) : Statement (.ctxEnable ctx) := nofun
theorem ctxDisable (ctx : Nat) : Statement (.ctxDisable ctx) := nofun
theorem ctxFlush (ctx : Nat) : Statement (.ctxFlush ctx) := nofun
theorem stripeAck (ch : Nat) : Statement (.stripeAck ch) := nofun
theorem headLate (ch ctx wait : Nat) : Statement (.headLate ch ctx wait) := nofun
theorem itemsNotice (ctx : Nat) : Statement (.itemsNotice ctx) := nofun
theorem ntcLostRead : Statement .ntcLostRead := nofun
theorem startExposure (mask : Nat) : Statement (.startExposure mask) := nofun
theorem waitExposure (layer : Bool) (mask timeout : Nat) : Statement (.waitExposure layer mask timeout) := nofun
theorem axisMove (axis : Nat) (relative : Bool) (target : Int) (speed accel : Nat) : Statement (.axisMove axis relative target speed accel) := nofun
theorem axisWait (mask timeout : Nat) : Statement (.axisWait mask timeout) := nofun
theorem gearSet (axis enc : Nat) (disengage : Bool) (num : Int) (den : Nat) : Statement (.gearSet axis enc disengage num den) := nofun
theorem capture (port : Nat) (armed wait folio : Bool) : Statement (.capture port armed wait folio) := nofun
theorem strobe (port mask : Nat) : Statement (.strobe port mask) := nofun
theorem gridSnapshot (folio wait : Bool) : Statement (.gridSnapshot folio wait) := nofun
theorem storeObject (kind : Nat) (wait : Bool) (port : Nat) : Statement (.storeObject kind wait port) := nofun
theorem catWaitTicks (count : Nat) : Statement (.catWaitTicks count) := nofun
theorem waitInput (source : Nat) (level edge : Bool) (timeout : Nat) : Statement (.waitInput source level edge timeout) := nofun
theorem applyTxn : Statement .applyTxn := nofun
theorem loop (level count target : Nat) : Statement (.loop level count target) := nofun
theorem jump (target : Nat) : Statement (.jump target) := nofun
theorem branchFlag (flag : Nat) (sense : Bool) (target : Nat) : Statement (.branchFlag flag sense target) := nofun
theorem halt : Statement .halt := nofun
theorem waitStepComplete : Statement .waitStepComplete := nofun
theorem waitTimeout : Statement .waitTimeout := nofun
theorem layerBoundary : Statement .layerBoundary := nofun
theorem chsEnable (ch : Nat) : Statement (.chsEnable ch) := nofun
theorem chsDisable (ch : Nat) : Statement (.chsDisable ch) := nofun
theorem stripeDecision (ch : Nat) : Statement (.stripeDecision ch) := nofun
theorem segmentMark (ch : Nat) : Statement (.segmentMark ch) := nofun
theorem segmentJump (ch : Nat) : Statement (.segmentJump ch) := nofun
theorem segmentMarkExt (ch : Nat) : Statement (.segmentMarkExt ch) := nofun
theorem waitTicks (ch : Nat) : Statement (.waitTicks ch) := nofun
theorem phaseEnd (ch : Nat) : Statement (.phaseEnd ch) := nofun
theorem trjLate (ch wait : Nat) : Statement (.trjLate ch wait) := nofun
theorem engineAtRest (ch : Nat) : Statement (.engineAtRest ch) := nofun
theorem driftUpdate (ch : Nat) : Statement (.driftUpdate ch) := nofun
theorem feedbackConsume (ch : Nat) : Statement (.feedbackConsume ch) := nofun
theorem plumeCheck (ch : Nat) : Statement (.plumeCheck ch) := nofun
theorem plumeHoldLong (ch : Nat) : Statement (.plumeHoldLong ch) := nofun
theorem replanComplete : Statement .replanComplete := nofun
theorem reachMapComplete : Statement .reachMapComplete := nofun
theorem loopSampleConsume (ch : Nat) : Statement (.loopSampleConsume ch) := nofun
theorem mplReclose (ch : Nat) : Statement (.mplReclose ch) := nofun
theorem mplResetIntegral (ch : Nat) : Statement (.mplResetIntegral ch) := nofun
theorem sweepStart : Statement .sweepStart := nofun
theorem tileSlot : Statement .tileSlot := nofun
theorem gridLate (deposit : Bool) (cell amount : Nat) : Statement (.gridLate deposit cell amount) := nofun
theorem grdReset : Statement .grdReset := nofun
theorem grdSnapshotRaw : Statement .grdSnapshotRaw := nofun
theorem grdSnapshotFolio : Statement .grdSnapshotFolio := nofun
theorem grdRelease : Statement .grdRelease := nofun
theorem snapshotCaptureComplete : Statement .snapshotCaptureComplete := nofun
theorem lnkEnable (lane : Nat) : Statement (.lnkEnable lane) := nofun
theorem lnkDisable (lane : Nat) : Statement (.lnkDisable lane) := nofun
theorem lnkRetrain (lane : Nat) : Statement (.lnkRetrain lane) := nofun
theorem lnkRelearn (lane : Nat) : Statement (.lnkRelearn lane) := nofun
theorem markerLock (lane serial : Nat) : Statement (.markerLock lane serial) := nofun
theorem capBlock (lane : Nat) (block : List Byte) : Statement (.capBlock lane block) := nofun
theorem stepEcho (lane : Nat) : Statement (.stepEcho lane) := nofun
theorem trainingEnd (lane eq rtd : Nat) : Statement (.trainingEnd lane eq rtd) := nofun
theorem errorTestEnd (lane own : Nat) (farPass : Bool) (rtd : Nat) : Statement (.errorTestEnd lane own farPass rtd) := nofun
theorem laneLost (lane cause : Nat) : Statement (.laneLost lane cause) := nofun
theorem laneFreeze (lane : Nat) : Statement (.laneFreeze lane) := nofun
theorem refreshBurst (lane : Nat) : Statement (.refreshBurst lane) := nofun
theorem driftRelearn (lane eq : Nat) : Statement (.driftRelearn lane eq) := nofun
theorem ingressFifoOverflow (src blocks : Nat) : Statement (.ingressFifoOverflow src blocks) := nofun
theorem upstreamFrame (lane : Nat) (frame : List Byte) (bad : Bool) : Statement (.upstreamFrame lane frame bad) := nofun
theorem tileHdr (lane : Nat) (frame : List Byte) : Statement (.tileHdr lane frame) := nofun
theorem tileData (lane : Nat) (frame : List Byte) : Statement (.tileData lane frame) := nofun
theorem sourceStatusConsume (ch : Nat) : Statement (.sourceStatusConsume ch) := nofun
theorem xyStatusFrame (port bits : Nat) : Statement (.xyStatusFrame port bits) := nofun
theorem armedTrig (port : Nat) : Statement (.armedTrig port) := nofun
theorem fvalRise (port : Nat) : Statement (.fvalRise port) := nofun
theorem fvalFall (port : Nat) (rows : List (List Nat)) (lost : List (Nat × Nat)) : Statement (.fvalFall port rows lost) := nofun
theorem frameTimeout (port : Nat) (rows : List (List Nat)) (lost : List (Nat × Nat)) : Statement (.frameTimeout port rows lost) := nofun
theorem frameClose (port : Nat) : Statement (.frameClose port) := nofun
theorem mpfHandover (ch : Nat) : Statement (.mpfHandover ch) := nofun
theorem lampDiagnosis (lamp vSink current : Nat) : Statement (.lampDiagnosis lamp vSink current) := nofun
theorem lampPulseEnd (lamp : Nat) : Statement (.lampPulseEnd lamp) := nofun
theorem lampProbe (lamp : Nat) : Statement (.lampProbe lamp) := nofun
theorem ilmApply : Statement .ilmApply := nofun
theorem ilmProbe : Statement .ilmProbe := nofun
theorem lampEnable (lamp : Nat) : Statement (.lampEnable lamp) := nofun
theorem lampDisable (lamp : Nat) : Statement (.lampDisable lamp) := nofun
theorem folStart (slot : Nat) : Statement (.folStart slot) := nofun
theorem folCancel (slot : Nat) : Statement (.folCancel slot) := nofun
theorem folRelease (slot : Nat) : Statement (.folRelease slot) := nofun
theorem folioJobEnd : Statement .folioJobEnd := nofun
theorem folioWaitExpiry : Statement .folioWaitExpiry := nofun
theorem folioDisable : Statement .folioDisable := nofun
theorem folioEnable : Statement .folioEnable := nofun
theorem stkMount : Statement .stkMount := nofun
theorem mountComplete (r : MountEnd) : Statement (.mountComplete r) := nofun
theorem stkUnmount : Statement .stkUnmount := nofun
theorem stkFormat : Statement .stkFormat := nofun
theorem stkDelete (path : Nat) : Statement (.stkDelete path) := nofun
theorem objectCommit (which : Nat) : Statement (.objectCommit which) := nofun
theorem stagingReadComplete (r : StageRead) : Statement (.stagingReadComplete r) := nofun
theorem suspendResume (ch target : Nat) : Statement (.suspendResume ch target) := nofun
theorem programFail (ch block : Nat) : Statement (.programFail ch block) := nofun
theorem eraseFail (ch block : Nat) : Statement (.eraseFail ch block) := nofun
theorem targetTimeout (ch target block : Nat) : Statement (.targetTimeout ch target block) := nofun
theorem retentionAge (temps : List (Option Int)) (done : List CareWork) : Statement (.retentionAge temps done) := nofun
theorem axMove (axis : Nat) : Statement (.axMove axis) := nofun
theorem axStop (axis : Nat) : Statement (.axStop axis) := nofun
theorem axQuickStop (axis : Nat) : Statement (.axQuickStop axis) := nofun
theorem axHome (axis : Nat) : Statement (.axHome axis) := nofun
theorem axJog (axis : Nat) : Statement (.axJog axis) := nofun
theorem axGearEngage (axis : Nat) : Statement (.axGearEngage axis) := nofun
theorem axGearDisengage (axis : Nat) : Statement (.axGearDisengage axis) := nofun
theorem axGearArmSwitch (axis : Nat) : Statement (.axGearArmSwitch axis) := nofun
theorem axisEnable (axis : Nat) : Statement (.axisEnable axis) := nofun
theorem axisDisable (axis : Nat) : Statement (.axisDisable axis) := nofun
theorem axProfileWrite (axis sub : Nat) (v : Int) : Statement (.axProfileWrite axis sub v) := nofun
theorem jogSpeedWrite (axis : Nat) (v : Int) : Statement (.jogSpeedWrite axis v) := nofun
theorem stepPulse (axis : Nat) : Statement (.stepPulse axis) := nofun
theorem wakeDelayElapsed (axis : Nat) : Statement (.wakeDelayElapsed axis) := nofun
theorem standstillDelayElapsed (axis : Nat) : Statement (.standstillDelayElapsed axis) := nofun
theorem switchInputEdge (axis input : Nat) (level : Bool) : Statement (.switchInputEdge axis input level) := nofun
theorem holdoffEnd (axis input : Nat) : Statement (.holdoffEnd axis input) := nofun
theorem encoderEdge (enc at4 : Nat) (a b z : Bool) : Statement (.encoderEdge enc at4 a b z) := nofun
theorem encoderIndex (enc : Nat) : Statement (.encoderIndex enc) := nofun
theorem encoderTooth (enc at4 : Nat) : Statement (.encoderTooth enc at4) := nofun
theorem encoderSpeedTimeout (enc : Nat) : Statement (.encoderSpeedTimeout enc) := nofun
theorem cmpArm (unit : Nat) : Statement (.cmpArm unit) := nofun
theorem cmpDisarm (unit : Nat) : Statement (.cmpDisarm unit) := nofun
theorem cmpPositionWrite (unit : Nat) (v : Int) : Statement (.cmpPositionWrite unit v) := nofun
theorem cmpPulseEnd (unit : Nat) : Statement (.cmpPulseEnd unit) := nofun
theorem arpReply (port : Nat) (frame : List Byte) : Statement (.arpReply port frame) := nofun
theorem icmpEcho (port : Nat) (frame : List Byte) : Statement (.icmpEcho port frame) := nofun
theorem ptpReceive (port cycle : Nat) (frame : List Byte) : Statement (.ptpReceive port cycle frame) := nofun
theorem rxFrameDrop (port : Nat) (error : Bool) : Statement (.rxFrameDrop port error) := nofun
theorem netclkWrite (v : Nat) : Statement (.netclkWrite v) := nofun
theorem servoOffset (o : Int) : Statement (.servoOffset o) := nofun
theorem launchEvaluate (port : Nat) : Statement (.launchEvaluate port) := nofun
theorem txFrameSent (port cycle : Nat) : Statement (.txFrameSent port cycle) := nofun
theorem linkDown (port : Nat) : Statement (.linkDown port) := nofun
theorem linkUp (port : Nat) (remoteFault : Bool) : Statement (.linkUp port remoteFault) := nofun
theorem phaseMeasurement : Statement .phaseMeasurement := nofun
theorem tsyncEnable (on : Bool) : Statement (.tsyncEnable on) := nofun
theorem faultCollect : Statement .faultCollect := nofun
theorem escalation (src : Nat) : Statement (.escalation src) := nofun
theorem recovery (src : Nat) : Statement (.recovery src) := nofun
theorem errNMinEnd : Statement .errNMinEnd := nofun
theorem fltSrcAck (path : Nat) : Statement (.fltSrcAck path) := nofun
theorem fltSrcClear (path : Nat) : Statement (.fltSrcClear path) := nofun
theorem fltAckAck (src : Nat) : Statement (.fltAckAck src) := nofun
theorem fltAckClear (src : Nat) : Statement (.fltAckClear src) := nofun
theorem fltRearm : Statement .fltRearm := nofun
theorem fltAckAll : Statement .fltAckAll := nofun
theorem fltClearAll : Statement .fltClearAll := nofun
theorem ldgFreeze : Statement .ldgFreeze := nofun
theorem ldgUnfreeze : Statement .ldgUnfreeze := nofun
theorem freezeExpired : Statement .freezeExpired := nofun
theorem ldgMark : Statement .ldgMark := nofun
theorem ledgerCheckpoint : Statement .ledgerCheckpoint := nofun
theorem sensorReading (sensor count : Nat) : Statement (.sensorReading sensor count) := nofun
theorem rateCheck : Statement .rateCheck := nofun
theorem tmpAckShutdown : Statement .tmpAckShutdown := nofun
theorem tmpExcludeWrite (v : Nat) : Statement (.tmpExcludeWrite v) := nofun
theorem calRun : Statement .calRun := nofun
theorem calPointTimeout (entry : Nat) : Statement (.calPointTimeout entry) := nofun
theorem calRunEnd (points : List (Int × Int)) : Statement (.calRunEnd points) := nofun
theorem startUpStepComplete (r : StepEnd) : Statement (.startUpStepComplete r) := nofun
theorem fwStoreComplete (result : FwResult) : Statement (.fwStoreComplete result) := nofun
theorem txnCommitCopyEnd (path : Nat) : Statement (.txnCommitCopyEnd path) := nofun
theorem lateTileWritten (tile : Nat) : Statement (.lateTileWritten tile) := nofun
theorem ejectLatchClosed : Statement .ejectLatchClosed := nofun
theorem holdUpExhausted : Statement .holdUpExhausted := nofun

end Sys2Proof.Laws.Boots
end

