-- ==== Sys2Proof/Laws/Write.lean ====
section
/-!
SUPPORT. A host's write over an open path with no transaction in its way: it reaches the operation of its entry.
-/
namespace Sys2Proof.Machine

variable {s : State} {p idx sub : Nat} {v : Int} {r : Dict.Row}

theorem upNow_answers (h : upNow s = true) : Write.answers s = true := by
  simp only [upNow, Bool.and_eq_true] at h; exact h.1.1

theorem upNow_rails (h : upNow s = true) : s.pwr.rails = true := by
  have := upNow_answers h
  simp only [Write.answers, Bool.and_eq_true] at this; exact this.1.1

theorem upNow_mode (h : upNow s = true) : s.dev.mode ≠ .boot := by
  simp only [upNow, Bool.and_eq_true] at h; simpa using h.1.2

theorem upNow_recovery (h : upNow s = true) : s.pwr.recovery = false := by
  simp only [upNow, Bool.and_eq_true] at h; simpa using h.2

theorem hostOpen_upNow (h : hostOpen s = true) : upNow s = true := by
  simp only [hostOpen, Bool.and_eq_true] at h; exact h.1.1.1.1

theorem hostOpen_isOpen (h : hostOpen s = true) : (State.pathOf s 0).isOpen = true := by
  simp only [hostOpen, Bool.and_eq_true] at h; exact h.1.2

theorem hostOpen_busy (h : hostOpen s = true) : s.txn.busy = false := by
  simp only [hostOpen, Bool.and_eq_true, Bool.not_eq_true'] at h; exact h.1.1.2

theorem hostOpen_copying (h : hostOpen s = true) : (State.pathOf s 0).copying = false := by
  simp only [hostOpen, Bool.and_eq_true, Bool.not_eq_true'] at h; exact h.2

theorem hostOpen_noTxn (h : hostOpen s = true) : noTxn s = true := by
  simp only [hostOpen, Bool.and_eq_true] at h; exact h.1.1.1.2

theorem noTxn_locked (h : noTxn s = true) : Write.locked s p idx = false := by
  simp only [noTxn, Bool.and_eq_true, List.isEmpty_iff, List.all_eq_true, Option.isNone_iff_eq_none] at h
  obtain ⟨⟨⟨⟨-, hq⟩, hp⟩, -⟩, -⟩ := h
  simp only [Write.locked, hq, List.any_nil, Bool.false_or, List.any_eq_false]
  intro e he
  simp [hp e he]

theorem hostOpen_pathOpen (h : hostOpen s = true) : pathOpen 0 idx s = true := by
  have hl := noTxn_locked (p := 0) (idx := idx) (hostOpen_noTxn h)
  have hn := hostOpen_noTxn h
  simp only [noTxn, Bool.and_eq_true] at hn
  obtain ⟨⟨⟨⟨hf, -⟩, -⟩, -⟩, he⟩ := hn
  simp only [pathOpen, hostOpen_upNow h, hostOpen_isOpen h, hl, hf, he, hostOpen_busy h, hostOpen_copying h]; rfl

theorem pathOpen_upNow (h : pathOpen p idx s = true) : upNow s = true := by
  simp only [pathOpen, Bool.and_eq_true] at h; exact h.1.1.1.1.1.1.1

/-- A number written over an open path is the write of its entry. -/
theorem Mbx.num_pathOpen {j : Nat} (h : pathOpen p j s = true) : Mbx.num p idx sub v s = (Write.write p idx sub (.num v) s).1 := by
  have ha := upNow_answers (pathOpen_upNow h)
  simp only [pathOpen, Bool.and_eq_true, Bool.not_eq_true', decide_eq_true_eq] at h
  simp [Mbx.num, Mbx.host, Mbx.serve, ha, h.1.1.1.1.1.2, h.1.1.1.1.2, h.1.2, h.2]

/-- The checks before a value's own: the entry exists and takes writes, and the value is a number as its type is. -/
theorem Write.write_checked (h : pathOpen p idx s = true) (hi : Dict.assigned idx = true) (hr : Dict.rowAt idx sub = some r)
    (ha : r.acc ≠ .ro ∧ r.acc ≠ .rc) (hf : Write.fixed idx sub = false) (hk : r.ty ≠ .str ∧ r.ty ≠ .blob) :
    Write.write p idx sub (.num v) s = Write.checked r p idx sub (.num v) s := by
  have hu := pathOpen_upNow h
  have hm := upNow_mode hu
  have hc := upNow_recovery hu
  simp only [pathOpen, Bool.and_eq_true, Bool.not_eq_true'] at h
  simp [Write.write, Write.writeAs, Write.lookup, h.1.1.1.1.1.1.2, hc, hi, hr, hm, ha.1, ha.2, hf, Write.kindOk, hk.1, hk.2]

/-- A command entry takes a number within its limits: the command is carried out. -/
theorem Write.write_command (h : pathOpen p idx s = true) (hi : Dict.assigned idx = true) (hr : Dict.rowAt idx sub = some r) (ha : r.acc = .wo)
    (hf : Write.fixed idx sub = false) (hk : r.ty ≠ .str ∧ r.ty ≠ .blob) (hd : Write.dataBlob idx sub = false) (hv : Write.numOk r idx sub v = true) :
    Write.write p idx sub (.num v) s = Write.command p idx v s := by
  rw [Write.write_checked h hi hr (by simp [ha]) hf hk]
  simp only [pathOpen, Bool.and_eq_true, Bool.not_eq_true'] at h
  simp [Write.checked, Write.valOk, hv, hd, h.1.1.2, ha, Write.execute]

/-- A plain entry takes a number within its limits at once. -/
theorem Write.write_plain (h : pathOpen p idx s = true) (hn : (State.pathOf s p).txn = none) (hi : Dict.assigned idx = true)
    (hr : Dict.rowAt idx sub = some r) (ha : r.acc = .rw) (hf : Write.fixed idx sub = false) (hk : r.ty ≠ .str ∧ r.ty ≠ .blob)
    (hd : Write.dataBlob idx sub = false) (hv : Write.numOk r idx sub v = true) :
    Write.write p idx sub (.num v) s = Write.plain p idx sub (.num v) s := by
  rw [Write.write_checked h hi hr (by simp [ha]) hf hk]
  simp only [pathOpen, Bool.and_eq_true, Bool.not_eq_true'] at h
  simp [Write.checked, Write.valOk, hv, hd, h.1.1.2, h.1.1.1.2, ha, Write.byAccess, hn]

end Sys2Proof.Machine
end

