-- ==== Sys2Proof/Tests/Slice0.lean ====
section
/-!
SUPPORT. The model's own tests: small states, a witness for the hypotheses of every statement, ill-formed commands that WellFormed refuses, and single
steps whose expected results come from the spec.
-/
namespace Sys2Proof.Machine.W
/-- The module before insertion. -/
def bare : State := { State.reset with pwr := { State.reset.pwr with
  precharge := false, standby := false, main := false, rails := false, enable := false, boot := none } }
/-- The module in SERVICE, its start-up over. -/
def up : State := { State.reset with
  dev := { State.reset.dev with mode := .service, pllLocked := true }, pwr := { State.reset.pwr with served := true, boot := none } }
/-- A device state. -/
def inMode (m : Mode) : State := { up with dev := { up.dev with mode := m } }
/-- ETH1 with a link and the address 10.0.0.2. -/
def linkedPort : State := State.wNet (State.wNet up (D.iNET_PORT + 1) D.NET_PORT_LINK 1) (D.iNET_PORT + 1) D.NET_PORT_IP 0x0A000002
/-- Session 1 open, its last request number 4. -/
def linked : State := { linkedPort with txn := { up.txn with
  paths := [(1, { Path.init 1 with isOpen := true, lastSeq := some 4, keepAlive := 100 })] } }
/-- A change of session 1. -/
def link (f : Path → Path) : State := { linked with txn := { linked.txn with paths := [(1, f (State.pathOf linked 1))] } }
/-- A datagram with its checksum. -/
def sealed (d : Datagram) : Datagram := { d with sum := Net.checksum (Ddp.covered { d with sum := 0 }) }
/-- A request. -/
def ask (op session seq : Nat) (body : List Byte) : Datagram :=
  sealed ⟨0x0A000001, 5000, 0x0A000002, 41760, 1, 0, Arith.natLe 2 0xD3D0 ++ [1, BitVec.ofNat 8 op] ++ Arith.natLe 2 session ++ Arith.natLe 2 seq ++ [0, 0] ++
    Arith.natLe 2 body.length ++ [0, 0, 0, 0] ++ body⟩
/-- A transaction open on path 0. -/
def txnOpen (m : Mode) (l : List Staged) : State := { inMode m with txn := { up.txn with paths := [(0, { Path.init 0 with txn := some ⟨7, 0, l⟩ })] } }
/-- A TICK with nothing at its inputs. -/
def still : TickIn := ⟨0, [], true, true, []⟩
/-- A fault source in a state. -/
def source (src : Nat) (f : FltSrc) : State := { up with flt := { up.flt with srcs := [(src, f)] } }
/-- A source whose window is open. -/
def opened : FltSrc := { FltSrc.init with active := true, sev := 1, window := some (0, 0, 0), lastMsg := 0 }
/-- A PAD item of one unit. -/
def padUnit : List Byte := let b : List Byte := [1, 0x7F, 0xA5] ++ List.replicate 28 0; BitVec.ofNat 8 (Arith.crc8 b) :: b
/-- A context in a state. -/
def context (n : Nat) (c : Ctx) : State := { up with ctx := { up.ctx with tab := [(n, c)] } }
/-- Channel 0 STARTED in a device state, its engine as given. -/
def engine (m : Mode) (e : Engine) : State :=
  { inMode m with cat := { up.cat with chMode := [(0, .started)] }, trj := { up.trj with tab := [(0, e)] } }
/-- A stripe of context 0 with items. -/
def stripe (l : List Item) : StripeRun := ⟨0, 0, 0, 96, 1, l.length, l, 0, ⟨0, 0, 0⟩, 0, 0, none, 0, false, 0, some 0, none, [], 0, false, 0⟩
/-- An engine that plans a stripe from an item on. -/
def planning (l : List Item) (i : Nat) : Engine :=
  { Engine.init with stripes := [stripe l], serial := 1, plan := some ⟨0, i, ⟨0, 0, 0⟩, 0, false, [], none, 0⟩, motion := .move, posSet := true }
/-- The same at the run-up of its mark, with a committed mark of channel 1 on its line. -/
def blocked (l : List Item) : State :=
  let e := { planning l 1 with plan := some ⟨0, 1, ⟨0, 0, 0⟩, 0, true, [], none, 0⟩ }
  let b := { Engine.init with cmarks := [⟨⟨0, 0, 0⟩, ⟨6553600, 0, 0⟩, 100, 200, 0, 1⟩] }
  let s := { engine .building e with trj := { up.trj with tab := [(0, e), (1, b)] } }
  State.wLnd (State.wLnd s D.iLNDC D.LNDC_OVERLAP 2) D.iPLM D.PLM_ENABLE 1
/-- A past tick. -/
def past (k : Nat) : Past := ⟨k, k, k, ⟨0, 0, 0⟩, false, 0, true, true, 0, 0, 0, 0, false, false, false, false⟩
/-- A feedback frame with photodiode A and a temperature. -/
def feedback : Feedback := ⟨40, 0, 0, 0, 700, 0, 16, 0⟩
/-- A source status frame. -/
def sourceFrame : SrcFrame := ⟨1, 900, 0, 0, 400⟩
/-- Channel 8 STARTED in a build, its first tick over, its loop open, feedback as given. -/
def looping (fb : Tab Feedback) : State :=
  { inMode .building with
    cat := { up.cat with chMode := [(8, .started)] }
    trj := { up.trj with tab := [(8, { Engine.init with past := [past 0] })] }
    mpl := { up.mpl with tab := [(8, { MpLoop.init with mode := .openHost })] }
    att := { up.att with tab := [(8, { Attach.init with fb := fb })] } }
/-- The same with feedback for the first tick. -/
def fedBack : State := looping [(0, feedback)]
/-- A lane that is UP with a protocol. -/
def laneUp (s : State) (m p : Nat) : State :=
  State.wLnk { s with lnk := { s.lnk with tab := s.lnk.tab ++ [(m, { Lane.init with mode := .up, rate := some 3, held := some (0, 0, 1, 0) })] } } (D.iLNK + m) D.LNK_PROTOCOL p
/-- A lane in a state of its bring-up. -/
def lane (m : Nat) (l : Lane) : State := { up with lnk := { up.lnk with tab := [(m, l)] } }
/-- Channel 0 STARTED, its context offering one stripe. -/
def offering : State :=
  let s := laneUp (laneUp (engine .building { Engine.init with posSet := true }) 0 1) 24 1
  let c : Ctx := { Ctx.init with mode := .enabled, readLayer := some 0, items := [⟨0, 1, .stripeBegin 0 0 1 0 0 0 0⟩, ⟨32, 1, .stripeEnd 1 0 0⟩] }
  let s := { s with ctx := { s.ctx with tab := [(0, c)] }, btick := 9, tick := 9 }
  State.setPtr (State.setPtr s 0 D.CTX_WP 64) 0 D.CTX_VP 64
/-- The grid in a build, 16 tiles of which each takes 64 T. -/
def grid (g : GrdSt) : State := { inMode .building with btick := 5000, tick := 5000, grd := { g with mode := .running, par := { g.par with period := 1024 } } }
/-- The DATA bytes of a CAP block of a head: role 1, rate codes to 3, both head protocols. -/
def capData : List Byte := [1, 1, 3, 3, 4, 2] ++ List.replicate 20 0
/-- Its block. -/
def capBlock : List Byte := Lnk.block 0x10 0 capData
/-- A lane that froze long ago. -/
def frozen : State := State.wLnk { laneUp up 3 2 with tick := 4000000 } (D.iLNK + 3) D.LNK_LIVE 7
/-- A feedback frame of tick 64. -/
def frame81 : List Byte := [0x81, 16, 64, 0] ++ List.replicate 22 0
/-- The header of a tile of frame 5 seen at tick 64. -/
def tileHeader : List Byte := [0x82, 8, 5, 0, 64, 0, 205, 0] ++ List.replicate 18 0
/-- Its first block of pixels. -/
def tileBytes : List Byte := [0x83, 0, 5, 0, 0, 0] ++ List.replicate 20 9
/-- A head lane whose tile has begun. -/
def tiling : State := { laneUp up 3 2 with att := { up.att with tab := [(3, { Attach.init with tile := some ⟨8, 5, 64, 205, 0, []⟩ })] } }
/-- Port 3 selected. -/
def port : State := State.wAtt up (D.iXY + 3) D.XY_SELECT 1
/-- A port whose STARTED channel has sent 12 bad status frames in a row, the count having been lowered to 10. -/
def portRun : State := State.modAtt (State.setCh port 3 .started) 3 fun a => { a with xyBad := 12 }
/-- Port `p` in a state with its frames. -/
def camera (p : Nat) (x : Port) (l : List Frame) : State := { up with tick := 9000000, img := { up.img with ports := [(p, x)], frames := l } }
/-- A frame of one pixel on port 1. -/
def frame : Frame :=
  ⟨1, 6, 100, 0, 0, false, false, ⟨1, 1, 8, 0, Blob.empty, ⟨0, []⟩, Blob.empty, false, 1, 1, 1, 0, 0, 5000⟩, [], false, false, false, false, false, true, false, none⟩
/-- Feature unit 2 with a tile of two pixels due. -/
def unit : State :=
  { up with tick := 80
            img := { up.img with mpf := [(2, { Mpf.init with sched := [⟨60, 5, 64, 70, 64, 8, 20, false⟩] })] }
            att := { up.att with tab := [(2, { Attach.init with tilesDone := [(1, 64, true, 8, [200, 10])] })] } }
/-- Lamp 4 in a state, at tick 30. -/
def lamp (x : Lamp) : State := { up with tick := 30, ilm := { up.ilm with tab := [(4, x)] } }
/-- A compress job of host slot 2: one row of two samples of 8 bits. -/
def job : FolJob := ⟨0x22, 3, false, 8, 2, 1, [5, 6], [], 0, 1, none, true, 0, 64, 0⟩
/-- Folio with its jobs, long after they began. -/
def folio (l : List FolJob) : State := { up with tick := 9000, fol := { up.fol with jobs := l } }
/-- Host slot 2 with two bytes to compress. -/
def slotted : State :=
  let s := State.wFol (State.wFol (State.wFol up (D.iFOLJ + 2) D.FOLJ_BITS 8) (D.iFOLJ + 2) D.FOLJ_WIDTH 2) (D.iFOLJ + 2) D.FOLJ_HEIGHT 1
  { s with fol := { s.fol with blobs := [(Dict.key 0 (D.iFOLJ + 2) D.FOLJ_INPUT, Blob.ofList [5, 6])] } }
/-- Stacks in a state. -/
def jobStore (x : StkSt) : State := { up with stk := x }
/-- One target of 12 blocks of 16 slabs; slabs 160 to 162, on block 10, are programmed. -/
def nand : Medium :=
  ⟨[(0, ⟨40, true, 16384, 2048, 256, 12, [400, 533, 600, 667], some 50, 3, 3000, [7]⟩)], [(10, ⟨3, 1, 5, 0, 0, false⟩)], none, none, [], [], [], []⟩
/-- A directory whose objects' logical slabs 0 to 2 lie there. -/
def dir (l : List StkObj) : Directory := ⟨l, 4, if l.isEmpty then [] else [(0, 160), (1, 161), (2, 162)], [], 6⟩
/-- The store of a directory. -/
def store (l : List StkObj) : Store := ⟨1, 9, dir l, 20, 0, []⟩
/-- The superblock of a store on that NAND, and the checkpoint it names. -/
def superblock (seq : Nat) : Superblock := ⟨seq, 1, 9, ⟨[0], 16384, 2048, 256, 12⟩, 3, 0⟩
/-- NAND that holds a store of these objects, its newest superblock the second one. -/
def formatted (l : List StkObj) : Medium := { nand with superA := some { superblock 2 with id := 8, checkpoint := 2 }, superB := some (superblock 3), checkpoints := [⟨3, dir l, 20⟩] }
/-- The store, mounted. -/
def mounted (l : List StkObj) : State := jobStore { up.stk with mode := .mounted, shown := true, medium := nand, store := some (store l) }
/-- A mounted job of one layer, none of it for a stream; context 5 is staged. -/
def staging : State :=
  let d : List Byte := Arith.natLe 4 0x42444B53 ++ [1, 0, 0, 0, 1, 0, 0, 0, 0, 0, 0, 0] ++ List.replicate 16 0
  let s := { mounted [⟨0x10, 7, 0, 0, 0, 1, 0, d, [1]⟩] with dev := { up.dev with mode := .ready } }
  State.wCtx (State.wStk s D.iSTK_CTRL D.STK_CTRL_JOB 7) (D.iCTX + 5) D.CTX_CTRL 8
/-- The same with the layer in the mask of context 5, its stream as given. -/
def streaming (d : Option (List Byte)) : State :=
  let d' : List Byte := Arith.natLe 4 0x42444B53 ++ [1, 0, 0, 0, 1, 0, 0, 0, 0, 0, 0, 0] ++ [0, 0, 0, 0, 32, 0, 0, 0, 0, 0, 0, 0, 0, 0, 0, 0]
  { staging with stk := { staging.stk with store := some (store (⟨0x10, 7, 0, 0, 0, 1, 0, d', [1]⟩ :: (d.map fun x => ⟨0x11, 7, 0, 5, 0, 2, 0, x, [2]⟩).toList)) } }
/-- A stream of 96 bytes for a context with room for 64. -/
def crowded : State :=
  let s := streaming (some (List.replicate 96 0))
  let n := State.ringBytes s 5 - 64
  State.setPtr (State.setPtr s 5 D.CTX_WP n) 5 D.CTX_VP n
/-- An object under the key path 0 has selected after reset. -/
def object : StkObj := ⟨Stk.sel up 0 D.STK_OBJ_KIND, Stk.sel up 0 D.STK_OBJ_JOB, Stk.sel up 0 D.STK_OBJ_LAYER, Stk.sel up 0 D.STK_OBJ_UNIT, Stk.sel up 0 D.STK_OBJ_SEQ, 3, 9, [1], [0]⟩
/-- Axis 2 in a state. -/
def axis (x : Axis) : State := { up with ax := { up.ax with axes := [(2, x)] } }
/-- The same, with encoder 1 running at count 7. -/
def counting (x : Axis) : State := { up with ax := { up.ax with axes := [(2, x)], encs := [(1, { Enc.init with mode := .running, count := 7 })] } }
/-- Compare unit 9 in a state. -/
def compare (x : Cmp) : State := { up with ax := { up.ax with cmps := [(9, x)] } }
/-- A frame padded to the shortest. -/
def padTo60 (f : List Byte) : List Byte := f ++ List.replicate (60 - f.length) 0
/-- An ARP request for it. -/
def arp : List Byte := padTo60 <|
  List.replicate 6 255 ++ [2, 0, 0, 0, 0, 9, 8, 6, 0, 1, 8, 0, 6, 4, 0, 1, 2, 0, 0, 0, 0, 9, 10, 0, 0, 9] ++ List.replicate 6 0 ++ [10, 0, 0, 2]
/-- An echo request to it. -/
def echo : List Byte := padTo60 <|
  List.replicate 6 255 ++ [2, 0, 0, 0, 0, 9, 8, 0, 0x45, 0, 0, 32, 0, 0, 0, 0, 64, 1, 0, 0, 10, 0, 0, 9, 10, 0, 0, 2, 8, 0, 0, 0, 0, 1, 0, 2, 7, 7, 7, 7]
/-- A PTP frame to the group address of layer 2. -/
def ptp : List Byte := padTo60 [0x01, 0x1B, 0x19, 0, 0, 0, 2, 0, 0, 0, 0, 9, 0x88, 0xF7, 0, 2]
/-- ETH1 with one host frame queued. -/
def queued (f : TxFrame) : State := { linkedPort with net := { linkedPort.net with queue1 := [f] } }
/-- The Catalogue about to issue entry 3, channel 0 IDLE, axes as given. -/
def issuing (l : Tab Axis) : State :=
  { inMode .building with cat := { up.cat with mode := .issue, next := 3, chMode := [(0, .idle)] }, ax := { up.ax with axes := l } }
/-- A step that has waited since tick 0. -/
def waiting (e : CatEntry) : State :=
  { inMode .building with tick := 100, btick := 100, cat := { up.cat with mode := .wait, next := 3, waiting := some e } }
/-- The Catalogue about to issue, port 1 idle. -/
def imaging : State := { issuing [] with img := { up.img with ports := [(1, { Port.init with mode := .idle })] } }
/-- A layer whose last channel is DONE, in the tick of its boundary. -/
def ending : State :=
  State.wCat { issuing [] with cat := { (issuing []).cat with chMode := [(0, .done)], boundaryAt := some 0 } } D.iCAT_STATUS D.CAT_STATUS_LAYER_OPEN 1
/-- A build with channel 0 STARTED. -/
def halting : State :=
  let s := issuing []
  { s with cat := { s.cat with chMode := [(0, .started)] } }
/-- Context 0 takes a job from the store, its layer not staged. -/
def lateStaged : State := State.wCtx { issuing [] with ctx := { W.up.ctx with tab := [(0, { Ctx.init with mode := .enabled })] } } D.iCTX D.CTX_CTRL 9
end Sys2Proof.Machine.W

namespace Sys2Proof.Tests
open Sys2Proof Sys2Proof.Machine

/- One theorem after another: `decide +kernel` waits for what stands before it. -/
set_option Elab.async false

/-! ### Witnesses: states and operands that meet the hypotheses -/

theorem witness_InsertionTakesItsSteps_1 : ∃ s : State, s.pwr.precharge = false :=
  ⟨W.bare, by decide⟩
theorem witness_InsertionTakesItsSteps_2 : ∃ s : State, s.pwr.precharge = true ∧ s.pwr.standby = false ∧ s.pwr.riseHeld = false :=
  ⟨{ W.bare with pwr := { W.bare.pwr with precharge := true } }, by decide⟩
theorem witness_InsertionTakesItsSteps_3 : ∃ s : State, s.pwr.precharge = true ∧ s.pwr.prechargeFail = false ∧ s.pwr.main = false ∧ s.pwr.riseHeld = false :=
  ⟨{ W.bare with pwr := { W.bare.pwr with precharge := true } }, by decide⟩
theorem witness_InsertionTakesItsSteps_4 : ∃ s : State, s.pwr.precharge = true ∧ s.pwr.main = false :=
  ⟨{ W.bare with pwr := { W.bare.pwr with precharge := true } }, by decide⟩
theorem witness_InsertionTakesItsSteps_5 : ∃ s : State, s.pwr.main = false :=
  ⟨W.bare, by decide⟩
theorem witness_InsertionTakesItsSteps_6 : ∃ s : State, s.pwr.enable = false ∧ s.pwr.standby = true ∧ s.pwr.main = true ∧ s.dev.mode ≠ .thermalOff :=
  ⟨{ W.up with pwr := { W.up.pwr with enable := false, rails := false } }, by decide⟩
theorem witness_InsertionTakesItsSteps_7 : ∃ s : State, ∃ readings : List Int, s.dev.mode = .thermalOff ∧ s.pwr.enable = true ∧ s.pwr.riseHeld = true ∧ s.pwr.standby = true ∧ s.pwr.main = true ∧ Pwr.released s readings = true :=
  ⟨{ W.up with dev := { W.up.dev with mode := .thermalOff }, pwr := { W.up.pwr with riseHeld := true, rails := false } }, [100, 200], by decide⟩
theorem witness_InsertionTakesItsSteps_8 : ∃ s : State, ∃ readings : List Int, s.dev.mode = .thermalOff ∧ s.pwr.enable = true ∧ s.pwr.riseHeld = true ∧ s.pwr.standby = true ∧ s.pwr.main = true ∧ Pwr.released s readings = false :=
  ⟨{ W.up with dev := { W.up.dev with mode := .thermalOff }, pwr := { W.up.pwr with riseHeld := true, rails := false } }, [100, 2000], by decide⟩
theorem witness_AcceptedRiseEntersBoot_1 : ∃ s : State, s.pwr.enable = false ∧ s.pwr.standby = true ∧ s.pwr.main = true ∧ s.dev.mode ≠ .thermalOff :=
  ⟨{ W.up with pwr := { W.up.pwr with enable := false, rails := false } }, by decide⟩
theorem witness_AcceptedRiseEntersBoot_2 : ∃ s : State, s.pwr.main = false ∧ s.pwr.prechargeFail = false ∧ s.pwr.standby = true ∧ s.pwr.precharge = true ∧ s.pwr.riseHeld = true ∧ s.dev.mode ≠ .thermalOff :=
  ⟨{ W.bare with pwr := { W.bare.pwr with precharge := true, riseHeld := true, standby := true } }, by decide⟩
theorem witness_AcceptedRiseEntersBoot_3 : ∃ s : State, s.pwr.standby = false ∧ s.pwr.main = true ∧ s.pwr.precharge = true ∧ s.pwr.riseHeld = true ∧ s.dev.mode ≠ .thermalOff :=
  ⟨{ W.bare with pwr := { W.bare.pwr with precharge := true, riseHeld := true, main := true } }, by decide⟩
theorem witness_AcceptedRiseEntersBoot_4 : ∃ s : State, s.pwr.enable = false ∧ (s.pwr.standby = false ∨ s.pwr.main = false ∨ s.dev.mode = .thermalOff) :=
  ⟨W.bare, by decide⟩
theorem witness_AcceptedRiseEntersBoot_5 : ∃ s : State, ∃ readings : List Int, s.dev.mode = .thermalOff ∧ s.pwr.enable = true ∧ s.pwr.riseHeld = true ∧ s.pwr.standby = true ∧ s.pwr.main = true ∧ Pwr.released s readings = true :=
  ⟨{ W.up with dev := { W.up.dev with mode := .thermalOff }, pwr := { W.up.pwr with riseHeld := true, rails := false } }, [100, 200], by decide⟩
theorem witness_AcceptedRiseEntersBoot_6 : ∃ s : State, ∃ readings : List Int, s.dev.mode = .thermalOff ∧ s.pwr.enable = true ∧ s.pwr.riseHeld = true ∧ s.pwr.standby = true ∧ s.pwr.main = true ∧ Pwr.released s readings = false :=
  ⟨{ W.up with dev := { W.up.dev with mode := .thermalOff }, pwr := { W.up.pwr with riseHeld := true, rails := false } }, [100, 2000], by decide⟩
theorem witness_RemovalRuns_1 : ∃ s : State, s.pwr.enable = true ∧ s.pwr.rails = true ∧ s.dev.mode ≠ .thermalOff ∧ s.raised = [] ∧ s.txn.queue = [] :=
  ⟨W.up, by decide⟩
theorem witness_RemovalRuns_2 : ∃ s : State, s.pwr.enable = true ∧ s.pwr.rails = false :=
  ⟨{ W.up with pwr := { W.up.pwr with rails := false } }, by decide⟩
theorem witness_RemovalRuns_3 : ∃ s : State, s.pwr.rails = true ∧ s.dev.mode ≠ .thermalOff ∧ s.raised = [] ∧ s.txn.queue = [] :=
  ⟨W.up, by decide⟩
theorem witness_RemovalRuns_4 : ∃ s : State, s.pwr.removal.isSome = true ∧ Ax.allRest s = true ∧ s.raised = [] :=
  ⟨{ W.up with pwr := { W.up.pwr with removal := some true } }, by decide⟩
theorem witness_RemovalRuns_5 : ∃ s : State, ∃ ck : Bool, ∃ ms : Nat, s.pwr.removal.isSome = true ∧ (ck && Ax.allRest s) = false ∧ 200 ≤ ms ∧ s.raised = [] :=
  ⟨{ W.up with pwr := { W.up.pwr with removal := some true } }, false, 200, by decide⟩
theorem witness_RemovalRuns_6 : ∃ s : State, ∃ ck : Bool, ∃ ms : Nat, (s.pwr.removal = none ∨ (ck && Ax.allRest s) = false ∧ ms < 200) :=
  ⟨W.up, true, 3, by decide⟩
theorem witness_InputIsLostAndMeasured_1 : ∃ s : State, s.pwr.main = true :=
  ⟨W.up, by decide⟩
theorem witness_InputIsLostAndMeasured_2 : ∃ s : State, s.pwr.holdUp = true :=
  ⟨{ W.up with pwr := { W.up.pwr with holdUp := true } }, by decide⟩
theorem witness_InputIsLostAndMeasured_4 : ∃ mv : Nat, ∃ ma : Nat, mv < 2 ^ 32 ∧ ma < 2 ^ 32 :=
  ⟨48000, 1000, by decide⟩
theorem witness_StartUpStepsFollowOneAnother_1 : ∃ s : State, ∃ us : Nat, s.pwr.rails = true ∧ s.pwr.boot = some .rails ∧ us < 2 ^ 32 :=
  ⟨State.reset, 900, by decide⟩
theorem witness_StartUpStepsFollowOneAnother_2 : ∃ s : State, ∃ us : Nat, s.pwr.rails = true ∧ s.pwr.boot = some .pll ∧ us < 2 ^ 32 :=
  ⟨{ State.reset with pwr := { State.reset.pwr with boot := some .pll } }, 900, by decide⟩
theorem witness_StartUpStepsFollowOneAnother_3 : ∃ s : State, ∃ us : Nat, s.pwr.rails = true ∧ s.pwr.boot = some .firmware ∧ s.dev.fwNewer.valid = true ∧ us < 2 ^ 32 :=
  ⟨{ State.reset with pwr := { State.reset.pwr with boot := some .firmware } }, 900, by decide⟩
theorem witness_StartUpStepsFollowOneAnother_4 : ∃ s : State, ∃ us : Nat, s.pwr.rails = true ∧ s.pwr.boot = some .config ∧ s.pwr.recovery = false ∧ us < 2 ^ 32 :=
  ⟨{ State.reset with pwr := { State.reset.pwr with boot := some .config } }, 900, by decide⟩
theorem witness_StartUpStepsFollowOneAnother_5 : ∃ s : State, s.pwr.rails = true ∧ s.pwr.boot = some .pll :=
  ⟨{ State.reset with pwr := { State.reset.pwr with boot := some .pll } }, by decide⟩
theorem witness_StartUpStepsFollowOneAnother_6 : ∃ s : State, s.pwr.rails = true ∧ s.pwr.boot = some .dram :=
  ⟨{ State.reset with pwr := { State.reset.pwr with boot := some .dram } }, by decide⟩
theorem witness_StartUpStepsFollowOneAnother_7 : ∃ s : State, s.pwr.rails = true ∧ s.dev.fwStoring.isSome = true :=
  ⟨{ W.up with dev := { W.up.dev with fwStoring := some ⟨0, true, none⟩ } }, by decide⟩
theorem witness_StartUpStepsFollowOneAnother_8 : ∃ s : State, s.pwr.rails = true ∧ s.dev.fwStoring.isSome = true :=
  ⟨{ W.up with dev := { W.up.dev with fwStoring := some ⟨0, true, none⟩ } }, by decide⟩
theorem witness_StartUpStepsFollowOneAnother_9 : ∃ s : State, s.pwr.rails = true ∧ s.dev.fwStoring.isSome = true :=
  ⟨{ W.up with dev := { W.up.dev with fwStoring := some ⟨0, true, none⟩ } }, by decide⟩
theorem witness_HostLinkResetsTheMailbox_1 : ∃ s : State, s.pwr.rails = true :=
  ⟨{ W.up with txn := { W.up.txn with busy := true } }, by decide⟩
theorem witness_HostLinkResetsTheMailbox_2 : ∃ s : State, s.pwr.rails = true :=
  ⟨{ W.up with txn := { W.up.txn with busy := true } }, by decide⟩
theorem witness_HostLinkResetsTheMailbox_3 : ∃ s : State, s.pwr.rails = true :=
  ⟨{ W.up with txn := { W.up.txn with busy := true } }, by decide⟩
theorem witness_ClockAndMemoryErrorsAreRaised_1 : ∃ s : State, s.pwr.rails = true :=
  ⟨W.up, by decide⟩
theorem witness_ClockAndMemoryErrorsAreRaised_2 : ∃ s : State, s.pwr.rails = true :=
  ⟨W.up, by decide⟩
theorem witness_ClockAndMemoryErrorsAreRaised_3 : ∃ s : State, ∃ addr : Nat, s.pwr.rails = true ∧ addr < 2 ^ 32 :=
  ⟨W.up, 0x1234, by decide⟩
theorem witness_ClockAndMemoryErrorsAreRaised_4 : ∃ s : State, ∃ addr : Nat, s.pwr.rails = true ∧ addr < 2 ^ 32 :=
  ⟨W.up, 0x1234, by decide⟩
theorem witness_ClockAndMemoryErrorsAreRaised_5 : ∃ s : State, ∃ addr : Nat, s.pwr.rails = true ∧ Flt.absorbed s 0x1D0 = false ∧ addr < 2 ^ 32 :=
  ⟨W.up, 0x1234, by decide⟩
theorem witness_ClockAndMemoryErrorsAreRaised_6 : ∃ s : State, ∃ addr : Nat, s.pwr.rails = true ∧ Flt.absorbed s 0x1D8 = false ∧ addr < 2 ^ 32 :=
  ⟨W.up, 0x1234, by decide⟩
theorem witness_ClockAndMemoryErrorsAreRaised_7 : ∃ s : State, s.pwr.rails = true ∧ Flt.absorbed s 0x1D0 = true :=
  ⟨{ W.up with flt := { W.up.flt with corrected := [(0x1D0, 0)] } }, by decide⟩
theorem witness_ClockAndMemoryErrorsAreRaised_8 : ∃ s : State, s.pwr.rails = true ∧ Flt.absorbed s 0x1D8 = true :=
  ⟨{ W.up with flt := { W.up.flt with corrected := [(0x1D8, 0)] } }, by decide⟩
theorem witness_ClockAndMemoryErrorsAreRaised_9 : ∃ s : State, ∃ m : Msg, s.pwr.rails = true ∧ s.raised = [m] ∧ Flt.sev m = 3 ∧ ¬(m.src = 0x190 ∧ m.kind = 6) ∧ s.dev.mode ≠ .thermalOff :=
  ⟨{ W.up with raised := [⟨0x1C8, 1, 0⟩] }, ⟨0x1C8, 1, 0⟩, by decide⟩
theorem witness_ClockAndInterlock_1 : ∃ s : State, Tick.runs s = true :=
  ⟨W.up, by decide⟩
theorem witness_ClockAndInterlock_2 : ∃ s : State, Tick.runs s = false :=
  ⟨W.bare, by decide⟩
theorem witness_ClockAndInterlock_3 : ∃ s : State, s.pwr.interlock = false ∧ s.pwr.rails = true ∧ s.dev.mode = .building :=
  ⟨W.inMode .building, by decide⟩
theorem witness_ClockAndInterlock_4 : ∃ s : State, s.pwr.interlock = false ∧ s.pwr.rails = true ∧ s.dev.mode ≠ .building ∧ s.pwr.served = true :=
  ⟨W.up, by decide⟩
theorem witness_ClockAndInterlock_5 : ∃ s : State, s.pwr.interlock = true ∧ s.pwr.rails = true :=
  ⟨{ W.up with pwr := { W.up.pwr with interlock := true } }, by decide⟩
theorem witness_StateCommandsAreTaken_1 : ∃ s : State, hostOpen s = true ∧ s.raised = [] ∧ Seq.canReady s = true :=
  ⟨W.up, by decide⟩
theorem witness_StateCommandsAreTaken_2 : ∃ s : State, hostOpen s = true ∧ s.raised = [] ∧ (s.dev.mode = .ready ∨ s.dev.mode = .safe) :=
  ⟨W.inMode .safe, by decide⟩
theorem witness_StateCommandsAreTaken_3 : ∃ s : State, hostOpen s = true ∧ s.raised = [] ∧ Seq.canStart s = true :=
  ⟨{ W.inMode .ready with cat := { W.up.cat with image := [⟨0x7F, 0, 0, 0, 0, 0⟩] } }, by decide⟩
theorem witness_StateCommandsAreTaken_4 : ∃ s : State, hostOpen s = true ∧ s.raised = [] ∧ s.dev.mode = .building :=
  ⟨W.inMode .building, by decide⟩
theorem witness_StateCommandsAreTaken_5 : ∃ s : State, hostOpen s = true ∧ s.raised = [] ∧ Seq.canResume s = true :=
  ⟨{ W.inMode .paused with cat := { W.up.cat with mode := .held } }, by decide⟩
theorem witness_StateCommandsAreTaken_6 : ∃ s : State, hostOpen s = true ∧ s.raised = [] ∧ s.dev.mode.inBuild = true :=
  ⟨W.inMode .building, by decide⟩
theorem witness_StateCommandsAreTaken_7 : ∃ s : State, hostOpen s = true ∧ s.raised = [] ∧ s.dev.mode ≠ .safe ∧ s.dev.mode ≠ .thermalOff :=
  ⟨W.inMode .building, by decide⟩
theorem witness_SessionsOpenAndClose_1 : ∃ s : State, ∃ p : Nat, ∃ dg : Datagram, wellSent 1 dg s = true ∧ 100 ≤ Arith.leAt dg.bytes 16 2 ∧ Arith.leAt dg.bytes 16 2 ≤ 60000 ∧ Arith.leAt dg.bytes 18 2 = 0 ∧ Ddp.repeated dg (Ddp.head dg.bytes).seq s = none ∧ Ddp.freeSession s = some p :=
  ⟨W.linkedPort, 1, W.ask 1 0 9 (Arith.natLe 2 1000 ++ [0, 0]), by decide⟩
theorem witness_SessionsOpenAndClose_2 : ∃ s : State, ∃ p : Nat, ∃ dg : Datagram, inTurn p 3 dg s = true :=
  ⟨W.linked, 1, W.ask 3 1 5 [], by decide⟩
theorem witness_SessionsOpenAndClose_3 : ∃ s : State, ∃ p : Nat, ∃ dg : Datagram, inTurn p 2 dg s = true :=
  ⟨W.linked, 1, W.ask 2 1 5 [], by decide⟩
theorem witness_SessionsOpenAndClose_4 : ∃ s : State, ∃ p : Nat, s.pwr.rails = true ∧ Ddp.lostDue s p = true :=
  ⟨{ W.linked with tick := 200000 }, 1, by decide⟩
theorem witness_SessionsOpenAndClose_5 : ∃ s : State, ∃ dg : Datagram, Write.answers s = true ∧ Ddp.forDdp s dg = true ∧ Ddp.dropped dg = true :=
  ⟨W.linkedPort, W.sealed ⟨1, 2, 0x0A000002, 41760, 1, 0, [1, 2]⟩, by decide⟩
theorem witness_SessionsOpenAndClose_6 : ∃ s : State, ∃ dg : Datagram, Write.answers s = true ∧ Ddp.forDdp s dg = false ∧ Net.up s dg.eth = true :=
  ⟨W.linkedPort, W.sealed ⟨1, 2, 0x0A000002, 41761, 1, 0, [1, 2]⟩, by decide⟩
theorem witness_RequestsReadAndWriteEntries_1 : ∃ s : State, ∃ p : Nat, ∃ dg : Datagram, inTurn p 0x10 dg s = true ∧ (dg.bytes.drop 16) = Arith.natLe 2 D.iDEV_STATE ++ [BitVec.ofNat 8 D.DEV_STATE_TICK, 0] ∧ s.pwr.recovery = false ∧ s.tick < 2 ^ 64 :=
  ⟨{ W.linked with tick := 77 }, 1, W.ask 0x10 1 5 (Arith.natLe 2 D.iDEV_STATE ++ [BitVec.ofNat 8 D.DEV_STATE_TICK, 0]), by decide⟩
theorem witness_RequestsReadAndWriteEntries_2 : ∃ s : State, ∃ p : Nat, ∃ dg : Datagram, ∃ v : List Byte, inTurn p 0x11 dg s = true ∧ Ddp.parseItems 64 (dg.bytes.drop 16) = some [⟨D.iCAT_CTRL, D.CAT_CTRL_FIRST_LAYER, 4, v⟩] ∧ v.length = 4 ∧ Arith.leNat v < 2 ^ 32 - 1 ∧ upNow s = true ∧ noTxn s = true ∧ (State.pathOf s p).txn = none ∧ (State.pathOf s p).expired = false ∧ s.dev.mode.inBuild = false :=
  ⟨W.linked, 1, W.ask 0x11 1 5 (Arith.natLe 2 D.iCAT_CTRL ++ [BitVec.ofNat 8 D.CAT_CTRL_FIRST_LAYER, 4, 4, 0, 0, 0, 3, 0, 0, 0]), [3, 0, 0, 0], by decide⟩
theorem witness_RequestsReadAndWriteEntries_3 : ∃ s : State, ∃ p : Nat, ∃ dg : Datagram, inTurn p 0x10 dg s = true :=
  ⟨W.linked, 1, W.ask 0x10 1 5 (Arith.natLe 2 D.iDEV_STATE ++ [BitVec.ofNat 8 D.DEV_STATE_TICK, 0]), by decide⟩
theorem witness_RequestsReadAndWriteEntries_4 : ∃ s : State, ∃ p : Nat, ∃ dg : Datagram, inTurn p 0x11 dg s = true :=
  ⟨W.linked, 1, W.ask 0x11 1 5 (Arith.natLe 2 D.iCAT_CTRL ++ [BitVec.ofNat 8 D.CAT_CTRL_FIRST_LAYER, 4, 4, 0, 0, 0, 3, 0, 0, 0]), by decide⟩
theorem witness_BlobsAreReadAndWritten_1 : ∃ s : State, ∃ p : Nat, ∃ dg : Datagram, inTurn p 0x20 dg s = true ∧ Arith.leAt (dg.bytes.drop 16) 0 2 = D.iCAT_CTRL ∧ Arith.leAt (dg.bytes.drop 16) 2 1 = D.CAT_CTRL_IMAGE ∧ s.pwr.recovery = false :=
  ⟨{ W.linked with cat := { W.up.cat with image := [⟨0x7F, 0, 0, 0, 0, 0⟩] } }, 1, W.ask 0x20 1 5 (Arith.natLe 2 D.iCAT_CTRL ++ [BitVec.ofNat 8 D.CAT_CTRL_IMAGE, 0, 0, 0, 0, 0, 16, 0, 0, 0]), by decide⟩
theorem witness_BlobsAreReadAndWritten_2 : ∃ s : State, ∃ p : Nat, ∃ dg : Datagram, inTurn p 0x21 dg s = true ∧ Arith.leAt (dg.bytes.drop 16) 0 2 = D.iCAT_CTRL ∧ Arith.leAt (dg.bytes.drop 16) 2 1 = D.CAT_CTRL_IMAGE ∧ Arith.leAt (dg.bytes.drop 16) 4 4 = 0 ∧ (State.pathOf s p).upload = none ∧ upNow s = true :=
  ⟨W.linked, 1, W.ask 0x21 1 5 (Arith.natLe 2 D.iCAT_CTRL ++ [BitVec.ofNat 8 D.CAT_CTRL_IMAGE, 0, 0, 0, 0, 0, 1, 2]), by decide⟩
theorem witness_BlobsAreReadAndWritten_3 : ∃ s : State, ∃ p : Nat, ∃ dg : Datagram, ∃ img : List Byte, inTurn p 0x22 dg s = true ∧ Arith.leAt (dg.bytes.drop 16) 0 2 = D.iCAT_CTRL ∧ Arith.leAt (dg.bytes.drop 16) 2 1 = D.CAT_CTRL_IMAGE ∧ (State.pathOf s p).upload = some ⟨D.iCAT_CTRL, D.CAT_CTRL_IMAGE, img⟩ ∧ img.length = Arith.leAt (dg.bytes.drop 16) 4 4 ∧ Arith.crc32 img = Arith.leAt (dg.bytes.drop 16) 8 4 ∧ CatImg.ok img = true ∧ upNow s = true ∧ noTxn s = true ∧ (State.pathOf s p).txn = none ∧ (State.pathOf s p).expired = false ∧ s.dev.mode = .service :=
  ⟨W.link fun x => { x with upload := some ⟨D.iCAT_CTRL, D.CAT_CTRL_IMAGE, (CatImg.bytes ⟨0x7F, 0, 0, 0, 0, 0⟩)⟩ }, 1, W.ask 0x22 1 5 (Arith.natLe 2 D.iCAT_CTRL ++ [BitVec.ofNat 8 D.CAT_CTRL_IMAGE, 0] ++ Arith.natLe 4 16 ++ Arith.natLe 4 (Arith.crc32 (CatImg.bytes ⟨0x7F, 0, 0, 0, 0, 0⟩))), (CatImg.bytes ⟨0x7F, 0, 0, 0, 0, 0⟩), by decide +kernel⟩
theorem witness_BlobsAreReadAndWritten_4 : ∃ s : State, ∃ p : Nat, ∃ dg : Datagram, inTurn p 0x20 dg s = true :=
  ⟨W.linked, 1, W.ask 0x20 1 5 (Arith.natLe 2 D.iCAT_CTRL ++ [BitVec.ofNat 8 D.CAT_CTRL_IMAGE, 0, 0, 0, 0, 0, 16, 0, 0, 0]), by decide⟩
theorem witness_BlobsAreReadAndWritten_5 : ∃ s : State, ∃ p : Nat, ∃ dg : Datagram, inTurn p 0x21 dg s = true :=
  ⟨W.linked, 1, W.ask 0x21 1 5 (Arith.natLe 2 D.iCAT_CTRL ++ [BitVec.ofNat 8 D.CAT_CTRL_IMAGE, 0, 0, 0, 0, 0, 1, 2]), by decide⟩
theorem witness_BlobsAreReadAndWritten_6 : ∃ s : State, ∃ p : Nat, ∃ dg : Datagram, inTurn p 0x22 dg s = true :=
  ⟨W.linked, 1, W.ask 0x22 1 5 (Arith.natLe 2 D.iCAT_CTRL ++ [BitVec.ofNat 8 D.CAT_CTRL_IMAGE, 0, 0, 0, 0, 0, 0, 0, 0, 0]), by decide⟩
theorem witness_MailboxAndBarRegisters_1 : ∃ s : State, Write.answers s = true ∧ s.txn.busy = false :=
  ⟨W.up, by decide⟩
theorem witness_MailboxAndBarRegisters_2 : ∃ s : State, Write.answers s = true ∧ s.txn.busy = true :=
  ⟨{ W.up with txn := { W.up.txn with busy := true } }, by decide⟩
theorem witness_MailboxAndBarRegisters_3 : ∃ s : State, Write.answers s = true :=
  ⟨W.up, by decide⟩
theorem witness_MailboxAndBarRegisters_4 : ∃ s : State, Write.answers s = true :=
  ⟨W.up, by decide⟩
theorem witness_MailboxAndBarRegisters_5 : ∃ s : State, Write.answers s = true :=
  ⟨W.up, by decide⟩
theorem witness_MailboxAndBarRegisters_6 : ∃ s : State, Write.answers s = true :=
  ⟨W.up, by decide⟩
theorem witness_MailboxAndBarRegisters_7 : ∃ s : State, ∃ p : Nat, ∃ idx : Nat, pathOpen p idx s = true :=
  ⟨W.up, 0, D.iCAT_CTRL, by decide⟩
theorem witness_MailboxAndBarRegisters_8 : ∃ s : State, ∃ v : Int, hostOpen s = true ∧ 0 ≤ v ∧ v < 2 ^ 32 - 1 ∧ s.dev.mode.inBuild = false :=
  ⟨W.up, 9, by decide⟩
theorem witness_SavedSetIsKept_1 : ∃ s : State, hostOpen s = true ∧ (s.dev.mode = .service ∨ s.dev.mode = .ready) :=
  ⟨W.up, by decide⟩
theorem witness_SavedSetIsKept_2 : ∃ s : State, ∃ c : SavedSet, s.pwr.rails = true ∧ s.dev.saving = some c :=
  ⟨{ W.up with dev := { W.up.dev with saving := some ⟨true, [], [], 5⟩ } }, ⟨true, [], [], 5⟩, by decide⟩
theorem witness_SavedSetIsKept_3 : ∃ s : State, s.pwr.rails = true ∧ s.dev.saving.isSome = true :=
  ⟨{ W.up with dev := { W.up.dev with saving := some ⟨true, [], [], 5⟩ } }, by decide⟩
theorem witness_SavedSetIsKept_4 : ∃ s : State, hostOpen s = true ∧ (s.dev.mode = .service ∨ s.dev.mode = .ready) :=
  ⟨W.up, by decide⟩
theorem witness_TransactionsRunTheirCourse_1 : ∃ s : State, ∃ p : Nat, pathOpen p D.iTXN_CTRL s = true ∧ (State.pathOf s p).txn = none :=
  ⟨W.up, 0, by decide⟩
theorem witness_TransactionsRunTheirCourse_2 : ∃ s : State, ∃ p : Nat, ∃ x : Txn, ∃ v : Int, pathOpen p D.iTXN_CTRL s = true ∧ (State.pathOf s p).txn = some x ∧ x.writes = [⟨D.iCAT_CTRL, D.CAT_CTRL_FIRST_LAYER, .num v⟩] ∧ s.dev.mode = .building ∧ s.txn.queue.length < 8 ∧ (s.txn.queue.all fun q => q.id != x.id) = true :=
  ⟨W.txnOpen .building [⟨D.iCAT_CTRL, D.CAT_CTRL_FIRST_LAYER, .num 3⟩], 0, ⟨7, 0, [⟨D.iCAT_CTRL, D.CAT_CTRL_FIRST_LAYER, .num 3⟩]⟩, 3, by decide⟩
theorem witness_TransactionsRunTheirCourse_3 : ∃ s : State, ∃ p : Nat, ∃ x : Txn, ∃ v : Int, pathOpen p D.iTXN_CTRL s = true ∧ (State.pathOf s p).txn = some x ∧ x.writes = [⟨D.iCAT_CTRL, D.CAT_CTRL_FIRST_LAYER, .num v⟩] ∧ 0 ≤ v ∧ v < 2 ^ 32 ∧ s.dev.mode = .ready :=
  ⟨W.txnOpen .ready [⟨D.iCAT_CTRL, D.CAT_CTRL_FIRST_LAYER, .num 3⟩], 0, ⟨7, 0, [⟨D.iCAT_CTRL, D.CAT_CTRL_FIRST_LAYER, .num 3⟩]⟩, 3, by decide⟩
theorem witness_TransactionsRunTheirCourse_4 : ∃ s : State, ∃ p : Nat, ∃ x : Txn, pathOpen p D.iTXN_CTRL s = true ∧ (State.pathOf s p).txn = some x :=
  ⟨W.txnOpen .ready [], 0, ⟨7, 0, []⟩, by decide⟩
theorem witness_TransactionsRunTheirCourse_5 : ∃ s : State, ∃ p : Nat, s.pwr.rails = true ∧ p < 5 ∧ Write.timeoutDue s p = true :=
  ⟨{ W.txnOpen .ready [] with tick := 4000000000 }, 0, by decide⟩
theorem witness_TransactionsRunTheirCourse_6 : ∃ s : State, ∃ p : Nat, s.pwr.rails = true ∧ p < 5 :=
  ⟨W.linked, 1, by decide⟩
theorem witness_MessagesAreCollected_1 : ∃ s : State, ∃ m : Msg, s.pwr.rails = true ∧ s.raised = [m] ∧ Flt.sev m = 0 ∧ 0 < (State.rLdg s D.iLDG_CTRL D.LDG_CTRL_MIN_SEV).toNat :=
  ⟨{ W.up with raised := [⟨0x1F0, 1, 3⟩] }, ⟨0x1F0, 1, 3⟩, by decide⟩
theorem witness_MessagesAreCollected_2 : ∃ s : State, ∃ m : Msg, s.pwr.rails = true ∧ s.raised = [m] ∧ Flt.sev m = 1 ∧ 1 < (State.rLdg s D.iLDG_CTRL D.LDG_CTRL_MIN_SEV).toNat ∧ (State.srcOf s m.src).window = none ∧ Flt.fencedAlready m.src m.kind m.addr s = false :=
  ⟨State.wLdg { W.up with raised := [⟨0x1A0, 2, 3⟩] } D.iLDG_CTRL D.LDG_CTRL_MIN_SEV 2, ⟨0x1A0, 2, 3⟩, by decide⟩
theorem witness_WindowsEndAndSourcesRecover_1 : ∃ s : State, ∃ w : Nat × Nat × Nat, s.pwr.rails = true ∧ (State.srcOf s 0xF0).window = some w ∧ w.2.1 ≤ s.tick ∧ s.grd.mode ≠ .fenced :=
  ⟨W.source 0xF0 W.opened, (0, 0, 0), by decide⟩
theorem witness_WindowsEndAndSourcesRecover_2 : ∃ s : State, ∃ src : Nat, ∃ w : Nat × Nat × Nat, s.pwr.rails = true ∧ 0x180 ≤ src ∧ src ≠ 0x1B0 ∧ (State.srcOf s src).window = some w ∧ w.2.1 ≤ s.tick :=
  ⟨W.source 0x190 W.opened, 0x190, (0, 0, 0), by decide⟩
theorem witness_WindowsEndAndSourcesRecover_3 : ∃ s : State, ∃ src : Nat, ∃ w : Nat × Nat × Nat, s.pwr.rails = true ∧ (State.srcOf s src).window = some w ∧ w.2.1 ≤ s.tick :=
  ⟨W.source 0x105 W.opened, 0x105, (0, 0, 0), by decide⟩
theorem witness_WindowsEndAndSourcesRecover_4 : ∃ s : State, ∃ src : Nat, ∃ w : Nat × Nat × Nat, s.pwr.rails = true ∧ (State.srcOf s src).window = some w ∧ w.2.1 ≤ s.tick ∧ Flt.fencedAlready src (Arith.bits w.2.2 47 42) (w.2.2 % 2 ^ 32) s = true :=
  ⟨{ W.source 0xF0 W.opened with grd := { W.up.grd with mode := .fenced } }, 0xF0, (0, 0, 0), by decide⟩
theorem witness_WindowsEndAndSourcesRecover_5 : ∃ s : State, ∃ src : Nat, s.pwr.rails = true ∧ Flt.recoverDue s src = true :=
  ⟨{ W.source 0xF0 { W.opened with window := none } with dev := (W.inMode .ready).dev }, 0xF0, by decide⟩
theorem witness_WindowsEndAndSourcesRecover_6 : ∃ s : State, ∃ k : Nat, s.pwr.rails = true ∧ s.flt.minUntil = some k ∧ k ≤ s.tick :=
  ⟨{ W.up with flt := { W.up.flt with minUntil := some 0 } }, 0, by decide⟩
theorem witness_SourcesAreAcknowledgedAndCleared_1 : ∃ s : State, ∃ p : Nat, pathOpen p D.iFLT_SRC s = true ∧ s.raised = [] ∧ (State.srcOf s (Read.stored s p D.iFLT_SRC D.FLT_SRC_SELECT).toNat).window.isSome = true :=
  ⟨W.source 0 W.opened, 0, by decide⟩
theorem witness_SourcesAreAcknowledgedAndCleared_2 : ∃ s : State, ∃ p : Nat, pathOpen p D.iFLT_SRC s = true ∧ s.raised = [] ∧ (State.srcOf s (Read.stored s p D.iFLT_SRC D.FLT_SRC_SELECT).toNat).active = true ∧ Read.live s (Read.stored s p D.iFLT_SRC D.FLT_SRC_SELECT).toNat = false :=
  ⟨W.source 0 W.opened, 0, by decide⟩
theorem witness_SourcesAreAcknowledgedAndCleared_3 : ∃ s : State, ∃ src : Nat, Write.answers s = true ∧ s.raised = [] ∧ src < 1024 ∧ Instr.assigned src = true ∧ (State.srcOf s src).window.isSome = true :=
  ⟨W.source 0xF0 W.opened, 0xF0, by decide⟩
theorem witness_SourcesAreAcknowledgedAndCleared_4 : ∃ s : State, ∃ src : Nat, Write.answers s = true ∧ s.raised = [] ∧ src < 1024 ∧ Instr.assigned src = true ∧ (State.srcOf s src).active = true ∧ Read.live s src = false :=
  ⟨W.source 0xF0 W.opened, 0xF0, by decide⟩
theorem witness_SourcesAreAcknowledgedAndCleared_5 : ∃ s : State, hostOpen s = true ∧ s.raised = [] :=
  ⟨W.up, by decide⟩
theorem witness_SourcesAreAcknowledgedAndCleared_6 : ∃ s : State, hostOpen s = true ∧ s.raised = [] :=
  ⟨W.source 0xF0 W.opened, by decide⟩
theorem witness_SourcesAreAcknowledgedAndCleared_7 : ∃ s : State, hostOpen s = true ∧ s.raised = [] :=
  ⟨W.source 0xF0 W.opened, by decide⟩
theorem witness_LedgerFreezesMarksAndCheckpoints_1 : ∃ s : State, hostOpen s = true ∧ s.ldg.frozen = none :=
  ⟨W.up, by decide⟩
theorem witness_LedgerFreezesMarksAndCheckpoints_2 : ∃ s : State, hostOpen s = true ∧ s.ldg.frozen.isSome = true ∧ s.ldg.staging = [] :=
  ⟨{ W.up with ldg := { W.up.ldg with frozen := some 0 } }, by decide⟩
theorem witness_LedgerFreezesMarksAndCheckpoints_3 : ∃ s : State, s.pwr.rails = true ∧ Ldg.freezeOver s = true ∧ s.ldg.staging = [] :=
  ⟨{ W.up with ldg := { W.up.ldg with frozen := some 0 }, tick := 4000000000 }, by decide⟩
theorem witness_LedgerFreezesMarksAndCheckpoints_4 : ∃ s : State, hostOpen s = true ∧ s.ldg.frozen = none ∧ s.ldg.mergeInto = none ∧ s.ldg.bad = [] :=
  ⟨W.up, by decide⟩
theorem witness_LedgerFreezesMarksAndCheckpoints_5 : ∃ s : State, s.pwr.rails = true ∧ Ldg.checkDue s = true :=
  ⟨{ W.up with ldg := { W.up.ldg with opTime := 60000 } }, by decide⟩
theorem witness_SensorsAreReadAndExcluded_1 : ∃ s : State, ∃ i : Nat, s.pwr.rails = true ∧ i < 40 :=
  ⟨W.up, 3, by decide⟩
theorem witness_SensorsAreReadAndExcluded_2 : ∃ s : State, s.pwr.rails = true ∧ s.tmp.hist.length < 10 :=
  ⟨W.up, by decide⟩
theorem witness_SensorsAreReadAndExcluded_3 : ∃ s : State, ∃ old : Int, s.pwr.rails = true ∧ s.tmp.hist[9]? = some old :=
  ⟨{ W.up with tmp := { W.up.tmp with hist := List.replicate 10 (-90) } }, -90, by decide⟩
theorem witness_SensorsAreReadAndExcluded_4 : ∃ s : State, ∃ v : Nat, hostOpen s = true ∧ s.dev.mode = .service ∧ Tmp.excludeOk v = true :=
  ⟨W.up, 3, by decide⟩
theorem witness_SensorsAreReadAndExcluded_5 : ∃ s : State, hostOpen s = true ∧ s.dev.mode ≠ .service :=
  ⟨W.inMode .ready, by decide⟩
theorem witness_SensorsAreReadAndExcluded_6 : ∃ s : State, ∃ q : Nat, hostOpen s = true ∧ Read.shutdownSeq s = some q :=
  ⟨{ W.up with ldg := { W.up.ldg with slots := [(0, { LdgRec.blank with seq := 4, trigger := 5, flags := 2 })] } }, 4, by decide⟩
theorem witness_CalibrationRunsTheirCourse_1 : ∃ s : State, hostOpen s = true ∧ s.dev.mode = .service ∧ s.tmp.run = none :=
  ⟨W.up, by decide⟩
theorem witness_CalibrationRunsTheirCourse_2 : ∃ s : State, ∃ i : Nat, s.pwr.rails = true ∧ i < 104 ∧ s.tmp.run.isSome = true :=
  ⟨{ W.up with tmp := { W.up.tmp with run := some .manual } }, 70, by decide⟩
theorem witness_CalibrationRunsTheirCourse_3 : ∃ s : State, s.pwr.rails = true ∧ s.tmp.run = some .manual ∧ s.tmp.again = none ∧ s.pwr.boot = none :=
  ⟨{ W.up with tmp := { W.up.tmp with run := some .manual } }, by decide⟩
theorem witness_ContextsTakeUnits_1 : ∃ s : State, ∃ n : Nat, ∃ u : List Byte, s.pwr.rails = true ∧ n < 96 ∧ padFits n u s = true ∧ noStripeOf n s = true :=
  ⟨W.up, 3, W.padUnit, by decide +kernel⟩
theorem witness_ContextsTakeUnits_2 : ∃ s : State, ∃ n : Nat, ∃ off : Nat, ∃ d : Nat, s.pwr.rails = true ∧ off / 2 ^ 21 = n ∧ n < 96 ∧ Feed.feedOf s n = 0 ∧ noStripeOf n s = true ∧ d = (off % 2 ^ 21 + 2 ^ 21 - State.ctxReg s n D.CTX_PROD_POS % 2 ^ 21) % 2 ^ 21 ∧ 32 ≤ d ∧ d % 32 ≠ 31 ∧ d < 2048 ∧ d < State.freeBytes s n :=
  ⟨W.up, 0, 40, 40, by decide⟩
theorem witness_ContextsTakeUnits_3 : ∃ s : State, ∃ n : Nat, ∃ off : Nat, ∃ data : List Byte, s.pwr.rails = true ∧ off / 2 ^ 21 = n ∧ n < 96 ∧ 1 ≤ data.length ∧ off % 2 ^ 21 + data.length ≤ 2 ^ 21 ∧ Feed.feedOf s n ≠ 0 :=
  ⟨State.wCtx W.up (D.iCTX + 3) D.CTX_CTRL 8, 3, 0x600000, [7, 8], by decide⟩
theorem witness_ContextsTakeUnits_4 : ∃ s : State, ∃ off : Nat, s.pwr.rails = true ∧ off % 2 ^ 21 = 2 ^ 21 - 1 :=
  ⟨W.up, 0x3FFFFF, by decide +kernel⟩
theorem witness_ContextsTakeUnits_5 : ∃ off : Nat, 96 ≤ off / 2 ^ 21 :=
  ⟨0xC000000, by decide⟩
theorem witness_ContextsTakeUnits_6 : ∃ s : State, ∃ n : Nat, ∃ word : Nat, Write.answers s = true ∧ word < 2 ^ 32 ∧ Arith.bits word 6 0 = n ∧ n < 96 :=
  ⟨W.up, 5, 0x30005, by decide⟩
theorem witness_ContextsTakeUnits_7 : ∃ word : Nat, word < 2 ^ 32 ∧ 96 ≤ Arith.bits word 6 0 :=
  ⟨0x3007F, by decide +kernel⟩
theorem witness_ContextsTakeUnits_8 : ∃ s : State, ∃ n : Nat, ∃ desc : List Byte, ∃ u : List Byte, s.pwr.rails = true ∧ n < 96 ∧ padFits n u s = true ∧ noStripeOf n s = true ∧ Feed.feedOf s n = 1 ∧ (State.ctxOf s n).dmaStopped = false ∧ State.ctxReg s n D.CTX_DMA_HEAD ≠ (State.ctxOf s n).dmaTail ∧ Feed.descOk desc = true ∧ Arith.leAt desc 8 4 = 32 ∧ Arith.leAt desc 12 4 = 0 ∧ (State.ctxOf s n).dmaDone = 0 ∧ State.ctxReg s n D.CTX_DMA_ENTRIES ≤ 4096 :=
  ⟨State.wCtx (W.context 3 { Ctx.init with dmaTail := 4 }) (D.iCTX + 3) D.CTX_CTRL 4, 3, Arith.natLe 8 0 ++ Arith.natLe 4 32 ++ Arith.natLe 4 0, W.padUnit, by decide +kernel⟩
theorem witness_ContextsAreEnabledDisabledFlushed_1 : ∃ s : State, ∃ n : Nat, upNow s = true ∧ n < 24 ∧ (State.ctxOf s n).mode = .disabled ∧ (State.ctxOf s n).fenced = false ∧ State.chOf s n ≠ .disabled ∧ State.chOf s n ≠ .fenced :=
  ⟨W.engine .ready Engine.init, 0, by decide⟩
theorem witness_ContextsAreEnabledDisabledFlushed_2 : ∃ s : State, ∃ n : Nat, upNow s = true ∧ n < 24 ∧ (State.ctxOf s n).mode = .disabling :=
  ⟨W.context 7 { Ctx.init with mode := .disabling }, 7, by decide⟩
theorem witness_ContextsAreEnabledDisabledFlushed_3 : ∃ s : State, ∃ n : Nat, upNow s = true ∧ n < 24 ∧ (State.ctxOf s n).mode = .enabled :=
  ⟨W.context 7 { Ctx.init with mode := .enabled }, 7, by decide⟩
theorem witness_ContextsAreEnabledDisabledFlushed_4 : ∃ s : State, ∃ n : Nat, hostOpen s = true ∧ n < 96 ∧ Feed.flushOk s n = true ∧ State.ctxReg s n D.CTX_WP < 2 ^ 64 :=
  ⟨W.context 7 { Ctx.init with tail := [1, 2] }, 7, by decide⟩
theorem witness_ContextsAreEnabledDisabledFlushed_5 : ∃ s : State, ∃ n : Nat, hostOpen s = true ∧ n < 96 ∧ Feed.flushOk s n = false :=
  ⟨W.context 7 { Ctx.init with mode := .enabled }, 7, by decide⟩
theorem witness_StripesAreAcknowledgedAndNoticed_1 : ∃ s : State, ∃ c : Nat, ∃ k : Nat, ∃ r : StripeRun, s.pwr.rails = true ∧ c < 24 ∧ (State.engOf s c).stripes = [r] ∧ r.kLast = some k ∧ Feed.ackAt s c k ≤ s.tick ∧ State.ptrFault (State.ackStripe s r.ctx r.start) r.ctx = none :=
  ⟨{ W.engine .building { Engine.init with stripes := [{ W.stripe [] with kLast := some 4 }] } with tick := 1000 }, 0, 4, { W.stripe [] with kLast := some 4 }, by decide⟩
theorem witness_StripesAreAcknowledgedAndNoticed_2 : ∃ s : State, ∃ c : Nat, ((State.engOf s c).stripes.all fun r => (r.kLast.map fun k => decide (s.tick < Feed.ackAt s c k)).getD true) = true :=
  ⟨W.engine .building { Engine.init with stripes := [W.stripe []] }, 0, by decide⟩
theorem witness_StripesAreAcknowledgedAndNoticed_3 : ∃ s : State, ∃ c : Nat, ∃ n : Nat, s.pwr.rails = true ∧ c < 24 ∧ n < 96 ∧ State.chOf s c = .started :=
  ⟨W.engine .building Engine.init, 0, 0, by decide⟩
theorem witness_StripesAreAcknowledgedAndNoticed_4 : ∃ s : State, ∃ c : Nat, ∃ n : Nat, s.pwr.rails = true ∧ c < 24 ∧ n < 96 ∧ State.chOf s c = .started ∧ Eng.faultHeld (State.engOf s c) = false :=
  ⟨W.engine .building { Engine.init with motion := .move }, 0, 0, by decide⟩
theorem witness_StripesAreAcknowledgedAndNoticed_5 : ∃ s : State, ∃ n : Nat, s.pwr.rails = true ∧ n < 96 ∧ (State.ctxOf s n).noticeOwed = true ∧ State.noticeRipe s n = true ∧ State.ringFull s = false :=
  ⟨W.context 7 { Ctx.init with noticeOwed := true }, 7, by decide⟩
theorem witness_StripesAreAcknowledgedAndNoticed_6 : ∃ s : State, ∃ n : Nat, s.pwr.rails = true ∧ n < 96 ∧ (State.ctxOf s n).noticeOwed = true ∧ State.noticeRipe s n = true ∧ State.ringFull s = false ∧ s.ctx.waiting = [] ∧ Arith.bit (State.bar0 s 0x8C) 0 = true :=
  ⟨State.setBar0 (State.setBar0 (W.context 7 { Ctx.init with noticeOwed := true }) 0x88 16) 0x8C 1, 7, by decide⟩
theorem witness_ChannelsAreEnabledAndDisabled_1 : ∃ s : State, ∃ c : Nat, upNow s = true ∧ c < 24 ∧ State.chOf s c = .disabled :=
  ⟨W.up, 5, by decide⟩
theorem witness_ChannelsAreEnabledAndDisabled_2 : ∃ s : State, ∃ c : Nat, upNow s = true ∧ c < 24 ∧ State.chOf s c ≠ .disabled ∧ State.chOf s c ≠ .fenced ∧ Eng.leaving s c = false ∧ (State.engOf s c).stripes = [] :=
  ⟨{ W.up with cat := { W.up.cat with chMode := [(5, .idle)] } }, 5, by decide⟩
theorem witness_ChannelsAreEnabledAndDisabled_3 : ∃ s : State, ∃ c : Nat, upNow s = true ∧ c < 24 ∧ State.chOf s c ≠ .disabled ∧ State.chOf s c ≠ .fenced ∧ Eng.leaving s c = false ∧ (State.engOf s c).stripes ≠ [] ∧ s.lnd.active = none :=
  ⟨W.engine .building { Engine.init with stripes := [W.stripe []] }, 0, by decide⟩
theorem witness_ChannelsAreEnabledAndDisabled_4 : ∃ s : State, ∃ c : Nat, ∃ n : Nat, ∃ cs : List Nat, ∃ pre : List QItem, ∃ body : List QItem, ∃ r : StripeRun, s.pwr.rails = true ∧ c < 24 ∧ Lend.due s c = true ∧ Lend.frozen s c = false ∧ Lend.otherLayer s c (State.layerNo s) = none ∧ (State.ctxOf s c).replays = [] ∧ Lend.oldestReplay s (Lend.contexts s c) = none ∧ cs = (Lend.contexts s c).filter (fun n => (State.ctxOf s n).mode == .enabled && (Lend.offer s n (State.layerNo s)).isSome) ∧ Lend.choose s c (State.layerNo s % (Lend.contexts s c).length) (Lend.contexts s c) (if State.rLnd s D.iLND D.LND_MODE = 1 then Lend.balance s c cs else cs) = some n ∧ State.mayTake s c = true ∧ Lend.offer s n (State.layerNo s) = some (pre, body) ∧ Lend.runOf (State.engOf s c) n (State.layerNo s) s.tick body 0 none 0 0 [] false = some r ∧ r.stop < 2 ^ 64 ∧ State.ptrFault (Lend.take (State.setPtr (Lend.consumePre s c n pre) n D.CTX_RP r.stop) c n r) n = none :=
  ⟨W.offering, 0, 0, [0], [], [⟨0, 1, .stripeBegin 0 0 1 0 0 0 0⟩, ⟨32, 1, .stripeEnd 1 0 0⟩], ⟨0, 0, 0, 64, 1, 2, [.stripeBegin 0 0 1 0 0 0 0, .stripeEnd 1 0 0], 0, ⟨0, 0, 0⟩, 9, 0, none, 0, false, 0, none, none, [], 0, false, 0⟩, by decide⟩
theorem witness_ChannelsAreEnabledAndDisabled_5 : ∃ s : State, ∃ c : Nat, s.pwr.rails = true ∧ c < 24 ∧ Lend.due s c = true ∧ Lend.frozen s c = true ∧ (State.engOf s c).frozeAt ≠ some s.tick :=
  ⟨State.wCtx { W.offering with lnd := { W.up.lnd with active := some ⟨3, 5, true⟩ } } (D.iCTX + 40) D.CTX_MEMBERS 0xFFFF0300, 0, by decide⟩
theorem witness_ChannelsAreEnabledAndDisabled_6 : ∃ s : State, ∃ c : Nat, s.pwr.rails = true ∧ c < 24 ∧ Lend.due s c = true ∧ Lend.frozen s c = true ∧ (State.engOf s c).frozeAt = some s.tick :=
  ⟨State.modEng (State.wCtx { W.offering with lnd := { W.up.lnd with active := some ⟨3, 5, true⟩ } } (D.iCTX + 40) D.CTX_MEMBERS 0xFFFF0300) 0 fun e => { e with frozeAt := some W.offering.tick }, 0, by decide⟩
theorem witness_ChannelsAreEnabledAndDisabled_7 : ∃ s : State, ∃ c : Nat, Lend.due s c = false :=
  ⟨W.up, 5, by decide⟩
theorem witness_SegmentsArePlanned_1 : ∃ s : State, ∃ c : Nat, ∃ i : Nat, ∃ p : Plan, ∃ r : StripeRun, ∃ x : Int, ∃ y : Int, ∃ z : Int, ∃ pw : Nat, ∃ v : Nat, ∃ poly : Bool, s.pwr.rails = true ∧ c < 24 ∧ planning s c = some (p, r) ∧ p.waitLeft = 0 ∧ (State.engOf s c).plumeHeld = false ∧ Eng.nextTick r p.item = some i ∧ r.items[i]? = some (.mark x y z pw poly v) ∧ p.atRunUp = false ∧ (Eng.checkedPts (Eng.chain s c r i p.prLeft)).all (fieldOk s c) = true :=
  ⟨W.engine .building (W.planning [.stripeBegin 0 0 1 0 0 0 0, .mark 25600 0 0 5 false 0] 1), 0, 1, ⟨0, 1, ⟨0, 0, 0⟩, 0, false, [], none, 0⟩, W.stripe [.stripeBegin 0 0 1 0 0 0 0, .mark 25600 0 0 5 false 0], 25600, 0, 0, 5, 0, false, by decide +kernel⟩
theorem witness_SegmentsArePlanned_2 : ∃ s : State, ∃ c : Nat, ∃ i : Nat, ∃ p : Plan, ∃ r : StripeRun, ∃ x : Int, ∃ y : Int, ∃ z : Int, ∃ pw : Nat, ∃ v : Nat, ∃ pe : Nat, ∃ ve : Nat, ∃ poly : Bool, s.pwr.rails = true ∧ c < 24 ∧ planning s c = some (p, r) ∧ p.waitLeft = 0 ∧ (State.engOf s c).plumeHeld = false ∧ Eng.nextTick r p.item = some i ∧ r.items[i]? = some (.markExt x y z pw poly v pe ve) ∧ p.atRunUp = false ∧ (Eng.checkedPts (Eng.chain s c r i p.prLeft)).all (fieldOk s c) = true :=
  ⟨W.engine .building (W.planning [.stripeBegin 0 0 1 0 0 0 0, .markExt 25600 0 0 5 false 0 5 0] 1), 0, 1, ⟨0, 1, ⟨0, 0, 0⟩, 0, false, [], none, 0⟩, W.stripe [.stripeBegin 0 0 1 0 0 0 0, .markExt 25600 0 0 5 false 0 5 0], 25600, 0, 0, 5, 0, 5, 0, false, by decide +kernel⟩
theorem witness_SegmentsArePlanned_3 : ∃ s : State, ∃ c : Nat, ∃ i : Nat, ∃ p : Plan, ∃ r : StripeRun, ∃ x : Int, ∃ y : Int, ∃ z : Int, ∃ pw : Nat, ∃ v : Nat, ∃ poly : Bool, s.pwr.rails = true ∧ c < 24 ∧ planning s c = some (p, r) ∧ p.waitLeft = 0 ∧ (State.engOf s c).plumeHeld = false ∧ Eng.nextTick r p.item = some i ∧ r.items[i]? = some (.mark x y z pw poly v) ∧ (Eng.checkedPts (Eng.chain s c r i p.prLeft)).all (fieldOk s c) = false :=
  ⟨W.engine .building (W.planning [.stripeBegin 0 0 1 0 0 0 0, .mark 2000000000 0 0 5 false 0] 1), 0, 1, ⟨0, 1, ⟨0, 0, 0⟩, 0, false, [], none, 0⟩, W.stripe [.stripeBegin 0 0 1 0 0 0 0, .mark 2000000000 0 0 5 false 0], 2000000000, 0, 0, 5, 0, false, by decide +kernel⟩
theorem witness_SegmentsArePlanned_4 : ∃ s : State, ∃ c : Nat, ∃ i : Nat, ∃ p : Plan, ∃ r : StripeRun, ∃ x : Int, ∃ y : Int, ∃ z : Int, ∃ pw : Nat, ∃ v : Nat, ∃ pe : Nat, ∃ ve : Nat, ∃ poly : Bool, s.pwr.rails = true ∧ c < 24 ∧ planning s c = some (p, r) ∧ p.waitLeft = 0 ∧ (State.engOf s c).plumeHeld = false ∧ Eng.nextTick r p.item = some i ∧ r.items[i]? = some (.markExt x y z pw poly v pe ve) ∧ (Eng.checkedPts (Eng.chain s c r i p.prLeft)).all (fieldOk s c) = false :=
  ⟨W.engine .building (W.planning [.stripeBegin 0 0 1 0 0 0 0, .markExt 2000000000 0 0 5 false 0 5 0] 1), 0, 1, ⟨0, 1, ⟨0, 0, 0⟩, 0, false, [], none, 0⟩, W.stripe [.stripeBegin 0 0 1 0 0 0 0, .markExt 2000000000 0 0 5 false 0 5 0], 2000000000, 0, 0, 5, 0, 5, 0, false, by decide +kernel⟩
theorem witness_SegmentsArePlanned_5 : ∃ s : State, ∃ c : Nat, ∃ i : Nat, ∃ p : Plan, ∃ r : StripeRun, ∃ x : Int, ∃ y : Int, ∃ z : Int, ∃ v : Nat, s.pwr.rails = true ∧ c < 24 ∧ planning s c = some (p, r) ∧ p.waitLeft = 0 ∧ (State.engOf s c).plumeHeld = false ∧ Eng.startDue r p = false ∧ Eng.nextTick r p.item = some i ∧ r.items[i]? = some (.jump x y z v) ∧ Eng.nextTick r (i + 1) = none ∧ fieldOk s c (Eng.endPos (State.engOf s c)) = true ∧ fieldOk s c (Geo.ptOf x y z) = true :=
  ⟨W.engine .building (W.planning [.stripeBegin 0 0 1 0 0 0 0, .jump 25600 0 0 0] 1), 0, 1, ⟨0, 1, ⟨0, 0, 0⟩, 0, false, [], none, 0⟩, W.stripe [.stripeBegin 0 0 1 0 0 0 0, .jump 25600 0 0 0], 25600, 0, 0, 0, by decide +kernel⟩
theorem witness_SegmentsArePlanned_6 : ∃ s : State, ∃ c : Nat, ∃ i : Nat, ∃ p : Plan, ∃ r : StripeRun, ∃ x : Int, ∃ y : Int, ∃ z : Int, ∃ v : Nat, ∃ j : Nat, ∃ m : MarkSeg, s.pwr.rails = true ∧ c < 24 ∧ planning s c = some (p, r) ∧ p.waitLeft = 0 ∧ (State.engOf s c).plumeHeld = false ∧ Eng.startDue r p = false ∧ Eng.nextTick r p.item = some i ∧ r.items[i]? = some (.jump x y z v) ∧ Eng.nextTick r (i + 1) = some j ∧ Eng.markAt r j = true ∧ Eng.layMark s c r j none = some m ∧ fieldOk s c (Eng.endPos (State.engOf s c)) = true ∧ fieldOk s c (Eng.runUpStart m) = true :=
  ⟨W.engine .building (W.planning [.stripeBegin 0 0 1 0 0 0 0, .jump 25600 0 0 0, .mark 51200 0 0 5 false 0] 1), 0, 1, ⟨0, 1, ⟨0, 0, 0⟩, 0, false, [], none, 0⟩, W.stripe [.stripeBegin 0 0 1 0 0 0 0, .jump 25600 0 0 0, .mark 51200 0 0 5 false 0], 25600, 0, 0, 0, 2, (Eng.layMark (W.engine .building (W.planning [.stripeBegin 0 0 1 0 0 0 0, .jump 25600 0 0 0, .mark 51200 0 0 5 false 0] 1)) 0 (W.stripe [.stripeBegin 0 0 1 0 0 0 0, .jump 25600 0 0 0, .mark 51200 0 0 5 false 0]) 2 none).getD ⟨0, ⟨0, 0, 0⟩, ⟨0, 0, 0⟩, ⟨0, 0, 0⟩, State.parOf W.up 0, 0, 0, 0, 0, 0, 0, false, false⟩, by decide +kernel⟩
theorem witness_SegmentsArePlanned_7 : ∃ s : State, ∃ c : Nat, ∃ i : Nat, ∃ p : Plan, ∃ r : StripeRun, ∃ n : Nat, s.pwr.rails = true ∧ c < 24 ∧ planning s c = some (p, r) ∧ p.waitLeft = 0 ∧ (State.engOf s c).plumeHeld = false ∧ Eng.startDue r p = false ∧ Eng.nextTick r p.item = some i ∧ r.items[i]? = some (.waitTicks n) :=
  ⟨W.engine .building (W.planning [.stripeBegin 0 0 1 0 0 0 0, .waitTicks 7] 1), 0, 1, ⟨0, 1, ⟨0, 0, 0⟩, 0, false, [], none, 0⟩, W.stripe [.stripeBegin 0 0 1 0 0 0 0, .waitTicks 7], 7, by decide⟩
theorem witness_SegmentsArePlanned_8 : ∃ s : State, ∃ c : Nat, ∃ p : Plan, ∃ r : StripeRun, s.pwr.rails = true ∧ c < 24 ∧ planning s c = some (p, r) ∧ 0 < p.waitLeft :=
  ⟨W.engine .building { W.planning [.stripeBegin 0 0 1 0 0 0 0, .waitTicks 7] 2 with plan := some { (⟨0, 2, ⟨0, 0, 0⟩, 0, false, [], none, 0⟩ : Plan) with waitLeft := 5 } }, 0, { (⟨0, 2, ⟨0, 0, 0⟩, 0, false, [], none, 0⟩ : Plan) with waitLeft := 5 }, W.stripe [.stripeBegin 0 0 1 0 0 0 0, .waitTicks 7], by decide⟩
theorem witness_SegmentsArePlanned_9 : ∃ s : State, ∃ c : Nat, ∃ i : Nat, ∃ p : Plan, ∃ r : StripeRun, ∃ x : Int, ∃ y : Int, ∃ z : Int, ∃ v : Nat, s.pwr.rails = true ∧ c < 24 ∧ planning s c = some (p, r) ∧ p.waitLeft = 0 ∧ (State.engOf s c).plumeHeld = false ∧ Eng.startDue r p = true ∧ Eng.nextTick r p.item = some i ∧ r.items[i]? = some (.jump x y z v) :=
  ⟨W.engine .building (W.planning [.stripeBegin 0 0 1 0 0 0 0, .jump 25600 0 0 0] 0), 0, 1, ⟨0, 0, ⟨0, 0, 0⟩, 0, false, [], none, 0⟩, W.stripe [.stripeBegin 0 0 1 0 0 0 0, .jump 25600 0 0 0], 25600, 0, 0, 0, by decide⟩
theorem witness_SegmentsArePlanned_10 : ∃ s : State, ∃ c : Nat, ∃ i : Nat, ∃ p : Plan, ∃ r : StripeRun, ∃ n : Nat, s.pwr.rails = true ∧ c < 24 ∧ planning s c = some (p, r) ∧ p.waitLeft = 0 ∧ (State.engOf s c).plumeHeld = false ∧ Eng.startDue r p = true ∧ Eng.nextTick r p.item = some i ∧ r.items[i]? = some (.waitTicks n) :=
  ⟨W.engine .building (W.planning [.stripeBegin 0 0 1 0 0 0 0, .waitTicks 7] 0), 0, 1, ⟨0, 0, ⟨0, 0, 0⟩, 0, false, [], none, 0⟩, W.stripe [.stripeBegin 0 0 1 0 0 0 0, .waitTicks 7], 7, by decide⟩
theorem witness_ChainsAreCheckedAndStripesEnd_1 : ∃ s : State, ∃ c : Nat, ∃ i : Nat, ∃ p : Plan, ∃ r : StripeRun, s.pwr.rails = true ∧ c < 24 ∧ planning s c = some (p, r) ∧ p.waitLeft = 0 ∧ (State.engOf s c).plumeHeld = false ∧ Eng.nextTick r p.item = some i ∧ Eng.markAt r i = true ∧ p.atRunUp = true ∧ (Eng.checkedPts (Eng.chain s c r i p.prLeft)).all (fieldOk s c) = true ∧ (Plume.enabled s = false ∨ Plume.blockers s c ((Eng.chain s c r i p.prLeft).map fun m => (m.p0, m.p1)) = []) :=
  ⟨State.wLnd (W.engine .building { W.planning [.stripeBegin 0 0 1 0 0 0 0, .mark 25600 0 0 5 false 0] 1 with plan := some { (⟨0, 1, ⟨0, 0, 0⟩, 0, false, [], none, 0⟩ : Plan) with atRunUp := true } }) D.iPLM D.PLM_ENABLE 0, 0, 1, { (⟨0, 1, ⟨0, 0, 0⟩, 0, false, [], none, 0⟩ : Plan) with atRunUp := true }, W.stripe [.stripeBegin 0 0 1 0 0 0 0, .mark 25600 0 0 5 false 0], by decide +kernel⟩
theorem witness_ChainsAreCheckedAndStripesEnd_2 : ∃ s : State, ∃ c : Nat, ∃ i : Nat, ∃ p : Plan, ∃ r : StripeRun, ∃ b : Nat, ∃ bs : List Nat, s.pwr.rails = true ∧ c < 24 ∧ planning s c = some (p, r) ∧ p.waitLeft = 0 ∧ (State.engOf s c).plumeHeld = false ∧ Eng.nextTick r p.item = some i ∧ Eng.markAt r i = true ∧ p.atRunUp = true ∧ (Eng.checkedPts (Eng.chain s c r i p.prLeft)).all (fieldOk s c) = true ∧ Plume.enabled s = true ∧ r.cleared = [] ∧ Plume.blockers s c ((Eng.chain s c r i p.prLeft).map fun m => (m.p0, m.p1)) = b :: bs :=
  ⟨W.blocked [.stripeBegin 0 0 1 0 0 0 0, .mark 25600 0 0 5 false 0], 0, 1, { (⟨0, 1, ⟨0, 0, 0⟩, 0, false, [], none, 0⟩ : Plan) with atRunUp := true }, W.stripe [.stripeBegin 0 0 1 0 0 0 0, .mark 25600 0 0 5 false 0], 1, [], by decide +kernel⟩
theorem witness_ChainsAreCheckedAndStripesEnd_3 : ∃ s : State, ∃ c : Nat, ∃ p : Plan, ∃ r : StripeRun, s.pwr.rails = true ∧ c < 24 ∧ planning s c = some (p, r) ∧ p.waitLeft = 0 ∧ (State.engOf s c).plumeHeld = false ∧ Eng.startDue r p = false ∧ (State.engOf s c).timeline ≠ [] ∧ Eng.lastEnd (State.engOf s c) ≤ ((s.tick + 64 : Nat) : Rat) ∧ Eng.nextTick r p.item = none :=
  ⟨W.engine .building { W.planning [.stripeBegin 0 0 1 0 0 0 0, .waitTicks 7] 2 with timeline := [⟨.wait, 0, 7, ⟨0, 0, 0⟩, ⟨0, 0, 0⟩, 0, .still, 0, 0, 1, 0, State.parOf W.up 0⟩] }, 0, ⟨0, 2, ⟨0, 0, 0⟩, 0, false, [], none, 0⟩, W.stripe [.stripeBegin 0 0 1 0 0 0 0, .waitTicks 7], by decide +kernel⟩
theorem witness_ChainsAreCheckedAndStripesEnd_4 : ∃ s : State, ∃ c : Nat, s.pwr.rails = true ∧ c < 24 ∧ Tick.live s c = true ∧ Eng.faultHeld (State.engOf s c) = false ∧ (State.engOf s c).lateRuns = [] :=
  ⟨W.engine .building { Engine.init with motion := .move }, 0, by decide⟩
theorem witness_ChainsAreCheckedAndStripesEnd_5 : ∃ s : State, ∃ c : Nat, s.pwr.rails = true ∧ c < 24 ∧ Tick.live s c = true ∧ Eng.faultHeld (State.engOf s c) = true :=
  ⟨W.engine .building { Engine.init with motion := .stop, why := .fault, stopRun := some ⟨5, 4, 1, 1⟩ }, 0, by decide⟩
theorem witness_ChainsAreCheckedAndStripesEnd_6 : ∃ s : State, ∃ c : Nat, s.pwr.rails = true ∧ c < 24 ∧ (State.engOf s c).plumeHeld = true ∧ (State.engOf s c).plumeSaid = false ∧ (State.rLnd s D.iPLM D.PLM_HOLD_LIMIT).toNat ≤ (State.engOf s c).plumeTicks :=
  ⟨W.engine .building { Engine.init with plumeHeld := true, plumeTicks := 2 ^ 32 }, 0, by decide⟩
theorem witness_ChainsAreCheckedAndStripesEnd_7 : ∃ s : State, ∃ c : Nat, ((State.engOf s c).plumeHeld = false ∨ (State.engOf s c).plumeSaid = true) :=
  ⟨W.up, 0, by decide⟩
theorem witness_EnginesRestAndTakeFeedback_1 : ∃ s : State, ∃ c : Nat, s.pwr.rails = true ∧ c < 24 ∧ Eng.stopped s (State.engOf s c) = true :=
  ⟨W.engine .building { Engine.init with motion := .stop, stripes := [W.stripe []] }, 0, by decide⟩
theorem witness_EnginesRestAndTakeFeedback_2 : ∃ s : State, ∃ c : Nat, Eng.stopped s (State.engOf s c) = false :=
  ⟨W.up, 0, by decide⟩
theorem witness_EnginesRestAndTakeFeedback_3 : ∃ s : State, ∃ c : Nat, ∃ f : Feedback, s.pwr.rails = true ∧ c < 24 ∧ Att.driftDue s c = true ∧ State.legacy s c = false ∧ Tab.find (State.attOf s c).fb (s.tick - State.latencyOf s c) = some f ∧ Arith.bit f.status 5 = true ∧ -32768 ≤ f.temp ∧ f.temp < 32768 :=
  ⟨W.fedBack, 8, W.feedback, by decide⟩
theorem witness_EnginesRestAndTakeFeedback_4 : ∃ s : State, ∃ c : Nat, s.pwr.rails = true ∧ c < 24 ∧ Att.driftDue s c = true ∧ State.legacy s c = false ∧ Tab.find (State.attOf s c).fb (s.tick - State.latencyOf s c) = none :=
  ⟨W.looping [], 8, by decide⟩
theorem witness_EnginesRestAndTakeFeedback_5 : ∃ s : State, ∃ c : Nat, Att.driftDue s c = false :=
  ⟨W.up, 0, by decide⟩
theorem witness_EnginesRestAndTakeFeedback_6 : ∃ s : State, ∃ c : Nat, ∃ k : Nat, s.pwr.rails = true ∧ c < 24 ∧ Att.fbDue s c s.tick = some k ∧ State.legacy s c = false ∧ State.laneUp s c = true ∧ Tab.find (State.attOf s c).fb k = none ∧ (Eng.follows s c = false ∨ (State.engOf s c).feAbsent ≠ 15) :=
  ⟨W.laneUp { W.engine .building { Engine.init with past := [W.past 0] } with cat := W.up.cat } 0 1, 0, 0, by decide⟩
theorem witness_EnginesRestAndTakeFeedback_7 : ∃ s : State, ∃ c : Nat, ∃ k : Nat, ∃ f : SrcFrame, s.pwr.rails = true ∧ c < 24 ∧ Att.stDue s c s.tick = some k ∧ State.analog s c = false ∧ State.laneUp s (24 + c) = true ∧ Tab.find (State.attOf s c).st k = some f ∧ f.emission < 65536 ∧ f.status < 256 ∧ -32768 ≤ f.temp ∧ f.temp < 32768 :=
  ⟨W.laneUp { W.engine .building { Engine.init with past := [W.past 0] } with cat := W.up.cat, tick := 60000, att := { W.up.att with tab := [(0, { Attach.init with st := [(0, W.sourceFrame)] })] } } 24 3, 0, 0, W.sourceFrame, by decide⟩
theorem witness_EnginesRestAndTakeFeedback_8 : ∃ s : State, ∃ r : Replan, s.pwr.rails = true ∧ s.lnd.active = some r ∧ r.ch < 24 ∧ r.tick + 3 ≤ s.tick ∧ (State.byRank s).filter (fun c => (State.engOf s c).why == .freeze) = [] :=
  ⟨{ W.inMode .building with lnd := { W.up.lnd with active := some ⟨0, 5, true⟩ }, tick := 30 }, ⟨0, 5, true⟩, by decide⟩
theorem witness_EnginesRestAndTakeFeedback_9 : ∃ s : State, ∃ r : Replan, s.pwr.rails = true ∧ s.lnd.active = some r ∧ r.ch < 24 ∧ r.tick + 3 ≤ s.tick ∧ (State.byRank s).filter (fun c => (State.engOf s c).why == .freeze) = [] ∧ (State.engOf s r.ch).stripes = [] :=
  ⟨{ W.inMode .building with lnd := { W.up.lnd with active := some ⟨0, 5, true⟩, queued := [⟨4, 9, false⟩] }, tick := 30 }, ⟨0, 5, true⟩, by decide⟩
theorem witness_EnginesRestAndTakeFeedback_10 : ∃ s : State, s.lnd.active.all (fun r => decide (s.tick < r.tick + 3)) = true :=
  ⟨{ W.inMode .building with lnd := { W.up.lnd with active := some ⟨0, 5, true⟩ }, tick := 7 }, by decide⟩
theorem witness_EnginesRestAndTakeFeedback_11 : ∃ s : State, s.pwr.rails = true ∧ s.lnd.computing = true ∧ ((List.range 96).all fun n => decide ((State.ctxOf s n).tail.length < 32)) = true :=
  ⟨{ W.up with lnd := { W.up.lnd with computing := true } }, by decide⟩
theorem witness_EnginesRestAndTakeFeedback_12 : ∃ s : State, s.lnd.computing = false :=
  ⟨W.up, by decide⟩
theorem witness_LoopsTakeSamplesAndCommands_1 : ∃ s : State, ∃ c : Nat, ∃ x : Nat, ∃ p : Past, s.pwr.rails = true ∧ c < 24 ∧ Mpl.due s c s.tick = some p ∧ (State.loopOf s c).mode ≠ .off ∧ State.chOf s c ≠ .disabled ∧ State.chOf s c ≠ .fenced ∧ p.active = true ∧ Mpl.sample s c p = some (some x) ∧ x < 65536 :=
  ⟨W.looping [(0, W.feedback)], 8, 700, W.past 0, by decide⟩
theorem witness_LoopsTakeSamplesAndCommands_2 : ∃ s : State, ∃ c : Nat, ∃ p : Past, s.pwr.rails = true ∧ c < 24 ∧ Mpl.due s c s.tick = some p ∧ (State.loopOf s c).mode ≠ .off ∧ State.chOf s c ≠ .disabled ∧ State.chOf s c ≠ .fenced ∧ p.active = true ∧ Mpl.sample s c p = some none :=
  ⟨W.looping [], 8, W.past 0, by decide⟩
theorem witness_LoopsTakeSamplesAndCommands_3 : ∃ s : State, ∃ c : Nat, ∃ p : Past, s.pwr.rails = true ∧ c < 24 ∧ Mpl.due s c s.tick = some p ∧ (State.loopOf s c).mode = .off :=
  ⟨{ W.looping [] with mpl := W.up.mpl }, 8, W.past 0, by decide⟩
theorem witness_LoopsTakeSamplesAndCommands_4 : ∃ s : State, ∃ c : Nat, hostOpen s = true ∧ c < 24 ∧ s.dev.mode.inBuild = false ∧ (State.loopOf s c).mode = .openFallback :=
  ⟨{ W.up with mpl := { W.up.mpl with tab := [(3, { MpLoop.init with mode := .openFallback })] } }, 3, by decide⟩
theorem witness_LoopsTakeSamplesAndCommands_5 : ∃ s : State, ∃ c : Nat, hostOpen s = true ∧ c < 24 ∧ s.dev.mode.inBuild = true :=
  ⟨W.inMode .building, 3, by decide⟩
theorem witness_LoopsTakeSamplesAndCommands_6 : ∃ s : State, ∃ c : Nat, hostOpen s = true ∧ c < 24 ∧ s.dev.mode.inBuild = false :=
  ⟨W.up, 3, by decide⟩
theorem witness_LoopsTakeSamplesAndCommands_7 : ∃ s : State, ∃ c : Nat, hostOpen s = true ∧ c < 24 ∧ s.dev.mode.inBuild = true :=
  ⟨W.inMode .paused, 3, by decide⟩
theorem witness_SweepsFollowTheSchedule_1 : ∃ s : State, s.pwr.rails = true ∧ Grid.dueBy s s.btick = true ∧ Grid.nTiles s ≤ s.grd.nextTile ∧ s.grd.mode = .running :=
  ⟨W.grid { W.up.grd with sweep := 3, start := 100, nextTile := Grid.nTiles W.up }, by decide⟩
theorem witness_SweepsFollowTheSchedule_2 : ∃ s : State, s.pwr.rails = true ∧ Grid.dueBy s s.btick = true ∧ Grid.nTiles s ≤ s.grd.nextTile ∧ s.grd.mode = .paused :=
  ⟨{ W.grid { W.up.grd with sweep := 3, start := 100, nextTile := Grid.nTiles W.up } with grd := { (W.grid { W.up.grd with sweep := 3, start := 100, nextTile := Grid.nTiles W.up }).grd with mode := .paused } }, by decide⟩
theorem witness_SweepsFollowTheSchedule_3 : ∃ s : State, (Grid.dueBy s s.btick = false ∨ s.grd.nextTile < Grid.nTiles s) :=
  ⟨W.up, by decide⟩
theorem witness_SweepsFollowTheSchedule_4 : ∃ s : State, s.pwr.rails = true ∧ Grid.dueBy s s.btick = true ∧ s.grd.nextTile < Grid.nTiles s ∧ s.grd.mode = .running :=
  ⟨W.grid { W.up.grd with sweep := 3, start := 100, nextTile := 0, pend := [⟨5, 20, 7⟩, ⟨6, 90, 7⟩] }, by decide⟩
theorem witness_SweepsFollowTheSchedule_5 : ∃ s : State, s.pwr.rails = true ∧ s.grd.mode = .running ∧ 0 < s.grd.nextTile ∧ Tab.find s.grd.lateTiles (s.grd.nextTile - 1) = none :=
  ⟨W.grid { W.up.grd with sweep := 3, start := 100, nextTile := 1 }, by decide⟩
theorem witness_SweepsFollowTheSchedule_6 : ∃ s : State, ∃ cell : Nat, ∃ amount : Nat, s.pwr.rails = true ∧ s.grd.mode = .running ∧ s.grd.opened = true ∧ 0 < amount ∧ amount ≤ Tab.get (fun _ => 0) s.grd.taken cell :=
  ⟨W.grid { W.up.grd with sweep := 3, start := 100, nextTile := 1, opened := true, taken := [(5, 9)] }, 5, 4, by decide⟩
theorem witness_SweepsFollowTheSchedule_7 : ∃ s : State, s.pwr.rails = true :=
  ⟨W.grid { W.up.grd with lateTiles := [(2, Grid.uniform (Cell.at 0))] }, by decide⟩
theorem witness_TheGridIsResetAndSnapped_1 : ∃ s : State, hostOpen s = true ∧ s.dev.mode.inBuild = false :=
  ⟨W.up, by decide⟩
theorem witness_TheGridIsResetAndSnapped_2 : ∃ s : State, hostOpen s = true ∧ s.dev.mode.inBuild = true :=
  ⟨W.inMode .building, by decide⟩
theorem witness_TheGridIsResetAndSnapped_3 : ∃ s : State, hostOpen s = true ∧ Grid.snapOk s = true :=
  ⟨W.up, by decide⟩
theorem witness_TheGridIsResetAndSnapped_4 : ∃ s : State, hostOpen s = true ∧ Grid.snapOk s = true :=
  ⟨W.inMode .building, by decide⟩
theorem witness_TheGridIsResetAndSnapped_5 : ∃ s : State, hostOpen s = true ∧ s.grd.snapMode = .ready :=
  ⟨W.grid { W.up.grd with snapMode := .ready, snap := some (Grid.capture W.up false) }, by decide⟩
theorem witness_TheGridIsResetAndSnapped_6 : ∃ s : State, ∃ p : Snap, s.pwr.rails = true ∧ s.grd.snapMode = .capturing ∧ s.grd.snap = some p ∧ p.folio = false :=
  ⟨W.grid { W.up.grd with snapMode := .capturing, snap := some (Grid.capture W.up false) }, Grid.capture W.up false, by decide⟩
theorem witness_TheGridIsResetAndSnapped_7 : ∃ s : State, ∃ p : Snap, s.pwr.rails = true ∧ s.grd.snapMode = .capturing ∧ s.grd.snap = some p ∧ p.folio = true :=
  ⟨W.grid { W.up.grd with snapMode := .capturing, snap := some { Grid.capture W.up false with folio := true } }, { Grid.capture W.up false with folio := true }, by decide⟩
theorem witness_TheGridIsResetAndSnapped_8 : ∃ s : State, s.grd.snapMode ≠ .capturing :=
  ⟨W.up, by decide⟩
theorem witness_LanesFollowTheirEntries_1 : ∃ s : State, ∃ m : Nat, upNow s = true ∧ m < 48 ∧ (State.laneOf s m).mode = .disabled :=
  ⟨W.up, 3, by decide⟩
theorem witness_LanesFollowTheirEntries_2 : ∃ s : State, ∃ m : Nat, upNow s = true ∧ m < 48 ∧ State.chOf s (m % 24) ≠ .started :=
  ⟨W.laneUp W.up 27 3, 27, by decide⟩
theorem witness_LanesFollowTheirEntries_3 : ∃ s : State, ∃ m : Nat, hostOpen s = true ∧ m < 48 ∧ State.chOf s (m % 24) ≠ .started ∧ (State.laneOf s m).mode ≠ .disabled :=
  ⟨W.laneUp W.up 3 2, 3, by decide⟩
theorem witness_LanesFollowTheirEntries_4 : ∃ s : State, ∃ m : Nat, hostOpen s = true ∧ m < 48 ∧ State.chOf s (m % 24) ≠ .started ∧ (State.laneOf s m).mode = .up :=
  ⟨W.laneUp W.up 3 2, 3, by decide⟩
theorem witness_LanesFollowTheirEntries_5 : ∃ s : State, ∃ m : Nat, upNow s = true ∧ m < 48 ∧ State.chOf s (m % 24) = .started :=
  ⟨W.engine .building Engine.init, 0, by decide⟩
theorem witness_LanesFollowTheirEntries_6 : ∃ s : State, ∃ m : Nat, hostOpen s = true ∧ m < 48 ∧ State.chOf s (m % 24) = .started :=
  ⟨W.engine .building Engine.init, 0, by decide⟩
theorem witness_LanesFollowTheirEntries_7 : ∃ s : State, ∃ m : Nat, hostOpen s = true ∧ m < 48 ∧ State.chOf s (m % 24) = .started :=
  ⟨W.engine .building Engine.init, 0, by decide⟩
theorem witness_LanesComeUpStepByStep_1 : ∃ s : State, ∃ m : Nat, s.pwr.rails = true ∧ m < 48 ∧ (State.laneOf s m).mode = .seek ∧ Lnk.lockOpen s m = true :=
  ⟨{ W.lane 3 { Lane.init with mode := .seek } with tick := 32 }, 3, by decide⟩
theorem witness_LanesComeUpStepByStep_2 : ∃ s : State, ∃ m : Nat, ((State.laneOf s m).mode ≠ .seek ∨ Lnk.lockOpen s m = false) :=
  ⟨W.lane 3 { Lane.init with mode := .seek }, 3, by decide +kernel⟩
theorem witness_LanesComeUpStepByStep_3 : ∃ s : State, ∃ m : Nat, ∃ b : List Byte, ∃ d : List Byte, s.pwr.rails = true ∧ m < 48 ∧ (State.laneOf s m).mode = .cap ∧ Lnk.blockOk b = true ∧ (b.getD 0 0).toNat = 0x10 ∧ d = (b.drop 2).take 26 ∧ Lnk.capSuits m d = true ∧ (State.laneOf s m).lastCap = some d ∧ Lnk.targetRate m (State.laneOf s m).maxRate d ≠ 0 :=
  ⟨W.lane 3 { Lane.init with mode := .cap, rate := some 0, lastCap := some W.capData }, 3, W.capBlock, W.capData, by decide +kernel⟩
theorem witness_LanesComeUpStepByStep_4 : ∃ s : State, ∃ m : Nat, ∃ b : List Byte, ∃ d : List Byte, s.pwr.rails = true ∧ m < 48 ∧ (State.laneOf s m).mode = .cap ∧ Lnk.blockOk b = true ∧ (b.getD 0 0).toNat = 0x10 ∧ d = (b.drop 2).take 26 ∧ Lnk.capSuits m d = true ∧ (State.laneOf s m).lastCap ≠ some d :=
  ⟨W.lane 3 { Lane.init with mode := .cap, rate := some 0 }, 3, W.capBlock, W.capData, by decide +kernel⟩
theorem witness_LanesComeUpStepByStep_5 : ∃ s : State, ∃ m : Nat, ∃ b : List Byte, ∃ d : List Byte, s.pwr.rails = true ∧ m < 48 ∧ (State.laneOf s m).mode = .cap ∧ Lnk.blockOk b = true ∧ (b.getD 0 0).toNat = 0x10 ∧ d = (b.drop 2).take 26 ∧ Lnk.capSuits m d = false :=
  ⟨W.lane 30 { Lane.init with mode := .cap, rate := some 0 }, 30, W.capBlock, W.capData, by decide +kernel⟩
theorem witness_LanesComeUpStepByStep_6 : ∃ s : State, ∃ m : Nat, s.pwr.rails = true ∧ m < 48 ∧ (State.laneOf s m).mode = .step ∧ (State.laneOf s m).phase = .echo :=
  ⟨W.lane 3 { Lane.init with mode := .step, tryRate := 1 }, 3, by decide⟩
theorem witness_LanesComeUpStepByStep_7 : ∃ s : State, ∃ m : Nat, s.pwr.rails = true ∧ m < 48 ∧ (State.laneOf s m).mode = .step ∧ (State.laneOf s m).phase = .training ∧ (State.laneOf s m).trainEnd ≤ s.tick :=
  ⟨W.lane 3 { Lane.init with mode := .step, phase := .training, tryRate := 1, switchAt := some 0 }, 3, by decide⟩
theorem witness_LanesComeUpStepByStep_8 : ∃ s : State, ∃ m : Nat, s.tick < (State.laneOf s m).trainEnd :=
  ⟨W.lane 3 { Lane.init with mode := .step, phase := .training, trainEnd := 9 }, 3, by decide⟩
theorem witness_LanesComeUpStepByStep_9 : ∃ s : State, ∃ m : Nat, ∃ own : Nat, s.pwr.rails = true ∧ m < 48 ∧ (State.laneOf s m).mode = .step ∧ (State.laneOf s m).phase = .test ∧ Lnk.testOpen s m = true ∧ own ≤ (State.laneOf s m).testMax ∧ (State.laneOf s m).tryRate = (State.laneOf s m).target ∧ Lnk.protoFor m ((State.laneOf s m).rate.getD 0) (Arith.leAt ((State.laneOf s m).cap.getD []) 3 1) ≠ 0 :=
  ⟨{ W.lane 3 { Lane.init with mode := .step, phase := .test, rate := some 3, tryRate := 3, target := 3, cap := some W.capData } with tick := 50000 }, 3, 0, by decide⟩
theorem witness_LanesComeUpStepByStep_10 : ∃ s : State, ∃ m : Nat, ∃ own : Nat, s.pwr.rails = true ∧ m < 48 ∧ (State.laneOf s m).mode = .step ∧ (State.laneOf s m).phase = .test ∧ Lnk.testOpen s m = true ∧ own ≤ (State.laneOf s m).testMax ∧ (State.laneOf s m).tryRate ≠ (State.laneOf s m).target :=
  ⟨{ W.lane 3 { Lane.init with mode := .step, phase := .test, rate := some 1, tryRate := 1, target := 3 } with tick := 500000 }, 3, 0, by decide⟩
theorem witness_LanesComeUpStepByStep_11 : ∃ s : State, ∃ m : Nat, ∃ own : Nat, ∃ pass : Bool, s.pwr.rails = true ∧ m < 48 ∧ (State.laneOf s m).mode = .step ∧ (State.laneOf s m).phase = .test ∧ ((State.laneOf s m).testMax < own ∨ pass = false) :=
  ⟨W.lane 3 { Lane.init with mode := .step, phase := .test, tryRate := 2, target := 3 }, 3, 1, true, by decide⟩
theorem witness_LanesComeUpStepByStep_12 : ∃ s : State, ∃ m : Nat, ∃ own : Nat, Lnk.testOpen s m = false ∧ own ≤ (State.laneOf s m).testMax :=
  ⟨W.lane 3 { Lane.init with mode := .step, phase := .test, rate := some 1, tryRate := 1, target := 3 }, 3, 0, by decide⟩
theorem witness_LanesAreLostFrozenAndRelearned_1 : ∃ s : State, ∃ m : Nat, s.pwr.rails = true ∧ m < 48 ∧ ((State.laneOf s m).mode = .up ∨ (State.laneOf s m).mode = .relearn) ∧ (State.laneOf s m).driftAt ≠ some s.tick ∧ State.chOf s (m % 24) ≠ .started :=
  ⟨W.laneUp W.up 3 2, 3, by decide⟩
theorem witness_LanesAreLostFrozenAndRelearned_2 : ∃ s : State, ∃ m : Nat, ((State.laneOf s m).mode = .seek ∨ (State.laneOf s m).mode = .disabled) :=
  ⟨W.up, 3, by decide⟩
theorem witness_LanesAreLostFrozenAndRelearned_3 : ∃ s : State, ∃ m : Nat, s.pwr.rails = true ∧ m < 48 ∧ (State.laneOf s m).mode = .up ∧ Lnk.frozen s m = false ∧ Lnk.idleOpen s m = true :=
  ⟨{ W.laneUp W.up 3 2 with tick := 800 }, 3, by decide⟩
theorem witness_LanesAreLostFrozenAndRelearned_4 : ∃ s : State, ∃ m : Nat, ((State.laneOf s m).mode ≠ .up ∨ Lnk.frozen s m = true ∨ Lnk.idleOpen s m = false) :=
  ⟨W.laneUp W.up 3 2, 3, by decide⟩
theorem witness_LanesAreLostFrozenAndRelearned_5 : ∃ s : State, ∃ m : Nat, s.pwr.rails = true ∧ m < 48 ∧ Lnk.burstDue s m = true :=
  ⟨W.frozen, 3, by decide⟩
theorem witness_LanesAreLostFrozenAndRelearned_6 : ∃ s : State, ∃ m : Nat, Lnk.burstDue s m = false :=
  ⟨W.up, 3, by decide⟩
theorem witness_LanesAreLostFrozenAndRelearned_7 : ∃ s : State, ∃ m : Nat, ∃ eq : Nat, s.pwr.rails = true ∧ m < 48 ∧ (State.laneOf s m).mode = .up ∧ Lnk.frozen s m = false ∧ Lnk.outOfGuard s m (Lnk.eqWord eq) = true ∧ (State.laneOf s m).driftWaits = false ∧ State.chOf s (m % 24) ≠ .started :=
  ⟨W.laneUp W.up 3 2, 3, 200, by decide⟩
theorem witness_LanesAreLostFrozenAndRelearned_8 : ∃ s : State, ∃ m : Nat, ∃ eq : Nat, ((State.laneOf s m).mode ≠ .up ∨ Lnk.frozen s m = true ∨ Lnk.outOfGuard s m (Lnk.eqWord eq) = false) :=
  ⟨W.up, 3, 200, by decide⟩
theorem witness_LanesAreLostFrozenAndRelearned_9 : ∃ s : State, ∃ m : Nat, ∃ blocks : Nat, s.pwr.rails = true ∧ m < 48 ∧ blocks < 16 ∧ (State.laneOf s m).badRun + blocks < 16 ∧ (State.laneOf s m).mode ≠ .up :=
  ⟨W.lane 3 { Lane.init with mode := .seek }, 3, 4, by decide⟩
theorem witness_FramesAreTakenFromAttachments_1 : ∃ s : State, ∃ m : Nat, ∃ k : Nat, ∃ d : List Byte, s.pwr.rails = true ∧ State.laneUp s m = true ∧ m < 24 ∧ d.length = 26 ∧ Arith.leAt d 0 1 = 0x81 ∧ Att.tagTick s.tick (Arith.leAt d 2 2) = some k :=
  ⟨{ W.laneUp W.up 3 2 with tick := 70 }, 3, 64, W.frame81, by decide⟩
theorem witness_FramesAreTakenFromAttachments_2 : ∃ s : State, ∃ m : Nat, ∃ k : Nat, ∃ d : List Byte, s.pwr.rails = true ∧ State.laneUp s m = true ∧ 24 ≤ m ∧ m < 48 ∧ d.length = 26 ∧ Arith.leAt d 0 1 = 0x81 ∧ Att.tagTick s.tick (Arith.leAt d 2 2) = some k :=
  ⟨{ W.laneUp W.up 27 3 with tick := 70 }, 27, 64, W.frame81, by decide⟩
theorem witness_FramesAreTakenFromAttachments_3 : ∃ s : State, ∃ m : Nat, ∃ d : List Byte, s.pwr.rails = true ∧ State.laneUp s m = true ∧ m < 24 ∧ d.length = 26 ∧ Arith.leAt d 0 1 = 0x81 ∧ Att.tagTick s.tick (Arith.leAt d 2 2) = none :=
  ⟨{ W.laneUp W.up 3 2 with tick := 20 }, 3, W.frame81, by decide⟩
theorem witness_FramesAreTakenFromAttachments_4 : ∃ s : State, ∃ m : Nat, State.laneUp s m = false :=
  ⟨W.up, 3, by decide⟩
theorem witness_FramesAreTakenFromAttachments_5 : ∃ s : State, ∃ m : Nat, ∃ k : Nat, ∃ d : List Byte, s.pwr.rails = true ∧ m < 24 ∧ State.hasZ s m = true ∧ State.laneUp s m = true ∧ d.length = 26 ∧ Arith.leAt d 0 1 = 0x82 ∧ Att.tagTick s.tick (Arith.leAt d 4 2) = some k ∧ (State.attOf s m).tile = none ∧ Att.chunksOf (Arith.leAt d 1 1) ≠ 0 ∧ Arith.leAt d 6 2 = Att.chunksOf (Arith.leAt d 1 1) :=
  ⟨{ W.laneUp W.up 3 2 with tick := 70 }, 3, 64, W.tileHeader, by decide⟩
theorem witness_FramesAreTakenFromAttachments_6 : ∃ s : State, ∃ m : Nat, ∃ d : List Byte, ∃ x : TileIn, s.pwr.rails = true ∧ m < 24 ∧ State.laneUp s m = true ∧ d.length = 26 ∧ Arith.leAt d 0 1 = 0x83 ∧ (State.attOf s m).tile = some x ∧ Arith.leAt d 2 2 = x.frameNo ∧ Arith.leAt d 4 2 < x.chunks ∧ x.chunks ≠ (Tab.ins x.data (Arith.leAt d 4 2) (d.drop 6)).length :=
  ⟨W.tiling, 3, W.tileBytes, ⟨8, 5, 64, 205, 0, []⟩, by decide⟩
theorem witness_FramesAreTakenFromAttachments_7 : ∃ s : State, ∃ m : Nat, State.laneUp s m = false :=
  ⟨W.up, 3, by decide⟩
theorem witness_FramesAreTakenFromAttachments_8 : ∃ s : State, ∃ m : Nat, State.laneUp s m = false :=
  ⟨W.up, 3, by decide⟩
theorem witness_FramesAreTakenFromAttachments_9 : ∃ s : State, ∃ p : Nat, ∃ w : Nat, s.pwr.rails = true ∧ p < 8 ∧ State.legacy s p = true ∧ Arith.bits w 19 17 = 1 ∧ Att.parityOk w = true ∧ (State.rAtt s (D.iXY + p) D.XY_STATUS_COUNT).toNat ≠ 0 ∧ Nat.land (Arith.bits w 16 1) (State.rAtt s (D.iXY + p) D.XY_STATUS_MASK).toNat = (State.rAtt s (D.iXY + p) D.XY_STATUS_OK).toNat :=
  ⟨W.port, 3, 0x20002, by decide⟩
theorem witness_FramesAreTakenFromAttachments_10 : ∃ s : State, ∃ p : Nat, ∃ w : Nat, s.pwr.rails = true ∧ p < 8 ∧ State.legacy s p = true ∧ Att.parityOk w = false ∧ (State.rAtt s (D.iXY + p) D.XY_STATUS_COUNT).toNat ≤ (State.attOf s p).xyBad + 1 ∧ State.chOf s p = .started ∧ (State.attOf s p).xy = .none ∧ Eng.faultHeld (State.engOf s p) = false :=
  ⟨W.portRun, 3, 0x20003, by decide⟩
theorem witness_FramesAreTakenFromAttachments_11 : ∃ s : State, ∃ p : Nat, State.legacy s p = false :=
  ⟨W.up, 3, by decide⟩
theorem witness_FramesRunFromTriggerToClose_1 : ∃ s : State, ∃ p : Nat, s.pwr.rails = true ∧ p < 4 ∧ (Ilm.portOf s p).mode = .armed ∧ (Ilm.portOf s p).event = true ∧ s.txn.queue = [] ∧ (Img.inlineOf s p = true ∨ Img.rawUsed s p < 2) :=
  ⟨W.camera 1 { Port.init with mode := .armed, event := true } [], 1, by decide⟩
theorem witness_FramesRunFromTriggerToClose_2 : ∃ s : State, ∃ p : Nat, s.pwr.rails = true ∧ p < 4 ∧ (Ilm.portOf s p).mode = .armed ∧ (Ilm.portOf s p).event = true ∧ s.txn.queue = [] ∧ Img.inlineOf s p = false ∧ 2 ≤ Img.rawUsed s p ∧ Img.isOpen s p ((Img.cam s p D.CAM_FRAME_NO + 1) % 2 ^ 32) = false :=
  ⟨State.wImg (State.wImg (State.wImg (W.camera 1 { Port.init with mode := .armed, event := true } [{ W.frame with raw := true, received := true }, { W.frame with raw := true, received := true }]) (D.iCAM + 1) D.CAM_WIDTH 2) (D.iCAM + 1) D.CAM_HEIGHT 1) D.iIMG D.IMG_RECTIFY 0, 1, by decide⟩
theorem witness_FramesRunFromTriggerToClose_3 : ∃ s : State, ∃ p : Nat, ((Ilm.portOf s p).mode ≠ .armed ∨ (Ilm.portOf s p).event = false) :=
  ⟨W.up, 1, by decide⟩
theorem witness_FramesRunFromTriggerToClose_4 : ∃ s : State, ∃ p : Nat, s.pwr.rails = true ∧ p < 4 ∧ (Ilm.portOf s p).mode = .exposing :=
  ⟨W.camera 1 { Port.init with mode := .exposing } [W.frame], 1, by decide⟩
theorem witness_FramesRunFromTriggerToClose_5 : ∃ s : State, ∃ p : Nat, s.pwr.rails = true ∧ p < 4 ∧ (Ilm.portOf s p).mode ≠ .exposing ∧ Img.capturing s p = false :=
  ⟨W.up, 1, by decide⟩
theorem witness_FramesRunFromTriggerToClose_6 : ∃ s : State, ∃ p : Nat, (Ilm.portOf s p).mode ≠ .exposing ∧ Img.capturing s p = true :=
  ⟨W.camera 1 { Port.init with mode := .receiving } [W.frame], 1, by decide⟩
theorem witness_FramesRunFromTriggerToClose_7 : ∃ s : State, ∃ p : Nat, ∃ f : Frame, s.pwr.rails = true ∧ p < 4 ∧ Img.frameOf s p = some f ∧ (Ilm.portOf s p).mode = .receiving :=
  ⟨W.camera 1 { Port.init with mode := .receiving } [W.frame], 1, W.frame, by decide⟩
theorem witness_FramesRunFromTriggerToClose_8 : ∃ s : State, ∃ p : Nat, (Ilm.portOf s p).mode ≠ .receiving :=
  ⟨W.up, 1, by decide⟩
theorem witness_FramesRunFromTriggerToClose_9 : ∃ s : State, ∃ p : Nat, ∃ f : Frame, s.pwr.rails = true ∧ p < 4 ∧ Img.overdue s p = true ∧ Img.frameOf s p = some f :=
  ⟨W.camera 1 { Port.init with mode := .exposing } [W.frame], 1, W.frame, by decide⟩
theorem witness_FramesRunFromTriggerToClose_10 : ∃ s : State, ∃ p : Nat, Img.overdue s p = false :=
  ⟨W.up, 1, by decide⟩
theorem witness_FramesRunFromTriggerToClose_11 : ∃ s : State, ∃ p : Nat, ∃ f : Frame, s.pwr.rails = true ∧ p < 4 ∧ Img.jobOf s p = some f ∧ f.port = p ∧ (Ilm.portOf s p).mode = .processing ∧ s.img.frames.all (fun g => g.port != p || g.no == f.no) = true ∧ (f.inlinePort = true ∨ Img.inlineBusy s = false) ∧ (f.folio = false ∨ f.stream.isSome = true) :=
  ⟨W.camera 1 { Port.init with mode := .processing } [{ W.frame with received := true, stage6 := true, pixels := [[some 7]] }], 1, { W.frame with received := true, stage6 := true, pixels := [[some 7]] }, by decide⟩
theorem witness_FramesRunFromTriggerToClose_12 : ∃ s : State, ∃ p : Nat, Img.jobOf s p = none :=
  ⟨W.up, 1, by decide⟩
theorem witness_FramesRunFromTriggerToClose_13 : ∃ s : State, ∃ c : Nat, ∃ h : TileSlot, ∃ d : List Byte, s.pwr.rails = true ∧ c < 24 ∧ (Feat.unit s c).sched = [h] ∧ h.hand ≤ s.tick ∧ Feat.tileAt s c h.tag = some (true, h.format, d) :=
  ⟨W.unit, 2, ⟨60, 5, 64, 70, 64, 8, 20, false⟩, [200, 10], by decide⟩
theorem witness_FramesRunFromTriggerToClose_14 : ∃ s : State, ∃ c : Nat, ∃ h : TileSlot, s.pwr.rails = true ∧ c < 24 ∧ (Feat.unit s c).sched = [h] ∧ h.hand ≤ s.tick ∧ Feat.tileAt s c h.tag = none :=
  ⟨{ W.unit with att := W.up.att }, 2, ⟨60, 5, 64, 70, 64, 8, 20, false⟩, by decide⟩
theorem witness_FramesRunFromTriggerToClose_15 : ∃ s : State, ∃ c : Nat, s.pwr.rails = true ∧ c < 24 ∧ ((Feat.unit s c).sched.all fun h => decide (s.tick < h.hand)) = true :=
  ⟨W.up, 2, by decide⟩
theorem witness_LampsAreDiagnosedAndProbed_1 : ∃ s : State, ∃ l : Nat, ∃ v : Nat, ∃ cur : Nat, ∃ p : Pulse, s.pwr.rails = true ∧ l < 16 ∧ (Ilm.lampOf s l).pulse = some p ∧ p.start + 4 ≤ p.stop ∧ p.start + 4 ≤ s.tick ∧ (Ilm.lampOf s l).mode ≠ .disabled ∧ (Ilm.lampOf s l).mode ≠ .fenced ∧ v ≤ Ilm.glob s D.ILMG_V_SHORT ∧ (p.current * 9 ≤ cur * 10 ∨ 300 ≤ v) :=
  ⟨W.lamp { Lamp.init with mode := .undiagnosed, pulse := some ⟨3, 20, 400, false⟩ }, 4, 900, 400, ⟨3, 20, 400, false⟩, by decide⟩
theorem witness_LampsAreDiagnosedAndProbed_2 : ∃ s : State, ∃ l : Nat, ∃ v : Nat, ∃ cur : Nat, ∃ p : Pulse, s.pwr.rails = true ∧ l < 16 ∧ (Ilm.lampOf s l).pulse = some p ∧ p.start + 4 ≤ p.stop ∧ p.start + 4 ≤ s.tick ∧ (Ilm.lampOf s l).mode ≠ .disabled ∧ (Ilm.lampOf s l).mode ≠ .fenced ∧ v ≤ Ilm.glob s D.ILMG_V_SHORT ∧ cur * 10 < p.current * 9 ∧ v < 300 ∧ (Ilm.lampOf s l).mode ≠ .shorted :=
  ⟨W.lamp { Lamp.init with mode := .ok, pulse := some ⟨3, 20, 400, false⟩ }, 4, 100, 300, ⟨3, 20, 400, false⟩, by decide⟩
theorem witness_LampsAreDiagnosedAndProbed_3 : ∃ s : State, ∃ l : Nat, ∃ v : Nat, ∃ cur : Nat, ∃ p : Pulse, s.pwr.rails = true ∧ l < 16 ∧ (Ilm.lampOf s l).pulse = some p ∧ p.start + 4 ≤ p.stop ∧ p.start + 4 ≤ s.tick ∧ (Ilm.lampOf s l).mode ≠ .disabled ∧ (Ilm.lampOf s l).mode ≠ .fenced ∧ v ≤ Ilm.glob s D.ILMG_V_SHORT ∧ cur * 10 < p.current * 9 ∧ v < 300 ∧ (Ilm.lampOf s l).mode = .shorted :=
  ⟨W.lamp { Lamp.init with mode := .shorted, pulse := some ⟨3, 20, 400, false⟩ }, 4, 100, 300, ⟨3, 20, 400, false⟩, by decide⟩
theorem witness_LampsAreDiagnosedAndProbed_4 : ∃ s : State, ∃ l : Nat, ∃ v : Nat, ∃ p : Pulse, s.pwr.rails = true ∧ l < 16 ∧ (Ilm.lampOf s l).pulse = some p ∧ p.start + 4 ≤ p.stop ∧ p.start + 4 ≤ s.tick ∧ (Ilm.lampOf s l).mode ≠ .disabled ∧ (Ilm.lampOf s l).mode ≠ .fenced ∧ Ilm.glob s D.ILMG_V_SHORT < v :=
  ⟨W.lamp { Lamp.init with mode := .ok, pulse := some ⟨3, 20, 400, false⟩ }, 4, 60000, ⟨3, 20, 400, false⟩, by decide⟩
theorem witness_LampsAreDiagnosedAndProbed_5 : ∃ s : State, ∃ l : Nat, ((Ilm.lampOf s l).pulse = none ∨ ((Ilm.lampOf s l).mode = .disabled ∨ (Ilm.lampOf s l).mode = .fenced)) :=
  ⟨W.up, 4, by decide⟩
theorem witness_LampsAreDiagnosedAndProbed_6 : ∃ s : State, ∃ l : Nat, ∃ p : Pulse, (Ilm.lampOf s l).pulse = some p ∧ (p.stop < p.start + 4 ∨ s.tick < p.start + 4) :=
  ⟨W.lamp { Lamp.init with pulse := some ⟨3, 5, 400, false⟩ }, 4, ⟨3, 5, 400, false⟩, by decide⟩
theorem witness_LampsAreDiagnosedAndProbed_7 : ∃ s : State, ∃ l : Nat, ∃ p : Pulse, s.pwr.rails = true ∧ l < 16 ∧ (Ilm.lampOf s l).pulse = some p ∧ p.stop ≤ s.tick :=
  ⟨W.lamp { Lamp.init with pulse := some ⟨3, 8, 80, true⟩ }, 4, ⟨3, 8, 80, true⟩, by decide⟩
theorem witness_LampsAreDiagnosedAndProbed_8 : ∃ s : State, ∃ l : Nat, (((Ilm.lampOf s l).pulse.map fun p => decide (p.stop ≤ s.tick)).getD false) = false :=
  ⟨W.up, 4, by decide⟩
theorem witness_LampsAreDiagnosedAndProbed_9 : ∃ s : State, ∃ l : Nat, s.pwr.rails = true ∧ l < 16 ∧ (Ilm.lampOf s l).probeDue = true ∧ (Ilm.lampOf s l).probeFrom ≤ s.tick ∧ Ilm.portsBusy s = false ∧ (Ilm.lampOf s l).mode ≠ .disabled ∧ (Ilm.lampOf s l).mode ≠ .fenced :=
  ⟨W.lamp { Lamp.init with mode := .ok, probeDue := true }, 4, by decide⟩
theorem witness_LampsAreDiagnosedAndProbed_10 : ∃ s : State, ∃ l : Nat, ((Ilm.lampOf s l).probeDue = false ∨ s.tick < (Ilm.lampOf s l).probeFrom ∨ Ilm.portsBusy s = true ∨ (Ilm.lampOf s l).mode = .disabled ∨ (Ilm.lampOf s l).mode = .fenced) :=
  ⟨W.up, 4, by decide⟩
theorem witness_LampsAreDiagnosedAndProbed_11 : ∃ s : State, hostOpen s = true ∧ Ilm.portsBusy s = false :=
  ⟨W.lamp { Lamp.init with mode := .shorted }, by decide⟩
theorem witness_LampsAreDiagnosedAndProbed_12 : ∃ s : State, hostOpen s = true ∧ Ilm.portsBusy s = true :=
  ⟨W.camera 1 { Port.init with mode := .exposing } [W.frame], by decide⟩
theorem witness_LampsTakeStagedSettings_1 : ∃ s : State, hostOpen s = true ∧ Ilm.anyPort s = false :=
  ⟨W.lamp { Lamp.init with width := 4 }, by decide⟩
theorem witness_LampsTakeStagedSettings_2 : ∃ s : State, hostOpen s = true ∧ Ilm.anyPort s = true :=
  ⟨State.wImg W.up D.iCAM D.CAM_CTRL 1, by decide⟩
theorem witness_LampsTakeStagedSettings_3 : ∃ s : State, ∃ l : Nat, upNow s = true ∧ l < 16 ∧ (Ilm.lampOf s l).mode = .disabled :=
  ⟨W.up, 4, by decide⟩
theorem witness_LampsTakeStagedSettings_4 : ∃ s : State, ∃ l : Nat, upNow s = true ∧ l < 16 ∧ (Ilm.lampOf s l).mode ≠ .disabled :=
  ⟨W.lamp { Lamp.init with mode := .fenced }, 4, by decide⟩
theorem witness_LampsTakeStagedSettings_5 : ∃ s : State, ∃ l : Nat, upNow s = true ∧ l < 16 ∧ ((Ilm.lampOf s l).mode ≠ .fenced ∨ State.holdsStatus s (0x130 + l) = false) :=
  ⟨W.lamp { Lamp.init with mode := .ok, armed := some 2 }, 4, by decide⟩
theorem witness_LampsTakeStagedSettings_6 : ∃ s : State, ∃ l : Nat, upNow s = true ∧ l < 16 ∧ (Ilm.lampOf s l).mode = .fenced ∧ State.holdsStatus s (0x130 + l) = true :=
  ⟨{ W.source 0x134 W.opened with ilm := { W.up.ilm with tab := [(4, { Lamp.init with mode := .fenced })] } }, 4, by decide⟩
theorem witness_FolioRunsItsJobs_1 : ∃ s : State, ∃ i : Nat, hostOpen s = true ∧ i < 4 ∧ Fol.startFree s i = true ∧ Fol.inputOk s i = true :=
  ⟨W.slotted, 2, by decide⟩
theorem witness_FolioRunsItsJobs_2 : ∃ s : State, ∃ i : Nat, hostOpen s = true ∧ i < 4 ∧ (Fol.startFree s i = false ∨ Fol.inputOk s i = false) :=
  ⟨State.wFol W.slotted (D.iFOLJ + 2) D.FOLJ_WIDTH 3, 2, by decide⟩
theorem witness_FolioRunsItsJobs_3 : ∃ s : State, ∃ i : Nat, hostOpen s = true ∧ i < 4 ∧ s.fol.jobs.any (fun j => j.client == 0x20 + i) = true ∧ s.fol.jobs.all (fun j => j.client != 0x20 + i || !j.started) = true :=
  ⟨W.folio [{ W.job with started := false }], 2, by decide⟩
theorem witness_FolioRunsItsJobs_4 : ∃ s : State, ∃ i : Nat, ∃ j : FolJob, ∃ rest : List FolJob, hostOpen s = true ∧ i < 4 ∧ s.fol.jobs = j :: rest ∧ j.client = 0x20 + i ∧ j.started = true ∧ rest.all (fun x => x.client != 0x20 + i) = true :=
  ⟨W.folio [W.job], 2, W.job, [], by decide⟩
theorem witness_FolioRunsItsJobs_5 : ∃ s : State, ∃ i : Nat, ∃ j : FolJob, ∃ k : FolJob, ∃ rest : List FolJob, hostOpen s = true ∧ i < 4 ∧ s.fol.jobs = k :: j :: rest ∧ k.client ≠ 0x20 + i ∧ j.client = 0x20 + i ∧ j.started = true ∧ rest.all (fun x => x.client != 0x20 + i) = true :=
  ⟨W.folio [{ W.job with client := 1, cls := 1 }, W.job], 2, W.job, { W.job with client := 1, cls := 1 }, [], by decide⟩
theorem witness_FolioRunsItsJobs_6 : ∃ s : State, ∃ i : Nat, hostOpen s = true ∧ i < 4 ∧ (Fol.slotOf s i).mode = 4 ∧ s.fol.jobs.all (fun j => j.client != 0x20 + i) = true :=
  ⟨{ W.up with fol := { W.up.fol with slots := [(2, ⟨4, [1]⟩)], chains := [(34, 1)] } }, 2, by decide⟩
theorem witness_FolioRunsItsJobs_7 : ∃ s : State, ∃ i : Nat, hostOpen s = true ∧ i < 4 ∧ (Fol.slotOf s i).mode ≠ 4 ∧ s.fol.jobs.all (fun j => j.client != 0x20 + i) = true :=
  ⟨W.up, 2, by decide⟩
theorem witness_FolioRunsItsJobs_8 : ∃ s : State, ∃ i : Nat, hostOpen s = true ∧ i < 4 ∧ (Fol.slotOf s i).mode = 4 ∧ s.fol.jobs.all (fun j => j.client != 0x20 + i) = true :=
  ⟨{ W.up with fol := { W.up.fol with slots := [(2, ⟨4, [1]⟩)], chains := [(34, 1)] } }, 2, by decide⟩
theorem witness_FolioRunsItsJobs_9 : ∃ s : State, ∃ i : Nat, hostOpen s = true ∧ i < 4 ∧ (Fol.slotOf s i).mode ≠ 4 :=
  ⟨W.up, 2, by decide⟩
theorem witness_FolioRunsItsJobs_10 : ∃ s : State, ∃ i : Nat, ∃ j : FolJob, ∃ rest : List FolJob, i < 4 ∧ j.client = 0x20 + i ∧ rest.all (fun x => x.client != 0x20 + i) = true ∧ s.pwr.rails = true ∧ Fol.canEnd s = true ∧ s.fol.jobs = j :: rest ∧ j.decode = false ∧ min 65536 (Fol.keptRows s j) = j.height ∧ j.height < 65536 :=
  ⟨W.folio [W.job], 2, W.job, [], by decide⟩
theorem witness_FolioRunsItsJobs_11 : ∃ s : State, ∃ j : FolJob, ∃ rest : List FolJob, j.client < 4 ∧ s.pwr.rails = true ∧ Fol.canEnd s = true ∧ s.fol.jobs = j :: rest ∧ j.decode = false ∧ min 65536 (Fol.keptRows s j) = j.height ∧ j.height < 65536 :=
  ⟨W.folio [{ W.job with client := 1 }], { W.job with client := 1 }, [], by decide⟩
theorem witness_FolioRunsItsJobs_12 : ∃ s : State, ∃ j : FolJob, ∃ rest : List FolJob, j.client = 0x10 ∧ j.plane < 2 ∧ s.pwr.rails = true ∧ Fol.canEnd s = true ∧ s.fol.jobs = j :: rest ∧ j.decode = false ∧ min 65536 (Fol.keptRows s j) = j.height ∧ j.height < 65536 :=
  ⟨W.folio [{ W.job with client := 0x10 }], { W.job with client := 0x10 }, [], by decide⟩
theorem witness_FolioRunsItsJobs_13 : ∃ s : State, ∃ i : Nat, ∃ j : FolJob, ∃ rest : List FolJob, ∃ d : Codec.Decoded, s.pwr.rails = true ∧ i < 4 ∧ Fol.canEnd s = true ∧ s.fol.jobs = j :: rest ∧ j.client = 0x20 + i ∧ j.decode = true ∧ d = Fol.jobDecoded j ∧ d.rows.length ≤ Fol.keptOut s j ∧ d.rows.length < 65536 ∧ d.result < 9 ∧ rest.all (fun x => x.client != 0x20 + i) = true :=
  ⟨W.folio [{ W.job with decode := true }], 2, { W.job with decode := true }, [], Fol.jobDecoded { W.job with decode := true }, by decide⟩
theorem witness_FolioRunsItsJobs_14 : ∃ s : State, Fol.canEnd s = false :=
  ⟨W.up, by decide⟩
theorem witness_FolioRunsItsJobs_15 : ∃ s : State, ∃ i : Nat, ∃ n : Nat, ∃ j : FolJob, ∃ rest : List FolJob, s.pwr.rails = true ∧ i < 4 ∧ Fol.waitOver s = true ∧ s.fol.jobs = j :: rest ∧ j.client = 0x20 + i ∧ j.decode = false ∧ min 65536 (Fol.keptRows s j) = n ∧ n < j.height ∧ j.height < 65536 ∧ rest.all (fun x => x.client != 0x20 + i) = true :=
  ⟨W.folio [{ W.job with held := 0, waitFrom := some 1 }], 2, 0, { W.job with held := 0, waitFrom := some 1 }, [], by decide⟩
theorem witness_FolioRunsItsJobs_16 : ∃ s : State, Fol.waitOver s = false :=
  ⟨W.up, by decide⟩
theorem witness_FolioRunsItsJobs_17 : ∃ s : State, upNow s = true ∧ Fol.ctl s D.FOL_BUF_SIZE * Fol.ctl s D.FOL_BUF_COUNT ≤ 536870912 :=
  ⟨W.up, by decide⟩
theorem witness_FolioRunsItsJobs_18 : ∃ s : State, upNow s = true ∧ Fol.ctl s D.FOL_BUF_SIZE * Fol.ctl s D.FOL_BUF_COUNT ≤ 536870912 ∧ (¬ ((s.fol.jobs.head?.map fun j => j.started).getD false = true ∧ Fol.ctl s D.FOL_ENABLE = 1)) :=
  ⟨W.up, by decide⟩
theorem witness_FolioRunsItsJobs_19 : ∃ s : State, ∃ j : FolJob, ∃ rest : List FolJob, upNow s = true ∧ Fol.ctl s D.FOL_BUF_SIZE * Fol.ctl s D.FOL_BUF_COUNT ≤ 536870912 ∧ s.fol.jobs = j :: rest ∧ j.started = true ∧ Fol.ctl s D.FOL_ENABLE = 1 :=
  ⟨W.folio [W.job], W.job, [], by decide⟩
theorem witness_FolioRunsItsJobs_20 : ∃ s : State, ∃ i : Nat, ∃ n : Nat, ∃ j : FolJob, ∃ rest : List FolJob, upNow s = true ∧ Fol.ctl s D.FOL_BUF_SIZE * Fol.ctl s D.FOL_BUF_COUNT ≤ 536870912 ∧ i < 4 ∧ s.fol.jobs = j :: rest ∧ j.client = 0x20 + i ∧ j.started = true ∧ j.waitFrom.isSome = true ∧ Fol.ctl s D.FOL_ENABLE = 1 ∧ j.decode = false ∧ min 65536 (Fol.keptRows s j) = n ∧ n < j.height ∧ j.height < 65536 :=
  ⟨W.folio [{ W.job with held := 0, waitFrom := some 1 }], 2, 0, { W.job with held := 0, waitFrom := some 1 }, [], by decide⟩
theorem witness_TheStoreChangesItsState_1 : ∃ s : State, hostOpen s = true ∧ Stk.canMount s = true :=
  ⟨W.up, by decide⟩
theorem witness_TheStoreChangesItsState_2 : ∃ s : State, hostOpen s = true ∧ Stk.canMount s = false :=
  ⟨W.mounted [], by decide⟩
theorem witness_TheStoreChangesItsState_3 : ∃ s : State, ∃ r : MountEnd, ∃ m : Medium, ∃ z : Medium, ∃ i : Nat, ∃ area : Nat, ∃ seq : Nat, ∃ len : Nat, ∃ d : Nat, ∃ dir : Directory, s.pwr.rails = true ∧ s.stk.mode = .mounting ∧ s.pwr.boot ≠ some .mount ∧ m = (if s.stk.formatting = true then s.stk.medium else r.found.getD s.stk.medium) ∧ Nand.unsupported m = none ∧ Nand.load m = .store i area dir seq len d z ∧ Stk.usedBytes ⟨i, area, dir, seq, len, []⟩ ≤ Stk.usableBytes z ⟨i, area, dir, seq, len, []⟩ :=
  ⟨W.jobStore { W.up.stk with mode := .mounting }, ⟨some ({ W.formatted [W.object] with loose := [[5], [6]], torn := [10] }), 40⟩, { W.formatted [W.object] with loose := [[5], [6]], torn := [10] }, { W.formatted [W.object] with blocks := [(10, ⟨16, 1, 5, 0, 0, false⟩)] }, 1, 9, 20, 0, 2, { W.dir [W.object] with map := [(0, 160)] }, by decide⟩
theorem witness_TheStoreChangesItsState_4 : ∃ s : State, ∃ r : MountEnd, ∃ m : Medium, ∃ z : Medium, ∃ i : Nat, ∃ area : Nat, ∃ seq : Nat, ∃ len : Nat, ∃ d : Nat, ∃ dir : Directory, s.pwr.rails = true ∧ s.stk.mode = .mounting ∧ s.pwr.boot ≠ some .mount ∧ m = (if s.stk.formatting = true then s.stk.medium else r.found.getD s.stk.medium) ∧ Nand.unsupported m = none ∧ Nand.load m = .store i area dir seq len d z ∧ ¬Stk.usedBytes ⟨i, area, dir, seq, len, []⟩ ≤ Stk.usableBytes z ⟨i, area, dir, seq, len, []⟩ :=
  ⟨W.jobStore { W.up.stk with mode := .mounting }, ⟨some ({ W.formatted [W.object] with superB := some { W.superblock 3 with area := 2 ^ 40 } }), 40⟩, { W.formatted [W.object] with superB := some { W.superblock 3 with area := 2 ^ 40 } }, { W.formatted [W.object] with superB := some { W.superblock 3 with area := 2 ^ 40 } }, 1, 2 ^ 40, 20, 0, 0, { W.dir [W.object] with map := [(0, 160)] }, by decide⟩
theorem witness_TheStoreChangesItsState_5 : ∃ s : State, ∃ r : MountEnd, ∃ m : Medium, ∃ a : Superblock, ∃ b : Superblock, ∃ c : Checkpoint, ∃ j : JournalRecord, s.pwr.rails = true ∧ s.stk.mode = .mounting ∧ s.pwr.boot ≠ some .mount ∧ m = (if s.stk.formatting = true then s.stk.medium else r.found.getD s.stk.medium) ∧ Nand.unsupported m = none ∧ m.superA = some a ∧ m.superB = some b ∧ a.seq < b.seq ∧ b.geometry = Nand.geometry m ∧ m.checkpoints = [c] ∧ c.number = b.checkpoint ∧ m.journal = [j] ∧ j.seq = c.journalSeq ∧ m.loose = [] ∧ m.torn = [] :=
  ⟨W.jobStore { W.up.stk with mode := .mounting }, ⟨some ({ W.formatted [W.object] with journal := [⟨20, .delete 3, 0, true⟩] }), 40⟩, { W.formatted [W.object] with journal := [⟨20, .delete 3, 0, true⟩] }, { W.superblock 2 with id := 8, checkpoint := 2 }, W.superblock 3, ⟨3, W.dir [W.object], 20⟩, ⟨20, .delete 3, 0, true⟩, by decide⟩
theorem witness_TheStoreChangesItsState_6 : ∃ s : State, ∃ r : MountEnd, ∃ m : Medium, s.pwr.rails = true ∧ s.stk.mode = .mounting ∧ s.pwr.boot ≠ some .mount ∧ m = (if s.stk.formatting = true then s.stk.medium else r.found.getD s.stk.medium) ∧ Nand.unsupported m = none ∧ m.superA = none ∧ m.superB = none :=
  ⟨W.jobStore { W.up.stk with mode := .mounting }, ⟨some (W.nand), 40⟩, W.nand, by decide⟩
theorem witness_TheStoreChangesItsState_7 : ∃ s : State, ∃ r : MountEnd, ∃ m : Medium, ∃ b : Superblock, s.pwr.rails = true ∧ s.stk.mode = .mounting ∧ s.pwr.boot ≠ some .mount ∧ m = (if s.stk.formatting = true then s.stk.medium else r.found.getD s.stk.medium) ∧ Nand.unsupported m = none ∧ Nand.newest m = some b ∧ (b.geometry.populated.any fun k => (Nand.target m k).isNone) = true :=
  ⟨W.jobStore { W.up.stk with mode := .mounting }, ⟨some ({ W.nand with superB := some { W.superblock 3 with geometry := ⟨[0, 4], 16384, 2048, 256, 12⟩ } }), 40⟩, { W.nand with superB := some { W.superblock 3 with geometry := ⟨[0, 4], 16384, 2048, 256, 12⟩ } }, { W.superblock 3 with geometry := ⟨[0, 4], 16384, 2048, 256, 12⟩ }, by decide⟩
theorem witness_TheStoreChangesItsState_8 : ∃ s : State, ∃ r : MountEnd, ∃ m : Medium, ∃ b : Superblock, s.pwr.rails = true ∧ s.stk.mode = .mounting ∧ s.pwr.boot ≠ some .mount ∧ m = (if s.stk.formatting = true then s.stk.medium else r.found.getD s.stk.medium) ∧ Nand.unsupported m = none ∧ Nand.newest m = some b ∧ (b.geometry.populated.any fun k => (Nand.target m k).isNone) = false ∧ Nand.geometry m ≠ b.geometry :=
  ⟨W.jobStore { W.up.stk with mode := .mounting }, ⟨some ({ W.nand with superB := some { W.superblock 3 with geometry := ⟨[0], 16384, 2048, 256, 11⟩ } }), 40⟩, { W.nand with superB := some { W.superblock 3 with geometry := ⟨[0], 16384, 2048, 256, 11⟩ } }, { W.superblock 3 with geometry := ⟨[0], 16384, 2048, 256, 11⟩ }, by decide⟩
theorem witness_TheStoreChangesItsState_9 : ∃ s : State, ∃ r : MountEnd, ∃ m : Medium, ∃ g : Target, s.pwr.rails = true ∧ s.stk.mode = .mounting ∧ s.pwr.boot ≠ some .mount ∧ m = (if s.stk.formatting = true then s.stk.medium else r.found.getD s.stk.medium) ∧ (Nand.target m 0 = none ∨ (∃ e ∈ m.targets, e.2.onfi < 40 ∨ e.2.nvddr3 = false ∨ Nand.target m 0 = some g ∧ Nand.sizes e.2 ≠ Nand.sizes g) ∨ Nand.target m 0 = some g ∧ ((g.pageBytes ≠ 4096 ∧ g.pageBytes ≠ 8192 ∧ g.pageBytes ≠ 16384) ∨ 9 * g.spareBytes < g.pageBytes ∨ 32 * 2 ^ 40 < m.targets.length * g.blocks * (g.pages * g.pageBytes))) :=
  ⟨W.jobStore { W.up.stk with mode := .mounting }, ⟨some (Nand.none_), 40⟩, Nand.none_, ⟨40, true, 16384, 2048, 256, 12, [], none, 3, 3000, []⟩, by decide⟩
theorem witness_TheStoreChangesItsState_10 : ∃ s : State, s.pwr.boot ≠ some .mount ∧ s.stk.mode ≠ .mounting :=
  ⟨W.up, by decide⟩
theorem witness_TheStoreChangesItsState_11 : ∃ s : State, hostOpen s = true ∧ Stk.canUnmount s = true :=
  ⟨W.mounted [], by decide⟩
theorem witness_TheStoreChangesItsState_12 : ∃ s : State, hostOpen s = true ∧ Stk.canUnmount s = false :=
  ⟨W.up, by decide⟩
theorem witness_TheStoreChangesItsState_13 : ∃ s : State, hostOpen s = true ∧ Stk.canFormat s = true ∧ Nand.unsupported s.stk.medium = none :=
  ⟨W.mounted [W.object], by decide⟩
theorem witness_TheStoreChangesItsState_14 : ∃ s : State, hostOpen s = true ∧ Stk.canFormat s = true ∧ Nand.unsupported s.stk.medium ≠ none :=
  ⟨W.jobStore { W.up.stk with mode := .failed }, by decide⟩
theorem witness_TheStoreChangesItsState_15 : ∃ s : State, hostOpen s = true ∧ Stk.canFormat s = false :=
  ⟨W.up, by decide⟩
theorem witness_TheStoreChangesItsState_16 : ∃ s : State, ∃ p : Nat, ∃ o : StkObj, ∃ x : Store, pathOpen p D.iSTK_CTRL s = true ∧ Stk.canDelete s p = true ∧ Stk.selected s p = some o ∧ s.stk.store = some x :=
  ⟨W.mounted [W.object], 0, W.object, W.store [W.object], by decide⟩
theorem witness_TheStoreChangesItsState_17 : ∃ s : State, ∃ p : Nat, pathOpen p D.iSTK_CTRL s = true ∧ (Stk.canDelete s p = false ∨ Stk.selected s p = none) :=
  ⟨W.mounted [], 0, by decide⟩
theorem witness_TheStoreChangesItsState_18 : ∃ s : State, ∃ k : Nat, ∃ w : StkWrite, ∃ d : List Byte, ∃ x : Store, s.pwr.rails = true ∧ s.stk.ejected = false ∧ (s.stk.writes.all fun w => w.data.isSome) = true ∧ (Stk.complete s)[k]? = some w ∧ w.data = some d ∧ d.length = 0 ∧ s.stk.store = some x ∧ Stk.full s d.length = false :=
  ⟨W.jobStore { (W.mounted []).stk with writes := [⟨3, 7, 2, 0, some [], 0, true, 0, none⟩] }, 0, ⟨3, 7, 2, 0, some [], 0, true, 0, none⟩, [], W.store [], by decide⟩
theorem witness_TheStoreChangesItsState_19 : ∃ s : State, ∃ k : Nat, ∃ w : StkWrite, ∃ d : List Byte, ∃ x : Store, ∃ m : Medium, ∃ l : List Nat, s.pwr.rails = true ∧ s.stk.ejected = false ∧ (s.stk.writes.all fun w => w.data.isSome) = true ∧ (Stk.complete s)[k]? = some w ∧ w.data = some d ∧ 1 ≤ d.length ∧ Stk.barred s d.length = false ∧ s.stk.store = some x ∧ Stk.urgent s = false ∧ Stk.full s d.length = false ∧ Nand.placeAll x.dir.retired (Nand.rotation s.stk.medium) (Nand.slabs d.length) (Config.firstSlab x.dir.nextId) s.stk.medium = some (m, l) :=
  ⟨W.jobStore { (W.mounted []).stk with writes := [⟨3, 7, 2, 0, some [1, 2], 0, true, 0, none⟩] }, 0, ⟨3, 7, 2, 0, some [1, 2], 0, true, 0, none⟩, [1, 2], W.store [], { W.nand with blocks := [(10, ⟨4, 1, 5, 0, 0, false⟩)] }, [163], by decide⟩
theorem witness_TheStoreChangesItsState_20 : ∃ s : State, ∃ k : Nat, ∃ w : StkWrite, ∃ d : List Byte, s.pwr.rails = true ∧ s.stk.ejected = false ∧ (s.stk.writes.all fun w => w.data.isSome) = true ∧ (Stk.complete s)[k]? = some w ∧ w.data = some d ∧ Stk.barred s d.length = false ∧ Stk.full s d.length = true :=
  ⟨W.jobStore { (W.mounted []).stk with writes := [⟨3, 7, 2, 0, some [], 0, true, 0, none⟩], mode := .readOnly }, 0, ⟨3, 7, 2, 0, some [], 0, true, 0, none⟩, [], by decide⟩
theorem witness_TheStoreChangesItsState_21 : ∃ s : State, ∃ k : Nat, (s.stk.writes.all fun w => w.data.isSome) = true ∧ (Stk.complete s)[k]? = none :=
  ⟨W.up, 5, by decide⟩
theorem witness_TheStoreChangesItsState_22 : ∃ s : State, ∃ k : Nat, ∃ w : StkWrite, ∃ d : List Byte, (s.stk.writes.all fun w => w.data.isSome) = true ∧ (Stk.complete s)[k]? = some w ∧ w.data = some d ∧ (s.stk.ejected = true ∨ Stk.barred s d.length = true) :=
  ⟨W.jobStore { { (W.mounted []).stk with writes := [⟨3, 7, 2, 0, some [1, 2], 0, true, 0, none⟩] } with ejected := true }, 0, ⟨3, 7, 2, 0, some [1, 2], 0, true, 0, none⟩, [1, 2], by decide⟩
theorem witness_StagingAndTheMedium_1 : ∃ s : State, ∃ m : Nat, ∃ n : Nat, s.pwr.rails = true ∧ Stk.next s = some (m, n, false) :=
  ⟨W.staging, 0, 5, by decide⟩
theorem witness_StagingAndTheMedium_2 : ∃ s : State, ∃ m : Nat, ∃ n : Nat, s.pwr.rails = true ∧ Stk.next s = some (m, n, true) ∧ Stk.streamOf s m n = none :=
  ⟨W.streaming none, 0, 5, by decide⟩
theorem witness_StagingAndTheMedium_3 : ∃ s : State, ∃ r : StageRead, ∃ m : Nat, ∃ n : Nat, ∃ d : StkObj, ∃ o : Nat, s.pwr.rails = true ∧ Stk.next s = some (m, n, true) ∧ Stk.streamOf s m n = some (d, o) ∧ r.uncorrectable = none ∧ r.crcBad = true :=
  ⟨W.streaming (some W.padUnit), ⟨none, true, [], [], []⟩, 0, 5, ⟨0x11, 7, 0, 5, 0, 2, 0, W.padUnit, [2]⟩, 0, by decide +kernel⟩
theorem witness_StagingAndTheMedium_4 : ∃ s : State, ∃ r : StageRead, ∃ m : Nat, ∃ n : Nat, ∃ d : StkObj, ∃ o : Nat, ∃ i : Nat, ∃ l : Nat, ∃ p : Nat, s.pwr.rails = true ∧ Stk.next s = some (m, n, true) ∧ Stk.streamOf s m n = some (d, o) ∧ r.uncorrectable = some i ∧ d.slabs = [l] ∧ 1 ≤ d.data.length ∧ o = 0 ∧ d.data.length ≤ Nand.slabBytes ∧ Stk.placeOf s l = some p :=
  ⟨W.streaming (some W.padUnit), ⟨some 0, false, [], [], []⟩, 0, 5, ⟨0x11, 7, 0, 5, 0, 2, 0, W.padUnit, [2]⟩, 0, 0, 2, 162, by decide +kernel⟩
theorem witness_StagingAndTheMedium_5 : ∃ s : State, ∃ r : StageRead, ∃ m : Nat, ∃ n : Nat, ∃ d : StkObj, s.pwr.rails = true ∧ Stk.next s = some (m, n, true) ∧ Stk.streamOf s m n = some (d, 0) ∧ r.uncorrectable = none ∧ r.crcBad = false ∧ padFits n d.data s = true ∧ noStripeOf n s = true :=
  ⟨W.streaming (some W.padUnit), ⟨none, false, [], [], []⟩, 0, 5, ⟨0x11, 7, 0, 5, 0, 2, 0, W.padUnit, [2]⟩, by decide +kernel⟩
theorem witness_StagingAndTheMedium_6 : ∃ s : State, ∃ r : StageRead, ∃ m : Nat, ∃ n : Nat, ∃ d : StkObj, ∃ o : Nat, s.pwr.rails = true ∧ Stk.next s = some (m, n, true) ∧ Stk.streamOf s m n = some (d, o) ∧ r.uncorrectable = none ∧ r.crcBad = false ∧ State.freeBytes s n / 32 * 32 < d.data.length - o :=
  ⟨W.crowded, ⟨none, false, [], [], []⟩, 0, 5, ⟨0x11, 7, 0, 5, 0, 2, 0, List.replicate 96 0, [2]⟩, 0, by decide⟩
theorem witness_StagingAndTheMedium_7 : ∃ s : State, Stk.next s = none :=
  ⟨W.up, by decide⟩
theorem witness_StagingAndTheMedium_8 : ∃ s : State, ∃ ch : Nat, ∃ g : Nat, ∃ k : Nat, s.pwr.rails = true ∧ ch < 8 ∧ Tab.find s.stk.suspended (4 * ch + g) = some k ∧ (((k + 2 * Stk.ctl s D.STK_CTRL_RESUME_GAP ≤ s.tick ∧ ∀ r ∈ Stk.queuedReads s, r.2.2.2 ≠ 4 * ch + g) ∨ Stk.stageCode s = 2)) :=
  ⟨{ W.jobStore { (W.mounted []).stk with suspended := [(6, 10)] } with tick := 9000000 }, 1, 2, 10, by decide⟩
theorem witness_StagingAndTheMedium_9 : ∃ s : State, ∃ ch : Nat, ∃ g : Nat, Tab.find s.stk.suspended (4 * ch + g) = none :=
  ⟨W.up, 1, 2, by decide⟩
theorem witness_StagingAndTheMedium_10 : ∃ s : State, ∃ ch : Nat, ∃ g : Nat, ∃ k : Nat, Tab.find s.stk.suspended (4 * ch + g) = some k ∧ (s.tick < k + 2 * Stk.ctl s D.STK_CTRL_RESUME_GAP ∨ ∃ r ∈ Stk.queuedReads s, r.2.2.2 = 4 * ch + g) ∧ Stk.stageCode s ≠ 2 :=
  ⟨W.jobStore { (W.mounted []).stk with suspended := [(6, 10)] }, 1, 2, 10, by decide⟩
theorem witness_StagingAndTheMedium_11 : ∃ s : State, ∃ ch : Nat, ∃ block : Nat, ∃ x : Store, s.pwr.rails = true ∧ ch < 8 ∧ s.stk.store = some x ∧ block < 4 * Nand.perTarget s.stk.medium ∧ Nand.bad s.stk.medium x.dir.retired (4 * ch * Nand.perTarget s.stk.medium + block) = false :=
  ⟨W.mounted [W.object], 0, 10, W.store [W.object], by decide⟩
theorem witness_StagingAndTheMedium_12 : ∃ s : State, ∃ ch : Nat, ∃ block : Nat, ∃ x : Store, s.pwr.rails = true ∧ ch < 8 ∧ s.stk.store = some x ∧ block < 4 * Nand.perTarget s.stk.medium ∧ Nand.bad s.stk.medium x.dir.retired (4 * ch * Nand.perTarget s.stk.medium + block) = false :=
  ⟨W.mounted [W.object], 0, 10, W.store [W.object], by decide⟩
theorem witness_StagingAndTheMedium_13 : ∃ s : State, ∃ ch : Nat, s.pwr.rails = true ∧ ch < 8 ∧ s.stk.store = none :=
  ⟨W.up, 0, by decide⟩
theorem witness_StagingAndTheMedium_14 : ∃ s : State, ∃ ch : Nat, s.pwr.rails = true ∧ ch < 8 ∧ s.stk.store = none :=
  ⟨W.up, 0, by decide⟩
theorem witness_StagingAndTheMedium_15 : ∃ s : State, ∃ ch : Nat, ∃ g : Nat, s.pwr.rails = true ∧ ch < 8 ∧ g < 4 ∧ (s.stk.timeouts.contains (4 * ch + g) = false ∨ Stk.up s = false) :=
  ⟨W.mounted [], 1, 2, by decide⟩
theorem witness_StagingAndTheMedium_16 : ∃ s : State, ∃ ch : Nat, ∃ g : Nat, s.pwr.rails = true ∧ ch < 8 ∧ g < 4 ∧ s.stk.timeouts.contains (4 * ch + g) = true ∧ Stk.up s = true :=
  ⟨W.jobStore { (W.mounted []).stk with timeouts := [6] }, 1, 2, by decide⟩
theorem witness_StagingAndTheMedium_17 : ∃ s : State, s.pwr.rails = true :=
  ⟨W.mounted [], by decide⟩
theorem witness_StagingAndTheMedium_18 : ∃ s : State, s.pwr.rails = true :=
  ⟨W.mounted [W.object], by decide⟩
theorem witness_StagingAndTheMedium_19 : ∃ s : State, ∃ b : Nat, ∃ y : Store, ∃ l : List (Nat × Nat), s.pwr.rails = true ∧ Stk.background s = true ∧ Stk.due (Stk.modMedium (Stk.grow [] (Tmp.tm s)) s) b = true ∧ (Stk.openTargets (Stk.modMedium (Stk.grow [] (Tmp.tm s)) s)).contains (Nand.targetOf s.stk.medium b) = true ∧ s.stk.store = some y ∧ (Nand.moveOut (Stk.openTargets (Stk.modMedium (Stk.grow [] (Tmp.tm s)) s)) y.dir b (Stk.modMedium (Stk.grow [] (Tmp.tm s)) s).stk.medium).map (fun z => z.2) = some l ∧ l ≠ [] :=
  ⟨W.jobStore { (W.mounted [W.object]).stk with medium := { W.nand with blocks := [(10, ⟨3, 1, 5, 0, 0, true⟩)] } }, 10, W.store [W.object], [(0, 16), (1, 17), (2, 18)], by decide +kernel⟩
theorem witness_AxesTakeMotionCommands_1 : ∃ s : State, ∃ a : Nat, hostOpen s = true ∧ a < 8 ∧ (Ax.axis s a).mode = .hold ∧ Ax.moveOk s a (Ax.reg s a D.AX_TARGET) = true ∧ Ax.reg s a D.AX_TARGET ≠ (Ax.axis s a).pos :=
  ⟨W.axis { Axis.init with mode := .hold, pos := 7 }, 2, by decide⟩
theorem witness_AxesTakeMotionCommands_2 : ∃ s : State, ∃ a : Nat, hostOpen s = true ∧ a < 8 ∧ ((Ax.axis s a).mode = .restOff ∨ (Ax.axis s a).mode = .restShort) ∧ Ax.moveOk s a (Ax.reg s a D.AX_TARGET) = true ∧ Ax.reg s a D.AX_TARGET ≠ (Ax.axis s a).pos :=
  ⟨W.axis { Axis.init with mode := .restOff, pos := 7 }, 2, by decide⟩
theorem witness_AxesTakeMotionCommands_3 : ∃ s : State, ∃ a : Nat, hostOpen s = true ∧ a < 8 ∧ (Ax.axis s a).mode = .hold ∧ Ax.moveOk s a (Ax.reg s a D.AX_TARGET) = true ∧ Ax.reg s a D.AX_TARGET = (Ax.axis s a).pos ∧ 0 < (Ax.reg s a D.AX_STANDSTILL_DELAY).toNat :=
  ⟨W.axis { Axis.init with mode := .hold }, 2, by decide⟩
theorem witness_AxesTakeMotionCommands_4 : ∃ s : State, ∃ a : Nat, hostOpen s = true ∧ a < 8 ∧ ((Ax.axis s a).mode = .restOff ∨ (Ax.axis s a).mode = .restShort) ∧ Ax.moveOk s a (Ax.reg s a D.AX_TARGET) = true ∧ Ax.reg s a D.AX_TARGET = (Ax.axis s a).pos :=
  ⟨W.axis { Axis.init with mode := .restShort }, 2, by decide⟩
theorem witness_AxesTakeMotionCommands_5 : ∃ s : State, ∃ a : Nat, hostOpen s = true ∧ a < 8 ∧ ((Ax.axis s a).mode = .moving ∨ Ax.moveOk s a (Ax.reg s a D.AX_TARGET) = false) :=
  ⟨W.up, 2, by decide⟩
theorem witness_AxesTakeMotionCommands_6 : ∃ s : State, ∃ a : Nat, hostOpen s = true ∧ a < 8 ∧ (Ax.axis s a).mode = .hold ∧ Ax.devOk s = true :=
  ⟨W.axis { Axis.init with mode := .hold }, 2, by decide⟩
theorem witness_AxesTakeMotionCommands_7 : ∃ s : State, ∃ a : Nat, hostOpen s = true ∧ a < 8 ∧ ((Ax.axis s a).mode = .restOff ∨ (Ax.axis s a).mode = .restShort) ∧ Ax.devOk s = true :=
  ⟨W.axis { Axis.init with mode := .restShort }, 2, by decide⟩
theorem witness_AxesTakeMotionCommands_8 : ∃ s : State, ∃ a : Nat, hostOpen s = true ∧ a < 8 ∧ Ax.startOk s a = false :=
  ⟨W.up, 2, by decide⟩
theorem witness_AxesTakeMotionCommands_9 : ∃ s : State, ∃ a : Nat, hostOpen s = true ∧ a < 8 ∧ (Ax.axis s a).mode = .hold ∧ Ax.devOk s = true ∧ Ax.reference s a = false :=
  ⟨W.axis { Axis.init with mode := .hold }, 2, by decide⟩
theorem witness_AxesTakeMotionCommands_10 : ∃ s : State, ∃ a : Nat, hostOpen s = true ∧ a < 8 ∧ (Ax.axis s a).mode = .hold ∧ Ax.devOk s = true ∧ Ax.reference s a = true :=
  ⟨W.axis { Axis.init with mode := .hold, home := ⟨true, true, none, false, none⟩ }, 2, by decide⟩
theorem witness_AxesTakeMotionCommands_11 : ∃ s : State, ∃ a : Nat, hostOpen s = true ∧ a < 8 ∧ ((Ax.axis s a).mode = .restOff ∨ (Ax.axis s a).mode = .restShort) ∧ Ax.devOk s = true :=
  ⟨W.axis { Axis.init with mode := .restOff }, 2, by decide⟩
theorem witness_AxesTakeMotionCommands_12 : ∃ s : State, ∃ a : Nat, hostOpen s = true ∧ a < 8 ∧ Ax.startOk s a = false :=
  ⟨W.up, 2, by decide⟩
theorem witness_AxesTakeMotionCommands_13 : ∃ s : State, ∃ a : Nat, hostOpen s = true ∧ a < 8 ∧ (Ax.axis s a).mode = .hold ∧ Ax.devOk s = true ∧ (Ax.axis s a).gear = none :=
  ⟨W.axis { Axis.init with mode := .hold, pos := 5 }, 2, by decide⟩
theorem witness_AxesTakeMotionCommands_14 : ∃ s : State, ∃ a : Nat, hostOpen s = true ∧ a < 8 ∧ ((Ax.axis s a).mode = .restOff ∨ (Ax.axis s a).mode = .restShort) ∧ Ax.devOk s = true :=
  ⟨W.axis { Axis.init with mode := .restOff }, 2, by decide⟩
theorem witness_AxesTakeMotionCommands_15 : ∃ s : State, ∃ a : Nat, ∃ g : AxGear, hostOpen s = true ∧ a < 8 ∧ (Ax.axis s a).mode = .geared ∧ Ax.devOk s = true ∧ (Ax.axis s a).gear = some g :=
  ⟨W.axis { Axis.init with mode := .geared, gear := some ⟨1, 1, 2, 4, 6, none⟩ }, 2, ⟨1, 1, 2, 4, 6, none⟩, by decide⟩
theorem witness_AxesTakeMotionCommands_16 : ∃ s : State, ∃ a : Nat, hostOpen s = true ∧ a < 8 ∧ Ax.gearOk s a = false :=
  ⟨W.up, 2, by decide⟩
theorem witness_AxesTakeMotionCommands_17 : ∃ s : State, ∃ a : Nat, hostOpen s = true ∧ a < 8 ∧ ((Ax.axis s a).mode = .moving ∨ (Ax.axis s a).mode = .jogging ∨ (Ax.axis s a).mode = .geared ∨ (Ax.axis s a).mode = .homing) :=
  ⟨W.axis { Axis.init with mode := .moving, goal := .target 50, v2 := 400 }, 2, by decide⟩
theorem witness_AxesTakeMotionCommands_18 : ∃ s : State, ∃ a : Nat, ∃ d : Nat, hostOpen s = true ∧ a < 8 ∧ (Ax.axis s a).mode = .stopping ∧ (Ax.axis s a).goal = .stop d :=
  ⟨W.axis { Axis.init with mode := .stopping, goal := .stop 3000, v2 := 400 }, 2, 3000, by decide⟩
theorem witness_AxesTakeMotionCommands_19 : ∃ s : State, ∃ a : Nat, hostOpen s = true ∧ a < 8 ∧ (Ax.axis s a).mode = .waking :=
  ⟨W.axis { Axis.init with mode := .waking }, 2, by decide⟩
theorem witness_AxesTakeMotionCommands_20 : ∃ s : State, ∃ a : Nat, hostOpen s = true ∧ a < 8 ∧ ((Ax.axis s a).mode = .disabled ∨ (Ax.axis s a).mode = .hold ∨ (Ax.axis s a).mode = .restOff ∨ (Ax.axis s a).mode = .restShort ∨ (Ax.axis s a).mode = .fenced) :=
  ⟨W.axis { Axis.init with mode := .hold }, 2, by decide⟩
theorem witness_AxesTakeMotionCommands_21 : ∃ s : State, ∃ a : Nat, hostOpen s = true ∧ a < 8 ∧ ((Ax.axis s a).mode = .moving ∨ (Ax.axis s a).mode = .jogging ∨ (Ax.axis s a).mode = .geared ∨ (Ax.axis s a).mode = .homing) :=
  ⟨W.axis { Axis.init with mode := .moving, goal := .target 50, v2 := 400 }, 2, by decide⟩
theorem witness_AxesTakeMotionCommands_22 : ∃ s : State, ∃ a : Nat, ∃ d : Nat, hostOpen s = true ∧ a < 8 ∧ (Ax.axis s a).mode = .stopping ∧ (Ax.axis s a).goal = .stop d :=
  ⟨W.axis { Axis.init with mode := .stopping, goal := .stop 3000, v2 := 400 }, 2, 3000, by decide⟩
theorem witness_AxesTakeMotionCommands_23 : ∃ s : State, ∃ a : Nat, hostOpen s = true ∧ a < 8 ∧ (Ax.axis s a).mode = .waking :=
  ⟨W.axis { Axis.init with mode := .waking }, 2, by decide⟩
theorem witness_AxesTakeMotionCommands_24 : ∃ s : State, ∃ a : Nat, hostOpen s = true ∧ a < 8 ∧ ((Ax.axis s a).mode = .disabled ∨ (Ax.axis s a).mode = .hold ∨ (Ax.axis s a).mode = .restOff ∨ (Ax.axis s a).mode = .restShort ∨ (Ax.axis s a).mode = .fenced) :=
  ⟨W.axis { Axis.init with mode := .hold }, 2, by decide⟩
theorem witness_AxesTakeMotionCommands_25 : ∃ s : State, ∃ a : Nat, hostOpen s = true ∧ a < 8 ∧ Ax.devOk s = true ∧ (Ax.axis s a).mode = .geared :=
  ⟨W.axis { Axis.init with mode := .geared, goal := .target 50 }, 2, by decide⟩
theorem witness_AxesTakeMotionCommands_26 : ∃ s : State, ∃ a : Nat, hostOpen s = true ∧ a < 8 ∧ ((Ax.axis s a).mode ≠ .geared ∨ Ax.devOk s = false) :=
  ⟨W.up, 2, by decide⟩
theorem witness_GearsLimitsAndEnables_1 : ∃ s : State, ∃ a : Nat, ∃ g : AxGear, hostOpen s = true ∧ a < 8 ∧ Ax.devOk s = true ∧ (Ax.axis s a).gear = some g ∧ (Ax.enc s g.enc).count ≠ Ax.gearReg s a 5 :=
  ⟨W.counting { Axis.init with mode := .geared, gear := some ⟨1, 1, 1, 0, 0, none⟩ }, 2, ⟨1, 1, 1, 0, 0, none⟩, by decide⟩
theorem witness_GearsLimitsAndEnables_2 : ∃ s : State, ∃ a : Nat, ∃ g : AxGear, hostOpen s = true ∧ a < 8 ∧ Ax.devOk s = true ∧ (Ax.axis s a).gear = some g ∧ (Ax.enc s g.enc).count = Ax.gearReg s a 5 :=
  ⟨W.axis { Axis.init with mode := .geared, gear := some ⟨1, 1, 1, 0, 0, none⟩ }, 2, ⟨1, 1, 1, 0, 0, none⟩, by decide⟩
theorem witness_GearsLimitsAndEnables_3 : ∃ s : State, ∃ a : Nat, hostOpen s = true ∧ a < 8 ∧ (Ax.devOk s = false ∨ (Ax.axis s a).gear = none) :=
  ⟨W.up, 2, by decide⟩
theorem witness_GearsLimitsAndEnables_4 : ∃ s : State, ∃ a : Nat, upNow s = true ∧ a < 8 ∧ (Ax.axis s a).mode = .disabled ∧ 0 < (Ax.reg s a D.AX_STANDSTILL_DELAY).toNat :=
  ⟨W.up, 2, by decide⟩
theorem witness_GearsLimitsAndEnables_5 : ∃ s : State, ∃ a : Nat, upNow s = true ∧ a < 8 ∧ (Ax.axis s a).mode = .stopping :=
  ⟨W.axis { Axis.init with mode := .stopping, toDisabled := true, v2 := 400 }, 2, by decide⟩
theorem witness_GearsLimitsAndEnables_6 : ∃ s : State, ∃ a : Nat, upNow s = true ∧ a < 8 ∧ (Ax.axis s a).mode ≠ .disabled ∧ (Ax.axis s a).mode ≠ .stopping :=
  ⟨W.axis { Axis.init with mode := .hold }, 2, by decide⟩
theorem witness_GearsLimitsAndEnables_7 : ∃ s : State, ∃ a : Nat, upNow s = true ∧ a < 8 ∧ ((Ax.axis s a).mode = .hold ∨ ((Ax.axis s a).mode = .restOff ∨ (Ax.axis s a).mode = .restShort) ∨ (Ax.axis s a).mode = .waking) :=
  ⟨W.axis { Axis.init with mode := .hold }, 2, by decide⟩
theorem witness_GearsLimitsAndEnables_8 : ∃ s : State, ∃ a : Nat, upNow s = true ∧ a < 8 ∧ ((Ax.axis s a).mode = .moving ∨ (Ax.axis s a).mode = .jogging ∨ (Ax.axis s a).mode = .geared ∨ (Ax.axis s a).mode = .homing) :=
  ⟨W.axis { Axis.init with mode := .moving, goal := .target 50, v2 := 400 }, 2, by decide⟩
theorem witness_GearsLimitsAndEnables_9 : ∃ s : State, ∃ a : Nat, upNow s = true ∧ a < 8 ∧ (Ax.axis s a).mode = .fenced ∧ State.holdsStatus s (0x160 + a) = true :=
  ⟨{ W.source 0x162 W.opened with ax := { W.up.ax with axes := [(2, { Axis.init with mode := .fenced })] } }, 2, by decide⟩
theorem witness_GearsLimitsAndEnables_10 : ∃ s : State, ∃ a : Nat, upNow s = true ∧ a < 8 ∧ (Ax.axis s a).mode = .fenced ∧ State.holdsStatus s (0x160 + a) = false ∧ (Ax.axis s a).v2 = 0 :=
  ⟨W.axis { Axis.init with mode := .fenced }, 2, by decide⟩
theorem witness_GearsLimitsAndEnables_11 : ∃ s : State, ∃ a : Nat, ∃ v : Int, hostOpen s = true ∧ a < 8 ∧ 1 ≤ v ∧ v ≤ 4000000 ∧ Ax.speedOk s a v = true ∧ Ax.speedOk s a (Ax.reg s a D.AX_JOG_SPEED) = true :=
  ⟨W.up, 2, 5000, by decide⟩
theorem witness_GearsLimitsAndEnables_12 : ∃ s : State, ∃ a : Nat, ∃ v : Int, hostOpen s = true ∧ a < 8 ∧ 1000 ≤ v ∧ v ≤ 4000000000 :=
  ⟨W.up, 2, 5000, by decide⟩
theorem witness_GearsLimitsAndEnables_13 : ∃ s : State, ∃ a : Nat, ∃ v : Int, hostOpen s = true ∧ a < 8 ∧ 1000 ≤ v ∧ v ≤ 4000000000 :=
  ⟨W.axis { Axis.init with mode := .moving, goal := .target 50, v2 := 400 }, 2, 5000, by decide⟩
theorem witness_GearsLimitsAndEnables_14 : ∃ s : State, ∃ a : Nat, ∃ v : Int, hostOpen s = true ∧ a < 8 ∧ (v < 1 ∨ 4000000 < v) :=
  ⟨W.up, 2, 0, by decide⟩
theorem witness_GearsLimitsAndEnables_15 : ∃ s : State, ∃ a : Nat, ∃ v : Int, hostOpen s = true ∧ a < 8 ∧ (v < 1000 ∨ 4000000000 < v) :=
  ⟨W.up, 2, 0, by decide⟩
theorem witness_GearsLimitsAndEnables_16 : ∃ s : State, ∃ a : Nat, ∃ v : Int, hostOpen s = true ∧ a < 8 ∧ (v < 1000 ∨ 4000000000 < v) :=
  ⟨W.up, 2, 0, by decide⟩
theorem witness_GearsLimitsAndEnables_17 : ∃ sub : Nat, sub ≠ D.AX_SPEED ∧ sub ≠ D.AX_ACCEL ∧ sub ≠ D.AX_DECEL :=
  ⟨9, by decide⟩
theorem witness_GearsLimitsAndEnables_18 : ∃ s : State, ∃ a : Nat, ∃ v : Int, hostOpen s = true ∧ a < 8 ∧ -4000000 ≤ v ∧ v ≤ 4000000 ∧ Ax.speedOk s a v = true ∧ Ax.speedOk s a (Ax.reg s a D.AX_SPEED) = true :=
  ⟨W.axis { Axis.init with mode := .jogging, goal := .speed 50 }, 2, -5000, by decide⟩
theorem witness_GearsLimitsAndEnables_19 : ∃ s : State, ∃ a : Nat, ∃ v : Int, hostOpen s = true ∧ a < 8 ∧ (v < -4000000 ∨ 4000000 < v) :=
  ⟨W.up, 2, 5000000, by decide⟩
theorem witness_StepsDelaysAndSwitches_1 : ∃ s : State, ∃ a : Nat, ∃ ev : AxEvent, s.pwr.rails = true ∧ a < 8 ∧ Ax.dueBefore s a (125 * (s.tick + 1)) = true ∧ (Ax.axis s a).event = some ev ∧ ev.isStep = true :=
  ⟨W.axis { Axis.init with mode := .jogging, goal := .speed 50, pos := 5, event := some ⟨100, true, -1, 30, []⟩ }, 2, ⟨100, true, -1, 30, []⟩, by decide⟩
theorem witness_StepsDelaysAndSwitches_2 : ∃ s : State, ∃ a : Nat, ∃ d : Nat, ∃ ev : AxEvent, s.pwr.rails = true ∧ a < 8 ∧ Ax.dueBefore s a (125 * (s.tick + 1)) = true ∧ (Ax.axis s a).event = some ev ∧ ev.isStep = false ∧ (Ax.axis s a).mode = .stopping ∧ (Ax.axis s a).goal = .stop d ∧ (Ax.axis s a).toDisabled = false ∧ 0 < (Ax.reg s a D.AX_STANDSTILL_DELAY).toNat :=
  ⟨W.axis { Axis.init with mode := .stopping, goal := .stop 40, v2 := 9, event := some ⟨100, false, 1, 0, []⟩ }, 2, 40, ⟨100, false, 1, 0, []⟩, by decide⟩
theorem witness_StepsDelaysAndSwitches_3 : ∃ s : State, ∃ a : Nat, Ax.dueBefore s a (125 * (s.tick + 1)) = false :=
  ⟨W.up, 2, by decide⟩
theorem witness_StepsDelaysAndSwitches_4 : ∃ s : State, ∃ a : Nat, s.pwr.rails = true ∧ a < 8 ∧ (Ax.axis s a).mode = .waking ∧ (Ax.axis s a).wakeUntil ≤ s.tick ∧ ((Ax.axis s a).after = .moving ∧ (Ax.axis s a).afterGoal ≠ .target (Ax.axis s a).pos ∨ (Ax.axis s a).after = .jogging) :=
  ⟨W.axis { Axis.init with mode := .waking, after := .moving, afterGoal := .target 9 }, 2, by decide⟩
theorem witness_StepsDelaysAndSwitches_5 : ∃ s : State, ∃ a : Nat, s.pwr.rails = true ∧ a < 8 ∧ (Ax.axis s a).mode = .waking ∧ (Ax.axis s a).wakeUntil ≤ s.tick ∧ (Ax.axis s a).after = .homing :=
  ⟨W.axis { Axis.init with mode := .waking, after := .homing }, 2, by decide⟩
theorem witness_StepsDelaysAndSwitches_6 : ∃ s : State, ∃ a : Nat, s.pwr.rails = true ∧ a < 8 ∧ (Ax.axis s a).mode = .waking ∧ (Ax.axis s a).wakeUntil ≤ s.tick ∧ (Ax.axis s a).after = .geared ∧ (Ax.axis s a).gear = none :=
  ⟨W.axis { Axis.init with mode := .waking, after := .geared }, 2, by decide⟩
theorem witness_StepsDelaysAndSwitches_7 : ∃ s : State, ∃ a : Nat, s.pwr.rails = true ∧ a < 8 ∧ (Ax.axis s a).mode = .waking ∧ (Ax.axis s a).wakeUntil ≤ s.tick ∧ ((Ax.axis s a).after = .moving ∧ (Ax.axis s a).afterGoal = .target (Ax.axis s a).pos ∨ (Ax.axis s a).after = .stopping) ∧ 0 < (Ax.reg s a D.AX_STANDSTILL_DELAY).toNat :=
  ⟨W.axis { Axis.init with mode := .waking, after := .stopping }, 2, by decide⟩
theorem witness_StepsDelaysAndSwitches_8 : ∃ s : State, ∃ a : Nat, ((Ax.axis s a).mode ≠ .waking ∨ s.tick < (Ax.axis s a).wakeUntil) :=
  ⟨W.up, 2, by decide⟩
theorem witness_StepsDelaysAndSwitches_9 : ∃ s : State, ∃ a : Nat, s.pwr.rails = true ∧ a < 8 ∧ Ax.holdOver s a = true :=
  ⟨{ W.axis { Axis.init with mode := .hold } with tick := 9000000 }, 2, by decide⟩
theorem witness_StepsDelaysAndSwitches_10 : ∃ s : State, ∃ a : Nat, Ax.holdOver s a = false :=
  ⟨W.up, 2, by decide⟩
theorem witness_StepsDelaysAndSwitches_11 : ∃ s : State, ∃ a : Nat, ∃ i : Nat, ∃ b : Bool, ∃ active : Bool, s.pwr.rails = true ∧ a < 8 ∧ i < 3 ∧ active = (if Arith.bit (Ax.reg s a D.AX_CTRL).toNat 7 then !b else b) ∧ (Ax.switchOf (Ax.axis s a) i).pin ≠ active ∧ Ax.bouncing s a (Ax.switchOf (Ax.axis s a) i) = false ∧ (Ax.switchOf (Ax.axis s a) i).holdUntil = none ∧ (Ax.axis s a).mode ≠ .homing ∧ (Ax.travel (Ax.axis s a) = 0 ∨ i = 2 ∨ active = false) :=
  ⟨W.axis { Axis.init with mode := .hold }, 2, 1, true, true, by decide⟩
theorem witness_StepsDelaysAndSwitches_12 : ∃ s : State, ∃ a : Nat, ∃ i : Nat, ∃ b : Bool, ∃ active : Bool, s.pwr.rails = true ∧ a < 8 ∧ i < 2 ∧ active = (if Arith.bit (Ax.reg s a D.AX_CTRL).toNat 7 then !b else b) ∧ (Ax.switchOf (Ax.axis s a) i).pin ≠ active ∧ Ax.bouncing s a (Ax.switchOf (Ax.axis s a) i) = false ∧ (Ax.switchOf (Ax.axis s a) i).holdUntil = none ∧ active = true ∧ ((Ax.axis s a).mode = .moving ∨ (Ax.axis s a).mode = .jogging ∨ (Ax.axis s a).mode = .geared) ∧ Arith.bit (Ax.reg s a D.AX_CTRL).toNat 3 = true ∧ Ax.travel (Ax.axis s a) ≠ 0 :=
  ⟨State.wAx (W.axis { Axis.init with mode := .moving, goal := .target 50, v2 := 400 }) (D.iAX + 2) D.AX_CTRL 9, 2, 1, true, true, by decide⟩
theorem witness_StepsDelaysAndSwitches_13 : ∃ s : State, ∃ a : Nat, ∃ b : Bool, ∃ active : Bool, s.pwr.rails = true ∧ a < 8 ∧ active = (if Arith.bit (Ax.reg s a D.AX_CTRL).toNat 7 then !b else b) ∧ (Ax.axis s a).home.pin ≠ active ∧ Ax.bouncing s a (Ax.axis s a).home = false ∧ (Ax.axis s a).home.holdUntil = none ∧ active = true ∧ (Ax.axis s a).mode = .homing ∧ (Ax.axis s a).phase = .search ∧ Ax.byLimit s a = false :=
  ⟨W.axis { Axis.init with mode := .homing, goal := .speed 50, v2 := 400 }, 2, true, true, by decide⟩
theorem witness_StepsDelaysAndSwitches_14 : ∃ s : State, ∃ a : Nat, ∃ i : Nat, ∃ b : Bool, ∃ active : Bool, ∃ k : Nat, s.pwr.rails = true ∧ a < 8 ∧ i < 3 ∧ active = (if Arith.bit (Ax.reg s a D.AX_CTRL).toNat 7 then !b else b) ∧ (Ax.switchOf (Ax.axis s a) i).pin ≠ active ∧ Ax.bouncing s a (Ax.switchOf (Ax.axis s a) i) = false ∧ (Ax.switchOf (Ax.axis s a) i).holdUntil = some k :=
  ⟨W.axis { Axis.init with mode := .hold, limN := ⟨false, false, some 40, false, none⟩ }, 2, 1, true, true, 40, by decide⟩
theorem witness_StepsDelaysAndSwitches_15 : ∃ s : State, ∃ a : Nat, ∃ i : Nat, Ax.bouncing s a (Ax.switchOf (Ax.axis s a) i) = true :=
  ⟨{ W.axis { Axis.init with mode := .hold, limN := ⟨false, false, none, false, some 39⟩ } with tick := 40 }, 2, 1, by decide⟩
theorem witness_StepsDelaysAndSwitches_16 : ∃ s : State, ∃ a : Nat, ∃ i : Nat, ∃ b : Bool, ∃ active : Bool, active = (if Arith.bit (Ax.reg s a D.AX_CTRL).toNat 7 then !b else b) ∧ (Ax.switchOf (Ax.axis s a) i).pin = active :=
  ⟨W.up, 2, 1, false, false, by decide⟩
theorem witness_StepsDelaysAndSwitches_17 : ∃ s : State, ∃ a : Nat, ∃ i : Nat, ∃ k : Nat, s.pwr.rails = true ∧ a < 8 ∧ i < 3 ∧ (Ax.switchOf (Ax.axis s a) i).holdUntil = some k ∧ k ≤ s.tick ∧ (Ax.switchOf (Ax.axis s a) i).pin = (Ax.switchOf (Ax.axis s a) i).level :=
  ⟨{ W.axis { Axis.init with mode := .hold, limN := ⟨true, true, some 40, false, none⟩ } with tick := 40 }, 2, 1, 40, by decide⟩
theorem witness_StepsDelaysAndSwitches_18 : ∃ s : State, ∃ a : Nat, ∃ i : Nat, ∃ k : Nat, s.pwr.rails = true ∧ a < 8 ∧ i < 3 ∧ (Ax.switchOf (Ax.axis s a) i).holdUntil = some k ∧ k ≤ s.tick ∧ (Ax.switchOf (Ax.axis s a) i).pin ≠ (Ax.switchOf (Ax.axis s a) i).level :=
  ⟨{ W.axis { Axis.init with mode := .hold, limN := ⟨true, false, some 40, false, none⟩ } with tick := 40 }, 2, 1, 40, by decide⟩
theorem witness_StepsDelaysAndSwitches_19 : ∃ s : State, ∃ a : Nat, ∃ i : Nat, (Ax.switchOf (Ax.axis s a) i).holdUntil = none :=
  ⟨W.up, 2, 1, by decide⟩
theorem witness_StepsDelaysAndSwitches_20 : ∃ s : State, ∃ a : Nat, ∃ i : Nat, ∃ k : Nat, (Ax.switchOf (Ax.axis s a) i).holdUntil = some k ∧ s.tick < k :=
  ⟨{ W.axis { Axis.init with mode := .hold, limN := ⟨true, false, some 40, false, none⟩ } with tick := 30 }, 2, 1, 40, by decide⟩
theorem witness_EncodersCount_1 : ∃ s : State, ∃ e : Nat, ∃ at4 : Nat, ∃ a : Bool, ∃ b : Bool, ∃ z : Bool, ∃ d : Int, s.pwr.rails = true ∧ e < 8 ∧ (Ax.enc s e).mode = .running ∧ Ax.settled s e (125 * s.tick + at4 % 125) (Ax.enc s e).aAt = true ∧ Ax.settled s e (125 * s.tick + at4 % 125) (Ax.enc s e).bAt = true ∧ Ax.settled s e (125 * s.tick + at4 % 125) (Ax.enc s e).zAt = true ∧ (z = false ∨ (Ax.enc s e).z = true ∨ Arith.bit (Ax.encReg s e D.ENC_CTRL).toNat 4 = false) ∧ Arith.bits (Ax.encReg s e D.ENC_CTRL).toNat 3 2 = 0 ∧ Ax.quadStep (Ax.enc s e).a (Ax.enc s e).b a b = some d ∧ (a, b) ≠ ((Ax.enc s e).a, (Ax.enc s e).b) :=
  ⟨W.counting Axis.init, 1, 3, true, false, false, 1, by decide⟩
theorem witness_EncodersCount_2 : ∃ s : State, ∃ e : Nat, ∃ at4 : Nat, ∃ a : Bool, ∃ b : Bool, ∃ z : Bool, ∃ d : Int, s.pwr.rails = true ∧ e < 8 ∧ (Ax.enc s e).mode = .running ∧ Ax.settled s e (125 * s.tick + at4 % 125) (Ax.enc s e).aAt = true ∧ Ax.settled s e (125 * s.tick + at4 % 125) (Ax.enc s e).bAt = true ∧ Ax.settled s e (125 * s.tick + at4 % 125) (Ax.enc s e).zAt = true ∧ z = true ∧ (Ax.enc s e).z = false ∧ Arith.bit (Ax.encReg s e D.ENC_CTRL).toNat 4 = true ∧ Arith.bits (Ax.encReg s e D.ENC_CTRL).toNat 3 2 = 0 ∧ Ax.quadStep (Ax.enc s e).a (Ax.enc s e).b a b = some d ∧ (a, b) ≠ ((Ax.enc s e).a, (Ax.enc s e).b) :=
  ⟨State.wAx (W.counting Axis.init) (D.iENC + 1) D.ENC_CTRL 17, 1, 3, true, false, true, 1, by decide⟩
theorem witness_EncodersCount_3 : ∃ s : State, ∃ e : Nat, ∃ at4 : Nat, ∃ a : Bool, ∃ b : Bool, ∃ z : Bool, s.pwr.rails = true ∧ e < 8 ∧ (Ax.enc s e).mode = .running ∧ Ax.settled s e (125 * s.tick + at4 % 125) (Ax.enc s e).aAt = true ∧ Ax.settled s e (125 * s.tick + at4 % 125) (Ax.enc s e).bAt = true ∧ Ax.settled s e (125 * s.tick + at4 % 125) (Ax.enc s e).zAt = true ∧ (z = false ∨ (Ax.enc s e).z = true ∨ Arith.bit (Ax.encReg s e D.ENC_CTRL).toNat 4 = false) ∧ Arith.bits (Ax.encReg s e D.ENC_CTRL).toNat 3 2 = 0 ∧ a ≠ (Ax.enc s e).a ∧ b ≠ (Ax.enc s e).b :=
  ⟨W.counting Axis.init, 1, 3, true, true, false, by decide⟩
theorem witness_EncodersCount_4 : ∃ s : State, ∃ e : Nat, ∃ at4 : Nat, ∃ a : Bool, ∃ b : Bool, ∃ z : Bool, s.pwr.rails = true ∧ e < 8 ∧ (Ax.enc s e).mode = .running ∧ Ax.settled s e (125 * s.tick + at4 % 125) (Ax.enc s e).aAt = true ∧ Ax.settled s e (125 * s.tick + at4 % 125) (Ax.enc s e).bAt = true ∧ Ax.settled s e (125 * s.tick + at4 % 125) (Ax.enc s e).zAt = true ∧ (z = false ∨ (Ax.enc s e).z = true ∨ Arith.bit (Ax.encReg s e D.ENC_CTRL).toNat 4 = false) ∧ (Arith.bits (Ax.encReg s e D.ENC_CTRL).toNat 3 2 ≠ 0 ∨ a = (Ax.enc s e).a ∧ b = (Ax.enc s e).b) :=
  ⟨State.wAx (W.counting Axis.init) (D.iENC + 1) D.ENC_CTRL 5, 1, 3, false, false, true, by decide⟩
theorem witness_EncodersCount_5 : ∃ s : State, ∃ e : Nat, ∃ at4 : Nat, s.pwr.rails = true ∧ e < 8 ∧ (Ax.enc s e).mode ≠ .running ∧ Ax.settled s e (125 * s.tick + at4 % 125) (Ax.enc s e).aAt = true ∧ Ax.settled s e (125 * s.tick + at4 % 125) (Ax.enc s e).bAt = true ∧ Ax.settled s e (125 * s.tick + at4 % 125) (Ax.enc s e).zAt = true :=
  ⟨W.up, 1, 3, by decide⟩
theorem witness_EncodersCount_6 : ∃ s : State, ∃ e : Nat, ∃ at4 : Nat, s.pwr.rails = true ∧ e < 8 ∧ Ax.settled s e (125 * s.tick + at4 % 125) (Ax.enc s e).aAt = false ∧ Ax.settled s e (125 * s.tick + at4 % 125) (Ax.enc s e).bAt = false ∧ Ax.settled s e (125 * s.tick + at4 % 125) (Ax.enc s e).zAt = false :=
  ⟨{ State.wAx (W.counting Axis.init) (D.iENC + 1) D.ENC_FILTER 9 with tick := 4, ax := { (State.wAx (W.counting Axis.init) (D.iENC + 1) D.ENC_FILTER 9).ax with encs := [(1, { Enc.init with mode := .running, aAt := some 500, bAt := some 500, zAt := some 500 })] } }, 1, 3, by decide⟩
theorem witness_EncodersCount_7 : ∃ s : State, ∃ e : Nat, s.pwr.rails = true ∧ e < 8 ∧ (Ax.enc s e).mode = .running ∧ (Ax.enc s e).z = false ∧ Arith.bit (Ax.encReg s e D.ENC_CTRL).toNat 4 = true :=
  ⟨State.wAx (W.counting Axis.init) (D.iENC + 1) D.ENC_CTRL 17, 1, by decide⟩
theorem witness_EncodersCount_8 : ∃ s : State, ∃ e : Nat, s.pwr.rails = true ∧ e < 8 ∧ (Ax.enc s e).z = false ∧ ((Ax.enc s e).mode ≠ .running ∨ Arith.bit (Ax.encReg s e D.ENC_CTRL).toNat 4 = false) :=
  ⟨W.counting Axis.init, 1, by decide⟩
theorem witness_EncodersCount_9 : ∃ s : State, ∃ e : Nat, (Ax.enc s e).z = true :=
  ⟨{ W.up with ax := { W.up.ax with encs := [(1, { Enc.init with mode := .running, z := true })] } }, 1, by decide⟩
theorem witness_EncodersCount_10 : ∃ s : State, ∃ e : Nat, s.pwr.rails = true ∧ e < 8 ∧ (Ax.enc s e).mode = .running ∧ Arith.bits (Ax.encReg s e D.ENC_CTRL).toNat 3 2 ≠ 0 ∧ ((Ax.enc s e).tooth = none ∨ (Ax.enc s e).gap = none) :=
  ⟨State.wAx (W.counting Axis.init) (D.iENC + 1) D.ENC_CTRL 5, 1, by decide⟩
theorem witness_EncodersCount_11 : ∃ s : State, ∃ e : Nat, ∃ at4 : Nat, ∃ l : Nat, ∃ p : Nat, s.pwr.rails = true ∧ e < 8 ∧ (Ax.enc s e).mode = .running ∧ (Ax.enc s e).tooth = some l ∧ (Ax.enc s e).gap = some p ∧ (Arith.bits (Ax.encReg s e D.ENC_CTRL).toNat 3 2 = 1 ∧ 256 * (125 * s.tick + at4 % 125 - l) ≤ (Ax.encReg s e D.ENC_GAP_RATIO).toNat * p ∨ Arith.bits (Ax.encReg s e D.ENC_CTRL).toNat 3 2 = 2 ∧ 256 * p ≤ (Ax.encReg s e D.ENC_GAP_RATIO).toNat * (125 * s.tick + at4 % 125 - l)) :=
  ⟨State.wAx { W.up with ax := { W.up.ax with encs := [(1, { Enc.init with mode := .running, tooth := some 4, gap := some 5 })] } } (D.iENC + 1) D.ENC_CTRL 5, 1, 9, 4, 5, by decide⟩
theorem witness_EncodersCount_12 : ∃ s : State, ∃ e : Nat, ∃ at4 : Nat, ∃ l : Nat, ∃ p : Nat, s.pwr.rails = true ∧ e < 8 ∧ (Ax.enc s e).mode = .running ∧ (Ax.enc s e).tooth = some l ∧ (Ax.enc s e).gap = some p ∧ Arith.bits (Ax.encReg s e D.ENC_CTRL).toNat 3 2 = 1 ∧ (Ax.encReg s e D.ENC_GAP_RATIO).toNat * p < 256 * (125 * s.tick + at4 % 125 - l) :=
  ⟨State.wAx { W.up with ax := { W.up.ax with encs := [(1, { Enc.init with mode := .running, tooth := some 4, gap := some 5 })] } } (D.iENC + 1) D.ENC_CTRL 5, 1, 99, 4, 5, by decide⟩
theorem witness_EncodersCount_13 : ∃ s : State, ∃ e : Nat, ∃ at4 : Nat, ∃ l : Nat, ∃ p : Nat, s.pwr.rails = true ∧ e < 8 ∧ (Ax.enc s e).mode = .running ∧ (Ax.enc s e).tooth = some l ∧ (Ax.enc s e).gap = some p ∧ Arith.bits (Ax.encReg s e D.ENC_CTRL).toNat 3 2 = 2 ∧ (Ax.encReg s e D.ENC_GAP_RATIO).toNat * (125 * s.tick + at4 % 125 - l) < 256 * p :=
  ⟨State.wAx { W.up with ax := { W.up.ax with encs := [(1, { Enc.init with mode := .running, tooth := some 4, gap := some 50 })] } } (D.iENC + 1) D.ENC_CTRL 9, 1, 9, 4, 50, by decide⟩
theorem witness_EncodersCount_14 : ∃ s : State, ∃ e : Nat, ((Ax.enc s e).mode ≠ .running ∨ Arith.bits (Ax.encReg s e D.ENC_CTRL).toNat 3 2 = 0) :=
  ⟨W.up, 1, by decide⟩
theorem witness_EncodersCount_15 : ∃ s : State, ∃ e : Nat, ∃ k : Nat, s.pwr.rails = true ∧ e < 8 ∧ (Ax.enc s e).lastEdge = some k ∧ k + 250 * (Ax.encReg s e D.ENC_SPEED_TIMEOUT).toNat ≤ 125 * s.tick + 124 :=
  ⟨{ W.up with tick := 9000000, ax := { W.up.ax with encs := [(1, { Enc.init with mode := .running, lastEdge := some 40, speed := 5 })] } }, 1, 40, by decide⟩
theorem witness_EncodersCount_16 : ∃ s : State, ∃ e : Nat, (((Ax.enc s e).lastEdge.map fun k => decide (k + 250 * (Ax.encReg s e D.ENC_SPEED_TIMEOUT).toNat ≤ 125 * s.tick + 124)).getD false) = false :=
  ⟨W.up, 1, by decide⟩
theorem witness_EncodersCount_17 : ∃ s : State, ∃ u : Nat, hostOpen s = true ∧ u < 16 ∧ ((Ax.cmp s u).mode = .disarmed ∨ (Ax.cmp s u).mode = .done) ∧ (Ax.diff (Ax.cmpReg s u D.CMP_POSITION) (Ax.sourceValue s (Ax.cmpSource s u))) ≠ 0 ∧ (Ax.sourceDir s (Ax.cmpSource s u) = 0 ∨ (Ax.diff (Ax.cmpReg s u D.CMP_POSITION) (Ax.sourceValue s (Ax.cmpSource s u))) < 0 ∧ Ax.sourceDir s (Ax.cmpSource s u) < 0 ∨ 0 < (Ax.diff (Ax.cmpReg s u D.CMP_POSITION) (Ax.sourceValue s (Ax.cmpSource s u))) ∧ 0 < Ax.sourceDir s (Ax.cmpSource s u)) :=
  ⟨State.wAx (State.wAx (W.axis { Axis.init with mode := .disabled }) (D.iCMP + 9) D.CMP_POSITION 30) (D.iCMP + 9) D.CMP_MODE 0, 9, by decide⟩
theorem witness_EncodersCount_18 : ∃ s : State, ∃ u : Nat, hostOpen s = true ∧ u < 16 ∧ ((Ax.cmp s u).mode = .disarmed ∨ (Ax.cmp s u).mode = .done) ∧ (Ax.diff (Ax.cmpReg s u D.CMP_POSITION) (Ax.sourceValue s (Ax.cmpSource s u))) = 0 ∧ Arith.bits (Ax.cmpReg s u D.CMP_MODE).toNat 6 5 = 0 :=
  ⟨W.up, 9, by decide⟩
theorem witness_EncodersCount_19 : ∃ s : State, ∃ u : Nat, hostOpen s = true ∧ u < 16 ∧ ((Ax.cmp s u).mode = .disarmed ∨ (Ax.cmp s u).mode = .done) ∧ (Ax.diff (Ax.cmpReg s u D.CMP_POSITION) (Ax.sourceValue s (Ax.cmpSource s u))) = 0 ∧ Arith.bits (Ax.cmpReg s u D.CMP_MODE).toNat 6 5 ≠ 0 :=
  ⟨State.wAx (State.wAx (W.axis { Axis.init with mode := .disabled }) (D.iCMP + 9) D.CMP_POSITION 0) (D.iCMP + 9) D.CMP_MODE 32, 9, by decide⟩
theorem witness_EncodersCount_20 : ∃ s : State, ∃ u : Nat, hostOpen s = true ∧ u < 16 ∧ ((Ax.cmp s u).mode = .disarmed ∨ (Ax.cmp s u).mode = .done) ∧ ((Ax.diff (Ax.cmpReg s u D.CMP_POSITION) (Ax.sourceValue s (Ax.cmpSource s u))) < 0 ∧ 0 < Ax.sourceDir s (Ax.cmpSource s u) ∨ 0 < (Ax.diff (Ax.cmpReg s u D.CMP_POSITION) (Ax.sourceValue s (Ax.cmpSource s u))) ∧ Ax.sourceDir s (Ax.cmpSource s u) < 0) ∧ Arith.bit (Ax.cmpReg s u D.CMP_MODE).toNat 7 = false :=
  ⟨State.wAx (State.wAx (W.axis { Axis.init with mode := .jogging, goal := .speed 50, v2 := 400 }) (D.iCMP + 9) D.CMP_POSITION (-30)) (D.iCMP + 9) D.CMP_MODE 2, 9, by decide⟩
theorem witness_EncodersCount_21 : ∃ s : State, ∃ u : Nat, hostOpen s = true ∧ u < 16 ∧ ((Ax.cmp s u).mode = .disarmed ∨ (Ax.cmp s u).mode = .done) ∧ ((Ax.diff (Ax.cmpReg s u D.CMP_POSITION) (Ax.sourceValue s (Ax.cmpSource s u))) < 0 ∧ 0 < Ax.sourceDir s (Ax.cmpSource s u) ∨ 0 < (Ax.diff (Ax.cmpReg s u D.CMP_POSITION) (Ax.sourceValue s (Ax.cmpSource s u))) ∧ Ax.sourceDir s (Ax.cmpSource s u) < 0) ∧ Arith.bit (Ax.cmpReg s u D.CMP_MODE).toNat 7 = true :=
  ⟨State.wAx (State.wAx (W.axis { Axis.init with mode := .jogging, goal := .speed 50, v2 := 400 }) (D.iCMP + 9) D.CMP_POSITION (-30)) (D.iCMP + 9) D.CMP_MODE 130, 9, by decide⟩
theorem witness_EncodersCount_22 : ∃ s : State, ∃ u : Nat, hostOpen s = true ∧ u < 16 ∧ ((Ax.cmp s u).mode = .armed ∨ (Ax.cmp s u).mode = .behind ∨ (Ax.cmp s u).mode = .fenced) :=
  ⟨W.compare { Cmp.init with mode := .armed }, 9, by decide⟩
theorem witness_EncodersCount_23 : ∃ s : State, ∃ u : Nat, hostOpen s = true ∧ u < 16 ∧ ((Ax.cmp s u).mode = .armed ∨ (Ax.cmp s u).mode = .behind ∨ (Ax.cmp s u).mode = .fenced ∧ State.holdsStatus s (0x170 + u) = false) :=
  ⟨W.compare { Cmp.init with mode := .armed }, 9, by decide⟩
theorem witness_EncodersCount_24 : ∃ s : State, ∃ u : Nat, hostOpen s = true ∧ u < 16 ∧ ((Ax.cmp s u).mode = .disarmed ∨ (Ax.cmp s u).mode = .done ∨ (Ax.cmp s u).mode = .fenced ∧ State.holdsStatus s (0x170 + u) = true) :=
  ⟨W.up, 9, by decide⟩
theorem witness_EncodersCount_25 : ∃ s : State, ∃ u : Nat, ∃ v : Int, hostOpen s = true ∧ u < 16 ∧ -2147483648 ≤ v ∧ v ≤ 2147483647 ∧ (Ax.cmp s u).mode ≠ .armed ∧ (Ax.cmp s u).mode ≠ .behind :=
  ⟨W.compare { Cmp.init with mode := .done }, 9, -30, by decide⟩
theorem witness_EncodersCount_26 : ∃ s : State, ∃ u : Nat, ∃ v : Int, hostOpen s = true ∧ u < 16 ∧ -2147483648 ≤ v ∧ v ≤ 2147483647 ∧ ((Ax.cmp s u).mode = .armed ∨ (Ax.cmp s u).mode = .behind) ∧ Ax.sourceDir s (Ax.cmpSource s u) = 0 ∧ Ax.diff v (Ax.sourceValue s (Ax.cmpSource s u)) ≠ 0 :=
  ⟨W.compare { Cmp.init with mode := .behind }, 9, -30, by decide⟩
theorem witness_EncodersCount_27 : ∃ s : State, ∃ u : Nat, s.pwr.rails = true ∧ u < 16 ∧ (Ax.cmp s u).pulseUntil < 125 * (s.tick + 1) :=
  ⟨W.compare { Cmp.init with pulseUntil := 90 }, 9, by decide⟩
theorem witness_EncodersCount_28 : ∃ s : State, ∃ u : Nat, 125 * (s.tick + 1) ≤ (Ax.cmp s u).pulseUntil :=
  ⟨W.compare { Cmp.init with pulseUntil := 900 }, 9, by decide⟩
theorem witness_PortsAnswerAndStamp_1 : ∃ s : State, ∃ p : Nat, ∃ f : List Byte, s.pwr.rails = true ∧ p < 2 ∧ Net.up s p = true ∧ Net.isArp s p f = true ∧ Net.blocked s p 60 = false :=
  ⟨W.linkedPort, 1, W.arp, by decide⟩
theorem witness_PortsAnswerAndStamp_2 : ∃ s : State, ∃ p : Nat, ∃ f : List Byte, s.pwr.rails = true ∧ p < 2 ∧ Net.up s p = true ∧ Net.isArp s p f = true ∧ Net.blocked s p 60 = true :=
  ⟨W.queued ⟨0, 5, some 100, true, [], some false, false⟩, 1, W.arp, by decide⟩
theorem witness_PortsAnswerAndStamp_3 : ∃ s : State, ∃ p : Nat, ∃ f : List Byte, s.pwr.rails = true ∧ p < 2 ∧ Net.up s p = true ∧ Net.isOther s p f = true :=
  ⟨W.linkedPort, 1, List.replicate 60 0, by decide⟩
theorem witness_PortsAnswerAndStamp_4 : ∃ s : State, ∃ p : Nat, ∃ f : List Byte, (Net.up s p = false ∨ Net.isArp s p f = false ∧ Net.isOther s p f = false) :=
  ⟨W.linkedPort, 1, W.echo, by decide⟩
theorem witness_PortsAnswerAndStamp_5 : ∃ s : State, ∃ p : Nat, ∃ f : List Byte, s.pwr.rails = true ∧ p < 2 ∧ Net.up s p = true ∧ Net.isEcho s p f = true ∧ Net.routed s p (Net.be f 26 4) = true ∧ Net.waits s p = none :=
  ⟨W.linkedPort, 1, W.echo, by decide⟩
theorem witness_PortsAnswerAndStamp_6 : ∃ s : State, ∃ p : Nat, ∃ f : List Byte, s.pwr.rails = true ∧ p < 2 ∧ Net.up s p = true ∧ Net.isEcho s p f = true ∧ Net.routed s p (Net.be f 26 4) = false :=
  ⟨State.wNet W.linkedPort (D.iNET_PORT + 1) D.NET_PORT_NETMASK 0xFFFFFFFF, 1, W.echo, by decide⟩
theorem witness_PortsAnswerAndStamp_7 : ∃ s : State, ∃ p : Nat, ∃ f : List Byte, s.pwr.rails = true ∧ p < 2 ∧ Net.up s p = true ∧ Net.isOther s p f = true :=
  ⟨W.linkedPort, 1, List.replicate 60 0, by decide⟩
theorem witness_PortsAnswerAndStamp_8 : ∃ s : State, ∃ p : Nat, ∃ f : List Byte, (Net.up s p = false ∨ Net.isEcho s p f = false ∧ Net.isOther s p f = false) :=
  ⟨W.linkedPort, 1, W.arp, by decide⟩
theorem witness_PortsAnswerAndStamp_9 : ∃ s : State, ∃ p : Nat, ∃ pos : Nat, ∃ f : List Byte, s.pwr.rails = true ∧ p < 2 ∧ Net.up s p = true ∧ Net.isPtp s p f = true ∧ pos = (State.rNet s D.iNET_RX D.NET_RX_POS).toNat ∧ (pos + 2 ^ 32 - (State.rNet s D.iNET_RX D.NET_RX_RD).toNat) % 2 ^ 32 ≠ 256 :=
  ⟨W.linkedPort, 1, 0, W.ptp, by decide⟩
theorem witness_PortsAnswerAndStamp_10 : ∃ s : State, ∃ p : Nat, ∃ pos : Nat, ∃ f : List Byte, s.pwr.rails = true ∧ p < 2 ∧ Net.up s p = true ∧ Net.isPtp s p f = true ∧ pos = (State.rNet s D.iNET_RX D.NET_RX_POS).toNat ∧ (pos + 2 ^ 32 - (State.rNet s D.iNET_RX D.NET_RX_RD).toNat) % 2 ^ 32 = 256 :=
  ⟨State.wNet W.linkedPort D.iNET_RX D.NET_RX_POS 256, 1, 256, W.ptp, by decide⟩
theorem witness_PortsAnswerAndStamp_11 : ∃ s : State, ∃ p : Nat, ∃ f : List Byte, s.pwr.rails = true ∧ p < 2 ∧ Net.up s p = true ∧ Net.isOther s p f = true :=
  ⟨W.linkedPort, 1, List.replicate 60 0, by decide⟩
theorem witness_PortsAnswerAndStamp_12 : ∃ s : State, ∃ p : Nat, ∃ f : List Byte, (Net.up s p = false ∨ Net.isPtp s p f = false ∧ Net.isOther s p f = false) :=
  ⟨W.linkedPort, 1, W.arp, by decide⟩
theorem witness_PortsAnswerAndStamp_13 : ∃ s : State, ∃ p : Nat, s.pwr.rails = true ∧ p < 2 ∧ Net.up s p = true :=
  ⟨W.linkedPort, 1, by decide⟩
theorem witness_PortsAnswerAndStamp_14 : ∃ s : State, ∃ p : Nat, Net.up s p = false :=
  ⟨W.up, 1, by decide⟩
theorem witness_TheClockIsWrittenAndServoed_1 : ∃ s : State, ∃ v : Nat, hostOpen s = true ∧ v < 2 ^ 64 :=
  ⟨W.up, 2 ^ 40, by decide⟩
theorem witness_TheClockIsWrittenAndServoed_2 : ∃ s : State, ∃ v : Nat, hostOpen s = true ∧ 2 ^ 64 ≤ v :=
  ⟨W.up, 2 ^ 64, by decide⟩
theorem witness_TheClockIsWrittenAndServoed_3 : ∃ s : State, ∃ o : Int, ∃ m : Int, ∃ j : Int, ∃ i : Int, ∃ b : Int, ∃ a : Int, hostOpen s = true ∧ -9223372036854775808 ≤ o ∧ o ≤ 9223372036854775807 ∧ o.natAbs ≤ (Net.clkReg s D.NET_CLK_STEP_THRESH).toNat * 65536 ∧ m = Net.clkReg s D.NET_CLK_ADJ_MAX ∧ 0 ≤ m ∧ m ≤ 500000 ∧ 0 ≤ Net.clkReg s D.NET_CLK_INCR_NOM ∧ Net.clkReg s D.NET_CLK_INCR_NOM ≤ 17609365913 ∧ j = Arith.divRound (Net.clkReg s D.NET_CLK_INTEGRAL * 2 ^ 32 + Net.clkReg s D.NET_CLK_KI * o) (2 ^ 32) ∧ i = Arith.clamp (-m) m j ∧ b = Arith.divRound (Net.clkReg s D.NET_CLK_KP * o + i * 2 ^ 32) (2 ^ 32) ∧ a = Arith.clamp (-m) m b :=
  ⟨W.up, 65536, 100000, 0, 0, 1, 1, by decide⟩
theorem witness_TheClockIsWrittenAndServoed_4 : ∃ s : State, ∃ o : Int, hostOpen s = true ∧ -9223372036854775808 ≤ o ∧ o ≤ 9223372036854775807 ∧ (Net.clkReg s D.NET_CLK_STEP_THRESH).toNat * 65536 < o.natAbs :=
  ⟨W.up, 2 ^ 50, by decide⟩
theorem witness_TheClockIsWrittenAndServoed_5 : ∃ s : State, ∃ o : Int, hostOpen s = true ∧ (o < -9223372036854775808 ∨ 9223372036854775807 < o) :=
  ⟨W.up, 2 ^ 63, by decide⟩
theorem witness_TheClockIsWrittenAndServoed_6 : ∃ s : State, ∃ phi : Int, s.pwr.rails = true ∧ Net.measureDue s = true ∧ phi = Arith.toSigned 64 (Arith.toUnsigned 64 ((s.net.clk : Int) - (Net.sync s D.NET_TSYNC_REF_NETCLK + ((s.tick : Int) - Net.sync s D.NET_TSYNC_REF_TICK) * 500) * 2 ^ 32)) :=
  ⟨State.wNet W.up D.iNET_TSYNC D.NET_TSYNC_CTRL 1, 0, by decide⟩
theorem witness_TheClockIsWrittenAndServoed_7 : ∃ s : State, ∃ phi : Int, s.pwr.rails = true ∧ Net.measureDue s = true ∧ phi = Arith.toSigned 64 (Arith.toUnsigned 64 ((s.net.clk : Int) - (Net.sync s D.NET_TSYNC_REF_NETCLK + ((s.tick : Int) - Net.sync s D.NET_TSYNC_REF_TICK) * 500) * 2 ^ 32)) ∧ Net.sync s D.NET_TSYNC_STATE = 1 ∧ phi.natAbs ≤ (Net.sync s D.NET_TSYNC_LOCK_WINDOW).toNat * 2 ^ 32 ∧ 15 ≤ s.net.inWindow :=
  ⟨(fun s : State => { s with net := { s.net with inWindow := 15 } }) (State.wNet (State.wNet W.up D.iNET_TSYNC D.NET_TSYNC_CTRL 1) D.iNET_TSYNC D.NET_TSYNC_STATE 1), 0, by decide⟩
theorem witness_TheClockIsWrittenAndServoed_8 : ∃ s : State, ∃ phi : Int, s.pwr.rails = true ∧ Net.measureDue s = true ∧ phi = Arith.toSigned 64 (Arith.toUnsigned 64 ((s.net.clk : Int) - (Net.sync s D.NET_TSYNC_REF_NETCLK + ((s.tick : Int) - Net.sync s D.NET_TSYNC_REF_TICK) * 500) * 2 ^ 32)) ∧ Net.sync s D.NET_TSYNC_STATE = 2 ∧ 4 * (Net.sync s D.NET_TSYNC_LOCK_WINDOW).toNat * 2 ^ 32 < phi.natAbs :=
  ⟨(fun s : State => { s with net := { s.net with clk := 2 ^ 60 } }) (State.wNet (State.wNet W.up D.iNET_TSYNC D.NET_TSYNC_CTRL 1) D.iNET_TSYNC D.NET_TSYNC_STATE 2), 2 ^ 60, by decide⟩
theorem witness_TheClockIsWrittenAndServoed_9 : ∃ s : State, Net.measureDue s = false :=
  ⟨W.up, by decide⟩
theorem witness_TheClockIsWrittenAndServoed_10 : ∃ s : State, upNow s = true ∧ Arith.bit (Net.sync s D.NET_TSYNC_CTRL).toNat 0 = false :=
  ⟨W.up, by decide⟩
theorem witness_TheClockIsWrittenAndServoed_11 : ∃ s : State, upNow s = true ∧ Arith.bit (Net.sync s D.NET_TSYNC_CTRL).toNat 0 = true :=
  ⟨State.wNet W.up D.iNET_TSYNC D.NET_TSYNC_CTRL 1, by decide⟩
theorem witness_TheClockIsWrittenAndServoed_12 : ∃ s : State, upNow s = true :=
  ⟨W.up, by decide⟩
theorem witness_HostFramesKeepTheirLaunch_1 : ∃ s : State, ∃ p : Nat, ∃ l : Nat, ∃ f : TxFrame, ∃ rest : List TxFrame, s.pwr.rails = true ∧ p < 2 ∧ Net.queue s p = f :: rest ∧ f.launch = some l ∧ f.verdict = none ∧ 2000 ≤ Arith.toSigned 32 (l + 2 ^ 32 - Net.ns s) :=
  ⟨W.queued ⟨0, 5, some 5000, true, [], none, false⟩, 1, 5000, ⟨0, 5, some 5000, true, [], none, false⟩, [], by decide⟩
theorem witness_HostFramesKeepTheirLaunch_2 : ∃ s : State, ∃ p : Nat, ∃ l : Nat, ∃ f : TxFrame, ∃ rest : List TxFrame, s.pwr.rails = true ∧ p < 2 ∧ Net.queue s p = f :: rest ∧ f.launch = some l ∧ f.verdict = none ∧ Arith.toSigned 32 (l + 2 ^ 32 - Net.ns s) < 2000 ∧ Arith.bit (Net.port s p D.NET_PORT_CTRL).toNat 3 = false ∧ f.path < 256 :=
  ⟨W.queued ⟨0, 5, some 50, true, [], none, false⟩, 1, 50, ⟨0, 5, some 50, true, [], none, false⟩, [], by decide⟩
theorem witness_HostFramesKeepTheirLaunch_3 : ∃ s : State, ∃ p : Nat, ∃ l : Nat, ∃ f : TxFrame, ∃ rest : List TxFrame, s.pwr.rails = true ∧ p < 2 ∧ Net.queue s p = f :: rest ∧ f.launch = some l ∧ f.verdict = none ∧ Arith.toSigned 32 (l + 2 ^ 32 - Net.ns s) < 2000 ∧ Arith.bit (Net.port s p D.NET_PORT_CTRL).toNat 3 = true :=
  ⟨State.wNet (W.queued ⟨0, 5, some 50, true, [], none, false⟩) (D.iNET_PORT + 1) D.NET_PORT_CTRL 9, 1, 50, ⟨0, 5, some 50, true, [], none, false⟩, [], by decide⟩
theorem witness_HostFramesKeepTheirLaunch_4 : ∃ s : State, ∃ p : Nat, ((Net.queue s p).head?.map fun f => f.launch.isSome && f.verdict.isNone) ≠ some true :=
  ⟨W.up, 1, by decide⟩
theorem witness_HostFramesKeepTheirLaunch_5 : ∃ s : State, ∃ p : Nat, ∃ off : Nat, ∃ f : TxFrame, ∃ rest : List TxFrame, s.pwr.rails = true ∧ p < 2 ∧ Net.queue s p = f :: rest ∧ Net.up s p = true ∧ s.net.waiting = [] ∧ (f.launch = none ∧ f.verdict ≠ some true ∨ f.verdict = some false ∧ (f.launch.map fun l => f.overtaken || decide ((Arith.toSigned 32 (Net.egress s p off / 2 ^ 32 + 2 ^ 32 - l)).natAbs ≤ 8)) = some true) ∧ f.path < 256 :=
  ⟨W.queued ⟨0, 5, none, true, [], none, false⟩, 1, 7, ⟨0, 5, none, true, [], none, false⟩, [], by decide⟩
theorem witness_HostFramesKeepTheirLaunch_6 : ∃ s : State, ∃ p : Nat, ∃ l : Nat, ∃ f : TxFrame, ∃ rest : List TxFrame, s.pwr.rails = true ∧ p < 2 ∧ Net.queue s p = f :: rest ∧ Net.up s p = true ∧ s.net.waiting = [] ∧ f.launch = some l ∧ f.verdict = some true ∧ f.path < 256 :=
  ⟨W.queued ⟨0, 5, some 50, true, [], some true, false⟩, 1, 50, ⟨0, 5, some 50, true, [], some true, false⟩, [], by decide⟩
theorem witness_HostFramesKeepTheirLaunch_7 : ∃ s : State, ∃ p : Nat, ∃ off : Nat, Net.mayDepart s p off = false :=
  ⟨W.up, 1, 7, by decide⟩
theorem witness_HostFramesKeepTheirLaunch_8 : ∃ s : State, ∃ p : Nat, s.pwr.rails = true ∧ p < 2 ∧ Arith.bit (Net.port s p D.NET_PORT_LINK).toNat 0 = true ∧ (Net.queue s p).all (fun f => decide (f.path < 256)) = true :=
  ⟨W.queued ⟨0, 5, none, true, [], none, false⟩, 1, by decide⟩
theorem witness_HostFramesKeepTheirLaunch_9 : ∃ s : State, ∃ p : Nat, Arith.bit (Net.port s p D.NET_PORT_LINK).toNat 0 = false :=
  ⟨W.up, 1, by decide⟩
theorem witness_HostFramesKeepTheirLaunch_10 : ∃ s : State, ∃ p : Nat, s.pwr.rails = true ∧ p < 2 ∧ Arith.bit (Net.port s p D.NET_PORT_CTRL).toNat 0 = true ∧ Arith.bit (Net.port s p D.NET_PORT_LINK).toNat 0 = false :=
  ⟨W.up, 1, by decide⟩
theorem witness_HostFramesKeepTheirLaunch_11 : ∃ s : State, ∃ p : Nat, (Arith.bit (Net.port s p D.NET_PORT_CTRL).toNat 0 = false ∨ Arith.bit (Net.port s p D.NET_PORT_LINK).toNat 0 = true) :=
  ⟨W.linkedPort, 1, by decide⟩
theorem witness_StepsComplete_1 : ∃ s : State, ∃ c : Instr, ofCatalogue c = true ∧ mayIssue s = false :=
  ⟨W.up, .halt, by decide⟩
theorem witness_StepsComplete_2 : ∃ s : State, ∃ mask : Nat, s.pwr.rails = true ∧ mayIssue s = true ∧ 0 < mask ∧ mask < 2 ^ 24 ∧ Seq.lateCtx s mask = none :=
  ⟨W.issuing [], 1, by decide⟩
theorem witness_StepsComplete_3 : ∃ s : State, ∃ mask : Nat, ∃ n : Nat, s.pwr.rails = true ∧ mayIssue s = true ∧ 0 < mask ∧ mask < 2 ^ 24 ∧ Seq.lateCtx s mask = some n :=
  ⟨W.lateStaged, 1, 0, by decide⟩
theorem witness_StepsComplete_4 : ∃ mask : Nat, (mask = 0 ∨ 2 ^ 24 ≤ mask) :=
  ⟨0, by decide⟩
theorem witness_StepsComplete_5 : ∃ s : State, ∃ mask : Nat, ∃ timeout : Nat, s.pwr.rails = true ∧ mayIssue s = true ∧ 0 < mask ∧ mask < 2 ^ 24 ∧ timeout < 2 ^ 32 ∧ ((State.startedSet s).any fun c => Arith.bit mask c) = false :=
  ⟨W.issuing [], 1, 90, by decide⟩
theorem witness_StepsComplete_6 : ∃ s : State, ∃ mask : Nat, ∃ timeout : Nat, s.pwr.rails = true ∧ mayIssue s = true ∧ 0 < mask ∧ mask < 2 ^ 24 ∧ timeout < 2 ^ 32 ∧ ((State.startedSet s).any fun c => Arith.bit mask c) = true :=
  ⟨{ W.issuing [] with cat := { (W.issuing []).cat with chMode := [(0, .started)] } }, 1, 90, by decide⟩
theorem witness_StepsComplete_7 : ∃ s : State, ∃ mask : Nat, ∃ timeout : Nat, s.pwr.rails = true ∧ mayIssue s = true ∧ mask < 2 ^ 24 ∧ timeout < 2 ^ 32 ∧ State.layerOpen s = false :=
  ⟨W.issuing [], 0, 90, by decide⟩
theorem witness_StepsComplete_8 : ∃ s : State, ∃ mask : Nat, ∃ timeout : Nat, s.pwr.rails = true ∧ mayIssue s = true ∧ mask < 2 ^ 24 ∧ timeout < 2 ^ 32 ∧ State.layerOpen s = true :=
  ⟨State.wCat (W.issuing []) D.iCAT_STATUS D.CAT_STATUS_LAYER_OPEN 1, 0, 90, by decide⟩
theorem witness_StepsComplete_9 : ∃ layer : Bool, ∃ mask : Nat, (layer = false ∧ mask = 0 ∨ 2 ^ 24 ≤ mask) :=
  ⟨false, 0, by decide⟩
theorem witness_StepsComplete_10 : ∃ s : State, ∃ mask : Nat, ∃ timeout : Nat, s.pwr.rails = true ∧ mayIssue s = true ∧ 0 < mask ∧ mask < 256 ∧ timeout < 2 ^ 32 ∧ ((List.range 8).all fun a => !Arith.bit mask a || Ax.standstill s a) = true :=
  ⟨W.issuing [], 4, 90, by decide⟩
theorem witness_StepsComplete_11 : ∃ s : State, ∃ mask : Nat, ∃ timeout : Nat, s.pwr.rails = true ∧ mayIssue s = true ∧ 0 < mask ∧ mask < 256 ∧ timeout < 2 ^ 32 ∧ ((List.range 8).all fun a => !Arith.bit mask a || Ax.standstill s a) = false :=
  ⟨W.issuing [(2, { Axis.init with mode := .jogging })], 4, 90, by decide⟩
theorem witness_StepsComplete_12 : ∃ mask : Nat, mask = 0 :=
  ⟨0, by decide⟩
theorem witness_StepsComplete_13 : ∃ s : State, ∃ src : Nat, ∃ timeout : Nat, ∃ level : Bool, s.pwr.rails = true ∧ mayIssue s = true ∧ 0x20 ≤ src ∧ src < 0x24 ∧ timeout < 2 ^ 32 ∧ Tab.get (fun _ => false) s.cat.seqIn (src - 0x20) = level :=
  ⟨W.issuing [], 0x21, 90, false, by decide⟩
theorem witness_StepsComplete_14 : ∃ s : State, ∃ src : Nat, ∃ timeout : Nat, ∃ level : Bool, s.pwr.rails = true ∧ mayIssue s = true ∧ 0x20 ≤ src ∧ src < 0x24 ∧ timeout < 2 ^ 32 ∧ Tab.get (fun _ => false) s.cat.seqIn (src - 0x20) ≠ level :=
  ⟨W.issuing [], 0x21, 90, true, by decide⟩
theorem witness_StepsComplete_15 : ∃ s : State, ∃ src : Nat, ∃ timeout : Nat, s.pwr.rails = true ∧ mayIssue s = true ∧ 0x20 ≤ src ∧ src < 0x24 ∧ timeout < 2 ^ 32 :=
  ⟨W.issuing [], 0x21, 90, by decide⟩
theorem witness_StepsComplete_16 : ∃ s : State, ∃ src : Nat, ∃ timeout : Nat, s.pwr.rails = true ∧ mayIssue s = true ∧ src < 0x18 ∧ timeout < 2 ^ 32 ∧ s.ax.now.contains src = true :=
  ⟨{ W.issuing [] with ax := { W.up.ax with now := [3] } }, 3, 90, by decide⟩
theorem witness_StepsComplete_17 : ∃ s : State, ∃ src : Nat, ∃ timeout : Nat, s.pwr.rails = true ∧ mayIssue s = true ∧ src < 0x18 ∧ timeout < 2 ^ 32 ∧ s.ax.now.contains src = false :=
  ⟨W.issuing [], 3, 90, by decide⟩
theorem witness_StepsComplete_18 : ∃ src : Nat, (0x18 ≤ src ∧ src < 0x20 ∨ 0x24 ≤ src) :=
  ⟨0x24, by decide⟩
theorem witness_StepsComplete_19 : ∃ s : State, s.pwr.rails = true ∧ mayIssue s = true ∧ State.layerOpen s = false ∧ s.txn.queue = [] :=
  ⟨W.issuing [], by decide⟩
theorem witness_StepsComplete_20 : ∃ s : State, s.pwr.rails = true ∧ mayIssue s = true ∧ State.layerOpen s = true :=
  ⟨State.wCat (W.issuing []) D.iCAT_STATUS D.CAT_STATUS_LAYER_OPEN 1, by decide⟩
theorem witness_StepsWaitAndEnd_1 : ∃ s : State, ∃ n : Nat, s.pwr.rails = true ∧ mayIssue s = true ∧ 1 ≤ n ∧ n ≤ 2000000000 :=
  ⟨W.issuing [], 7, by decide⟩
theorem witness_StepsWaitAndEnd_2 : ∃ n : Nat, (n = 0 ∨ 2000000000 < n) :=
  ⟨0, by decide⟩
theorem witness_StepsWaitAndEnd_3 : ∃ s : State, ∃ e : CatEntry, s.pwr.rails = true ∧ Seq.mayAct s = true ∧ s.cat.waiting = some e ∧ Seq.met s e = true ∧ e.op ≠ 1 :=
  ⟨W.waiting ⟨0x11, 4, 0, 0, 0, 0⟩, ⟨0x11, 4, 0, 0, 0, 0⟩, by decide⟩
theorem witness_StepsWaitAndEnd_4 : ∃ s : State, ∃ e : CatEntry, ∃ mask : Nat, s.pwr.rails = true ∧ Seq.mayAct s = true ∧ s.cat.waiting = some e ∧ Seq.met s e = true ∧ e.op = 1 ∧ mask = e.c :=
  ⟨W.waiting ⟨0x01, 0, 0, 1, 0, 0⟩, ⟨0x01, 0, 0, 1, 0, 0⟩, 1, by decide⟩
theorem witness_StepsWaitAndEnd_5 : ∃ s : State, (Seq.mayAct s = false ∨ (s.cat.waiting.map fun e => Seq.met s e).getD false = false) :=
  ⟨W.up, by decide⟩
theorem witness_StepsWaitAndEnd_6 : ∃ s : State, ∃ e : CatEntry, s.pwr.rails = true ∧ Seq.mayAct s = true ∧ s.cat.waiting = some e ∧ Seq.met s e = false ∧ Seq.expired s e = true :=
  ⟨W.waiting ⟨0x31, 0x20, 1, 0, 50, 0⟩, ⟨0x31, 0x20, 1, 0, 50, 0⟩, by decide⟩
theorem witness_StepsWaitAndEnd_7 : ∃ s : State, (Seq.mayAct s = false ∨ (s.cat.waiting.map fun e => !Seq.met s e && Seq.expired s e).getD false = false) :=
  ⟨W.up, by decide⟩
theorem witness_StepsWaitAndEnd_8 : ∃ s : State, s.pwr.rails = true ∧ Seq.mayAct s = true ∧ Seq.boundaryNow s = true ∧ s.txn.queue = [] ∧ s.cat.waiting = none ∧ State.layerNo s < 4294967295 :=
  ⟨W.ending, by decide⟩
theorem witness_StepsWaitAndEnd_9 : ∃ s : State, (Seq.mayAct s = false ∨ Seq.boundaryNow s = false) :=
  ⟨W.up, by decide⟩
theorem witness_StepsWaitAndEnd_10 : ∃ s : State, s.pwr.rails = true ∧ mayIssue s = true ∧ s.txn.queue = [] ∧ State.startedSet s = [] :=
  ⟨W.issuing [], by decide⟩
theorem witness_StepsWaitAndEnd_11 : ∃ s : State, s.pwr.rails = true ∧ mayIssue s = true ∧ s.txn.queue = [] :=
  ⟨W.halting, by decide⟩
theorem witness_StepsWaitAndEnd_12 : ∃ s : State, ∃ target : Nat, s.pwr.rails = true ∧ mayIssue s = true ∧ target < 4096 :=
  ⟨W.issuing [], 9, by decide⟩
theorem witness_StepsWaitAndEnd_13 : ∃ target : Nat, 4096 ≤ target :=
  ⟨4096, by decide⟩
theorem witness_StepsWaitAndEnd_14 : ∃ s : State, ∃ flag : Nat, ∃ target : Nat, s.pwr.rails = true ∧ mayIssue s = true ∧ flag ≤ 7 ∧ target < 4096 :=
  ⟨W.issuing [], 1, 9, by decide⟩
theorem witness_StepsWaitAndEnd_15 : ∃ flag : Nat, ∃ target : Nat, (7 < flag ∨ 4096 ≤ target) :=
  ⟨8, 9, by decide⟩
theorem witness_StepsWaitAndEnd_16 : ∃ s : State, ∃ level : Nat, ∃ target : Nat, s.pwr.rails = true ∧ mayIssue s = true ∧ level ≤ 3 ∧ target < 4096 :=
  ⟨W.issuing [], 2, 9, by decide⟩
theorem witness_StepsWaitAndEnd_17 : ∃ s : State, ∃ level : Nat, ∃ count : Nat, ∃ target : Nat, s.pwr.rails = true ∧ mayIssue s = true ∧ level ≤ 3 ∧ target < 4096 ∧ 2 ≤ count ∧ count < 65536 ∧ ((Tab.find s.cat.loops level).map fun l => l.active && l.owner == s.cat.next).getD false = false :=
  ⟨W.issuing [], 2, 5, 9, by decide⟩
theorem witness_StepsWaitAndEnd_18 : ∃ s : State, ∃ level : Nat, ∃ count : Nat, ∃ target : Nat, s.pwr.rails = true ∧ mayIssue s = true ∧ level ≤ 3 ∧ target < 4096 ∧ count = 1 ∧ ((Tab.find s.cat.loops level).map fun l => l.active && l.owner == s.cat.next).getD false = false :=
  ⟨W.issuing [], 2, 1, 9, by decide⟩
theorem witness_StepsWaitAndEnd_19 : ∃ s : State, ∃ level : Nat, ∃ count : Nat, ∃ target : Nat, ∃ n : Nat, s.pwr.rails = true ∧ mayIssue s = true ∧ level ≤ 3 ∧ target < 4096 ∧ 0 < count ∧ count < 65536 ∧ Tab.find s.cat.loops level = some ⟨true, n, s.cat.next⟩ ∧ 2 ≤ n ∧ n < 65536 :=
  ⟨{ W.issuing [] with cat := { (W.issuing []).cat with loops := [(2, ⟨true, 4, 3⟩)] } }, 2, 5, 9, 4, by decide⟩
theorem witness_StepsWaitAndEnd_20 : ∃ s : State, ∃ level : Nat, ∃ count : Nat, ∃ target : Nat, s.pwr.rails = true ∧ mayIssue s = true ∧ level ≤ 3 ∧ target < 4096 ∧ 0 < count ∧ count < 65536 ∧ Tab.find s.cat.loops level = some ⟨true, 1, s.cat.next⟩ :=
  ⟨{ W.issuing [] with cat := { (W.issuing []).cat with loops := [(2, ⟨true, 1, 3⟩)] } }, 2, 5, 9, by decide⟩
theorem witness_StepsWaitAndEnd_21 : ∃ level : Nat, ∃ target : Nat, (3 < level ∨ 4096 ≤ target) :=
  ⟨4, 9, by decide⟩
theorem witness_StepsDriveTheUnits_1 : ∃ s : State, ∃ a : Nat, ∃ v : Nat, ∃ acc : Nat, ∃ rel : Bool, ∃ x : Int, s.pwr.rails = true ∧ mayIssue s = true ∧ a < 8 ∧ -2147483648 ≤ x ∧ x ≤ 2147483647 ∧ v < 2 ^ 32 ∧ acc < 2 ^ 32 ∧ (Ax.axis s a).mode = .hold ∧ Ax.moveOk s a (Ax.resolve s a rel x) = true ∧ Ax.resolve s a rel x ≠ (Ax.axis s a).pos :=
  ⟨W.issuing [(2, { Axis.init with mode := .hold })], 2, 0, 70, true, -40, by decide⟩
theorem witness_StepsDriveTheUnits_2 : ∃ s : State, ∃ a : Nat, ∃ v : Nat, ∃ acc : Nat, ∃ rel : Bool, ∃ x : Int, s.pwr.rails = true ∧ mayIssue s = true ∧ a < 8 ∧ -2147483648 ≤ x ∧ x ≤ 2147483647 ∧ v < 2 ^ 32 ∧ acc < 2 ^ 32 ∧ ((Ax.axis s a).mode = .restOff ∨ (Ax.axis s a).mode = .restShort) ∧ Ax.moveOk s a (Ax.resolve s a rel x) = true ∧ Ax.resolve s a rel x ≠ (Ax.axis s a).pos :=
  ⟨W.issuing [(2, { Axis.init with mode := .restOff })], 2, 50, 0, false, -40, by decide⟩
theorem witness_StepsDriveTheUnits_3 : ∃ s : State, ∃ a : Nat, ∃ v : Nat, ∃ acc : Nat, ∃ rel : Bool, ∃ x : Int, s.pwr.rails = true ∧ mayIssue s = true ∧ a < 8 ∧ -2147483648 ≤ x ∧ x ≤ 2147483647 ∧ v < 2 ^ 32 ∧ acc < 2 ^ 32 ∧ Ax.moveOk s a (Ax.resolve s a rel x) = false :=
  ⟨W.issuing [(2, { Axis.init with mode := .jogging })], 2, 0, 0, true, -40, by decide⟩
theorem witness_StepsDriveTheUnits_4 : ∃ a : Nat, 8 ≤ a :=
  ⟨8, by decide⟩
theorem witness_StepsDriveTheUnits_5 : ∃ s : State, ∃ a : Nat, ∃ e : Nat, ∃ den : Nat, ∃ num : Int, s.pwr.rails = true ∧ mayIssue s = true ∧ a < 8 ∧ e < 8 ∧ -2147483648 ≤ num ∧ num ≤ 2147483647 ∧ 1 ≤ den ∧ den < 2 ^ 32 ∧ (Ax.axis s a).mode = .hold ∧ (Ax.axis s a).gear = none ∧ Ax.devOk s = true :=
  ⟨W.issuing [(2, { Axis.init with mode := .hold })], 2, 1, 3, -4, by decide⟩
theorem witness_StepsDriveTheUnits_6 : ∃ s : State, ∃ a : Nat, ∃ e : Nat, ∃ den : Nat, ∃ num : Int, s.pwr.rails = true ∧ mayIssue s = true ∧ a < 8 ∧ e < 8 ∧ -2147483648 ≤ num ∧ num ≤ 2147483647 ∧ 1 ≤ den ∧ den < 2 ^ 32 ∧ ((Ax.axis s a).mode = .restOff ∨ (Ax.axis s a).mode = .restShort) ∧ Ax.devOk s = true :=
  ⟨W.issuing [(2, { Axis.init with mode := .restShort })], 2, 1, 3, -4, by decide⟩
theorem witness_StepsDriveTheUnits_7 : ∃ s : State, ∃ a : Nat, ∃ e : Nat, ∃ den : Nat, ∃ num : Int, ∃ g : AxGear, s.pwr.rails = true ∧ mayIssue s = true ∧ a < 8 ∧ e < 8 ∧ -2147483648 ≤ num ∧ num ≤ 2147483647 ∧ 1 ≤ den ∧ den < 2 ^ 32 ∧ (Ax.axis s a).mode = .geared ∧ (Ax.axis s a).gear = some g ∧ Ax.devOk s = true :=
  ⟨W.issuing [(2, { Axis.init with mode := .geared, gear := some ⟨1, 1, 2, 4, 6, none⟩ })], 2, 1, 3, -4, ⟨1, 1, 2, 4, 6, none⟩, by decide⟩
theorem witness_StepsDriveTheUnits_8 : ∃ s : State, ∃ a : Nat, ∃ e : Nat, ∃ den : Nat, ∃ num : Int, s.pwr.rails = true ∧ mayIssue s = true ∧ a < 8 ∧ e < 8 ∧ -2147483648 ≤ num ∧ num ≤ 2147483647 ∧ 1 ≤ den ∧ den < 2 ^ 32 ∧ (Ax.axis s a).mode = .geared :=
  ⟨W.issuing [(2, { Axis.init with mode := .geared, gear := some ⟨1, 1, 1, 0, 0, none⟩ })], 2, 1, 3, -4, by decide⟩
theorem witness_StepsDriveTheUnits_9 : ∃ s : State, ∃ a : Nat, ∃ e : Nat, ∃ den : Nat, ∃ num : Int, ∃ d : Bool, s.pwr.rails = true ∧ mayIssue s = true ∧ a < 8 ∧ e < 8 ∧ -2147483648 ≤ num ∧ num ≤ 2147483647 ∧ 1 ≤ den ∧ den < 2 ^ 32 ∧ Ax.gearStepOk s a d = false :=
  ⟨W.issuing [(2, { Axis.init with mode := .homing })], 2, 1, 3, -4, true, by decide⟩
theorem witness_StepsDriveTheUnits_10 : ∃ a : Nat, ∃ e : Nat, ∃ den : Nat, (8 ≤ a ∨ 8 ≤ e ∧ e < 256 ∨ den = 0) :=
  ⟨8, 1, 3, by decide⟩
theorem witness_StepsDriveTheUnits_11 : ∃ s : State, ∃ p : Nat, ∃ armed : Bool, s.pwr.rails = true ∧ mayIssue s = true ∧ armed = true ∧ Img.canCapture s p = true :=
  ⟨W.imaging, 1, true, by decide⟩
theorem witness_StepsDriveTheUnits_12 : ∃ s : State, ∃ p : Nat, ∃ armed : Bool, s.pwr.rails = true ∧ mayIssue s = true ∧ armed = false ∧ Img.canCapture s p = true ∧ s.txn.queue = [] ∧ (Img.inlineOf s p = true ∨ Img.rawUsed s p < 2) :=
  ⟨W.imaging, 1, false, by decide⟩
theorem witness_StepsDriveTheUnits_13 : ∃ s : State, ∃ p : Nat, s.pwr.rails = true ∧ mayIssue s = true ∧ p < 4 ∧ Img.canCapture s p = false :=
  ⟨W.issuing [], 1, by decide⟩
theorem witness_StepsDriveTheUnits_14 : ∃ p : Nat, 4 ≤ p :=
  ⟨4, by decide⟩
theorem witness_StepsDriveTheUnits_15 : ∃ s : State, ∃ p : Nat, ∃ mask : Nat, s.pwr.rails = true ∧ mayIssue s = true ∧ p < 4 ∧ mask < 2 ^ 16 ∧ Ilm.blocked s mask = none :=
  ⟨{ W.issuing [] with ilm := { W.up.ilm with tab := [(4, { Lamp.init with mode := .ok })] } }, 1, 16, by decide⟩
theorem witness_StepsDriveTheUnits_16 : ∃ s : State, ∃ p : Nat, ∃ mask : Nat, ∃ l : Nat, s.pwr.rails = true ∧ mayIssue s = true ∧ p < 4 ∧ mask < 2 ^ 16 ∧ Ilm.blocked s mask = some l :=
  ⟨{ W.issuing [] with ilm := { W.up.ilm with tab := [(4, { Lamp.init with mode := .ok })] } }, 1, 48, 5, by decide⟩
theorem witness_StepsDriveTheUnits_17 : ∃ p : Nat, ∃ mask : Nat, (4 ≤ p ∨ 2 ^ 16 ≤ mask) :=
  ⟨4, 1, by decide⟩
theorem witness_StepsDriveTheUnits_18 : ∃ s : State, s.pwr.rails = true ∧ mayIssue s = true ∧ Grid.snapOk s = true :=
  ⟨W.issuing [], by decide⟩
theorem witness_StepsDriveTheUnits_19 : ∃ s : State, s.pwr.rails = true ∧ mayIssue s = true ∧ Grid.snapOk s = false :=
  ⟨{ W.issuing [] with grd := { W.up.grd with snapMode := .armed } }, by decide⟩
theorem witness_StepsDriveTheUnits_20 : ∃ s : State, ∃ kind : Nat, ∃ port : Nat, s.pwr.rails = true ∧ mayIssue s = true ∧ 1 ≤ kind ∧ kind ≤ 3 ∧ (if kind = 1 then port ≤ 3 else port = 0) ∧ s.stk.mode = .mounted :=
  ⟨{ W.issuing [] with stk := (W.mounted []).stk }, 3, 0, by decide⟩
theorem witness_StepsDriveTheUnits_21 : ∃ s : State, ∃ kind : Nat, ∃ port : Nat, s.pwr.rails = true ∧ mayIssue s = true ∧ 1 ≤ kind ∧ kind ≤ 3 ∧ (if kind = 1 then port ≤ 3 else port = 0) ∧ s.stk.mode = .readOnly :=
  ⟨{ W.issuing [] with stk := { (W.mounted []).stk with mode := .readOnly } }, 3, 0, by decide⟩
theorem witness_StepsDriveTheUnits_22 : ∃ s : State, ∃ kind : Nat, ∃ port : Nat, s.pwr.rails = true ∧ mayIssue s = true ∧ 1 ≤ kind ∧ kind ≤ 3 ∧ (if kind = 1 then port ≤ 3 else port = 0) ∧ Stk.up s = false :=
  ⟨W.issuing [], 3, 0, by decide⟩
theorem witness_StepsDriveTheUnits_23 : ∃ kind : Nat, ∃ port : Nat, (kind = 0 ∨ 3 < kind ∨ kind ≠ 1 ∧ port ≠ 0 ∨ 3 < port) :=
  ⟨0, 0, by decide⟩
theorem witness_StepRunsFront_1 : ∃ (s : State) (c : Instr) (rest : List Instr), s.pending = c :: rest := ⟨{ W.up with pending := [.pause, .stop] }, .pause, [.stop], rfl⟩
theorem witness_StepRunsFront_2 : ∃ s : State, s.pending = [] := ⟨W.up, rfl⟩
theorem witness_TickMovesOnlyByTick_1 : ∃ (c : Instr) (s t : State), exec c s = .next t ∧ t.tick = s.tick :=
  ⟨.prechargeStart, W.bare, _, rfl, by decide⟩
theorem witness_TickMovesOnlyByTick_2 : ∃ (c : Instr) (s t : State), exec c s = .next t ∧ (∃ inp : TickIn, c = .tick inp) ∧ Tick.runs s = true :=
  ⟨.tick W.still, W.up, _, rfl, ⟨W.still, rfl⟩, by decide⟩
theorem witness_TickMovesOnlyByTick_3 : ∃ (c : Instr) (s t : State), exec c s = .next t ∧ bootsModule c = true ∧ t.dev.mode = .boot ∧ s.tick = 5 :=
  ⟨.enableRise, { W.up with tick := 5, pwr := { W.up.pwr with enable := false, rails := false } }, _, rfl, by decide⟩
theorem witness_TickBudgetIsKept_1 : ∃ (N : Nat) (s : State), s.tick + ticksQueued s.pending ≤ N ∧ ∃ t, step s = .next t :=
  ⟨1, { W.up with pending := [.tick W.still] }, by decide, _, rfl⟩
theorem witness_CoreStandsStillWithoutRails_1 : ∃ (c : Instr) (s : State), s.pwr.rails = false ∧ ofStandby c = false := ⟨.goReady, W.bare, by decide⟩
theorem witness_StateCommandsAreRefused_1 : ∃ (p v : Nat) (s : State),
    pathOpen p D.iDEV_STATE s = true ∧ v ≤ 255 ∧ Seq.cmdOk (Flt.collect s) v = false := ⟨0, 255, W.up, by decide⟩
theorem witness_StateCommandsAreRefused_2 : ∃ (c : Instr) (v : Nat) (s : State),
    (c, v) ∈ [(Instr.goReady, 1), (.goService, 2), (.startBuild, 3), (.pause, 4), (.resume, 5), (.stop, 6), (.safe, 7)] ∧
    pathOpen 0 D.iDEV_STATE s = true ∧ Seq.cmdOk (Flt.collect s) v = false := ⟨.pause, 4, W.up, by decide⟩
theorem witness_RollbackDiscardsAndReleases_1 : ∃ (p : Nat) (x : Txn) (s : State),
    pathOpen p D.iTXN_CTRL s = true ∧ (State.pathOf s p).txn = some x ∧ Tab.wf Path.init s.txn.paths = true :=
  ⟨0, ⟨7, 0, [⟨D.iPS, D.PS_P_MIN, .num 5⟩]⟩, W.txnOpen .service [⟨D.iPS, D.PS_P_MIN, .num 5⟩], by decide⟩
theorem witness_PowerLimitsKeepTheirOrder_1 : ∃ (p n sub v : Nat) (s : State),
    n < 256 ∧ pathOpen p (D.iPS + n) s = true ∧ (State.pathOf s p).txn = none ∧ v ≤ 65535 ∧
    (sub = D.PS_P_MIN ∧ State.rTrj s (D.iPS + n) D.PS_P_MAX < (v : Int) ∨ sub = D.PS_P_MAX ∧ (v : Int) < State.rTrj s (D.iPS + n) D.PS_P_MIN) :=
  ⟨0, 255, D.PS_P_MIN, 1, W.up, by decide⟩
theorem witness_PowerLimitsKeepTheirOrder_2 : ∃ (p n sub v : Nat) (s : State),
    n < 256 ∧ pathOpen p (D.iPS + n) s = true ∧ (State.pathOf s p).txn = none ∧ v ≤ 65535 ∧
    sub = D.PS_P_MAX ∧ (v : Int) < State.rTrj s (D.iPS + n) D.PS_P_MIN :=
  ⟨0, 255, D.PS_P_MAX, 4, State.wTrj W.up (D.iPS + 255) D.PS_P_MIN 5, by decide⟩
theorem witness_PowerLimitsKeepTheirOrder_3 : ∃ (p n : Nat) (x : Txn) (w : Staged) (s after : State),
    n < 256 ∧ pathOpen p D.iTXN_CTRL s = true ∧ (State.pathOf s p).txn = some x ∧ w ∈ x.writes ∧ w.idx = D.iPS + n ∧
    after = Apply.preview x.path x.writes (s.txn.queue.foldl (fun u q => Apply.preview q.path q.writes u) s) ∧
    State.rTrj after (D.iPS + n) D.PS_P_MAX < State.rTrj after (D.iPS + n) D.PS_P_MIN :=
  ⟨0, 0, ⟨7, 0, [⟨D.iPS, D.PS_P_MIN, .num 5⟩]⟩, ⟨D.iPS, D.PS_P_MIN, .num 5⟩, W.txnOpen .service [⟨D.iPS, D.PS_P_MIN, .num 5⟩],
    Apply.preview 0 [⟨D.iPS, D.PS_P_MIN, .num 5⟩] (W.txnOpen .service [⟨D.iPS, D.PS_P_MIN, .num 5⟩]),
    by decide, by decide, by decide, by decide, by decide, rfl, by decide⟩

/-! ### Ill-formed commands: one for each check of WellFormed -/

theorem test_ill_formed_1 : List.all (α := Instr)
    [.dramCorrected (2 ^ 32), .dramUncorr (2 ^ 32), .sramCorrected (2 ^ 32), .sramUncorr (2 ^ 32), .sessionTimeout 0, .sessionTimeout 5,
     .mbxDoorbell (2 ^ 16), .txnBegin 5, .txnCommit 5, .txnRollback 5, .txnTimeout 5, .itemAccept 96 [], .windowWrite (2 ^ 28 - 1) [1, 2],
     .ctxDmaDoorbell (2 ^ 32), .dmaFetch 96 [] [] false, .ctxEnable 96, .ctxDisable 96, .ctxFlush 96, .stripeAck 24, .headLate 24 0 0,
     .headLate 0 96 0, .itemsNotice 96, .startExposure 0, .startExposure (2 ^ 24)]
    (fun i => !i.wellFormed) = true := by decide

theorem test_ill_formed_2 : List.all (α := Instr)
    [.waitExposure false (2 ^ 24) 0, .waitExposure false 1 (2 ^ 32), .axisMove 8 false 0 0 0, .axisWait 0 0, .axisWait (2 ^ 8) 0,
     .axisWait 1 (2 ^ 32), .gearSet 8 0 false 0 1, .gearSet 0 8 false 0 1, .gearSet 0 0 false 0 0, .capture 4 false false false, .strobe 4 1,
     .strobe 0 (2 ^ 16), .storeObject 0 false 0, .storeObject 4 false 0, .storeObject 1 false 4, .catWaitTicks 0, .catWaitTicks 2000000001,
     .waitInput 0x18 false false 0, .waitInput 0x1F false false 0, .waitInput 0x24 false false 0, .waitInput 0 false false (2 ^ 32), .loop 4 1 0,
     .loop 0 (2 ^ 16) 0, .loop 0 1 4096]
    (fun i => !i.wellFormed) = true := by decide

theorem test_ill_formed_3 : List.all (α := Instr)
    [.jump 4096, .branchFlag 8 false 0, .branchFlag 0 false 4096, .chsEnable 24, .chsDisable 24, .stripeDecision 24, .segmentMark 24,
     .segmentJump 24, .segmentMarkExt 24, .waitTicks 24, .phaseEnd 24, .trjLate 24 0, .engineAtRest 24, .driftUpdate 24, .feedbackConsume 24,
     .plumeCheck 24, .plumeHoldLong 24, .loopSampleConsume 24, .mplReclose 24, .mplResetIntegral 24, .lnkEnable 48, .lnkDisable 48, .lnkRetrain 48,
     .lnkRelearn 48]
    (fun i => !i.wellFormed) = true := by decide

theorem test_ill_formed_4 : List.all (α := Instr)
    [.markerLock 48 0, .capBlock 48 [], .stepEcho 48, .trainingEnd 48 0 0, .errorTestEnd 48 0 false 0, .laneLost 48 0, .laneFreeze 48,
     .refreshBurst 48, .driftRelearn 48 0, .upstreamFrame 48 [] false, .tileHdr 48 [], .tileData 48 [], .sourceStatusConsume 24, .xyStatusFrame 8 0,
     .xyStatusFrame 0 (2 ^ 20), .armedTrig 4, .fvalRise 4, .fvalFall 4 [] [], .frameTimeout 4 [] [], .frameClose 4, .mpfHandover 24,
     .lampDiagnosis 16 0 0, .lampPulseEnd 16, .lampProbe 16]
    (fun i => !i.wellFormed) = true := by decide

theorem test_ill_formed_5 : List.all (α := Instr)
    [.lampEnable 16, .lampDisable 16, .folStart 4, .folCancel 4, .folRelease 4,
     .mountComplete ⟨some ⟨[(32, ⟨40, true, 16384, 2048, 256, 12, [], none, 3, 3000, []⟩)], [], none, none, [], [], [], []⟩, 0⟩,
     .mountComplete ⟨some ⟨[(0, ⟨40, true, 16384, 2048, 256, 12, [], none, 3, 3000, [12]⟩)], [], none, none, [], [], [], []⟩, 0⟩,
     .mountComplete ⟨some ⟨[(0, ⟨40, true, 16384, 2048, 256, 12, [], none, 3, 3000, []⟩)], [(384, ⟨0, 0, 0, 0, 0, false⟩)], none, none, [], [], [], []⟩, 0⟩,
     .stkDelete 5, .suspendResume 8 0, .suspendResume 0 4, .programFail 8 0, .eraseFail 8 0, .targetTimeout 8 0 0, .targetTimeout 0 4 0, .axMove 8,
     .axStop 8, .axQuickStop 8, .axHome 8, .axJog 8, .axGearEngage 8, .axGearDisengage 8, .axGearArmSwitch 8, .axisEnable 8]
    (fun i => !i.wellFormed) = true := by decide

theorem test_ill_formed_6 : List.all (α := Instr)
    [.axisDisable 8, .axProfileWrite 8 0 0, .jogSpeedWrite 8 0, .stepPulse 8, .wakeDelayElapsed 8, .standstillDelayElapsed 8,
     .switchInputEdge 8 0 false, .switchInputEdge 0 3 false, .holdoffEnd 8 0, .holdoffEnd 0 3, .encoderEdge 8 0 false false false,
     .encoderEdge 0 125 false false false, .encoderIndex 8, .encoderTooth 8 0, .encoderTooth 0 125, .encoderSpeedTimeout 8, .cmpArm 16,
     .cmpDisarm 16, .cmpPositionWrite 16 0, .cmpPulseEnd 16, .arpReply 2 [], .icmpEcho 2 [], .ptpReceive 2 0 [], .ptpReceive 0 500 []]
    (fun i => !i.wellFormed) = true := by decide

theorem test_ill_formed_7 : List.all (α := Instr)
    [.rxFrameDrop 2 false, .netclkWrite (2 ^ 64), .launchEvaluate 2, .txFrameSent 2 0, .txFrameSent 0 500, .linkDown 2, .linkUp 2 false,
     .escalation 0x6F, .recovery 0x6F, .fltSrcAck 5, .fltSrcClear 5, .fltAckAck (2 ^ 10), .fltAckClear (2 ^ 10), .sensorReading 40 1,
     .sensorReading 0 65536, .tmpExcludeWrite (2 ^ 40), .calPointTimeout 104, .txnCommitCopyEnd 5]
    (fun i => !i.wellFormed) = true := by decide

theorem test_well_formed_1 : List.all (α := Instr)
    [.dramCorrected 0, .dramUncorr 0, .sramCorrected 0, .sramUncorr 0, .sessionTimeout 1, .mbxDoorbell 0, .txnBegin 1, .txnCommit 1, .txnRollback 1,
     .txnTimeout 1, .itemAccept 0 [], .windowWrite 0 [], .ctxDmaDoorbell 0, .dmaFetch 0 [] [] false, .ctxEnable 0, .ctxDisable 0, .ctxFlush 0,
     .stripeAck 0, .headLate 0 0 0, .itemsNotice 0, .startExposure 1, .waitExposure false 1 0, .axisMove 0 false 0 0 0, .axisWait 1 0,
     .gearSet 0 0 false 0 1, .capture 0 false false false, .strobe 0 1, .storeObject 1 false 0, .catWaitTicks 1, .waitInput 0 false false 0,
     .loop 0 1 0, .jump 0, .branchFlag 0 false 0, .chsEnable 0, .chsDisable 0, .stripeDecision 0, .segmentMark 0, .segmentJump 0, .segmentMarkExt 0,
     .waitTicks 0]
    (fun i => i.wellFormed) = true := by decide

theorem test_well_formed_2 : List.all (α := Instr)
    [.phaseEnd 0, .trjLate 0 0, .engineAtRest 0, .driftUpdate 0, .feedbackConsume 0, .plumeCheck 0, .plumeHoldLong 0, .loopSampleConsume 0,
     .mplReclose 0, .mplResetIntegral 0, .lnkEnable 0, .lnkDisable 0, .lnkRetrain 0, .lnkRelearn 0, .markerLock 0 0, .capBlock 0 [], .stepEcho 0,
     .trainingEnd 0 0 0, .errorTestEnd 0 0 false 0, .laneLost 0 0, .laneFreeze 0, .refreshBurst 0, .driftRelearn 0 0, .upstreamFrame 0 [] false,
     .tileHdr 0 [], .tileData 0 [], .sourceStatusConsume 0, .xyStatusFrame 0 0, .armedTrig 0, .fvalRise 0, .fvalFall 0 [] [], .frameTimeout 0 [] [],
     .frameClose 0, .mpfHandover 0, .lampDiagnosis 0 0 0, .lampPulseEnd 0, .lampProbe 0, .lampEnable 0, .lampDisable 0, .folStart 0]
    (fun i => i.wellFormed) = true := by decide

theorem test_well_formed_3 : List.all (α := Instr)
    [.folCancel 0, .folRelease 0, .mountComplete ⟨none, 0⟩,
     .mountComplete ⟨some ⟨[(0, ⟨40, true, 16384, 2048, 256, 12, [], none, 3, 3000, [3, 11]⟩)], [(383, ⟨0, 0, 0, 0, 0, false⟩)], none, none, [], [], [], []⟩, 0⟩,
     .stkDelete 1, .suspendResume 0 0, .programFail 0 0, .eraseFail 0 0, .targetTimeout 0 0 0, .axMove 0, .axStop 0, .axQuickStop 0, .axHome 0,
     .axJog 0, .axGearEngage 0, .axGearDisengage 0, .axGearArmSwitch 0, .axisEnable 0, .axisDisable 0, .axProfileWrite 0 0 0, .jogSpeedWrite 0 0,
     .stepPulse 0, .wakeDelayElapsed 0, .standstillDelayElapsed 0, .switchInputEdge 0 0 false, .holdoffEnd 0 0, .encoderEdge 0 0 false false false,
     .encoderIndex 0, .encoderTooth 0 0, .encoderSpeedTimeout 0, .cmpArm 0, .cmpDisarm 0, .cmpPositionWrite 0 0, .cmpPulseEnd 0, .arpReply 0 [],
     .icmpEcho 0 [], .ptpReceive 0 0 [], .rxFrameDrop 0 false, .netclkWrite 0, .launchEvaluate 0]
    (fun i => i.wellFormed) = true := by decide

theorem test_well_formed_4 : List.all (α := Instr)
    [.txFrameSent 0 0, .linkDown 0, .linkUp 0 false, .escalation 0, .recovery 0, .fltSrcAck 1, .fltSrcClear 1, .fltAckAck 0, .fltAckClear 0,
     .sensorReading 0 1, .tmpExcludeWrite 0, .calPointTimeout 0, .txnCommitCopyEnd 1]
    (fun i => i.wellFormed) = true := by decide

/-! ### Worked examples of the spec -/

-- 03_job_model.md, R73: the PAD item reads in memory as 35 01 7F A5 and 28 bytes of 00.
theorem test_pad_crc : Arith.crc8 ([1, 0x7F, 0xA5] ++ List.replicate 28 0) = 0x35 := by decide +kernel
theorem test_pad_item : Items.head ([0x35, 1, 0x7F, 0xA5] ++ List.replicate 28 0) = .ok .pad 1 := by decide +kernel

-- 07_lending_overlap.md, R177: in layer 412 CH04 has rank 0, CH05 rank 1 and CH03 rank 23.
theorem test_rank_412 : let s := State.wCat W.up D.iCAT_STATUS D.CAT_STATUS_LAYER 412;
    (State.rankOf s 4, State.rankOf s 5, State.rankOf s 3) = (0, 1, 23) := by decide

-- 08_meltpool_loop.md, R202: POWER 0xB333, FF 0x7C00, MP 32,193 give 0xAA8E, inside P_MIN 0x2000 and P_MAX 0xC000.
theorem test_power_command : Mpl.command 0xB333 0x7C00 32193 0x2000 0xC000 = (0xAA8E, 0) := by decide

-- 09_thermal_grid.md, R236: curve 7 at 20,800 and at 22,058.
theorem test_curve : (Grid.curveAt [(15141, 0x8000), (19200, 0x8000), (22400, 0x7800), (28800, 0x6000)] 20800,
    Grid.curveAt [(15141, 0x8000), (19200, 0x8000), (22400, 0x7800), (28800, 0x6000)] 22058) = (0x7C00, 0x78DB) := by decide +kernel

-- 13_illumination.md, R321: SET 2,457, DIMMER 200 and TRIM 0x7A00 give 1,794.
theorem test_lamp_current : Ilm.iCode 200 2457 0x7A00 = 1794 := by decide

-- 20_temperature_calibration.md, R471: OFFSET of the line through AIN07's raw 40 and 62,700, and the report of a raw sample of 31,000.
theorem test_calibration_line : (Cal.fit 7 (40, 62700)).2 = -10281 := by decide +kernel
theorem test_calibration_use : Cal.correct (.entries (List.replicate 8 (1078087515, -10281))) 7 31000 = 31085 := by decide +kernel

-- 11_head_source_protocols.md, R290: 3,199,038 head units are sent as 0xB0D0 with parity bit 1.
theorem test_xy_word : (Out.xyWord 3199038, Out.xyBits 3199038 % 2) = (0xB0D0, 1) := by decide

-- 14_folio_codec.md, R335: the two coded rows of the 4 × 2 job.
theorem test_folio_rows : Sys2Proof.Codec.rows 8 4 [[100, 102, 101, 105], [101, 103, 104, 104]] 0 none =
    [[0xF5, 0, 0, 0, 0xFF, 0xFB, 0x10, 0x14, 0], [0xF5, 0, 1, 0, 0x4A, 8]] := by decide +kernel

-- 21_module_connectors.md, R486: LANE29_RXP at D30 of BP-H; ENC2_A at A63, CMP05_OUT at F63, AIN07 at H72 and IL05 at B82 of BP-L.
theorem test_contacts : (Contacts.bpH .d 30, Contacts.bpL .a 63, Contacts.bpL .f 63, Contacts.bpL .h 72, Contacts.bpL .b 82) =
    (some (.pin "LANE" 29 "RXP"), some (.pin "ENC" 2 "A"), some (.pin "CMP" 5 "OUT"), some (.pin "AIN" 7 ""), some (.pin "IL" 5 "")) := by decide

-- 17_network_time.md, R408: INTEGRAL −1,200 ppb and OFFSET +250 ns.
theorem test_servo :
    let k := State.wNet (State.wNet W.up D.iNET_CLK D.NET_CLK_KP 0xB333) D.iNET_CLK D.NET_CLK_KI 0x4CCD;
    let s := State.wNet k D.iNET_CLK D.NET_CLK_INTEGRAL (-1200);
    let t := Net.servo 16384000 s;
    (State.rNet t D.iNET_CLK D.NET_CLK_INTEGRAL, State.rNet t D.iNET_CLK D.NET_CLK_INCR) = (-1125, 0x400003FC1) := by decide +kernel

-- 02_dictionary.md, R39 and R44: path 2 reads DEV_STATE.STATE while the device is building; here TICK is 0x40302010.
theorem test_read_answer : let s := { W.linkedPort with tick := 0x40302010, dev := { W.up.dev with mode := .building }, txn := { W.up.txn with
      paths := [(2, { Path.init 2 with isOpen := true, lastSeq := some 0x104, keepAlive := 100 })] } };
    (match exec (.read (W.ask 0x10 2 0x105 [0x10, 0x10, 1, 0])) s with
      | .next t => t.txn.sent.map (·.bytes)
      | _ => []) =
    [[0xD0, 0xD3, 1, 0x10, 2, 0, 5, 1, 0, 1, 12, 0, 0x10, 0x20, 0x30, 0x40, 0x10, 0x10, 1, 0, 2, 0, 1, 0, 3, 0, 0, 0]] := by decide +kernel

/-! ### Single steps -/

-- R4, R13: TICK does not advance before the root PLL has locked, and advances by one once start-up is over.
theorem test_tick_before_lock : (match step { State.reset with pending := [.tick W.still] } with | .next t => t.tick | _ => 9) = 0 := by decide +kernel
theorem test_tick_advances : (match step { W.up with pending := [.tick W.still] } with | .next t => t.tick | _ => 9) = 1 := by decide +kernel

-- R23: GO_READY from SERVICE, PAUSE refused there.
theorem test_go_ready : (match exec .goReady W.up with | .next t => t.dev.mode | _ => .boot) = .ready := by decide +kernel
theorem test_pause_refused : (match exec .pause W.up with
    | .next t => (t.dev.mode, State.rDev t D.iDEV_STATE D.DEV_STATE_LAST_REFUSED) | _ => (.boot, 0)) = (.service, 4) := by decide +kernel

-- R504: over-voltage at the input stops the module with the input loss counted.
theorem test_input_loss : (match exec (.inputLoss .overVoltage) W.up with | .next t => (t.pwr.main, t.pwr.rails) | _ => (true, true)) = (false, false) := by
  decide

-- R381: a move of an axis at rest in HOLD starts it; the target equal to the position does not.
theorem test_ax_move_at_target : (match exec (.axMove 2) (W.axis { Axis.init with mode := .hold }) with | .next t => (Ax.axis t 2).mode | _ => .disabled) =
    .hold := by decide +kernel

-- R390: a legal quadrature transition counts one step from 7.
theorem test_encoder_step : (match exec (.encoderEdge 1 3 true false false) (W.counting Axis.init) with
    | .next t => ((Ax.enc t 1).count - 7).natAbs | _ => 0) = 1 := by decide +kernel

-- R55: TXN_BEGIN on path 0 opens a transaction; a second one answers TXN_OPEN.
theorem test_txn_begin : (match exec (.txnBegin 0) W.up with | .next t => (State.pathOf t 0).txn.isSome | _ => false) = true := by decide +kernel
theorem test_txn_begin_twice : (match exec (.txnBegin 0) (W.txnOpen .service []) with
    | .next t => Read.stored t 0 D.iTXN_CTRL D.TXN_CTRL_LAST_RESULT | _ => 0) = 0x0B := by decide +kernel

-- The block idles on an empty queue, and no word spells a command of the table.
theorem test_idle : step State.reset = .next State.reset := rfl
theorem test_no_words : Sys2Proof.decodeTableWord 32 0 = none := rfl

end Sys2Proof.Tests
end

/-!
PROOFS of 00_scope.md: the exposure tick. `exec_form` says once which form every command has (R13, R499): a clock operation that may move TICK, a command
of the standby domain, or one of the core domain, the last two with TICK and the queue as they were. A clock operation advances TICK by one, or brings the
module into BOOT with TICK at 0: the Ledger's BOOT record, written on the way, changes the Ledger and raises messages only (`Ldg.boot_keeps`).
-/
namespace Sys2Proof.Machine

/-! ### What a command leaves alone composes -/

theorem Part.same.trans {p : Part} {s t u : State} (h : p.same s t) (h' : p.same t u) : p.same s u := by
  cases p <;> exact Eq.trans h' h

theorem keeps.refl (ps : List Part) (s : State) : keeps ps s s := ⟨rfl, fun p _ => by cases p <;> rfl⟩

theorem keeps.trans {ps : List Part} {s t u : State} (h : keeps ps s t) (h' : keeps ps t u) : keeps ps s u :=
  ⟨h'.1.trans h.1, fun p hp => (h.2 p hp).trans (h'.2 p hp)⟩

theorem keeps.ite {ps : List Part} {s t u : State} {b : Prop} {_ : Decidable b} (h : keeps ps s t) (h' : keeps ps s u) :
    keeps ps s (if b then t else u) := by
  split
  · exact h
  · exact h'

/-! ### The Ledger changes its own part and raises messages, nothing else -/

namespace Ldg

theorem keeps_update (s : State) (l : LdgSt) (r : List Msg) : keeps [.ldg, .raised] s { s with ldg := l, raised := r } := by
  refine ⟨rfl, fun p hp => ?_⟩
  cases p with
  | ldg | raised => simp at hp
  | _ => rfl

theorem toShadow_keeps (s : State) (n : Nat) (r : LdgRec) : keeps [.ldg, .raised] s (toShadow s n r) := by
  have lost : keeps [.ldg, .raised] s (if s.ldg.shadow.length < 16 then s else State.incLdg s D.iLDG_STATUS D.LDG_STATUS_SHADOW_LOST 1) :=
    (keeps.refl _ s).ite (keeps_update s _ _)
  have raised (u : State) (b : Bool) : keeps [.ldg, .raised] u (State.raiseIf u b 0x1A0 2 n) := (keeps_update u _ _).ite (keeps.refl _ u)
  exact (lost.trans (raised _ _)).trans (keeps_update _ _ _)

theorem put_keeps (s : State) (n : Nat) (r : LdgRec) : keeps [.ldg, .raised] s (put s n r).1 := by
  unfold put
  split
  · have failed := keeps_update s s.ldg (State.raise s 0x1A0 1 n).raised
    dsimp only
    split
    · split
      · exact (failed.trans (keeps_update _ _ _)).trans (toShadow_keeps _ _ _)
      · exact failed.trans (keeps_update _ _ _)
    · exact failed.trans (toShadow_keeps _ _ _)
  · exact keeps_update s _ _

theorem fresh_keeps (s : State) (pinned : Bool) (r : LdgRec) : keeps [.ldg, .raised] s (fresh s pinned r).1 :=
  ((keeps_update s _ _).trans ((keeps_update _ _ _).ite (keeps_update _ _ _))).trans (put_keeps _ _ _)

theorem afterWrite_keeps (x : State × Bool) : keeps [.ldg, .raised] x.1 (afterWrite x) := by
  unfold afterWrite
  split
  · exact (keeps_update x.1 _ _).trans (fresh_keeps _ _ _)
  · exact keeps.refl _ x.1

theorem writeOrd_keeps (s : State) (r : LdgRec) : keeps [.ldg, .raised] s (writeOrd s r) := by
  unfold writeOrd
  split
  · exact ((keeps_update s _ _).trans (put_keeps _ _ _)).trans (afterWrite_keeps _)
  · exact (fresh_keeps s _ _).trans (afterWrite_keeps _)

theorem stage_keeps (s : State) (r : LdgRec) : keeps [.ldg, .raised] s (stage s r) := by
  unfold stage
  split
  · exact (keeps_update s _ _).ite ((keeps_update s _ _).ite (keeps_update s _ _))
  · exact keeps_update s _ _

theorem ordinary_keeps (trigger source msg : Nat) (s : State) : keeps [.ldg, .raised] s (ordinary trigger source msg s) :=
  (stage_keeps s _).ite (writeOrd_keeps s _)

theorem checkpoint_keeps (s : State) : keeps [.ldg, .raised] s (checkpoint s) :=
  (keeps_update s _ _).trans ((keeps_update _ _ _).ite (keeps_update _ _ _))

theorem boot_keeps (s : State) : keeps [.ldg, .raised] s (boot s) :=
  ((keeps_update s _ _).trans (checkpoint_keeps _)).trans (ordinary_keeps 4 0 0 _)

end Ldg

/-! ### BOOT starts TICK again (R4, R23, R498) -/

namespace Pwr

@[simp] theorem boot_tick (why : Nat) (s : State) : (boot why s).tick = 0 :=
  (Ldg.boot_keeps (fresh s)).2 .tick (by decide)

@[simp] theorem boot_mode (why : Nat) (s : State) : (boot why s).dev.mode = .boot :=
  congrArg DevSt.mode ((Ldg.boot_keeps (fresh s)).2 .dev (by decide))

/-- `t` comes after `s` with TICK as it was, or with the device in BOOT and TICK at 0. -/
def StaysOrBoots (s t : State) : Prop := t.tick = s.tick ∨ t.tick = 0 ∧ t.dev.mode = .boot

theorem boot_boots (why : Nat) (s u : State) : StaysOrBoots s (boot why u) := .inr ⟨boot_tick why u, boot_mode why u⟩

theorem StaysOrBoots.ite {s t u : State} {b : Prop} {_ : Decidable b} (h : StaysOrBoots s t) (h' : StaysOrBoots s u) :
    StaysOrBoots s (if b then t else u) := by
  split
  · exact h
  · exact h'

theorem accept_staysOrBoots (s : State) : StaysOrBoots s (accept s) := (boot_boots _ s s).ite (.inl rfl)

theorem enableRise_staysOrBoots (s : State) : StaysOrBoots s (enableRise s) :=
  StaysOrBoots.ite (.inl rfl) (accept_staysOrBoots { s with pwr := { s.pwr with enable := true, riseHeld := true, returned := false } })

theorem standbyStart_staysOrBoots (s : State) : StaysOrBoots s (standbyStart s) :=
  StaysOrBoots.ite (accept_staysOrBoots { s with pwr := { s.pwr with standby := true } }) (.inl rfl)

theorem mainClose_staysOrBoots (s : State) : StaysOrBoots s (mainClose s) :=
  StaysOrBoots.ite (accept_staysOrBoots { s with pwr := { s.pwr with main := true } }) (.inl rfl)

theorem exitCheck_staysOrBoots (readings : List Int) (s : State) : StaysOrBoots s (exitCheck readings s) :=
  StaysOrBoots.ite (StaysOrBoots.ite (boot_boots 4 s s) (.inl rfl)) (.inl rfl)

end Pwr

/-! ### TICK advances by one, and only while the VEC clock runs (R13) -/

theorem Tick.tick_running (inp : TickIn) {s : State} (h : runs s = true) : (Tick.tick inp s).tick = s.tick + 1 := by
  unfold Tick.tick; rw [if_pos h]

theorem Tick.tick_still (inp : TickIn) {s : State} (h : ¬runs s = true) : Tick.tick inp s = s := if_neg h

/-! ### The form of every command -/

/-- A command on a unit is a command of the core domain, whose operation leaves the state alone where there is no such unit. -/
theorem actOn_eq_act (i n : Nat) (f : State → State) (s : State) : actOn i n f s = act (fun u => if i < n then f u else u) s := by
  by_cases h : i < n
  · simp [actOn, act, always, h]
  · simp [actOn, act, always, h]

/-- The operation of a command that may move TICK: TICK itself, and the commands that can bring the module into BOOT. -/
def clockOp : Instr → Option (State → State)
  | .tick inp => some (Tick.tick inp)
  | .enableRise => some Pwr.enableRise
  | .standbyStart => some Pwr.standbyStart
  | .mainSwitchClose => some Pwr.mainClose
  | .thermalExitCheck readings => some (Pwr.exitCheck readings)
  | _ => none

/-- Every command moves the clock by its operation, or is one of the standby domain with TICK kept, or one of the core domain with TICK kept. -/
theorem exec_form (c : Instr) :
    (∃ f, clockOp c = some f ∧ ∀ s, exec c s = run f s) ∨ (ofStandby c = true ∧ ∃ f, ∀ s, exec c s = always f s) ∨
      (ofStandby c = false ∧ ∃ f, ∀ s, exec c s = act f s) := by
  cases c with
  | enableRise | thermalExitCheck | standbyStart | mainSwitchClose | tick =>
    exact .inl ⟨_, rfl, fun _ => rfl⟩
  | enableFall | enableGlitch | ejectReq | safeToRemove | prechargeStart | prechargeFail | inputLoss | inputReturn | powerMeasurement
  | laserInterlockAssert | interlockRelease | ejectLatchClosed | holdUpExhausted =>
    exact .inr (.inl ⟨rfl, _, fun _ => rfl⟩)
  | perstN | pcieLinkDown | functionLevelReset | refclkLost | pllUnlock | dramCorrected | dramUncorr | sramCorrected | sramUncorr | goReady
  | goService | startBuild | pause | resume | stop | safe | ddpOpen | close | keepalive | sessionTimeout | read | write | blobRead | blobWrite
  | blobEnd | badFrameDrop | mbxDoorbell | mbxStatusRead | registerWrite | cfgSave | cfgSaveComplete | cfgErase | txnBegin | txnCommit | txnRollback
  | windowWrite | ctxDmaDoorbell | ntcLostRead | startExposure | waitExposure | axisMove | axisWait | gearSet | capture | strobe | gridSnapshot
  | storeObject | catWaitTicks | waitInput | applyTxn | loop | jump | branchFlag | halt | waitStepComplete | waitTimeout | layerBoundary
  | replanComplete | reachMapComplete | sweepStart | tileSlot | gridLate | grdReset | grdSnapshotRaw | grdSnapshotFolio | grdRelease
  | snapshotCaptureComplete | ingressFifoOverflow | ilmApply | ilmProbe | folioJobEnd | folioWaitExpiry | folioDisable | folioEnable | stkMount
  | mountComplete | stkUnmount | stkFormat | stkDelete | objectCommit | stagingReadComplete | retentionAge | netclkWrite | servoOffset
  | phaseMeasurement | tsyncEnable | faultCollect | escalation | recovery | errNMinEnd | fltSrcAck | fltSrcClear | fltRearm | fltAckAll
  | fltClearAll | ldgFreeze | ldgUnfreeze | freezeExpired | ldgMark | ledgerCheckpoint | rateCheck | tmpAckShutdown | tmpExcludeWrite | calRun
  | calRunEnd | startUpStepComplete | fwStoreComplete | lateTileWritten =>
    exact .inr (.inr ⟨rfl, _, fun _ => rfl⟩)
  | txnTimeout | itemAccept | dmaFetch | ctxEnable | ctxDisable | ctxFlush | stripeAck | headLate | itemsNotice | chsEnable | chsDisable
  | stripeDecision | segmentMark | segmentJump | segmentMarkExt | waitTicks | phaseEnd | trjLate | engineAtRest | driftUpdate | feedbackConsume
  | plumeCheck | plumeHoldLong | loopSampleConsume | mplReclose | mplResetIntegral | lnkEnable | lnkDisable | lnkRetrain | lnkRelearn | markerLock
  | capBlock | stepEcho | trainingEnd | errorTestEnd | laneLost | laneFreeze | refreshBurst | driftRelearn | upstreamFrame | tileHdr | tileData
  | sourceStatusConsume | xyStatusFrame | armedTrig | fvalRise | fvalFall | frameTimeout | frameClose | mpfHandover | lampDiagnosis | lampPulseEnd
  | lampProbe | lampEnable | lampDisable | folStart | folCancel | folRelease | suspendResume | programFail | eraseFail | targetTimeout | axMove
  | axStop | axQuickStop | axHome | axJog | axGearEngage | axGearDisengage | axGearArmSwitch | axisEnable | axisDisable | axProfileWrite
  | jogSpeedWrite | stepPulse | wakeDelayElapsed | standstillDelayElapsed | switchInputEdge | holdoffEnd | encoderEdge | encoderIndex | encoderTooth
  | encoderSpeedTimeout | cmpArm | cmpDisarm | cmpPositionWrite | cmpPulseEnd | arpReply | icmpEcho | ptpReceive | rxFrameDrop | launchEvaluate
  | txFrameSent | linkDown | linkUp | fltAckAck | fltAckClear | sensorReading | calPointTimeout | txnCommitCopyEnd =>
    exact .inr (.inr ⟨rfl, _, actOn_eq_act _ _ _⟩)

theorem run_pending {f : State → State} {s t : State} (h : run f s = .next t) : t.pending = s.pending := by rw [run_inv h]

theorem always_pending {f : State → State} {s t : State} (h : always f s = .next t) : t.pending = s.pending := by cases h; rfl

theorem act_pending {f : State → State} {s t : State} (h : act f s = .next t) : t.pending = s.pending := by
  obtain ⟨u, hu, -, hp⟩ := act_answers f s
  cases hu.symm.trans h
  exact hp

theorem exec_pending {c : Instr} {s t : State} (h : exec c s = .next t) : t.pending = s.pending := by
  obtain ⟨f, -, hf⟩ | ⟨-, f, hf⟩ | ⟨-, f, hf⟩ := exec_form c <;> rw [hf] at h
  · exact run_pending h
  · exact always_pending h
  · exact act_pending h

/-- TICK before and after the operation of a command that may move it. -/
theorem clockOp_tick {c : Instr} {f : State → State} (h : clockOp c = some f) (s : State) :
    (f s).tick = s.tick ∨ ((∃ inp, c = .tick inp) ∧ Tick.runs s = true ∧ (f s).tick = s.tick + 1) ∨
      (bootsModule c = true ∧ (f s).tick = 0 ∧ (f s).dev.mode = .boot) := by
  cases c with
  | tick inp =>
    cases h
    by_cases hr : Tick.runs s = true
    · exact .inr (.inl ⟨⟨inp, rfl⟩, hr, Tick.tick_running inp hr⟩)
    · exact .inl (congrArg State.tick (Tick.tick_still inp hr))
  | enableRise => cases h; exact (Pwr.enableRise_staysOrBoots s).imp_right fun hb => .inr ⟨rfl, hb⟩
  | standbyStart => cases h; exact (Pwr.standbyStart_staysOrBoots s).imp_right fun hb => .inr ⟨rfl, hb⟩
  | mainSwitchClose => cases h; exact (Pwr.mainClose_staysOrBoots s).imp_right fun hb => .inr ⟨rfl, hb⟩
  | thermalExitCheck readings => cases h; exact (Pwr.exitCheck_staysOrBoots readings s).imp_right fun hb => .inr ⟨rfl, hb⟩
  | _ => cases h

/-- Settles O54: only the commands with a clock operation can move TICK, and each of these advances it by one or starts it again in BOOT. -/
theorem tickMovesOnlyByTick : Obligations.TickMovesOnlyByTick := by
  intro c s t h
  obtain ⟨f, hc, hf⟩ | ⟨-, f, hf⟩ | ⟨-, f, hf⟩ := exec_form c <;> rw [hf] at h
  · rw [run_inv h]
    exact clockOp_tick hc s
  · exact .inl (always_tick h)
  · exact .inl (act_tick h)

/-! ### The TICKs still waiting -/

theorem step_nil {s : State} (h : s.pending = []) : step s = .next s := by simp only [step, h]

theorem step_cons {c : Instr} {rest : List Instr} {s : State} (h : s.pending = c :: rest) : step s = exec c { s with pending := rest } := by
  simp only [step, h]

@[simp] theorem ticksQueued_cons_tick (inp : TickIn) (l : List Instr) : ticksQueued (.tick inp :: l) = ticksQueued l + 1 := rfl

theorem ticksQueued_le_cons (c : Instr) (l : List Instr) : ticksQueued l ≤ ticksQueued (c :: l) :=
  ((List.sublist_cons_self c l).filter _).length_le

/-- Settles O55: taking a command from the queue adds no waiting TICK, and a command that advances TICK was itself one of those waiting. -/
theorem tickBudgetIsKept : Obligations.TickBudgetIsKept := by
  intro N s t hN h
  cases hq : s.pending with
  | nil =>
    rw [step_nil hq] at h
    cases h
    exact hN
  | cons c rest =>
    rw [step_cons hq] at h
    rw [hq] at hN
    have hp : t.pending = rest := exec_pending h
    have hle := ticksQueued_le_cons c rest
    rw [hp]
    obtain hkept | ⟨⟨inp, rfl⟩, -, hone⟩ | ⟨-, hzero, -⟩ := tickMovesOnlyByTick c _ t h
    · have : t.tick = s.tick := hkept
      omega
    · have : t.tick = s.tick + 1 := hone
      rw [ticksQueued_cons_tick] at hN
      omega
    · omega

/-! ### The registers after reset -/

theorem Dict.key_idx {idx sub : Nat} (hi : idx < 65536) (hs : sub < 256) : Dict.key 0 idx sub / 256 % 65536 = idx := by
  unfold Dict.key; omega

theorem Dict.key_sub {idx sub : Nat} (hs : sub < 256) : Dict.key 0 idx sub % 256 = sub := by
  unfold Dict.key; omega

/-- A register that nothing has written reads its default. -/
theorem Regs.get_nil {rows : List Dict.Row} {idx sub : Nat} {r : Dict.Row} (hi : idx < 65536) (hs : sub < 256) (h : Dict.find rows idx sub = some r) :
    Regs.get rows [] (Dict.key 0 idx sub) = Dict.dfltOf r idx sub := by
  simp [Regs.get, Tab.get, Tab.find, Dict.dflt, Dict.key_idx hi hs, Dict.key_sub hs, h]

/-- P_MIN and P_MAX of the parameter sets each have one row, of the form of R91. -/
theorem Dict.find_powerLimit {n sub : Nat} (hn : n < 256) (hs : sub = D.PS_P_MIN ∨ sub = D.PS_P_MAX) :
    Dict.find Dict.trjRows (D.iPS + n) sub = some ⟨D.iPS, 256, sub, 1, 1, .u16, .rw, .c 0, .any⟩ := by
  have hi : 0x2900 + n < 0x2A00 := by omega
  obtain rfl | rfl := hs
  · simp [Dict.trjRows, Dict.trjRows1, Dict.find, Dict.covers, D.iPS, D.PS_P_MIN, hi]
  · simp [Dict.trjRows, Dict.trjRows1, Dict.find, Dict.covers, D.iPS, D.PS_P_MAX, hi]

theorem State.powerLimit_reset {n sub : Nat} (hn : n < 256) (hs : sub = D.PS_P_MIN ∨ sub = D.PS_P_MAX) : State.rTrj State.reset (D.iPS + n) sub = 0 :=
  Regs.get_nil (by unfold D.iPS; omega) (by obtain rfl | rfl := hs <;> decide) (Dict.find_powerLimit hn hs)

/-- Settles O56: the parts of the reset state as written, and the power limits of every parameter set at the default of their entry. -/
theorem resetIsTheStartOfBoot : Obligations.ResetIsTheStartOfBoot :=
  ⟨rfl, rfl, rfl, rfl, rfl, rfl, rfl, rfl, Nat.le_refl 0, fun _ hn => ⟨State.powerLimit_reset hn (.inl rfl), State.powerLimit_reset hn (.inr rfl)⟩⟩

end Sys2Proof.Machine

/-!
PROOFS of 06_trajectory_correction.md: engines at rest, drift, feedback, source status, the end of a re-plan and of a reach-map computation. The operations
on one channel are composed in `OnChannel`, which says what an operation on a channel leaves alone; a stop along the path (R156) is one of them. What a
re-plan does to the stripes of its channel may reset contexts and disable channels (R105), and leaves LND_REPLANS as it is (`Lend.replans`).
-/
namespace Sys2Proof.Machine

/-! ### What a command leaves alone -/

theorem keeps.mono {ps qs : List Part} {s t : State} (h : keeps ps s t) (hs : ps ⊆ qs) : keeps qs s t :=
  ⟨h.1, fun p hp => h.2 p fun hm => hp (hs hm)⟩

theorem keeps.same {ps : List Part} {s t : State} (h : keeps ps s t) (p : Part) (hp : p ∉ ps) : p.same s t := h.2 p hp

theorem keeps_one {q : Part} {s t : State} (hp : t.pending = s.pending) (h : ∀ p, p ≠ q → p.same s t) : keeps [q] s t :=
  ⟨hp, fun p hn => h p (by simpa using hn)⟩

theorem keeps_trj (s : State) (x : TrjSt) : keeps [.trj] s { s with trj := x } :=
  keeps_one rfl fun p hp => by cases p with | trj => exact absurd rfl hp | _ => rfl

theorem keeps_att (s : State) (x : AttSt) : keeps [.att] s { s with att := x } :=
  keeps_one rfl fun p hp => by cases p with | att => exact absurd rfl hp | _ => rfl

theorem keeps_lnk (s : State) (x : LnkSt) : keeps [.lnk] s { s with lnk := x } :=
  keeps_one rfl fun p hp => by cases p with | lnk => exact absurd rfl hp | _ => rfl

theorem keeps_lnd (s : State) (x : LndSt) : keeps [.lnd] s { s with lnd := x } :=
  keeps_one rfl fun p hp => by cases p with | lnd => exact absurd rfl hp | _ => rfl

theorem keeps_raised (s : State) (x : List Msg) : keeps [.raised] s { s with raised := x } :=
  keeps_one rfl fun p hp => by cases p with | raised => exact absurd rfl hp | _ => rfl

theorem others.trans {α : Type} {n k : Nat} {own : State → Nat → α} {entry : State → Nat → Nat → Int} {s t u : State}
    (h : others n k own entry s t) (h' : others n k own entry t u) : others n k own entry s u := fun j hj hk =>
  ⟨(h' j hj hk).1.trans (h j hj hk).1, fun sub hs => ((h' j hj hk).2 sub hs).trans ((h j hj hk).2 sub hs)⟩

theorem otherEngines_of_trj {s t : State} (c : Nat) (h : t.trj = s.trj) : otherEngines c s t := by
  intro j _ _
  simp only [State.engOf, State.rTrj, h, implies_true, and_self]

theorem otherHeads_of_att {s t : State} (c : Nat) (h : t.att = s.att) : otherHeads c s t := by
  intro j _ _
  simp only [State.attOf, State.rAtt, h, implies_true, and_self]

/-! ### A command that leaves TICK and the queue alone completes in what its operation answers -/

section

variable {ps : List Part} {f : State → State} {i n : Nat} {c : Instr} {s : State} {P : State → Prop}

theorem keeps.clock {t : State} (h : keeps ps s t) (ht : Part.tick ∉ ps) : { t with tick := s.tick, pending := s.pending } = t := by
  obtain ⟨hp, hk⟩ := h
  have htick : t.tick = s.tick := hk .tick ht
  rw [← hp, ← htick]

theorem completes_of_act_keeps (he : exec c s = act f s) (hr : s.pwr.rails = true) (hk : keeps ps s (f s)) (ht : Part.tick ∉ ps) (hp : P (f s)) :
    completes c s P :=
  completes_of_act he hr ((hk.clock ht).symm ▸ hp)

theorem completes_of_actOn_keeps (he : exec c s = actOn i n f s) (hi : i < n) (hr : s.pwr.rails = true) (hk : keeps ps s (f s)) (ht : Part.tick ∉ ps)
    (hp : P (f s)) : completes c s P :=
  completes_of_act_keeps (he.trans (actOn_unit hi)) hr hk ht hp

/-- A command whose operation does nothing completes in the state it found, the core rails on or off. -/
theorem completes_idle_of_act (he : exec c s = act f s) (hf : f s = s) : completes c s fun t => t = s := by
  obtain hr | hr := Bool.eq_false_or_eq_true s.pwr.rails
  · exact completes_of_act_keeps he hr (ps := []) (hf.symm ▸ keeps.refl _ s) (by simp) hf
  · exact ⟨s, he.trans (act_no_rails hr), rfl⟩

theorem completes_idle_of_actOn (he : exec c s = actOn i n f s) (hf : f s = s) : completes c s fun t => t = s :=
  completes_idle_of_act (he.trans (actOn_eq_act i n f s)) (by simp [hf])

end

/-! ### Keys and register types -/

theorem Dict.key_inj {i j sub sub' : Nat} (hs : sub < 256) (hs' : sub' < 256) : Dict.key 0 i sub = Dict.key 0 j sub' ↔ i = j ∧ sub = sub' := by
  unfold Dict.key; omega

theorem Dict.key_ne {i j sub sub' : Nat} (hs : sub < 256) (hs' : sub' < 256) (h : i ≠ j) : Dict.key 0 i sub ≠ Dict.key 0 j sub' :=
  fun hk => h ((Dict.key_inj hs hs').mp hk).1

theorem Dict.key_ne_of_sub {i j sub sub' : Nat} (hs : sub < 256) (hs' : sub' < 256) (h : sub ≠ sub') : Dict.key 0 i sub ≠ Dict.key 0 j sub' :=
  fun hk => h ((Dict.key_inj hs hs').mp hk).2

/-- What an unsigned entry can hold is held as it is. -/
theorem Dict.norm_unsigned {t : Dict.Ty} {v : Int} (hb : t ≠ .bool) (hs : Dict.signed t = false) (h0 : 0 ≤ v) (hv : v < (2 ^ Dict.width t : Nat)) :
    Dict.norm t v = v := by
  have h : Dict.norm t v = (Arith.toUnsigned (Dict.width t) v : Nat) := by
    cases t with
    | bool => exact absurd rfl hb
    | i16 | i32 | i64 => cases hs
    | _ => rfl
  rw [h, Arith.toUnsigned_mod, Int.emod_eq_of_lt h0 hv]

theorem Dict.norm_i16 {v : Int} (h0 : -32768 ≤ v) (hv : v < 32768) : Dict.norm .i16 v = v := by
  have hw := Arith.toUnsigned_mod 16 v
  change Arith.toSigned 16 (Arith.toUnsigned 16 v) = v
  generalize Arith.toUnsigned 16 v = w at hw
  unfold Arith.toSigned
  dsimp only
  split <;> omega

theorem Arith.clamp_bounds {lo hi : Int} (h : lo ≤ hi) (v : Int) : lo ≤ Arith.clamp lo hi v ∧ Arith.clamp lo hi v ≤ hi := by
  unfold Arith.clamp
  split
  · omega
  · split <;> omega

theorem Regs.get_inc_same {rows : List Dict.Row} {k : Nat} {r : Dict.Row} (h : Dict.find rows (k / 256 % 65536) (k % 256) = some r) (m : Regs) (d : Int) :
    Regs.get rows (Regs.inc rows m k d) k = Dict.norm r.ty (Arith.clamp (Dict.tyMin r.ty) (Dict.tyMax r.ty) (Regs.get rows m k + d)) := by
  simp only [Regs.inc, h]
  exact Regs.get_set_same h _ _

theorem Regs.get_inc_other (rows : List Dict.Row) {k j : Nat} (m : Regs) (d : Int) (h : j ≠ k) :
    Regs.get rows (Regs.inc rows m k d) j = Regs.get rows m j := by
  unfold Regs.inc
  split
  · exact Regs.get_set_other _ _ _ h
  · rfl

/-- A counter of 32 bits counts and saturates (R9). -/
theorem Regs.get_inc_u32 {rows : List Dict.Row} {k : Nat} {r : Dict.Row} (h : Dict.find rows (k / 256 % 65536) (k % 256) = some r) (ht : r.ty = .u32)
    (m : Regs) (d : Int) : Regs.get rows (Regs.inc rows m k d) k = Arith.clamp 0 4294967295 (Regs.get rows m k + d) := by
  obtain ⟨hlo, hhi⟩ := Arith.clamp_bounds (show (0 : Int) ≤ 4294967295 by decide) (Regs.get rows m k + d)
  rw [Regs.get_inc_same h, ht]
  exact Dict.norm_unsigned (by decide) rfl hlo (Int.lt_of_le_of_lt hhi (by decide))

/-! ### The state before and after an operation on one channel -/

/-- The entries of a source that its status frame reports (R288, R296). -/
def reported : List Nat := [D.SRC_STATUS, D.SRC_EMISSION, D.SRC_SOURCE_TEMP]

/-- An operation on channel `c` leaves the other engines, the other heads and what the source reported as they were, and every part but the named ones. -/
structure OnChannel (c : Nat) (ps : List Part) (s t : State) : Prop where
  engines : otherEngines c s t
  heads : otherHeads c s t
  source : ∀ sub ∈ reported, State.rAtt t (D.iSRC + c) sub = State.rAtt s (D.iSRC + c) sub
  parts : keeps ps s t

namespace OnChannel

variable {c : Nat} {ps qs : List Part} {s t u : State}

theorem trans (h : OnChannel c ps s t) (h' : OnChannel c ps t u) : OnChannel c ps s u :=
  ⟨others.trans h.engines h'.engines, others.trans h.heads h'.heads, fun sub hs => (h'.source sub hs).trans (h.source sub hs), h.parts.trans h'.parts⟩

theorem mono (h : OnChannel c ps s t) (hs : ps ⊆ qs) : OnChannel c qs s t := ⟨h.engines, h.heads, h.source, h.parts.mono hs⟩

theorem refl (c : Nat) (ps : List Part) (s : State) : OnChannel c ps s s :=
  ⟨otherEngines_of_trj c rfl, otherHeads_of_att c rfl, fun _ _ => rfl, keeps.refl ps s⟩

theorem ite {b : Prop} {_ : Decidable b} (h : OnChannel c ps s t) (h' : OnChannel c ps s u) : OnChannel c ps s (if b then t else u) := by
  split
  · exact h
  · exact h'

theorem of_trj {x : TrjSt} (h : otherEngines c s { s with trj := x }) : OnChannel c [.trj] s { s with trj := x } :=
  ⟨h, otherHeads_of_att c rfl, fun _ _ => rfl, keeps_trj s x⟩

theorem setEng (s : State) (c : Nat) (e : Engine) : OnChannel c [.trj] s (State.setEng s c e) :=
  of_trj fun _ _ hj => ⟨State.setEng_other s c e hj, fun _ _ => rfl⟩

theorem modEng (s : State) (c : Nat) (f : Engine → Engine) : OnChannel c [.trj] s (State.modEng s c f) := setEng s c _

theorem wTrj (s : State) (c : Nat) {sub : Nat} (hs : sub < 256) (v : Int) : OnChannel c [.trj] s (State.wTrj s (D.iTRJ + c) sub v) :=
  of_trj fun _ _ hj => ⟨rfl, fun _ hs' => State.rTrj_wTrj_other s v (Dict.key_ne hs' hs (by omega))⟩

theorem raise (c : Nat) (s : State) (src kind addr : Nat) : OnChannel c [.raised] s (State.raise s src kind addr) :=
  ⟨otherEngines_of_trj c rfl, otherHeads_of_att c rfl, fun _ _ => rfl, keeps_raised s _⟩

theorem modAtt (s : State) (c : Nat) (f : Attach → Attach) : OnChannel c [.att] s (State.modAtt s c f) :=
  ⟨otherEngines_of_trj c rfl, fun _ _ hj => ⟨State.modAtt_other s c f hj, fun _ _ => rfl⟩, fun _ _ => rfl, keeps_att s _⟩

theorem reported_lt {sub : Nat} (h : sub ∈ reported) : sub < 256 := by
  revert sub; decide

/-- A write to the head's own record (R295). -/
theorem incHead (s : State) (c : Nat) {sub : Nat} (hs : sub < 256) (d : Int) : OnChannel c [.att] s (State.incAtt s (D.iHDP + c) sub d) :=
  ⟨otherEngines_of_trj c rfl, fun _ _ hj => ⟨rfl, fun _ hs' => Regs.get_inc_other _ _ _ (Dict.key_ne hs' hs (by omega))⟩,
    fun _ hr => Regs.get_inc_other _ _ _ (Dict.key_ne (reported_lt hr) hs (by simp only [D.iSRC, D.iHDP]; omega)), keeps_att s _⟩

theorem head_ne_source {c j : Nat} (hj : j < 24) : D.iHDP + j ≠ D.iSRC + c := by
  simp only [D.iSRC, D.iHDP]; omega

theorem source_key_ne {c sub sub' : Nat} (hs : sub < 256) (hr : sub ∉ reported) (h : sub' ∈ reported) :
    Dict.key 0 (D.iSRC + c) sub' ≠ Dict.key 0 (D.iSRC + c) sub :=
  fun hk => hr (((Dict.key_inj (reported_lt h) hs).mp hk).2 ▸ h)

theorem wSource_heads (s : State) (c : Nat) {sub : Nat} (hs : sub < 256) (v : Int) : otherHeads c s (State.wAtt s (D.iSRC + c) sub v) :=
  fun _ hj _ => ⟨rfl, fun _ hs' => State.rAtt_wAtt_other s v (Dict.key_ne hs' hs (head_ne_source hj))⟩

/-- A write to an entry of the source that its frames do not report (R296). -/
theorem wSource (s : State) (c : Nat) {sub : Nat} (hs : sub < 256) (hr : sub ∉ reported) (v : Int) :
    OnChannel c [.att] s (State.wAtt s (D.iSRC + c) sub v) :=
  ⟨otherEngines_of_trj c rfl, wSource_heads s c hs v, fun _ h => State.rAtt_wAtt_other s v (source_key_ne hs hr h), keeps_att s _⟩

theorem incSource (s : State) (c : Nat) {sub : Nat} (hs : sub < 256) (hr : sub ∉ reported) (d : Int) :
    OnChannel c [.att] s (State.incAtt s (D.iSRC + c) sub d) :=
  ⟨otherEngines_of_trj c rfl, fun _ hj _ => ⟨rfl, fun _ hs' => Regs.get_inc_other _ _ _ (Dict.key_ne hs' hs (head_ne_source hj))⟩,
    fun _ h => Regs.get_inc_other _ _ _ (source_key_ne hs hr h), keeps_att s _⟩

end OnChannel

/-! ### A stop along the path stays on its channel (R156) -/

namespace Eng

/-- The parts a stop along the path can change: the engine, the override of its source, the messages. -/
abbrev stopParts : List Part := [.trj, .att, .raised]

theorem event_onChannel (s : State) (c kind : Nat) : OnChannel c [.trj, .raised] s (event s c kind) := by
  have flagged : OnChannel c [.trj, .raised] s (if 1 ≤ kind ∧ kind ≤ 9 then
      State.wTrj s (D.iTRJ + c) D.TRJ_FLAGS ((Arith.setBit (State.rTrj s (D.iTRJ + c) D.TRJ_FLAGS).toNat (kind - 1) true : Nat) : Int) else s) :=
    ((OnChannel.wTrj s c (by decide) _).mono (by simp)).ite (.refl ..)
  exact flagged.trans ((OnChannel.raise c _ _ _ _).mono (by simp))

theorem modEng_stops (s : State) (c : Nat) (f : Engine → Engine) : OnChannel c stopParts s (State.modEng s c f) :=
  (OnChannel.modEng s c f).mono (by simp)

theorem setEng_stops (s : State) (c : Nat) (e : Engine) : OnChannel c stopParts s (State.setEng s c e) :=
  (OnChannel.setEng s c e).mono (by simp)

theorem makeSlot_stops (s : State) (c k : Nat) (pos : Pt) (ph : Option Phase) (rep : Bool) : OnChannel c stopParts s (makeSlot s c k pos ph rep) :=
  (setEng_stops s c _).trans (((modEng_stops _ c _).trans ((event_onChannel _ c 5).mono (by simp))).ite (.refl ..))

theorem stopRegs_stops (s : State) (c : Nat) (p : Pt) (b : Nat) : OnChannel c stopParts s (stopRegs s c p b) :=
  (((OnChannel.wTrj s c (by decide) _).trans (OnChannel.wTrj _ c (by decide) _)).trans (OnChannel.wTrj _ c (by decide) _)).mono (by simp)

theorem recordStop_stops (c : Nat) (s : State) : OnChannel c stopParts s (recordStop c s) := by
  unfold recordStop
  split
  · exact ((modEng_stops s c _).trans (stopRegs_stops _ c _ _)).ite (.refl ..)
  · exact .refl ..

theorem stopSlot_stops (s : State) (c : Nat) (r : StopRun) : OnChannel c stopParts s (stopSlot s c r) :=
  ((modEng_stops s c _).trans (makeSlot_stops _ c _ _ _ _)).trans ((setEng_stops _ c _).ite (setEng_stops _ c _))

theorem stopFill_stops (n c k : Nat) (s : State) : OnChannel c stopParts s (stopFill n c k s) := by
  induction n generalizing s with
  | zero => exact .refl ..
  | succ n ih =>
    unfold stopFill
    split
    · exact ((stopSlot_stops s c _).trans (ih _)).ite (.refl ..)
    · exact .refl ..

theorem stopAt_stops (s : State) (c c0 at4 prAt : Nat) (why : HoldWhy) : OnChannel c stopParts s (stopAt s c c0 at4 prAt why) :=
  (((setEng_stops s c _).trans ((OnChannel.refl ..).ite (makeSlot_stops _ c _ _ _ _))).trans
    ((OnChannel.refl ..).ite ((OnChannel.modAtt _ c _).mono (by simp)))).trans ((recordStop_stops c _).trans (stopFill_stops _ c _ _))

theorem stopNow_stops (s : State) (c : Nat) (why : HoldWhy) : OnChannel c stopParts s (stopNow s c why) :=
  (modEng_stops s c _).ite (stopAt_stops s c _ _ _ why)

end Eng

/-! ### An engine comes to rest, and the lanes that waited for it relearn (R168, R266) -/

namespace Lnk

theorem modLane_keeps (s : State) (m : Nat) (f : Lane → Lane) : keeps [.lnk] s (State.modLane s m f) := keeps_lnk s _

theorem put_keeps (s : State) (m sub v : Nat) : keeps [.lnk] s (put s m sub v) := keeps_lnk s _

theorem enter_keeps (s : State) (m : Nat) (d : LaneMode) : keeps [.lnk] s (enter s m d) :=
  ((modLane_keeps s m _).trans (put_keeps _ m _ _)).trans (put_keeps _ m _ _)

theorem relearn_keeps (s : State) (m : Nat) : keeps [.lnk] s (relearn s m) :=
  (((enter_keeps s m .relearn).trans (modLane_keeps _ m _)).trans ((modLane_keeps _ m _).trans (modLane_keeps _ m _))).trans (keeps_lnk _ _)

theorem atRest_keeps (c : Nat) (s : State) : keeps [.lnk] s (atRest c s) :=
  ((relearn_keeps s c).ite (keeps.refl _ s)).trans ((relearn_keeps _ (24 + c)).ite (keeps.refl _ _))

end Lnk

/-- What keeps engines and attachments keeps every other channel. -/
theorem OnChannel.of_keeps {ps : List Part} {s t : State} (c : Nat) (h : keeps ps s t) (ht : Part.trj ∉ ps) (ha : Part.att ∉ ps) : OnChannel c ps s t :=
  have hatt : t.att = s.att := h.same .att ha
  ⟨otherEngines_of_trj c (h.same .trj ht), otherHeads_of_att c hatt, fun _ _ => by rw [State.rAtt, State.rAtt, hatt], h⟩

theorem State.engOf_of_keeps {ps : List Part} {s t : State} (c : Nat) (h : keeps ps s t) (ht : Part.trj ∉ ps) : State.engOf t c = State.engOf s c :=
  congrArg (fun x : TrjSt => Tab.get (fun _ => Engine.init) x.tab c) (h.same .trj ht)

namespace Att

/-- The motion in which a stop that is over leaves an engine (R168). -/
def restMotion (s : State) (c : Nat) : Motion := if !(State.engOf s c).stripes.isEmpty && State.chOf s c == .started then .hold else .rest

theorem atRest_of_stopped {s : State} {c : Nat} (h : Eng.stopped s (State.engOf s c) = true) :
    atRest c s = Lnk.atRest c (State.setEng s c { State.engOf s c with motion := restMotion s c }) := if_pos h

theorem atRest_of_moving {s : State} {c : Nat} (h : Eng.stopped s (State.engOf s c) = false) : atRest c s = s := if_neg (by simp [h])

theorem atRest_onChannel (c : Nat) (s : State) : OnChannel c [.trj, .lnk] s (atRest c s) :=
  (((OnChannel.setEng s c _).mono (by simp)).trans ((OnChannel.of_keeps c (Lnk.atRest_keeps c _) (by simp) (by simp)).mono (by simp))).ite (.refl ..)

theorem engineAtRest_of_stopped {s : State} {c : Nat} (hr : s.pwr.rails = true) (hc : c < 24) (h : Eng.stopped s (State.engOf s c) = true) :
    completes (.engineAtRest c) s fun t => (State.engOf t c).motion = restMotion s c ∧ otherEngines c s t ∧ keeps [.trj, .lnk, .att, .raised] s t := by
  have on := atRest_onChannel c s
  refine completes_of_actOn_keeps rfl hc hr on.parts (by simp) ⟨?_, on.engines, on.parts.mono (by simp)⟩
  rw [atRest_of_stopped h, State.engOf_of_keeps c (Lnk.atRest_keeps c _) (by simp), State.setEng_same]

end Att

/-! ### What is read on a channel after its engine was changed -/

namespace State

@[simp] theorem attOf_modEng (s : State) (c j : Nat) (f : Engine → Engine) : attOf (modEng s c f) j = attOf s j := rfl
@[simp] theorem legacy_modEng (s : State) (c j : Nat) (f : Engine → Engine) : legacy (modEng s c f) j = legacy s j := rfl
@[simp] theorem analog_modEng (s : State) (c j : Nat) (f : Engine → Engine) : analog (modEng s c f) j = analog s j := rfl
@[simp] theorem laneUp_modEng (s : State) (c m : Nat) (f : Engine → Engine) : laneUp (modEng s c f) m = laneUp s m := rfl
@[simp] theorem latencyOf_modEng (s : State) (c j : Nat) (f : Engine → Engine) : latencyOf (modEng s c f) j = latencyOf s j := rfl
@[simp] theorem rTrj_modEng (s : State) (c idx sub : Nat) (f : Engine → Engine) : rTrj (modEng s c f) idx sub = rTrj s idx sub := rfl
@[simp] theorem engOf_wTrj (s : State) (c idx sub : Nat) (v : Int) : engOf (wTrj s idx sub v) c = engOf s c := rfl
@[simp] theorem engOf_incAtt (s : State) (c idx sub : Nat) (d : Int) : engOf (incAtt s idx sub d) c = engOf s c := rfl

end State

namespace Eng

@[simp] theorem engOf_event (s : State) (c kind j : Nat) : State.engOf (event s c kind) j = State.engOf s j := by
  unfold event
  dsimp only
  split <;> rfl

/-- A message of an engine carries the tick of the build (R172). -/
@[simp] theorem event_raised (s : State) (c kind : Nat) : (event s c kind).raised = s.raised ++ [⟨0x80 + c, kind, s.btick % 2 ^ 32⟩] := by
  unfold event
  dsimp only
  split <;> simp only [State.raise, State.btickLow, Nat.mod_mod, State.wTrj_raised, State.wTrj_btick]

end Eng

/-! ### Drift (R165) -/

namespace Att

theorem drift_not_due {s : State} {c : Nat} (h : driftDue s c = false) : drift c s = s := if_pos (by simp [h])

theorem drift_present {s : State} {c : Nat} {f : Feedback} (hd : driftDue s c = true) (hl : State.legacy s c = false)
    (hf : Tab.find (State.attOf s c).fb (s.tick - State.latencyOf s c) = some f) (hv : Arith.bit f.status 5 = true) :
    drift c s = State.wTrj (State.modEng (State.modEng s c fun e => { e with driftDone := some s.btick }) c fun e =>
      { e with dtheta := f.temp - State.rTrj s (D.iCOR + c) D.COR_DRIFT_REF, driftAbsent := 0, driftValid := true }) (D.iTRJ + c) D.TRJ_HEAD_TEMP f.temp := by
  simp [drift, hd, hl, hf, hv]

theorem drift_absent {s : State} {c : Nat} (hd : driftDue s c = true) (hl : State.legacy s c = false)
    (hf : Tab.find (State.attOf s c).fb (s.tick - State.latencyOf s c) = none) :
    drift c s =
      (let t := State.modEng (State.modEng s c fun e => { e with driftDone := some s.btick }) c fun e =>
        { e with driftAbsent := (State.engOf s c).driftAbsent + 1 }
      if (State.engOf s c).driftAbsent = 4 then Eng.event t c 9 else t) := by
  simp [drift, hd, hl, hf]

theorem find_headTemp {c : Nat} (hc : c < 24) :
    Dict.find Dict.trjRows (Dict.key 0 (D.iTRJ + c) D.TRJ_HEAD_TEMP / 256 % 65536) (Dict.key 0 (D.iTRJ + c) D.TRJ_HEAD_TEMP % 256) =
      some ⟨D.iTRJ, 24, D.TRJ_HEAD_TEMP, 1, 1, .i16, .ro, .c 0, .any⟩ := by
  revert c; decide

theorem driftUpdate_present {s : State} {c : Nat} {f : Feedback} (hr : s.pwr.rails = true) (hc : c < 24) (hd : driftDue s c = true)
    (hl : State.legacy s c = false) (hf : Tab.find (State.attOf s c).fb (s.tick - State.latencyOf s c) = some f) (hv : Arith.bit f.status 5 = true)
    (hlo : -32768 ≤ f.temp) (hhi : f.temp < 32768) :
    completes (.driftUpdate c) s fun t => State.rTrj t (D.iTRJ + c) D.TRJ_HEAD_TEMP = f.temp ∧ State.engOf t c =
      { State.engOf s c with driftDone := some s.btick, dtheta := f.temp - State.rTrj s (D.iCOR + c) D.COR_DRIFT_REF, driftAbsent := 0, driftValid := true } ∧
      otherEngines c s t ∧ keeps [.trj] s t := by
  have on : OnChannel c [.trj] s (drift c s) := by
    rw [drift_present hd hl hf hv]
    exact ((OnChannel.modEng s c _).trans (.modEng _ c _)).trans (.wTrj _ c (by decide) _)
  refine completes_of_actOn_keeps rfl hc hr on.parts (by simp) ⟨?_, ?_, on.engines, on.parts⟩
  · rw [drift_present hd hl hf hv, State.rTrj_wTrj (find_headTemp hc), Dict.norm_i16 hlo hhi]
  · simp [drift_present hd hl hf hv]

theorem driftUpdate_absent {s : State} {c : Nat} (hr : s.pwr.rails = true) (hc : c < 24) (hd : driftDue s c = true) (hl : State.legacy s c = false)
    (hf : Tab.find (State.attOf s c).fb (s.tick - State.latencyOf s c) = none) :
    completes (.driftUpdate c) s fun t => State.engOf t c =
      { State.engOf s c with driftDone := some s.btick, driftAbsent := (State.engOf s c).driftAbsent + 1 } ∧
      t.raised = s.raised ++ (if (State.engOf s c).driftAbsent = 4 then [⟨0x80 + c, 9, s.btick % 2 ^ 32⟩] else []) ∧ otherEngines c s t ∧
      keeps [.trj, .raised] s t := by
  have on : OnChannel c [.trj, .raised] s (drift c s) := by
    rw [drift_absent hd hl hf]
    have counted := ((OnChannel.modEng s c fun e => { e with driftDone := some s.btick }).trans
      (.modEng _ c fun e => { e with driftAbsent := (State.engOf s c).driftAbsent + 1 })).mono (qs := [.trj, .raised]) (by simp)
    exact (counted.trans (Eng.event_onChannel _ c 9)).ite counted
  refine completes_of_actOn_keeps rfl hc hr on.parts (by simp) ⟨?_, ?_, on.engines, on.parts⟩
  all_goals
    rw [drift_absent hd hl hf]
    dsimp only
    split <;> simp

/-! ### Feedback (R160, R161, R295) -/

theorem fbConsume_of_due {s : State} {c k : Nat} (h : fbDue s c s.tick = some k) : fbConsume c s = fbTake s c k := by
  unfold fbConsume; rw [h]

theorem fbTake_absent {s : State} {c k : Nat} (hl : State.legacy s c = false) (hu : State.laneUp s c = true)
    (hf : Tab.find (State.attOf s c).fb k = none) : fbTake s c k = fbMissing (modPast s c k fun p => { p with fbDone := true }) c := by
  simp [fbTake, modPast, hl, hu, hf]

theorem feAbsent_of_short {s : State} {c : Nat} (h : (State.engOf s c).feAbsent ≠ 15) :
    feAbsent s c = State.modEng s c fun e => { e with feAbsent := (State.engOf s c).feAbsent + 1 } := if_neg (by omega)

/-- A missing position that does not complete a run of sixteen is counted, and the run goes on where the feedback is checked. -/
theorem fbMissing_of_short {s : State} {c : Nat} (h : Eng.follows s c = false ∨ (State.engOf s c).feAbsent ≠ 15) :
    fbMissing s c = State.incAtt s (D.iHDP + c) D.HDP_FB_ABSENT 1 ∨
      fbMissing s c = State.modEng (State.incAtt s (D.iHDP + c) D.HDP_FB_ABSENT 1) c fun e => { e with feAbsent := (State.engOf s c).feAbsent + 1 } := by
  by_cases hf : Eng.follows s c = true
  · exact .inr ((if_pos hf).trans (feAbsent_of_short (h.resolve_left (by simp [hf]))))
  · exact .inl (if_neg hf)

theorem find_fbAbsent {c : Nat} (hc : c < 24) :
    Dict.find Dict.attRows (Dict.key 0 (D.iHDP + c) D.HDP_FB_ABSENT / 256 % 65536) (Dict.key 0 (D.iHDP + c) D.HDP_FB_ABSENT % 256) =
      some ⟨D.iHDP, 24, D.HDP_FB_ABSENT, 1, 1, .u32, .rc, .c 0, .any⟩ := by
  revert c; decide

theorem rAtt_incAtt_fbAbsent (s : State) {c : Nat} (hc : c < 24) : State.rAtt (State.incAtt s (D.iHDP + c) D.HDP_FB_ABSENT 1) (D.iHDP + c) D.HDP_FB_ABSENT =
    Arith.clamp 0 4294967295 (State.rAtt s (D.iHDP + c) D.HDP_FB_ABSENT + 1) := Regs.get_inc_u32 (find_fbAbsent hc) rfl _ _

/-- What a missing position that does not complete a run leaves: the count, the past ticks, the other units. -/
theorem fbMissing_counts {s : State} {c : Nat} (hc : c < 24) (h : Eng.follows s c = false ∨ (State.engOf s c).feAbsent ≠ 15) :
    State.rAtt (fbMissing s c) (D.iHDP + c) D.HDP_FB_ABSENT = Arith.clamp 0 4294967295 (State.rAtt s (D.iHDP + c) D.HDP_FB_ABSENT + 1) ∧
      (State.engOf (fbMissing s c) c).past = (State.engOf s c).past ∧ OnChannel c [.trj, .att] s (fbMissing s c) := by
  have counted := (OnChannel.incHead s c (sub := D.HDP_FB_ABSENT) (by decide) 1).mono (qs := [.trj, .att]) (by simp)
  obtain he | he := fbMissing_of_short h <;> rw [he]
  · exact ⟨rAtt_incAtt_fbAbsent s hc, rfl, counted⟩
  · exact ⟨rAtt_incAtt_fbAbsent s hc, by simp, counted.trans ((OnChannel.modEng _ c _).mono (by simp))⟩

theorem feedbackConsume_absent {s : State} {c k : Nat} (hr : s.pwr.rails = true) (hc : c < 24) (hd : fbDue s c s.tick = some k)
    (hl : State.legacy s c = false) (hu : State.laneUp s c = true) (hf : Tab.find (State.attOf s c).fb k = none)
    (h : Eng.follows s c = false ∨ (State.engOf s c).feAbsent ≠ 15) :
    completes (.feedbackConsume c) s fun t =>
      State.rAtt t (D.iHDP + c) D.HDP_FB_ABSENT = Arith.clamp 0 4294967295 (State.rAtt s (D.iHDP + c) D.HDP_FB_ABSENT + 1) ∧
      (State.engOf t c).past = Arith.updWhere (fun p => p.k == k) (fun p => { p with fbDone := true }) (State.engOf s c).past ∧ otherEngines c s t ∧
      keeps [.trj, .att] s t := by
  let taken := modPast s c k fun p => { p with fbDone := true }
  have he : State.engOf taken c = { State.engOf s c with
      past := Arith.updWhere (fun p => p.k == k) (fun p => { p with fbDone := true }) (State.engOf s c).past } := State.modEng_same s c _
  have hq : Eng.follows taken c = false ∨ (State.engOf taken c).feAbsent ≠ 15 := by
    rw [Eng.follows, he]
    exact h
  obtain ⟨hcount, hpast, on⟩ := fbMissing_counts hc hq
  have step : fbConsume c s = fbMissing taken c := (fbConsume_of_due hd).trans (fbTake_absent hl hu hf)
  have all : OnChannel c [.trj, .att] s (fbConsume c s) := step ▸ ((OnChannel.modEng s c _).mono (by simp)).trans on
  refine completes_of_actOn_keeps rfl hc hr all.parts (by simp) ⟨?_, ?_, all.engines, all.parts⟩
  · rw [step, hcount]; rfl
  · rw [step, hpast, he]

/-! ### Source status (R288) -/

theorem condition_stops (s : State) (c src kind : Nat) (now : Bool) (stage : Attach → Attach) :
    OnChannel c Eng.stopParts s (condition s c src kind now stage) := by
  have att (f : Attach → Attach) : OnChannel c Eng.stopParts s (State.modAtt s c f) := (OnChannel.modAtt s c f).mono (by simp)
  have raised (u : State) : OnChannel c Eng.stopParts u (State.raise u src kind (tickLow u)) := (OnChannel.raise c u _ _ _).mono (by simp)
  exact (att _).ite ((OnChannel.refl ..).ite (((att _).trans (raised _)).trans (Eng.stopNow_stops _ c _)))

theorem srcFault_stops (s : State) (c kind : Nat) : OnChannel c Eng.stopParts s (srcFault s c kind) :=
  (((OnChannel.modAtt s c _).mono (by simp)).trans ((OnChannel.raise c _ _ _ _).mono (by simp))).trans (Eng.stopNow_stops _ c _)

theorem hbCheck_stops (s : State) (c : Nat) (ok : Bool) : OnChannel c Eng.stopParts s (hbCheck s c ok) := by
  have counted (u : State) : OnChannel c Eng.stopParts u (State.incAtt u (D.iSRC + c) D.SRC_HB_LOSSES 1) :=
    (OnChannel.incSource u c (by decide) (by decide) 1).mono (by simp)
  exact ((OnChannel.modAtt s c _).mono (by simp)).trans (((counted _).trans (srcFault_stops _ c _)).ite (.refl ..))

theorem emCheck_stops (s : State) (c k : Nat) (f : SrcFrame) : OnChannel c Eng.stopParts s (emCheck s c k f) := by
  unfold emCheck
  dsimp only
  refine .ite (.refl ..) ?_
  split
  · exact OnChannel.ite (((OnChannel.modAtt s c _).mono (by simp)).trans ((srcFault_stops _ c _).ite (.refl ..))) (.refl ..)
  · exact .refl ..

/-- The entries that report the status of a source, written from a frame (R288). -/
def reports (s : State) (c : Nat) (f : SrcFrame) : State :=
  let w := fun s sub (v : Int) => State.wAtt s (D.iSRC + c) sub v
  w (w (w s D.SRC_STATUS f.status) D.SRC_EMISSION f.emission) D.SRC_SOURCE_TEMP f.temp

/-- After a present frame is reported, its checks may stop the channel, and leave what was reported. -/
theorem stTake_present {s : State} {c k : Nat} {f : SrcFrame} (ha : State.analog s c = false) (hu : State.laneUp s (24 + c) = true)
    (hf : Tab.find (State.attOf s c).st k = some f) :
    OnChannel c Eng.stopParts (reports (modPast s c k fun p => { p with statusDone := true }) c f) (stTake s c k) := by
  have att (u : State) (g : Attach → Attach) : OnChannel c Eng.stopParts u (State.modAtt u c g) := (OnChannel.modAtt u c g).mono (by simp)
  have fault (u : State) (v : Int) : OnChannel c Eng.stopParts u (State.wAtt u (D.iSRC + c) D.SRC_SOURCE_FAULT v) :=
    (OnChannel.wSource u c (by decide) (by decide) v).mono (by simp)
  have conditions (u : State) (b0 b1 b2 : Bool) (g : Attach → Attach) : OnChannel c Eng.stopParts u
      (condition (condition (condition u c (0xB8 + c) 0x20 b0 g) c (0xB8 + c) 0x21 b1 g) c (0xB8 + c) 0x22 b2 g) :=
    ((condition_stops u c _ _ _ _).trans (condition_stops _ c _ _ _ _)).trans (condition_stops _ c _ _ _ _)
  have checks (u : State) (echo : Bool) : OnChannel c Eng.stopParts u (emCheck (hbCheck u c echo) c k f) :=
    (hbCheck_stops u c echo).trans (emCheck_stops _ c k f)
  simp only [stTake, modPast, State.analog_modEng, State.laneUp_modEng, State.attOf_modEng, ha, hu, hf, Bool.not_true, Bool.false_eq_true, or_self, if_false]
  exact (((fault _ _).ite (.refl ..)).trans (conditions _ _ _ _ _)).trans ((OnChannel.refl ..).ite ((checks _ _).trans ((att _ _).ite (.refl ..))))

theorem reports_heads (s : State) (c : Nat) (f : SrcFrame) : otherHeads c s (reports s c f) :=
  others.trans (others.trans (OnChannel.wSource_heads s c (by decide) _) (OnChannel.wSource_heads _ c (by decide) _))
    (OnChannel.wSource_heads _ c (by decide) _)

theorem reports_keeps (s : State) (c : Nat) (f : SrcFrame) : keeps [.att] s (reports s c f) :=
  ((keeps_att s _).trans (keeps_att _ _)).trans (keeps_att _ _)

theorem find_status {c : Nat} (hc : c < 24) :
    Dict.find Dict.attRows (Dict.key 0 (D.iSRC + c) D.SRC_STATUS / 256 % 65536) (Dict.key 0 (D.iSRC + c) D.SRC_STATUS % 256) =
      some ⟨D.iSRC, 24, D.SRC_STATUS, 1, 1, .u8, .ro, .c 0, .any⟩ := by
  revert c; decide

theorem find_emission {c : Nat} (hc : c < 24) :
    Dict.find Dict.attRows (Dict.key 0 (D.iSRC + c) D.SRC_EMISSION / 256 % 65536) (Dict.key 0 (D.iSRC + c) D.SRC_EMISSION % 256) =
      some ⟨D.iSRC, 24, D.SRC_EMISSION, 1, 1, .u16, .ro, .c 0, .any⟩ := by
  revert c; decide

theorem find_sourceTemp {c : Nat} (hc : c < 24) :
    Dict.find Dict.attRows (Dict.key 0 (D.iSRC + c) D.SRC_SOURCE_TEMP / 256 % 65536) (Dict.key 0 (D.iSRC + c) D.SRC_SOURCE_TEMP % 256) =
      some ⟨D.iSRC, 24, D.SRC_SOURCE_TEMP, 1, 1, .i16, .ro, .c 0, .any⟩ := by
  revert c; decide

theorem reports_status (s : State) {c : Nat} {f : SrcFrame} (hc : c < 24) (hf : f.status < 256) :
    State.rAtt (reports s c f) (D.iSRC + c) D.SRC_STATUS = (f.status : Int) := by
  unfold reports
  rw [State.rAtt_wAtt_other _ _ (Dict.key_ne_of_sub (by decide) (by decide) (by decide)),
    State.rAtt_wAtt_other _ _ (Dict.key_ne_of_sub (by decide) (by decide) (by decide)), State.rAtt_wAtt (find_status hc)]
  exact Dict.norm_unsigned (by decide) rfl (by omega) (by simp only [Dict.width]; omega)

theorem reports_emission (s : State) {c : Nat} {f : SrcFrame} (hc : c < 24) (hf : f.emission < 65536) :
    State.rAtt (reports s c f) (D.iSRC + c) D.SRC_EMISSION = (f.emission : Int) := by
  unfold reports
  rw [State.rAtt_wAtt_other _ _ (Dict.key_ne_of_sub (by decide) (by decide) (by decide)), State.rAtt_wAtt (find_emission hc)]
  exact Dict.norm_unsigned (by decide) rfl (by omega) (by simp only [Dict.width]; omega)

theorem reports_temp (s : State) {c : Nat} {f : SrcFrame} (hc : c < 24) (hlo : -32768 ≤ f.temp) (hhi : f.temp < 32768) :
    State.rAtt (reports s c f) (D.iSRC + c) D.SRC_SOURCE_TEMP = f.temp := by
  unfold reports
  rw [State.rAtt_wAtt (find_sourceTemp hc), Dict.norm_i16 hlo hhi]

theorem sourceStatusConsume_present {s : State} {c k : Nat} {f : SrcFrame} (hr : s.pwr.rails = true) (hc : c < 24) (hd : stDue s c s.tick = some k)
    (ha : State.analog s c = false) (hu : State.laneUp s (24 + c) = true) (hf : Tab.find (State.attOf s c).st k = some f) (he : f.emission < 65536)
    (hs : f.status < 256) (hlo : -32768 ≤ f.temp) (hhi : f.temp < 32768) :
    completes (.sourceStatusConsume c) s fun t => State.rAtt t (D.iSRC + c) D.SRC_STATUS = (f.status : Int) ∧
      State.rAtt t (D.iSRC + c) D.SRC_EMISSION = (f.emission : Int) ∧ State.rAtt t (D.iSRC + c) D.SRC_SOURCE_TEMP = f.temp ∧ otherHeads c s t ∧
      otherEngines c s t ∧ keeps [.trj, .att, .raised] s t := by
  have taken := OnChannel.modEng s c fun e => { e with past := Arith.updWhere (fun p => p.k == k) (fun p => { p with statusDone := true }) e.past }
  have checked := stTake_present ha hu hf
  have step : stConsume c s = stTake s c k := by unfold stConsume; rw [hd]
  have kept : keeps [.trj, .att, .raised] s (stConsume c s) :=
    step ▸ ((taken.parts.mono (by simp)).trans ((reports_keeps _ c f).mono (by simp))).trans checked.parts
  refine completes_of_actOn_keeps rfl hc hr kept (by simp) ⟨?_, ?_, ?_, ?_, ?_, kept⟩ <;> rw [step]
  · rw [checked.source _ (by decide), reports_status _ hc hs]
  · rw [checked.source _ (by decide), reports_emission _ hc he]
  · rw [checked.source _ (by decide), reports_temp _ hc hlo hhi]
  · exact others.trans (others.trans taken.heads (reports_heads _ c f)) checked.heads
  · exact others.trans (others.trans taken.engines (otherEngines_of_trj c rfl)) checked.engines

end Att

/-! ### What the end of a re-plan does to its stripes leaves the count of re-plans (R105, R106, R191, R198) -/

namespace State

@[simp] theorem ringPut_lnd (s : State) (e : List Byte) : (ringPut s e).lnd = s.lnd := by
  unfold ringPut
  dsimp only
  split <;> split <;> rfl

@[simp] theorem ringDrain_lnd (s : State) (l : List (List Byte)) : (ringDrain s l).lnd = s.lnd := by
  induction l generalizing s with
  | nil => rfl
  | cons e l ih =>
    unfold ringDrain
    split
    · rfl
    · rw [ih, ringPut_lnd]

@[simp] theorem post_lnd (s : State) (e : List Byte) : (post s e).lnd = s.lnd := by
  unfold post
  split
  · dsimp only
    split
    · split <;> simp
    · simp
  · rfl

@[simp] theorem setCtxMode_lnd (s : State) (n : Nat) (m : CtxMode) : (setCtxMode s n m).lnd = s.lnd := by
  unfold setCtxMode
  dsimp only
  split
  · rfl
  · simp [stateNotice]

@[simp] theorem setPtr_lnd (s : State) (n sub v : Nat) : (setPtr s n sub v).lnd = s.lnd := by simp [setPtr]

@[simp] theorem advanceRm_lnd (s : State) (n : Nat) : (advanceRm s n).lnd = s.lnd := by simp [advanceRm, trimItems]

@[simp] theorem ackStripe_lnd (s : State) (n start : Nat) : (ackStripe s n start).lnd = s.lnd := by
  unfold ackStripe settleDisabling
  split <;> simp [modFlight]

end State

@[simp] theorem Eng.stopNow_lnd (s : State) (c : Nat) (why : HoldWhy) : (Eng.stopNow s c why).lnd = s.lnd :=
  (Eng.stopNow_stops s c why).parts.same .lnd (by simp)

/-- An operation run for each number of a list keeps what each run keeps. -/
theorem State.forAll_of_each {α : Type} (g : State → α) {f : Nat → State → State} (h : ∀ i s, g (f i s) = g s) (l : List Nat) (s : State) :
    g (State.forAll f l s) = g s := by
  induction l generalizing s with
  | nil => rfl
  | cons i l ih => exact (ih (f i s)).trans (h i s)

namespace Lend

/-- LND_REPLANS: the re-plans that have ended (R198). -/
def replans (s : State) : Int := State.rLnd s D.iLND D.LND_REPLANS

theorem replans_of_lnd {s t : State} (h : t.lnd = s.lnd) : replans t = replans s := by
  unfold replans State.rLnd
  rw [h]

theorem replans_wLnd (s : State) {idx sub : Nat} (v : Int) (hs : sub < 256) (h : D.LND_REPLANS ≠ sub) : replans (State.wLnd s idx sub v) = replans s :=
  State.rLnd_wLnd_other s v (Dict.key_ne_of_sub (by decide) hs h)

theorem replans_incLnd (s : State) {idx sub : Nat} (d : Int) (hs : sub < 256) (h : D.LND_REPLANS ≠ sub) :
    replans (State.incLnd s idx sub d) = replans s := by
  unfold replans State.rLnd State.incLnd
  exact Regs.get_inc_other _ _ _ (Dict.key_ne_of_sub (by decide) hs h)

@[simp] theorem replans_raise (s : State) (src kind addr : Nat) : replans (State.raise s src kind addr) = replans s := rfl
@[simp] theorem replans_modCtx (s : State) (n : Nat) (f : Ctx → Ctx) : replans (State.modCtx s n f) = replans s := rfl
@[simp] theorem replans_wCtx (s : State) (idx sub : Nat) (v : Int) : replans (State.wCtx s idx sub v) = replans s := rfl
@[simp] theorem replans_setFlag (s : State) (n i : Nat) : replans (State.setFlag s n i) = replans s := rfl
@[simp] theorem replans_restage (s : State) (n : Nat) : replans (State.restage s n) = replans s := rfl

@[simp] theorem replans_setCtxMode (s : State) (n : Nat) (m : CtxMode) : replans (State.setCtxMode s n m) = replans s :=
  replans_of_lnd (State.setCtxMode_lnd s n m)

@[simp] theorem replans_raiseIf (s : State) (b : Bool) (src kind addr : Nat) : replans (State.raiseIf s b src kind addr) = replans s :=
  replans_of_lnd (State.raiseIf_lnd ..)

@[simp] theorem replans_countReplays (s : State) : replans (countReplays s) = replans s := replans_wLnd s _ (by decide) (by decide)

@[simp] theorem refreshAs_lnd (loud : Bool) (n : Nat) (s : State) : (refreshAs loud n s).lnd = s.lnd := by
  unfold refreshAs liveWord
  dsimp only
  split
  · split <;> simp
  · split <;> simp
  · split <;> simp
  · simp

theorem refreshShared_lnd (c : Nat) (s : State) : (refreshShared c s).lnd = s.lnd :=
  State.forAll_of_each State.lnd (refreshAs_lnd true) _ s

theorem parkPrivate_lnd (s : State) (c : Nat) : (parkPrivate s c).lnd = s.lnd := by
  unfold parkPrivate
  split <;> simp

theorem replans_beginReplan (r : Replan) (s : State) : replans (beginReplan r s) = replans s := by
  unfold beginReplan
  split <;> rfl

/-- A disable of a channel ends no re-plan: it stops the engine and begins one, or takes the channel out at once (R143, R527). -/
theorem replans_disable (s : State) (c : Nat) : replans (disable s c) = replans s := by
  have left (u : State) : replans (refreshShared c (bar u c)) = replans u := (replans_of_lnd (refreshShared_lnd c _)).trans rfl
  unfold disable
  dsimp only
  split
  · rfl
  · split
    · rfl
    · exact replans_of_lnd (State.forAll_of_each State.lnd (f := fun k u => State.modSrc u k fun f => { f with fenced := false }) (fun _ _ => rfl) _ _)
  · split
    · rfl
    · split
      · rw [replans_beginReplan]
        exact replans_of_lnd (Eng.stopNow_lnd _ _ _)
      · rw [left]
        exact replans_of_lnd (by simp [parkPrivate_lnd])

@[simp] theorem replans_noReplays (n : Nat) (s : State) : replans (noReplays n s) = replans s := by
  unfold noReplays
  split
  · exact replans_wLnd s _ (by decide) (by decide)
  · exact replans_countReplays s

theorem dropStripes_lnd (n : Nat) (s : State) : (dropStripes n s).lnd = s.lnd :=
  State.forAll_of_each State.lnd (fun c u => by dsimp only; split <;> rfl) _ s

/-- A reset of a queue disables its runners and discards what the context holds (R105). -/
theorem replans_ptrReset (s : State) (n : Nat) (what : Nat × Nat) : replans (ptrReset s n what) = replans s := by
  have off (l : List Nat) (u : State) : replans (State.forAll (fun c v => disable v c) l u) = replans u :=
    State.forAll_of_each replans (fun c v => replans_disable v c) l u
  have dropped (u : State) : replans (dropStripes n u) = replans u := replans_of_lnd (dropStripes_lnd n u)
  simp [ptrReset, off, dropped]

theorem replans_ptrCheck (n : Nat) (s : State) : replans (ptrCheck n s) = replans s := by
  unfold ptrCheck
  split
  · exact replans_ptrReset s n _
  · rfl

theorem replans_lose (s : State) (n layer start id : Nat) (tile : Option Item) (loud : Bool) : replans (lose s n layer start id tile loud) = replans s := by
  unfold lose
  exact (replans_raiseIf ..).trans ((replans_of_lnd (State.advanceRm_lnd ..)).trans ((replans_incLnd _ _ (by decide) (by decide)).trans rfl))

theorem replans_classify (s : State) (c tick at4 : Nat) (loud : Bool) (e : Engine) (second : Bool) (r : StripeRun) :
    replans (classify s c tick at4 loud e second r) = replans s := by
  unfold classify
  dsimp only
  split
  · exact (replans_ptrCheck ..).trans (replans_of_lnd (State.ackStripe_lnd ..))
  · split
    · exact replans_lose ..
    · split
      · exact (replans_wLnd _ _ (by decide) (by decide)).trans rfl
      · exact (replans_countReplays _).trans rfl

theorem replans_foldl_classify (c tick at4 : Nat) (loud : Bool) (e : Engine) (l : List (StripeRun × Bool)) (s : State) :
    replans (l.foldl (fun s x => classify s c tick at4 loud e x.2 x.1) s) = replans s := by
  induction l generalizing s with
  | nil => rfl
  | cons x l ih => exact (ih _).trans (replans_classify ..)

theorem replans_classifyAll (s : State) (c tick at4 : Nat) (loud out : Bool) : replans (classifyAll s c tick at4 loud out) = replans s :=
  (replans_of_lnd (State.modEng_lnd ..)).trans (replans_foldl_classify ..)

/-- After the classification the engine holds no stripe (R191). -/
theorem stripes_classifyAll (s : State) (c tick at4 : Nat) (loud out : Bool) : (State.engOf (classifyAll s c tick at4 loud out) c).stripes = [] := by
  unfold classifyAll
  rw [State.modEng_same]

/-! ### The end of a re-plan (R190, R192) -/

/-- A re-plan that ends has its stripes classified, is counted, and reports its channel and its duration (R191, R192). -/
def counted (s : State) (r : Replan) : State :=
  let t := State.incLnd (classifyAll s r.ch r.tick ((State.engOf s r.ch).blockFrom.getD ((r.tick + 1) * 125)) r.fence true) D.iLND D.LND_REPLANS 1
  State.raise (State.wLnd t D.iLND D.LND_REPLAN_MAX (max (State.rLnd t D.iLND D.LND_REPLAN_MAX) ((s.tick - r.tick : Nat) : Int))) 0xF8 1
    (r.ch + 256 * (s.tick - r.tick))

/-- The re-plan that ran is over, and the queued one begins where one waits (R196). -/
def nextReplan (s : State) : State :=
  match s.lnd.queued with
  | [] => { s with lnd := { s.lnd with active := none } }
  | q :: rest => { s with lnd := { s.lnd with active := some { q with tick := s.tick + 1 }, queued := rest } }

theorem nextReplan_eq (s : State) :
    nextReplan s = { s with lnd := { s.lnd with active := s.lnd.queued.head?.map (fun q => { q with tick := s.tick + 1 }), queued := s.lnd.queued.tail } } := by
  unfold nextReplan
  split <;> simp [*]

theorem replanEnd_of_active {s : State} {r : Replan} (h : s.lnd.active = some r) : replanEnd s = nextReplan (counted s r) := by
  unfold replanEnd
  rw [h]
  rfl

/-- A re-plan ends at F + 3 or later; with no decision waiting nothing else happens. -/
theorem replanOver_of_ripe {s : State} {r : Replan} (h : s.lnd.active = some r) (ht : r.tick + 3 ≤ s.tick)
    (hw : (State.byRank s).filter (fun c => (State.engOf s c).why == .freeze) = []) : replanOver s = nextReplan (counted s r) := by
  unfold replanOver
  rw [h]
  simp only [ht, if_true, hw]
  exact replanEnd_of_active h

theorem replanOver_of_early {s : State} (h : s.lnd.active.all (fun r => decide (s.tick < r.tick + 3)) = true) : replanOver s = s := by
  unfold replanOver
  cases ha : s.lnd.active with
  | none => rfl
  | some r =>
    have : s.tick < r.tick + 3 := by simpa [ha] using h
    exact if_neg (by omega)

theorem find_replans : Dict.find Dict.lndRows (Dict.key 0 D.iLND D.LND_REPLANS / 256 % 65536) (Dict.key 0 D.iLND D.LND_REPLANS % 256) =
    some ⟨D.iLND, 1, D.LND_REPLANS, 1, 1, .u32, .rc, .c 0, .any⟩ := by decide

theorem replans_counted (s : State) (r : Replan) : replans (counted s r) = Arith.clamp 0 4294967295 (replans s + 1) := by
  have one (u : State) : replans (State.incLnd u D.iLND D.LND_REPLANS 1) = Arith.clamp 0 4294967295 (replans u + 1) :=
    Regs.get_inc_u32 find_replans rfl _ _
  unfold counted
  rw [replans_raise, replans_wLnd _ _ (by decide) (by decide), one, replans_classifyAll]

theorem replanComplete_counts {s : State} {r : Replan} (hr : s.pwr.rails = true) (h : s.lnd.active = some r) (ht : r.tick + 3 ≤ s.tick)
    (hw : (State.byRank s).filter (fun c => (State.engOf s c).why == .freeze) = []) :
    completes .replanComplete s fun t => (State.engOf t r.ch).stripes = [] ∧ (⟨0xF8, 1, (r.ch + 256 * (s.tick - r.tick)) % 2 ^ 32⟩ : Msg) ∈ t.raised ∧
      State.rLnd t D.iLND D.LND_REPLANS = Arith.clamp 0 4294967295 (State.rLnd s D.iLND D.LND_REPLANS + 1) := by
  refine completes_of_act (f := replanOver) rfl hr ?_
  rw [replanOver_of_ripe h ht hw, nextReplan_eq]
  exact ⟨stripes_classifyAll s r.ch _ _ _ _, State.mem_raise _ _ _ _, replans_counted s r⟩

/-- With no stripe in hand the engine of the channel alone changes. -/
theorem classifyAll_none {s : State} {c : Nat} (tick at4 : Nat) (loud : Bool) (h : (State.engOf s c).stripes = []) :
    ∃ f, classifyAll s c tick at4 loud true = State.modEng s c f := by
  unfold classifyAll
  simp only [h, if_true, List.map_nil, List.filter_nil, List.foldl_nil]
  exact ⟨_, rfl⟩

theorem counted_none {s : State} {r : Replan} (h : (State.engOf s r.ch).stripes = []) :
    OnChannel r.ch [.trj, .lnd, .raised] s (counted s r) ∧ (counted s r).lnd.queued = s.lnd.queued ∧
      (counted s r).raised = s.raised ++ [⟨0xF8, 1, (r.ch + 256 * (s.tick - r.tick)) % 2 ^ 32⟩] := by
  obtain ⟨f, hf⟩ := classifyAll_none r.tick ((State.engOf s r.ch).blockFrom.getD ((r.tick + 1) * 125)) r.fence h
  have lnd (u : State) (x : LndSt) : OnChannel r.ch [.lnd] u { u with lnd := x } := .of_keeps _ (keeps_lnd u x) (by simp) (by simp)
  unfold counted
  rw [hf]
  exact ⟨((OnChannel.modEng s r.ch f).mono (by simp)).trans ((((lnd _ _).trans (lnd _ _)).mono (by simp)).trans ((OnChannel.raise _ _ _ _ _).mono (by simp))),
    rfl, rfl⟩

theorem replanComplete_next {s : State} {r : Replan} (hr : s.pwr.rails = true) (h : s.lnd.active = some r) (ht : r.tick + 3 ≤ s.tick)
    (hw : (State.byRank s).filter (fun c => (State.engOf s c).why == .freeze) = []) (hs : (State.engOf s r.ch).stripes = []) :
    completes .replanComplete s fun t => t.lnd.active = s.lnd.queued.head?.map (fun q => { q with tick := s.tick + 1 }) ∧
      t.lnd.queued = s.lnd.queued.tail ∧ lastRaised s 0xF8 1 ((r.ch + 256 * (s.tick - r.tick)) % 2 ^ 32) t ∧ otherEngines r.ch s t ∧
      keeps [.trj, .lnd, .raised] s t := by
  obtain ⟨on, hqueued, hraised⟩ := counted_none hs
  have htick : (counted s r).tick = s.tick := on.parts.same .tick (by simp)
  have ended := (replanOver_of_ripe h ht hw).trans (nextReplan_eq _)
  have kept : keeps [.trj, .lnd, .raised] s (replanOver s) := ended ▸ on.parts.trans ((keeps_lnd _ _).mono (by simp))
  refine completes_of_act_keeps (f := replanOver) rfl hr kept (by simp) ⟨?_, ?_, ?_, ?_, kept⟩ <;> rw [ended]
  · rw [hqueued, htick]
  · rw [hqueued]
  · exact hraised
  · exact others.trans on.engines (otherEngines_of_trj r.ch rfl)

/-! ### The reach map (R174, R175) -/

/-- The tiles that some channel reaches, listed by their numbers, give back the channels of each. -/
theorem get_listed {α : Type} (key : α → Nat) (val : α → List Nat) {i : Nat} {v : List Nat} (l : List α) (hv : ∀ u ∈ l, key u = i → val u = v)
    (hm : v ≠ [] → ∃ u ∈ l, key u = i) :
    Tab.get (fun _ => []) ((l.filter fun u => !(val u).isEmpty).map fun u => (key u, val u)) i = v := by
  induction l with
  | nil =>
    have : v = [] := Decidable.byContradiction fun h => by simpa using hm h
    simp [this, Tab.get, Tab.find]
  | cons u l ih =>
    have hrest : ∀ w ∈ l, key w = i → val w = v := fun w hw => hv w (List.mem_cons_of_mem u hw)
    by_cases hlisted : key u = i ∧ v ≠ []
    · obtain ⟨hi, he⟩ := hlisted
      have hu : val u = v := hv u List.mem_cons_self hi
      simp [hu, he, hi, Tab.get, Tab.find]
    · have step := ih hrest fun he => by
        obtain ⟨w, hw, hk⟩ := hm he
        obtain rfl | hw := List.mem_cons.mp hw
        · exact absurd ⟨hk, he⟩ hlisted
        · exact ⟨w, hw, hk⟩
      by_cases he : val u = []
      · rwa [List.filter_cons_of_neg (by simp [he])]
      · have hi : key u ≠ i := fun hi => hlisted ⟨hi, hv u List.mem_cons_self hi ▸ he⟩
        rw [List.filter_cons_of_pos (by simp [he])]
        simpa [Tab.get, Tab.find, hi.symm] using step

theorem tileNo_inj {s : State} {i j i' j' : Nat} (hi : i < State.tilesX s) (hi' : i' < State.tilesX s) (h : tileNo s i j = tileNo s i' j') :
    i = i' ∧ j = j' := by
  have hpos : 0 < State.tilesX s := by omega
  have hmod := congrArg (· % State.tilesX s) h
  have hdiv := congrArg (· / State.tilesX s) h
  simp only [tileNo, Nat.mul_add_mod_self_right, Nat.mod_eq_of_lt hi, Nat.mod_eq_of_lt hi'] at hmod
  simp only [tileNo, Nat.add_comm (_ * _), Nat.add_mul_div_right _ _ hpos, Nat.div_eq_of_lt hi, Nat.div_eq_of_lt hi', Nat.zero_add] at hdiv
  exact ⟨hmod, hdiv⟩

theorem mem_tiles {s : State} {t : Nat × Nat} : t ∈ tiles s ↔ t.1 < State.tilesX s ∧ t.2 < State.tilesY s := by
  simp only [tiles, List.mem_flatMap, List.mem_map, List.mem_range]
  constructor
  · rintro ⟨j, hj, i, hi, rfl⟩
    exact ⟨hi, hj⟩
  · rintro ⟨hi, hj⟩
    exact ⟨t.2, hj, t.1, hi, rfl⟩

/-- The map that a computation gives. -/
def mapOf (s : State) : Tab (List Nat) :=
  (((tiles s).map fun t => (t, tileList s t.1 t.2)).filter fun t => !t.2.1.isEmpty).map fun t => (tileNo s t.1.1 t.1.2, t.2.1)

/-- The computed map lists for each tile the channels of R174. -/
theorem get_mapOf {s : State} {i j : Nat} (hi : i < State.tilesX s) (hj : j < State.tilesY s) :
    Tab.get (fun _ => []) (mapOf s) (tileNo s i j) = (tileList s i j).1 := by
  have h := get_listed (fun t : Nat × Nat => tileNo s t.1 t.2) (fun t => (tileList s t.1 t.2).1) (i := tileNo s i j) (v := (tileList s i j).1) (tiles s)
    (fun t ht hk => by obtain ⟨h1, h2⟩ := tileNo_inj (mem_tiles.mp ht).1 hi hk; rw [h1, h2])
    fun _ => ⟨(i, j), mem_tiles.mpr ⟨hi, hj⟩, rfl⟩
  rw [← h, mapOf, List.filter_map, List.map_map]
  rfl

/-- What the overlaps and the reports of a finished computation leave: the map in force and the other parts. -/
structure MapKept (s t : State) : Prop where
  reach : t.lnd.reach = s.lnd.reach
  computing : t.lnd.computing = s.lnd.computing
  parts : keeps [.lnd, .raised] s t

namespace MapKept

theorem trans {s t u : State} (h : MapKept s t) (h' : MapKept t u) : MapKept s u :=
  ⟨h'.reach.trans h.reach, h'.computing.trans h.computing, h.parts.trans h'.parts⟩

theorem wLnd (s : State) (idx sub : Nat) (v : Int) : MapKept s (State.wLnd s idx sub v) := ⟨rfl, rfl, (keeps_lnd s _).mono (by simp)⟩

theorem raise (s : State) (src kind addr : Nat) : MapKept s (State.raise s src kind addr) := ⟨rfl, rfl, (keeps_raised s _).mono (by simp)⟩

theorem forAll {f : Nat → State → State} (h : ∀ i s, MapKept s (f i s)) (l : List Nat) (s : State) : MapKept s (State.forAll f l s) := by
  induction l generalizing s with
  | nil => exact ⟨rfl, rfl, keeps.refl _ s⟩
  | cons i l ih => exact (h i s).trans (ih (f i s))

end MapKept

/-- The computed map is put in force; the overlaps and the reports come after it (R176). -/
theorem reachDone_of_computing {s : State} (h : s.lnd.computing = true) :
    MapKept { s with lnd := { s.lnd with reach := mapOf s, computing := false } } (reachDone s) := by
  have overlaps := MapKept.forAll (fun c u => MapKept.wLnd u (D.iLNDC + c) D.LNDC_OVERLAP ((overlapWord (mapOf s) c : Nat) : Int)) (List.range 24)
    { s with lnd := { s.lnd with reach := mapOf s, computing := false } }
  unfold reachDone
  rw [if_pos h]
  dsimp only
  split
  · refine MapKept.trans ?_ (.raise ..)
    split
    · exact overlaps.trans (.raise ..)
    · exact overlaps
  · split
    · exact overlaps.trans (.raise ..)
    · exact overlaps

end Lend

/-! ### The write sides that wait for a reach map (R175) -/

theorem State.forAll_of_idle {f : Nat → State → State} {s : State} (l : List Nat) (h : ∀ i ∈ l, f i s = s) : State.forAll f l s = s := by
  induction l with
  | nil => rfl
  | cons i l ih =>
    have hrest := ih fun j hj => h j (List.mem_cons_of_mem i hj)
    unfold State.forAll at hrest ⊢
    rw [List.foldl_cons, h i List.mem_cons_self, hrest]

namespace Items

theorem reachDone_of_idle {s : State} (h : s.lnd.computing = false) : reachDone s = s := if_neg (by simp [h])

/-- Where no write side holds a whole unit, the end of a computation is the map alone. -/
theorem reachDone_of_short {s : State} (h : s.lnd.computing = true) (ht : ((List.range 96).all fun n => decide ((State.ctxOf s n).tail.length < 32)) = true) :
    reachDone s = Lend.reachDone s := by
  have hctx : ∀ n, State.ctxOf (Lend.reachDone s) n = State.ctxOf s n := fun n =>
    congrArg (fun x : CtxSt => Tab.get (fun _ => Ctx.init) x.tab n) ((Lend.reachDone_of_computing h).parts.same .ctx (by simp))
  unfold reachDone
  rw [if_pos h]
  refine State.forAll_of_idle _ fun n hn => if_neg ?_
  have := List.all_eq_true.mp ht n hn
  rw [hctx n]
  simpa using this

theorem reachMapComplete_done {s : State} (hr : s.pwr.rails = true) (h : s.lnd.computing = true)
    (ht : ((List.range 96).all fun n => decide ((State.ctxOf s n).tail.length < 32)) = true) :
    completes .reachMapComplete s fun t => t.lnd.computing = false ∧
      (∀ i < State.tilesX s, ∀ j < State.tilesY s, Lend.reachOf t i j = (Lend.tileList s i j).1) ∧ keeps [.lnd, .raised] s t := by
  obtain ⟨hreach, hcomputing, hparts⟩ := Lend.reachDone_of_computing h
  have done := reachDone_of_short h ht
  have kept : keeps [.lnd, .raised] s (reachDone s) := done ▸ ((keeps_lnd s _).mono (by simp)).trans hparts
  refine completes_of_act_keeps (f := reachDone) rfl hr kept (by simp) ⟨done ▸ hcomputing, fun i hi j hj => ?_, kept⟩
  have hgrd : (reachDone s).grd = s.grd := kept.same .grd (by simp)
  have hno : Lend.tileNo (reachDone s) i j = Lend.tileNo s i j := by rw [Lend.tileNo, Lend.tileNo, State.tilesX, State.tilesX, State.rGrd, State.rGrd, hgrd]
  rw [Lend.reachOf, hno, done, hreach, Lend.get_mapOf hi hj]

end Items

/-- Settles O28: each command by the case of its operation that the hypotheses select. -/
theorem enginesRestAndTakeFeedback : Obligations.EnginesRestAndTakeFeedback :=
  ⟨fun _ _ hr hc h => Att.engineAtRest_of_stopped hr hc h,
    fun _ _ h => completes_idle_of_actOn rfl (Att.atRest_of_moving h),
    fun _ _ _ hr hc hd hl hf hv hlo hhi => Att.driftUpdate_present hr hc hd hl hf hv hlo hhi,
    fun _ _ hr hc hd hl hf => Att.driftUpdate_absent hr hc hd hl hf,
    fun _ _ h => completes_idle_of_actOn rfl (Att.drift_not_due h),
    fun _ _ _ hr hc hd hl hu hf h => Att.feedbackConsume_absent hr hc hd hl hu hf h,
    fun _ _ _ _ hr hc hd ha hu hf he hs hlo hhi => Att.sourceStatusConsume_present hr hc hd ha hu hf he hs hlo hhi,
    fun _ _ hr h _ ht hw => Lend.replanComplete_counts hr h ht hw,
    fun _ _ hr h _ ht hw hs => Lend.replanComplete_next hr h ht hw hs,
    fun _ h => completes_idle_of_act rfl (Lend.replanOver_of_early h),
    fun _ hr h ht => Items.reachMapComplete_done hr h ht,
    fun _ h => completes_idle_of_act rfl (Items.reachDone_of_idle h)⟩

end Sys2Proof.Machine

/-!
PROOFS of 08_meltpool_loop.md: the samples and the commands of a melt-pool loop. `OnLoop` says what an operation on one loop leaves alone: the other loops,
every entry of its own record but the named ones, and every part but the named ones. A sample is first noted, or counted as a miss; what follows of it (the
law, the plausibility test, the messages, a fall-back) writes none of the entries so noted.
-/
namespace Sys2Proof.Machine

/-! ### The state before and after an operation on one loop -/

theorem keeps_mpl (s : State) (x : MplSt) : keeps [.mpl] s { s with mpl := x } :=
  keeps_one rfl fun p hp => by cases p with | mpl => exact absurd rfl hp | _ => rfl

/-- An operation on the loop of channel `c` leaves the other loops as they were, every entry of its own record but those named, and every part but those
named. -/
structure OnLoop (c : Nat) (subs : List Nat) (ps : List Part) (s t : State) : Prop where
  loops : otherLoops c s t
  entries : ∀ sub < 256, sub ∉ subs → Mpl.reg t c sub = Mpl.reg s c sub
  parts : keeps ps s t

namespace OnLoop

variable {c : Nat} {subs subs' : List Nat} {ps qs : List Part} {s t u : State}

theorem trans (h : OnLoop c subs ps s t) (h' : OnLoop c subs ps t u) : OnLoop c subs ps s u :=
  ⟨others.trans h.loops h'.loops, fun sub hs hn => (h'.entries sub hs hn).trans (h.entries sub hs hn), h.parts.trans h'.parts⟩

theorem mono (h : OnLoop c subs ps s t) (hs : subs ⊆ subs') (hp : ps ⊆ qs) : OnLoop c subs' qs s t :=
  ⟨h.loops, fun sub hl hn => h.entries sub hl fun hm => hn (hs hm), h.parts.mono hp⟩

theorem ite {b : Prop} {_ : Decidable b} (h : OnLoop c subs ps s t) (h' : OnLoop c subs ps s u) : OnLoop c subs ps s (if b then t else u) := by
  split
  · exact h
  · exact h'

theorem widen (h : OnLoop c subs ps s t) (hp : ps ⊆ qs) : OnLoop c subs qs s t := h.mono (List.Subset.refl _) hp

/-- What changes no loop at all. -/
theorem of_keeps (c : Nat) (h : keeps ps s t) (hm : Part.mpl ∉ ps) : OnLoop c subs ps s t := by
  have hmpl : t.mpl = s.mpl := h.same .mpl hm
  exact ⟨fun j _ _ => by simp only [State.loopOf, State.rMpl, hmpl, implies_true, and_self], fun sub _ _ => by simp only [Mpl.reg, State.rMpl, hmpl], h⟩

theorem refl (c : Nat) (subs : List Nat) (ps : List Part) (s : State) : OnLoop c subs ps s s :=
  ⟨fun _ _ _ => ⟨rfl, fun _ _ => rfl⟩, fun _ _ _ => rfl, keeps.refl ps s⟩

theorem put (s : State) (c : Nat) {sub : Nat} (v : Int) (hs : sub ∈ subs ∧ sub < 256 := by decide) : OnLoop c subs [.mpl] s (Mpl.put s c sub v) where
  loops _ _ hj := ⟨rfl, fun _ hl => State.rMpl_wMpl_other s v (Dict.key_ne hl hs.2 (by omega))⟩
  entries _ hl hn := State.rMpl_wMpl_other s v (Dict.key_ne_of_sub hl hs.2 fun he => hn (he ▸ hs.1))
  parts := keeps_mpl s _

theorem inc (s : State) (c : Nat) {sub : Nat} (d : Int) (hs : sub ∈ subs ∧ sub < 256 := by decide) :
    OnLoop c subs [.mpl] s (State.incMpl s (D.iMPL + c) sub d) where
  loops _ _ hj := ⟨rfl, fun _ hl => Regs.get_inc_other _ _ _ (Dict.key_ne hl hs.2 (by omega))⟩
  entries _ hl hn := Regs.get_inc_other _ _ _ (Dict.key_ne_of_sub hl hs.2 fun he => hn (he ▸ hs.1))
  parts := keeps_mpl s _

theorem modLoop (s : State) (c : Nat) (f : MpLoop → MpLoop) : OnLoop c subs [.mpl] s (State.modLoop s c f) where
  loops _ _ hj := ⟨State.modLoop_other s c f hj, fun _ _ => rfl⟩
  entries _ _ _ := rfl
  parts := keeps_mpl s _

theorem modAtt (s : State) (c : Nat) (f : Attach → Attach) : OnLoop c subs [.att] s (State.modAtt s c f) := of_keeps c (keeps_att s _) (by decide)

theorem raise (c : Nat) (s : State) (src kind addr : Nat) : OnLoop c subs [.raised] s (State.raise s src kind addr) :=
  of_keeps c (keeps_raised s _) (by decide)

end OnLoop

namespace Mpl

/-! ### Entries of a loop after they were written -/

/-- The types of the entries that samples and commands set (R220). -/
def entryTypes : List (Nat × Dict.Ty) :=
  [(D.MPL_INTEGRAL, .i32), (D.MPL_AW, .u8), (D.MPL_LAST_MEAS, .u16), (D.MPL_MISSES, .u32), (D.MPL_MISS_RUN, .u8), (D.MPL_IMPL_RUN, .u16)]

theorem find_entry {c : Nat} (hc : c < 24) {e : Nat × Dict.Ty} (he : e ∈ entryTypes) :
    ∃ r, Dict.find Dict.mplRows (Dict.key 0 (D.iMPL + c) e.1 / 256 % 65536) (Dict.key 0 (D.iMPL + c) e.1 % 256) = some r ∧ r.ty = e.2 := by
  have all : ∀ c < 24, ∀ e ∈ entryTypes,
      (Dict.find Dict.mplRows (Dict.key 0 (D.iMPL + c) e.1 / 256 % 65536) (Dict.key 0 (D.iMPL + c) e.1 % 256)).map Dict.Row.ty = some e.2 := by decide
  exact Option.map_eq_some_iff.mp (all c hc e he)

theorem reg_put {s : State} {c sub : Nat} {ty : Dict.Ty} (hc : c < 24) (v : Int) (he : (sub, ty) ∈ entryTypes := by decide) :
    reg (put s c sub v) c sub = Dict.norm ty v := by
  obtain ⟨r, hr, rfl⟩ := find_entry hc he
  exact State.rMpl_wMpl hr s v

theorem norm_zero (ty : Dict.Ty) : Dict.norm ty 0 = 0 := by cases ty <;> rfl

theorem reg_put_zero {s : State} {c sub : Nat} {ty : Dict.Ty} (hc : c < 24) (he : (sub, ty) ∈ entryTypes := by decide) : reg (put s c sub 0) c sub = 0 :=
  (reg_put hc 0 he).trans (norm_zero ty)

theorem reg_inc_misses (s : State) {c : Nat} (hc : c < 24) :
    reg (State.incMpl s (D.iMPL + c) D.MPL_MISSES 1) c D.MPL_MISSES = Arith.clamp 0 4294967295 (reg s c D.MPL_MISSES + 1) := by
  obtain ⟨r, hr, ht⟩ := find_entry hc (e := (D.MPL_MISSES, .u32)) (by decide)
  exact Regs.get_inc_u32 hr ht _ _

/-! ### What the operations of a loop write -/

theorem say_on (s : State) (c kind addr : Nat) : OnLoop c [D.MPL_FLAGS] [.mpl, .raised] s (say s c kind addr) :=
  ((OnLoop.put s c _).widen (by simp)).trans ((OnLoop.raise c _ _ _ _).widen (by simp))

theorem setNext_on {subs : List Nat} (s : State) (c v : Nat) : OnLoop c subs [.mpl] s (setNext s c v) := OnLoop.modLoop s c _

/-- The entries that a change of state writes (R217). -/
abbrev stateSubs : List Nat := [D.MPL_STATE, D.MPL_FALLBACKS]

theorem enter_on (s : State) (c : Nat) (m : LoopMode) : OnLoop c stateSubs [.mpl] s (enter s c m) :=
  ((OnLoop.modLoop s c _).trans (OnLoop.put _ c _)).trans ((OnLoop.ite (OnLoop.inc _ c 1) (.refl ..)).trans (setNext_on _ c _))

@[simp] theorem loopOf_put (s : State) (c sub : Nat) (v : Int) (j : Nat) : State.loopOf (put s c sub v) j = State.loopOf s j := rfl
@[simp] theorem loopOf_incMpl (s : State) (idx sub : Nat) (d : Int) (j : Nat) : State.loopOf (State.incMpl s idx sub d) j = State.loopOf s j := rfl
@[simp] theorem loopOf_say (s : State) (c kind addr j : Nat) : State.loopOf (say s c kind addr) j = State.loopOf s j := rfl

theorem mode_enter (s : State) (c : Nat) (m : LoopMode) : (State.loopOf (enter s c m) c).mode = m := by
  have entered : (State.loopOf (put (State.modLoop s c fun l => { l with mode := m }) c D.MPL_STATE (code m : Int)) c).mode = m := by
    rw [loopOf_put, State.modLoop_same]
  rw [enter, setNext, State.modLoop_same]
  split
  · rw [loopOf_incMpl, entered]
  · exact entered

theorem clearRuns_on (s : State) (c : Nat) : OnLoop c [D.MPL_MISS_RUN, D.MPL_IMPL_RUN] [.mpl] s (clearRuns s c) :=
  ((OnLoop.put s c _).trans (OnLoop.put _ c _)).trans (OnLoop.modLoop _ c _)

theorem close_on (s : State) (c : Nat) : OnLoop c (D.MPL_MISS_RUN :: D.MPL_IMPL_RUN :: stateSubs) [.mpl] s (close s c) :=
  ((enter_on s c .closed).mono (by simp) (by simp)).trans ((clearRuns_on _ c).mono (by simp) (by simp))

theorem mode_close (s : State) (c : Nat) : (State.loopOf (close s c) c).mode = .closed := by
  have entered : (State.loopOf (enter s c .closed) c).mode = .closed := mode_enter s c .closed
  simpa [close, clearRuns] using entered

/-- The entries that the law and the plausibility test write (R209, R213). -/
abbrev controlSubs : List Nat :=
  [D.MPL_INTEGRAL, D.MPL_AW, D.MPL_ABOVE, D.MPL_BELOW, D.MPL_SAT_TICKS, D.MPL_LAST_EXPECT, D.MPL_IMPL_RUN, D.MPL_FLAGS, D.MPL_STATE, D.MPL_FALLBACKS]

theorem say_control (s : State) (c kind addr : Nat) : OnLoop c controlSubs [.mpl, .raised] s (say s c kind addr) :=
  (say_on s c kind addr).mono (by simp) (by simp)

/-- A write of the law or of the test. -/
theorem put_control (s : State) (c : Nat) {sub : Nat} (v : Int) (hs : sub ∈ controlSubs ∧ sub < 256 := by decide) :
    OnLoop c controlSubs [.mpl, .raised] s (put s c sub v) := (OnLoop.put s c v hs).widen (by simp)

theorem inc_control (s : State) (c : Nat) {sub : Nat} (d : Int) (hs : sub ∈ controlSubs ∧ sub < 256 := by decide) :
    OnLoop c controlSubs [.mpl, .raised] s (State.incMpl s (D.iMPL + c) sub d) := (OnLoop.inc s c d hs).widen (by simp)

theorem modLoop_control (s : State) (c : Nat) (f : MpLoop → MpLoop) : OnLoop c controlSubs [.mpl, .raised] s (State.modLoop s c f) :=
  (OnLoop.modLoop s c f).widen (by simp)

theorem enter_control (s : State) (c : Nat) (m : LoopMode) : OnLoop c controlSubs [.mpl, .raised] s (enter s c m) :=
  (enter_on s c m).mono (by simp) (by simp)

theorem setAw_control (s : State) (c aw k : Nat) : OnLoop c controlSubs [.mpl, .raised] s (setAw s c aw k) :=
  (put_control s c _).trans ((say_control _ c 7 _).ite (.refl ..))

theorem countSide_control (s : State) (c : Nat) {above below : Prop} [Decidable above] [Decidable below] :
    OnLoop c controlSubs [.mpl, .raised] s
      (if above then State.incMpl s (D.iMPL + c) D.MPL_ABOVE 1 else if below then State.incMpl s (D.iMPL + c) D.MPL_BELOW 1 else s) :=
  (inc_control s c 1).ite ((inc_control s c 1).ite (.refl ..))

theorem update_control (s : State) (c : Nat) (p : Past) (x : Nat) : OnLoop c controlSubs [.mpl, .raised] s (update s c p x) := by
  have stepped : ∀ (aw aw' : Nat) (i : Int), OnLoop c controlSubs [.mpl, .raised] s
      (setAw (put (put s c D.MPL_AW (aw : Int)) c D.MPL_INTEGRAL i) c aw' p.k) := fun aw aw' i =>
    ((put_control s c _).trans (put_control _ c _)).trans (setAw_control _ c aw' p.k)
  unfold update
  dsimp only
  split
  · exact ((stepped ..).trans (countSide_control ..)).trans (modLoop_control _ c _)
  · exact (stepped ..).trans (countSide_control ..)

theorem plausible_control (s : State) (c : Nat) (p : Past) (x : Nat) : OnLoop c controlSubs [.mpl, .raised] s (plausible s c p x) :=
  (put_control s c _).trans
    (((put_control _ c _).trans
      ((((say_control _ c 3 _).trans ((enter_control _ c _).trans (put_control _ c _))).ite
        ((OnLoop.refl ..).ite ((modLoop_control _ c _).trans (say_control _ c 5 _)))).ite (.refl ..))).ite
      ((put_control _ c _).trans (modLoop_control _ c _)))

theorem overrange_on (s : State) (c x : Nat) : OnLoop c [] [.raised, .att] s (overrange s c x) := by
  have changed := fun f => (OnLoop.modAtt (subs := []) s c f).widen (qs := [.raised, .att]) (by simp)
  exact (((OnLoop.refl ..).ite ((changed _).trans ((OnLoop.raise c _ _ _ _).widen (by simp)))).ite (changed _)).ite (.refl ..)

/-! ### A present sample (R205, R209) -/

/-- A present sample is noted: it ends the run of misses and is reported with its error. -/
def noted (s : State) (c : Nat) (p : Past) (x : Nat) : State :=
  put (put (overrange (State.modLoop (put s c D.MPL_MISS_RUN 0) c fun l => { l with lostSaid := false }) c x) c D.MPL_LAST_MEAS (x : Int)) c D.MPL_LAST_ERR
    ((x : Int) - (p.setpoint : Int))

theorem present_noted (s : State) (c : Nat) (p : Past) (x : Nat) : OnLoop c controlSubs [.mpl, .raised] (noted s c p x) (present s c p x) :=
  (((update_control _ c p x).ite (.refl ..)).trans ((inc_control _ c _).ite (.refl ..))).trans (plausible_control _ c p x)

theorem noted_on (s : State) (c : Nat) (p : Past) (x : Nat) :
    OnLoop c [D.MPL_MISS_RUN, D.MPL_LAST_MEAS, D.MPL_LAST_ERR] [.mpl, .raised, .att] s (noted s c p x) :=
  ((((OnLoop.put s c _).trans (OnLoop.modLoop _ c _)).widen (by simp)).trans ((overrange_on _ c x).mono (by simp) (by simp))).trans
    (((OnLoop.put _ c _).trans (OnLoop.put _ c _)).widen (by simp))

theorem noted_lastMeas (s : State) {c : Nat} (hc : c < 24) (p : Past) {x : Nat} (hx : x < 65536) : reg (noted s c p x) c D.MPL_LAST_MEAS = x := by
  have err : OnLoop c [D.MPL_LAST_ERR] [.mpl] _ (noted s c p x) := OnLoop.put _ c _
  rw [err.entries _ (by decide) (by decide), reg_put hc (ty := .u16), Dict.norm_unsigned (by decide) rfl (by omega)]
  exact Int.ofNat_lt.mpr hx

theorem noted_missRun (s : State) {c : Nat} (hc : c < 24) (p : Past) (x : Nat) : reg (noted s c p x) c D.MPL_MISS_RUN = 0 := by
  have later : OnLoop c [D.MPL_LAST_MEAS, D.MPL_LAST_ERR] [.mpl, .raised, .att] (put s c D.MPL_MISS_RUN 0) (noted s c p x) :=
    (((OnLoop.modLoop _ c _).widen (by simp)).trans ((overrange_on _ c x).mono (by simp) (by simp))).trans
      (((OnLoop.put _ c _).trans (OnLoop.put _ c _)).widen (by simp))
  rw [later.entries _ (by decide) (by decide), reg_put_zero hc (ty := .u8)]

theorem present_on (s : State) (c : Nat) (p : Past) (x : Nat) :
    OnLoop c (D.MPL_MISS_RUN :: D.MPL_LAST_MEAS :: D.MPL_LAST_ERR :: controlSubs) [.mpl, .raised, .att] s (present s c p x) :=
  ((noted_on s c p x).mono (by simp) (List.Subset.refl _)).trans ((present_noted s c p x).mono (by simp) (by simp))

/-! ### An absent sample (R215) -/

/-- A miss is counted, and lengthens a run that has not reached its bound. -/
def missed (s : State) (c : Nat) : State :=
  put (State.incMpl s (D.iMPL + c) D.MPL_MISSES 1) c D.MPL_MISS_RUN (((reg s c D.MPL_MISS_RUN).toNat + 1 : Nat) : Int)

theorem miss_of_long {s : State} {c : Nat} (k : Nat) (h : 64 ≤ (reg s c D.MPL_MISS_RUN).toNat) : miss s c k = State.incMpl s (D.iMPL + c) D.MPL_MISSES 1 :=
  if_pos h

theorem miss_missed {s : State} {c : Nat} (k : Nat) (h : (reg s c D.MPL_MISS_RUN).toNat < 64) :
    OnLoop c (D.MPL_FLAGS :: stateSubs) [.mpl, .raised] (missed s c) (miss s c k) := by
  have said : ∀ u kind addr, OnLoop c (D.MPL_FLAGS :: stateSubs) [.mpl, .raised] u (say u c kind addr) := fun u kind addr =>
    (say_on u c kind addr).mono (by simp) (by simp)
  have fallen : ∀ u, OnLoop c (D.MPL_FLAGS :: stateSubs) [.mpl, .raised] u (enter u c .openFallback) := fun u =>
    (enter_on u c .openFallback).mono (by simp) (by simp)
  have lost : ∀ u f, OnLoop c (D.MPL_FLAGS :: stateSubs) [.mpl, .raised] u (State.modLoop u c f) := fun u f =>
    (OnLoop.modLoop u c f).widen (by simp)
  rw [miss, if_neg (by omega)]
  exact ((said _ 1 _).ite (.refl ..)).trans ((((said _ 2 _).trans (fallen _)).ite ((OnLoop.refl ..).ite ((lost ..).trans (said _ 6 _)))).ite (.refl ..))

theorem missed_on (s : State) (c : Nat) : OnLoop c [D.MPL_MISSES, D.MPL_MISS_RUN] [.mpl] s (missed s c) := (OnLoop.inc s c 1).trans (OnLoop.put _ c _)

theorem miss_on (s : State) (c k : Nat) : OnLoop c (D.MPL_MISSES :: D.MPL_MISS_RUN :: D.MPL_FLAGS :: stateSubs) [.mpl, .raised] s (miss s c k) := by
  obtain h | h := Nat.lt_or_ge (reg s c D.MPL_MISS_RUN).toNat 64
  · exact ((missed_on s c).mono (by simp) (by simp)).trans ((miss_missed k h).mono (by simp) (List.Subset.refl _))
  · rw [miss_of_long k h]
    exact (OnLoop.inc s c 1).widen (by simp)

theorem miss_misses (s : State) {c : Nat} (hc : c < 24) (k : Nat) :
    reg (miss s c k) c D.MPL_MISSES = Arith.clamp 0 4294967295 (reg s c D.MPL_MISSES + 1) := by
  obtain h | h := Nat.lt_or_ge (reg s c D.MPL_MISS_RUN).toNat 64
  · have run : OnLoop c [D.MPL_MISS_RUN] [.mpl] _ (missed s c) := OnLoop.put _ c _
    rw [(miss_missed k h).entries _ (by decide) (by decide), run.entries _ (by decide) (by decide), reg_inc_misses s hc]
  · rw [miss_of_long k h, reg_inc_misses s hc]

theorem miss_run {s : State} {c : Nat} (hc : c < 24) (k : Nat) (h : (reg s c D.MPL_MISS_RUN).toNat < 64) :
    reg (miss s c k) c D.MPL_MISS_RUN = (((reg s c D.MPL_MISS_RUN).toNat + 1 : Nat) : Int) := by
  rw [(miss_missed k h).entries _ (by decide) (by decide), missed, reg_put hc (ty := .u8), Dict.norm_unsigned (by decide) rfl (by omega)]
  change _ < (256 : Int)
  omega

/-- The 64th miss of a run opens a closed loop (R217). -/
theorem miss_opens {s : State} {c : Nat} (k : Nat) (h : (reg s c D.MPL_MISS_RUN).toNat = 63) (hm : (State.loopOf s c).mode = .closed) :
    (State.loopOf (miss s c k) c).mode = .openFallback := by
  have step : miss s c k = enter (say (missed s c) c 2 (addrOf (missed s c) c k)) c .openFallback := by
    simp [miss, missed, h, hm]
  rw [step, mode_enter]

/-! ### The sample that falls due (R205, R207) -/

/-- The loop processes the sample of a past tick: it is on, its channel neither disabled nor fenced, and the tick loop-active. -/
def Listens (s : State) (c : Nat) (p : Past) : Prop :=
  (State.loopOf s c).mode ≠ .off ∧ State.chOf s c ≠ .disabled ∧ State.chOf s c ≠ .fenced ∧ p.active = true

/-- The past tick is marked as consumed. -/
def taken (s : State) (c : Nat) (p : Past) : State := Att.modPast s c p.k fun q => { q with loopDone := true }

theorem taken_keeps (s : State) (c : Nat) (p : Past) : keeps [.trj] s (taken s c p) := keeps_trj s _

theorem past_taken (s : State) (c : Nat) (p : Past) :
    (State.engOf (taken s c p) c).past = Arith.updWhere (fun q => q.k == p.k) (fun q => { q with loopDone := true }) (State.engOf s c).past := by
  simp [taken, Att.modPast]

theorem consume_of_due {s : State} {c : Nat} {p : Past} (h : due s c s.tick = some p) : consume c s = take s c p := by
  unfold consume; rw [h]

theorem take_of_off {s : State} {c : Nat} (p : Past) (h : (State.loopOf s c).mode = .off) : take s c p = taken s c p := if_pos (.inl h)

theorem take_present {s : State} {c x : Nat} {p : Past} (hl : Listens s c p) (hx : sample s c p = some (some x)) :
    take s c p = present (taken s c p) c p x := by
  obtain ⟨hm, hd, hf, ha⟩ := hl
  have hs : sample (taken s c p) c p = some (some x) := hx
  refine (if_neg ?_).trans ?_
  · simpa [ha] using ⟨hm, hd, hf⟩
  · rw [taken] at hs ⊢
    simp only [hs]

theorem take_absent {s : State} {c : Nat} {p : Past} (hl : Listens s c p) (hx : sample s c p = some none) : take s c p = miss (taken s c p) c p.k := by
  obtain ⟨hm, hd, hf, ha⟩ := hl
  have hs : sample (taken s c p) c p = some none := hx
  refine (if_neg ?_).trans ?_
  · simpa [ha] using ⟨hm, hd, hf⟩
  · rw [taken] at hs ⊢
    simp only [hs]

theorem loopSampleConsume_present {s : State} {c x : Nat} {p : Past} (hr : s.pwr.rails = true) (hc : c < 24) (hd : due s c s.tick = some p)
    (hl : Listens s c p) (hs : sample s c p = some (some x)) (hx : x < 65536) :
    completes (.loopSampleConsume c) s fun t => reg t c D.MPL_LAST_MEAS = (x : Int) ∧ reg t c D.MPL_MISS_RUN = 0 ∧ otherLoops c s t ∧
      keeps [.mpl, .trj, .raised, .att] s t := by
  have step : consume c s = present (taken s c p) c p x := (consume_of_due hd).trans (take_present hl hs)
  have after := present_noted (taken s c p) c p x
  have on : OnLoop c _ [.mpl, .trj, .raised, .att] s (consume c s) := step ▸
    ((OnLoop.of_keeps c (taken_keeps s c p) (by decide)).widen (by simp)).trans ((present_on (taken s c p) c p x).widen (by simp))
  refine completes_of_actOn_keeps rfl hc hr on.parts (by simp) ⟨?_, ?_, on.loops, on.parts⟩
  · rw [step, after.entries _ (by decide) (by decide), noted_lastMeas _ hc p hx]
  · rw [step, after.entries _ (by decide) (by decide), noted_missRun _ hc p x]

theorem loopSampleConsume_absent {s : State} {c : Nat} {p : Past} (hr : s.pwr.rails = true) (hc : c < 24) (hd : due s c s.tick = some p)
    (hl : Listens s c p) (hs : sample s c p = some none) :
    completes (.loopSampleConsume c) s fun t => reg t c D.MPL_MISSES = Arith.clamp 0 4294967295 (reg s c D.MPL_MISSES + 1) ∧
      ((reg s c D.MPL_MISS_RUN).toNat < 64 → reg t c D.MPL_MISS_RUN = (((reg s c D.MPL_MISS_RUN).toNat + 1 : Nat) : Int)) ∧
      ((reg s c D.MPL_MISS_RUN).toNat = 63 → (State.loopOf s c).mode = .closed → (State.loopOf t c).mode = .openFallback) ∧
      otherLoops c s t ∧ keeps [.mpl, .trj, .raised] s t := by
  have step : consume c s = miss (taken s c p) c p.k := (consume_of_due hd).trans (take_absent hl hs)
  have on : OnLoop c _ [.mpl, .trj, .raised] s (consume c s) := step ▸
    ((OnLoop.of_keeps c (taken_keeps s c p) (by decide)).widen (by simp)).trans ((miss_on (taken s c p) c p.k).widen (by simp))
  refine completes_of_actOn_keeps rfl hc hr on.parts (by simp) ⟨?_, fun h => ?_, fun h hm => ?_, on.loops, on.parts⟩
  all_goals rw [step]
  · exact miss_misses (taken s c p) hc p.k
  · exact miss_run (s := taken s c p) hc p.k h
  · exact miss_opens (s := taken s c p) p.k h hm

theorem loopSampleConsume_off {s : State} {c : Nat} {p : Past} (hr : s.pwr.rails = true) (hc : c < 24) (hd : due s c s.tick = some p)
    (hm : (State.loopOf s c).mode = .off) :
    completes (.loopSampleConsume c) s fun t =>
      (State.engOf t c).past = Arith.updWhere (fun q => q.k == p.k) (fun q => { q with loopDone := true }) (State.engOf s c).past ∧ keeps [.trj] s t := by
  have step : consume c s = taken s c p := (consume_of_due hd).trans (take_of_off p hm)
  have kept : keeps [.trj] s (consume c s) := step ▸ taken_keeps s c p
  exact completes_of_actOn_keeps rfl hc hr kept (by simp) ⟨step ▸ past_taken s c p, kept⟩

/-! ### MPL_CMD (R217, R218) -/

theorem rowAt_cmd {c : Nat} (hc : c < 24) : Dict.rowAt (D.iMPL + c) D.MPL_CMD = some ⟨D.iMPL, 24, D.MPL_CMD, 1, 1, .u8, .wo, .c 0, .rng 1 2⟩ := by
  revert c; decide

/-- MPL_CMD takes its two command numbers (R220). -/
theorem numOk_cmd {c : Nat} (hc : c < 24) {v : Int} (hv : v ∈ [1, 2]) :
    Write.numOk ⟨D.iMPL, 24, D.MPL_CMD, 1, 1, .u8, .wo, .c 0, .rng 1 2⟩ (D.iMPL + c) D.MPL_CMD v = true := by
  revert c v; decide

/-- The command entry of a loop's record is that of the loop. -/
theorem command_loop {c : Nat} (hc : c < 24) (p : Nat) (v : Int) (s : State) : Write.command p (D.iMPL + c) v s = (cmd c v.toNat s, .ok) := by
  have unit : Apply.unit D.iMPL 24 (D.iMPL + c) = some c := by simp [Apply.unit, hc]
  have ctx : Apply.unit D.iCTX 96 (D.iMPL + c) = none := by revert c; decide
  have record : Write.command p (D.iMPL + c) v s = Write.unitCommand (D.iMPL + c) v.toNat s := by
    have own : ∀ i ∈ [D.iDEV_STATE, D.iDEV_CFG, D.iTXN_CTRL, D.iGRD_CFG, D.iILMG, D.iSTK_CTRL, D.iNET_CLK, D.iFLT_CTRL, D.iFLT_SRC, D.iLDG_CTRL, D.iTMP,
        D.iCAL], D.iMPL + c ≠ i := by
      revert c; decide
    simp only [List.forall_mem_cons] at own
    simp [Write.command, own]
  rw [record, Write.unitCommand, ctx, unit]

/-- A command written by the host reaches its loop. -/
theorem num_cmd {s : State} {c : Nat} (h : hostOpen s = true) (hc : c < 24) {v : Int} (hv : v ∈ [1, 2]) :
    Mbx.num 0 (D.iMPL + c) D.MPL_CMD v s = cmd c v.toNat s := by
  have assigned : ∀ c < 24, Dict.assigned (D.iMPL + c) = true := by decide
  have plain : ∀ c < 24, Write.fixed (D.iMPL + c) D.MPL_CMD = false ∧ Write.dataBlob (D.iMPL + c) D.MPL_CMD = false := by decide
  have hp : pathOpen 0 (D.iMPL + c) s = true := hostOpen_pathOpen h
  rw [Mbx.num_pathOpen hp, Write.write_command hp (assigned c hc) (rowAt_cmd hc) rfl (plain c hc).1 (by decide) (plain c hc).2 (numOk_cmd hc hv),
    command_loop hc]

theorem cmd_waits {s : State} (c v : Nat) (h : s.dev.mode.inBuild = true) :
    cmd c v s = State.modLoop s c fun l => { l with reclose := l.reclose || v == 1, resetI := l.resetI || v == 2 } := if_pos h

theorem cmd_reclose {s : State} {c : Nat} (h : s.dev.mode.inBuild = false) (hm : (State.loopOf s c).mode = .openFallback) : cmd c 1 s = close s c := by
  simp [cmd, h, recloseNow, hm]

theorem cmd_reset {s : State} (c : Nat) (h : s.dev.mode.inBuild = false) : cmd c 2 s = resetNow c s := by simp [cmd, h]

/-- What a command that the host gives a loop leaves, when its operation stays on the loop. -/
theorem completes_cmd {i : Instr} {s : State} {c : Nat} {v : Int} {subs : List Nat} {P : State → Prop}
    (he : exec i s = actOn c 24 (Mbx.num 0 (D.iMPL + c) D.MPL_CMD v) s) (h : hostOpen s = true) (hc : c < 24) (hv : v ∈ [1, 2])
    (on : OnLoop c subs [.mpl] s (cmd c v.toNat s)) (hp : P (cmd c v.toNat s)) : completes i s P := by
  rw [← num_cmd h hc hv] at on hp
  exact completes_of_actOn_keeps he hc (upNow_rails (hostOpen_upNow h)) on.parts (by simp) hp

theorem clearRuns_clears (s : State) {c : Nat} (hc : c < 24) :
    reg (clearRuns s c) c D.MPL_MISS_RUN = 0 ∧ reg (clearRuns s c) c D.MPL_IMPL_RUN = 0 := by
  have said : OnLoop c [] [.mpl] (put (put s c D.MPL_MISS_RUN 0) c D.MPL_IMPL_RUN 0) (clearRuns s c) := OnLoop.modLoop _ c _
  have impl : OnLoop c [D.MPL_IMPL_RUN] [.mpl] (put s c D.MPL_MISS_RUN 0) (put (put s c D.MPL_MISS_RUN 0) c D.MPL_IMPL_RUN 0) := OnLoop.put _ c _
  constructor
  · rw [said.entries _ (by decide) (by decide), impl.entries _ (by decide) (by decide), reg_put_zero hc (ty := .u8)]
  · rw [said.entries _ (by decide) (by decide), reg_put_zero hc (ty := .u16)]

theorem reset_set (s : State) (c : Nat) : OnLoop c [] [.mpl] (put (put s c D.MPL_INTEGRAL 0) c D.MPL_AW 0) (resetNow c s) :=
  (setNext_on _ c _).ite (.refl ..)

theorem resetNow_on (s : State) (c : Nat) : OnLoop c [D.MPL_INTEGRAL, D.MPL_AW] [.mpl] s (resetNow c s) :=
  ((OnLoop.put s c _).trans (OnLoop.put _ c _)).trans ((reset_set s c).mono (by simp) (List.Subset.refl _))

theorem resetNow_clears (s : State) {c : Nat} (hc : c < 24) : reg (resetNow c s) c D.MPL_INTEGRAL = 0 ∧ reg (resetNow c s) c D.MPL_AW = 0 := by
  have aw : OnLoop c [D.MPL_AW] [.mpl] (put s c D.MPL_INTEGRAL 0) (put (put s c D.MPL_INTEGRAL 0) c D.MPL_AW 0) := OnLoop.put _ c _
  have set := reset_set s c
  constructor
  · rw [set.entries _ (by decide) (by decide), aw.entries _ (by decide) (by decide), reg_put_zero hc (ty := .i32)]
  · rw [set.entries _ (by decide) (by decide), reg_put_zero hc (ty := .u8)]

theorem mplReclose_closes {s : State} {c : Nat} (h : hostOpen s = true) (hc : c < 24) (hb : s.dev.mode.inBuild = false)
    (hm : (State.loopOf s c).mode = .openFallback) :
    completes (.mplReclose c) s fun t => (State.loopOf t c).mode = .closed ∧ reg t c D.MPL_MISS_RUN = 0 ∧ reg t c D.MPL_IMPL_RUN = 0 ∧ otherLoops c s t ∧
      keeps [.mpl] s t := by
  have step : cmd c (1 : Int).toNat s = close s c := cmd_reclose hb hm
  obtain ⟨hmiss, himpl⟩ := clearRuns_clears (enter s c .closed) hc
  have on := close_on s c
  exact completes_cmd rfl h hc (by decide) (step ▸ on) (step ▸ ⟨mode_close s c, hmiss, himpl, on.loops, on.parts⟩)

theorem mplResetIntegral_clears {s : State} {c : Nat} (h : hostOpen s = true) (hc : c < 24) (hb : s.dev.mode.inBuild = false) :
    completes (.mplResetIntegral c) s fun t => reg t c D.MPL_INTEGRAL = 0 ∧ reg t c D.MPL_AW = 0 ∧ otherLoops c s t ∧ keeps [.mpl] s t := by
  have step : cmd c (2 : Int).toNat s = resetNow c s := cmd_reset c hb
  obtain ⟨hint, haw⟩ := resetNow_clears s hc
  have on := resetNow_on s c
  exact completes_cmd rfl h hc (by decide) (step ▸ on) (step ▸ ⟨hint, haw, on.loops, on.parts⟩)

theorem mplReclose_waits {s : State} {c : Nat} (h : hostOpen s = true) (hc : c < 24) (hb : s.dev.mode.inBuild = true) :
    completes (.mplReclose c) s fun t => (State.loopOf t c).reclose = true ∧ otherLoops c s t ∧ keeps [.mpl] s t := by
  have on : OnLoop c [] [.mpl] s (cmd c 1 s) := cmd_waits c 1 hb ▸ OnLoop.modLoop s c _
  exact completes_cmd rfl h hc (by decide) on ⟨by simp [cmd_waits c _ hb], on.loops, on.parts⟩

theorem mplResetIntegral_waits {s : State} {c : Nat} (h : hostOpen s = true) (hc : c < 24) (hb : s.dev.mode.inBuild = true) :
    completes (.mplResetIntegral c) s fun t => (State.loopOf t c).resetI = true ∧ otherLoops c s t ∧ keeps [.mpl] s t := by
  have on : OnLoop c [] [.mpl] s (cmd c 2 s) := cmd_waits c 2 hb ▸ OnLoop.modLoop s c _
  exact completes_cmd rfl h hc (by decide) on ⟨by simp [cmd_waits c _ hb], on.loops, on.parts⟩

end Mpl

/-- Settles O29: each command by the case of its operation that the hypotheses select. -/
theorem loopsTakeSamplesAndCommands : Obligations.LoopsTakeSamplesAndCommands :=
  ⟨fun _ _ _ _ hr hc hd hm hch hf ha hs hx => Mpl.loopSampleConsume_present hr hc hd ⟨hm, hch, hf, ha⟩ hs hx,
    fun _ _ _ hr hc hd hm hch hf ha hs => Mpl.loopSampleConsume_absent hr hc hd ⟨hm, hch, hf, ha⟩ hs,
    fun _ _ _ hr hc hd hm => Mpl.loopSampleConsume_off hr hc hd hm,
    fun _ _ h hc hb hm => Mpl.mplReclose_closes h hc hb hm,
    fun _ _ h hc hb => Mpl.mplReclose_waits h hc hb,
    fun _ _ h hc hb => Mpl.mplResetIntegral_clears h hc hb,
    fun _ _ h hc hb => Mpl.mplResetIntegral_waits h hc hb⟩

end Sys2Proof.Machine

/-!
PROOFS of 09_thermal_grid.md: both statements of the chapter fail. The end of a sweep captures an armed snapshot; the snapshot it overwrites gives its Folio
chain back to the pool (R238, R341), so Folio changes with the grid. GRD_RESET of a fenced grid whose status has cleared makes the grid IDLE (R226, R232), so
its state does not stay.
-/
namespace Sys2Proof.Machine

/-- What a command of the core domain answers while the core rails are on. -/
theorem exec_act_inv {c : Instr} {f : State → State} {s t : State} (he : exec c s = act f s) (hr : s.pwr.rails = true) (h : exec c s = .next t) :
    t = { f s with tick := s.tick, pending := s.pending } := by
  rw [he, act_rails hr] at h
  cases h
  rfl

namespace Grid

/-! ### A sweep that ends captures an armed snapshot (R230, R238, R341) -/

theorem finishTile_of_written {s : State} (h : s.grd.opened = false) : finishTile s = s := if_neg (by simp [h])

/-- The chain of the snapshot that a capture overwrites returns to the pool (R341). -/
theorem chain_capturing (s : State) (early : Bool) : Tab.get (fun _ => 0) (capturing s early).fol.chains 0x10 = 0 :=
  Tab.get_set_same (fun _ => 0) s.fol.chains 0x10 0

theorem armedCapture_of_armed {s : State} {b : Nat} (h : s.grd.snapMode = .armed) (hb : s.grd.snapAt < b) : armedCapture b s = capturing s false :=
  if_pos ⟨h, hb⟩

@[simp] theorem beginSweep_fol (s : State) (n b : Nat) : (beginSweep s n b).fol = s.fol := rfl

theorem chain_endSweep {s : State} (h : s.grd.snapMode = .armed) (hat : s.grd.snapAt < s.grd.start + s.grd.par.period) :
    Tab.get (fun _ => 0) (endSweep s).fol.chains 0x10 = 0 := by
  rw [endSweep, beginSweep_fol, armedCapture_of_armed, chain_capturing]
  all_goals
    split <;> split
    all_goals assumption

/-- A sweep whose last tile is written ends when the next one is due (R230). -/
theorem sweepStart_of_last {s : State} (hd : dueBy s s.btick = true) (hn : nTiles s ≤ s.grd.nextTile) (ho : s.grd.opened = false) :
    sweepStart s = endSweep s := by
  simp [sweepStart, hd, hn, advance, finishTile_of_written ho]

/-- A build at the end of sweep 0, its last tile written: the host holds a Folio snapshot in three buffers and has asked for the next one. -/
def overwriting : State := { State.reset with
  btick := 40000
  dev := { State.reset.dev with mode := .building }
  grd := { State.reset.grd with
    mode := .running, nextTile := 4096, snapMode := .armed, snapFolio := true, snap := some { capture State.reset false with folio := true } }
  fol := { State.reset.fol with chains := [(0x10, 3)] } }

theorem overwriting_due : dueBy overwriting overwriting.btick = true := by decide

theorem overwriting_last : nTiles overwriting ≤ overwriting.grd.nextTile := by decide

theorem chain_sweepStart_overwriting : Tab.get (fun _ => 0) (sweepStart overwriting).fol.chains 0x10 = 0 := by
  rw [sweepStart_of_last overwriting_due overwriting_last rfl]
  exact chain_endSweep rfl (by decide)

/-! ### GRD_RESET of a fenced grid (R226, R232) -/

/-- A command written by the host reaches the grid. -/
theorem gridCommand_of_hostOpen {s : State} (h : hostOpen s = true) {v : Int} (hv : v ∈ [1, 2, 3, 4]) : gridCommand v s = (Write.gridCmd v.toNat s).1 := by
  have row : Dict.rowAt D.iGRD_CFG D.GRD_CFG_CMD = some ⟨D.iGRD_CFG, 1, D.GRD_CFG_CMD, 1, 1, .u8, .wo, .c 0, .rng 1 4⟩ := by decide
  have taken : Write.numOk ⟨D.iGRD_CFG, 1, D.GRD_CFG_CMD, 1, 1, .u8, .wo, .c 0, .rng 1 4⟩ D.iGRD_CFG D.GRD_CFG_CMD v = true := by
    revert v; decide
  have hp : pathOpen 0 D.iGRD_CFG s = true := hostOpen_pathOpen h
  rw [gridCommand, Mbx.num_pathOpen hp, Write.write_command hp (by decide) row rfl (by decide) (by decide) (by decide) taken]
  rfl

theorem gridCmd_reset {s : State} (h : s.dev.mode.inBuild = false) : (Write.gridCmd 1 s).1 = cmdReset s := by
  simp [Write.gridCmd, Write.when, resetOk, h]

/-- A fenced grid whose status has cleared leaves FENCED by RESET. -/
theorem mode_cmdReset_of_cleared {s : State} (h : s.dev.mode.inBuild = false) (hf : s.grd.mode = .fenced) (hs : State.holdsStatus s 0xF0 = false) :
    (cmdReset s).grd.mode = .idle := by
  have hreset : (reset s).grd.mode = .fenced := hf
  have hstatus : State.holdsStatus (reset s) 0xF0 = false := hs
  simp [cmdReset, resetOk, h, hreset, hstatus]

/-- The module in SERVICE, its grid fenced in an earlier build, and the grid's source without status. -/
def fencedCleared : State := { State.reset with
  dev := { State.reset.dev with mode := .service, pllLocked := true }
  pwr := { State.reset.pwr with served := true, boot := none }
  grd := { State.reset.grd with mode := .fenced } }

theorem fencedCleared_open : hostOpen fencedCleared = true := by decide

theorem mode_reset_fencedCleared : (gridCommand 1 fencedCleared).grd.mode = .idle := by
  rw [gridCommand_of_hostOpen fencedCleared_open (by decide)]
  change (Write.gridCmd 1 fencedCleared).1.grd.mode = .idle
  rw [gridCmd_reset rfl, mode_cmdReset_of_cleared rfl rfl rfl]

end Grid

/-- Refutes O30: in `Grid.overwriting` SWEEP_START ends a running sweep with a snapshot armed; the capture frees the chain of three buffers of the snapshot
before (R341), where the statement keeps Folio as it was. -/
theorem not_sweepsFollowTheSchedule : ¬ Obligations.SweepsFollowTheSchedule := by
  rintro ⟨running, -⟩
  obtain ⟨t, ht, -, -, -, -, -, -, -, -, kept⟩ := running Grid.overwriting rfl Grid.overwriting_due Grid.overwriting_last rfl
  have hkept : t.fol = Grid.overwriting.fol := kept.same .fol (by decide)
  have hfreed : Tab.get (fun _ => 0) t.fol.chains 0x10 = 0 := by
    rw [exec_act_inv (f := Grid.sweepStart) rfl rfl ht]
    exact Grid.chain_sweepStart_overwriting
  have hheld : Tab.get (fun _ => 0) Grid.overwriting.fol.chains 0x10 = 3 := rfl
  rw [hkept, hheld] at hfreed
  exact absurd hfreed (by decide)

/-- Refutes O31: GRD_RESET takes the grid of `Grid.fencedCleared` from FENCED to IDLE (R226, R232), where the statement keeps the grid's state. -/
theorem not_theGridIsResetAndSnapped : ¬ Obligations.TheGridIsResetAndSnapped := by
  rintro ⟨reset, -⟩
  obtain ⟨t, ht, -, -, -, -, hmode, -, -⟩ := reset Grid.fencedCleared Grid.fencedCleared_open rfl
  have hidle : t.grd.mode = .idle := by
    rw [exec_act_inv (f := gridCommand 1) rfl rfl ht]
    exact Grid.mode_reset_fencedCleared
  rw [hidle] at hmode
  cases hmode

end Sys2Proof.Machine

/-!
PROOFS of 10_akzi_lanes.md: a lane follows its enable bit and its commands (R267, R268) and comes up step by step (R259 to R261). `OnLane` says what an
operation on one lane leaves alone: the other lanes, every entry of its own record but the named ones, the heads of the other channels, and every part but
the named ones. What an operation leaves of the lane itself is said by what `enter`, `setRate`, `seek`, `relearn` and `up` do to it.
-/
namespace Sys2Proof.Machine

theorem keeps_dev (s : State) (x : DevSt) : keeps [.dev] s { s with dev := x } :=
  keeps_one rfl fun p hp => by cases p with | dev => exact absurd rfl hp | _ => rfl

/-- A counter of 16 bits counts and saturates (R9). -/
theorem Regs.get_inc_u16 {rows : List Dict.Row} {k : Nat} {r : Dict.Row} (h : Dict.find rows (k / 256 % 65536) (k % 256) = some r) (ht : r.ty = .u16)
    (m : Regs) (d : Int) : Regs.get rows (Regs.inc rows m k d) k = Arith.clamp 0 65535 (Regs.get rows m k + d) := by
  obtain ⟨hlo, hhi⟩ := Arith.clamp_bounds (show (0 : Int) ≤ 65535 by decide) (Regs.get rows m k + d)
  rw [Regs.get_inc_same h, ht]
  exact Dict.norm_unsigned (by decide) rfl hlo (Int.lt_of_le_of_lt hhi (by decide))

theorem Arith.bit_setBit (v i : Nat) (b : Bool) : Arith.bit (Arith.setBit v i b) i = b := by
  have hp := Nat.two_pow_pos i
  unfold Arith.setBit
  split
  case isTrue h => simpa using h
  case isFalse h =>
    cases b with
    | true =>
      have hv : v / 2 ^ i % 2 ≠ 1 := by simpa [Arith.bit] using h
      simp only [Arith.bit, if_true, Nat.add_div_right _ hp, beq_iff_eq]
      omega
    | false =>
      have hv : v / 2 ^ i % 2 = 1 := by simpa [Arith.bit] using h
      have hs : (v - 2 ^ i * 1) / 2 ^ i = v / 2 ^ i - 1 := Nat.sub_mul_div v (2 ^ i) 1
      rw [Nat.mul_one] at hs
      simp only [Arith.bit, Bool.false_eq_true, if_false, hs, beq_eq_false_iff_ne]
      omega

/-- An entry of 16 bits holds bit 0 of what is written to it. -/
theorem Arith.bit_norm_u16 (v : Nat) : Arith.bit (Dict.norm .u16 v).toNat 0 = Arith.bit v 0 := by
  have h := Arith.toUnsigned_mod 16 v
  change Arith.bit (Arith.toUnsigned 16 v) 0 = _
  have : Arith.toUnsigned 16 v % 2 = v % 2 := by omega
  simp [Arith.bit, this]

/-- The records of a kind of unit have their entries in the same rows. -/
theorem Dict.find_unit {rows : List Dict.Row} {base n m : Nat} (h : ∀ r ∈ rows, r.idx = base ∧ r.count = n) (hm : m < n) (sub : Nat) :
    Dict.find rows (base + m) sub = Dict.find rows base sub := by
  induction rows with
  | nil => rfl
  | cons r rows ih =>
    obtain ⟨hr, hrows⟩ := List.forall_mem_cons.mp h
    have covered : Dict.covers r (base + m) sub = Dict.covers r base sub := by simp [Dict.covers, hr.1, hr.2, hm, Nat.zero_lt_of_lt hm]
    rw [Dict.find, Dict.find, covered, ih hrows]

/-! ### The state before and after an operation on one lane -/

/-- An operation on lane `m` leaves the other lanes, every entry of its own record but those named, the heads of the other channels, and every part but those
named as they were. -/
structure OnLane (m : Nat) (subs : List Nat) (ps : List Part) (s t : State) : Prop where
  lanes : otherLanes m s t
  entries : ∀ sub < 256, sub ∉ subs → State.rLnk t (D.iLNK + m) sub = State.rLnk s (D.iLNK + m) sub
  heads : otherHeads (m % 24) s t
  parts : keeps ps s t

namespace OnLane

variable {m : Nat} {subs subs' : List Nat} {ps qs : List Part} {s t u : State}

theorem trans (h : OnLane m subs ps s t) (h' : OnLane m subs ps t u) : OnLane m subs ps s u :=
  ⟨others.trans h.lanes h'.lanes, fun sub hs hn => (h'.entries sub hs hn).trans (h.entries sub hs hn), others.trans h.heads h'.heads,
    h.parts.trans h'.parts⟩

theorem mono (h : OnLane m subs ps s t) (hs : subs ⊆ subs' := by simp) (hp : ps ⊆ qs := by simp) : OnLane m subs' qs s t :=
  ⟨h.lanes, fun sub hl hn => h.entries sub hl fun hm => hn (hs hm), h.heads, h.parts.mono hp⟩

/-- What changes no lane and no head at all. -/
theorem of_keeps (m : Nat) (h : keeps ps s t) (hl : Part.lnk ∉ ps) (ha : Part.att ∉ ps) : OnLane m subs ps s t := by
  have hlnk : t.lnk = s.lnk := h.same .lnk hl
  exact ⟨fun j _ _ => by simp only [State.laneOf, State.rLnk, hlnk, implies_true, and_self], fun sub _ _ => by simp only [State.rLnk, hlnk],
    otherHeads_of_att _ (h.same .att ha), h⟩

theorem refl (m : Nat) (subs : List Nat) (ps : List Part) (s : State) : OnLane m subs ps s s :=
  ⟨fun _ _ _ => ⟨rfl, fun _ _ => rfl⟩, fun _ _ _ => rfl, otherHeads_of_att _ rfl, keeps.refl ps s⟩

theorem ite {b : Prop} {_ : Decidable b} (h : OnLane m subs ps s t) (h' : OnLane m subs ps s u) : OnLane m subs ps s (if b then t else u) := by
  split
  · exact h
  · exact h'

theorem raise (m : Nat) (s : State) (src kind addr : Nat) (hp : Part.raised ∈ ps := by decide) : OnLane m subs ps s (State.raise s src kind addr) :=
  (of_keeps (subs := []) m (keeps_raised s _) (by decide) (by decide)).mono (hp := by simpa using hp)

theorem modLane (s : State) (m : Nat) (f : Lane → Lane) (hp : Part.lnk ∈ ps := by decide) : OnLane m subs ps s (State.modLane s m f) where
  lanes _ _ hj := ⟨State.modLane_other s m f hj, fun _ _ => rfl⟩
  entries _ _ _ := rfl
  heads := otherHeads_of_att _ rfl
  parts := (keeps_lnk s _).mono (by simpa using hp)

theorem write (s : State) (m : Nat) {sub : Nat} (v : Int) (hs : sub ∈ subs ∧ sub < 256 := by decide) (hp : Part.lnk ∈ ps := by decide) :
    OnLane m subs ps s (State.wLnk s (D.iLNK + m) sub v) where
  lanes _ _ hj := ⟨rfl, fun _ hl => State.rLnk_wLnk_other s v (Dict.key_ne hl hs.2 (by omega))⟩
  entries _ hl hn := State.rLnk_wLnk_other s v (Dict.key_ne_of_sub hl hs.2 fun he => hn (he ▸ hs.1))
  heads := otherHeads_of_att _ rfl
  parts := (keeps_lnk s _).mono (by simpa using hp)

theorem put (s : State) (m : Nat) {sub : Nat} (v : Nat) (hs : sub ∈ subs ∧ sub < 256 := by decide) (hp : Part.lnk ∈ ps := by decide) :
    OnLane m subs ps s (Lnk.put s m sub v) := write s m v hs hp

theorem inc (s : State) (m : Nat) {sub : Nat} (d : Int) (hs : sub ∈ subs ∧ sub < 256 := by decide) (hp : Part.lnk ∈ ps := by decide) :
    OnLane m subs ps s (State.incLnk s (D.iLNK + m) sub d) where
  lanes _ _ hj := ⟨rfl, fun _ hl => Regs.get_inc_other _ _ _ (Dict.key_ne hl hs.2 (by omega))⟩
  entries _ hl hn := Regs.get_inc_other _ _ _ (Dict.key_ne_of_sub hl hs.2 fun he => hn (he ▸ hs.1))
  heads := otherHeads_of_att _ rfl
  parts := (keeps_lnk s _).mono (by simpa using hp)

/-- A write to the record of the lane's head, or to that of a source. -/
theorem attach (s : State) (m : Nat) {idx sub : Nat} (v : Int) (hi : idx = D.iHDP + m % 24 ∨ D.iSRC ≤ idx) (hs : sub < 256 := by decide)
    (hp : Part.att ∈ ps := by decide) : OnLane m subs ps s (State.wAtt s idx sub v) where
  lanes _ _ _ := ⟨rfl, fun _ _ => rfl⟩
  entries _ _ _ := rfl
  heads _ hj hk := ⟨rfl, fun _ hl => State.rAtt_wAtt_other s v (Dict.key_ne hl hs (by simp only [D.iHDP, D.iSRC] at hi ⊢; omega))⟩
  parts := (keeps_att s _).mono (by simpa using hp)

end OnLane

namespace Lnk

/-! ### Entries of a lane after they were written -/

/-- The types of the entries that bring-up and the commands set (R269). -/
def entryTypes : List (Nat × Dict.Ty) :=
  [(D.LNK_CTRL, .u16), (D.LNK_STATE, .u8), (D.LNK_RATE, .u8), (D.LNK_CEILING, .u8), (D.LNK_PROTOCOL, .u8), (D.LNK_REMOTE_CAP, .u64), (D.LNK_EQ, .u32),
    (D.LNK_EQ_TRAINED, .u32), (D.LNK_LIVE, .u8), (D.LNK_STEP_FAILS, .u16), (D.LNK_RELEARNS, .u16), (D.LNK_UP_TICK, .u64)]

theorem find_entry {m : Nat} (hm : m < 48) {e : Nat × Dict.Ty} (he : e ∈ entryTypes) :
    ∃ r, Dict.find Dict.lnkRows (Dict.key 0 (D.iLNK + m) e.1 / 256 % 65536) (Dict.key 0 (D.iLNK + m) e.1 % 256) = some r ∧ r.ty = e.2 := by
  have rows : ∀ r ∈ Dict.lnkRows, r.idx = D.iLNK ∧ r.count = 48 := by decide
  have first : ∀ e ∈ entryTypes, e.1 < 256 ∧ (Dict.find Dict.lnkRows D.iLNK e.1).map Dict.Row.ty = some e.2 := by decide
  obtain ⟨hs, hf⟩ := first e he
  rw [Dict.key_idx (by simp only [D.iLNK]; omega) hs, Dict.key_sub hs, Dict.find_unit rows hm]
  exact Option.map_eq_some_iff.mp hf

theorem rLnk_write (s : State) {m sub : Nat} {ty : Dict.Ty} (hm : m < 48) (v : Int) (he : (sub, ty) ∈ entryTypes := by decide) :
    State.rLnk (State.wLnk s (D.iLNK + m) sub v) (D.iLNK + m) sub = Dict.norm ty v := by
  obtain ⟨r, hr, rfl⟩ := find_entry hm he
  exact State.rLnk_wLnk hr s v

/-- An entry holds a number that its type can hold. -/
theorem rLnk_put (s : State) {m sub : Nat} (ty : Dict.Ty) (hm : m < 48) {v : Nat} (hv : v < 2 ^ Dict.width ty := by decide)
    (he : (sub, ty) ∈ entryTypes := by decide) (hu : ty ≠ .bool ∧ Dict.signed ty = false := by decide) :
    State.rLnk (put s m sub v) (D.iLNK + m) sub = v :=
  (rLnk_write s hm v he).trans (Dict.norm_unsigned hu.1 hu.2 (by omega) (Int.ofNat_lt.mpr hv))

theorem rLnk_count (s : State) {m sub : Nat} (hm : m < 48) (he : (sub, Dict.Ty.u16) ∈ entryTypes := by decide) :
    State.rLnk (State.incLnk s (D.iLNK + m) sub 1) (D.iLNK + m) sub = Arith.clamp 0 65535 (State.rLnk s (D.iLNK + m) sub + 1) := by
  obtain ⟨r, hr, ht⟩ := find_entry hm he
  exact Regs.get_inc_u16 hr ht _ _

/-! ### What a lane is after its registers were written -/

@[simp] theorem laneOf_put (s : State) (m sub v j : Nat) : State.laneOf (put s m sub v) j = State.laneOf s j := rfl
@[simp] theorem laneOf_wLnk (s : State) (idx sub : Nat) (v : Int) (j : Nat) : State.laneOf (State.wLnk s idx sub v) j = State.laneOf s j := rfl
@[simp] theorem laneOf_incLnk (s : State) (idx sub : Nat) (d : Int) (j : Nat) : State.laneOf (State.incLnk s idx sub d) j = State.laneOf s j := rfl
@[simp] theorem laneOf_wAtt (s : State) (idx sub : Nat) (v : Int) (j : Nat) : State.laneOf (State.wAtt s idx sub v) j = State.laneOf s j := rfl
@[simp] theorem laneOf_raise (s : State) (src kind addr j : Nat) : State.laneOf (State.raise s src kind addr) j = State.laneOf s j := rfl
@[simp] theorem rLnk_modLane (s : State) (m idx sub : Nat) (f : Lane → Lane) : State.rLnk (State.modLane s m f) idx sub = State.rLnk s idx sub := rfl

/-! ### Entering a state (R267) -/

theorem enter_on (s : State) (m : Nat) (d : LaneMode) : OnLane m [D.LNK_STATE, D.LNK_LIVE] [.lnk] s (enter s m d) :=
  ((OnLane.modLane s m _).trans (OnLane.put _ m _)).trans (OnLane.put _ m _)

@[simp] theorem laneOf_enter (s : State) (m : Nat) (d : LaneMode) : State.laneOf (enter s m d) m =
    { State.laneOf s m with
      mode := d, driftWaits := false, wakeLeft := 0, idleFrom := s.tick, blocks := { (State.laneOf s m).blocks with idle := 0, guard := 0 } } := by
  simp only [enter, laneOf_put, State.modLane_same]

theorem state_enter (s : State) {m : Nat} (hm : m < 48) (d : LaneMode) : State.rLnk (enter s m d) (D.iLNK + m) D.LNK_STATE = code d := by
  have live : OnLane m [D.LNK_LIVE] [.lnk] _ (enter s m d) := OnLane.put _ m _
  rw [live.entries _ (by decide) (by decide)]
  exact rLnk_put _ .u8 hm (by cases d <;> decide)

/-- In CAP, STEP, UP and RELEARN the receiver has marker lock and phase lock (R267, R269). -/
theorem live_enter (s : State) {m : Nat} (hm : m < 48) : State.rLnk (enter s m .cap) (D.iLNK + m) D.LNK_LIVE = 6 :=
  rLnk_put _ .u8 hm

/-! ### The present rate (R247) -/

theorem setRate_on (s : State) (m r : Nat) : OnLane m [D.LNK_RATE] [.lnk] s (setRate s m r) :=
  ((OnLane.refl ..).ite (OnLane.modLane s m _)).trans (OnLane.put _ m _)

/-- A change of rate leaves of the lane all but its rate and what sender and receiver start from. -/
theorem laneOf_setRate (s : State) (m r : Nat) : ∃ line blocks odd k, State.laneOf (setRate s m r) m =
    { State.laneOf s m with rate := some r, line := line, blocks := blocks, txOdd := odd, txFrom := k } := by
  unfold setRate
  dsimp only
  split
  case isTrue h => exact ⟨_, _, _, _, by rw [laneOf_put, ← h]⟩
  case isFalse =>
    rw [laneOf_put, State.modLane_same]
    exact ⟨_, _, _, _, rfl⟩

@[simp] theorem mode_setRate (s : State) (m r : Nat) : (State.laneOf (setRate s m r) m).mode = (State.laneOf s m).mode := by
  obtain ⟨_, _, _, _, h⟩ := laneOf_setRate s m r; rw [h]

@[simp] theorem rate_setRate (s : State) (m r : Nat) : (State.laneOf (setRate s m r) m).rate = some r := by
  obtain ⟨_, _, _, _, h⟩ := laneOf_setRate s m r; rw [h]

@[simp] theorem ceiling_setRate (s : State) (m r : Nat) : (State.laneOf (setRate s m r) m).ceiling = (State.laneOf s m).ceiling := by
  obtain ⟨_, _, _, _, h⟩ := laneOf_setRate s m r; rw [h]

/-! ### Settings and training (R250, R268) -/

theorem takeSettings_on {subs : List Nat} (s : State) (m : Nat) : OnLane m subs [.lnk] s (takeSettings s m) := OnLane.modLane s m _

theorem startTraining_on {subs : List Nat} (s : State) (m k : Nat) : OnLane m subs [.lnk] s (startTraining s m k) := OnLane.modLane s m _

/-! ### Entering SEEK (R259, R260) -/

/-- The entries that an entry to SEEK writes. -/
abbrev seekSubs : List Nat := [D.LNK_STATE, D.LNK_LIVE, D.LNK_RATE, D.LNK_CEILING, D.LNK_PROTOCOL]

theorem seek_entered (m : Nat) (s : State) : OnLane m [D.LNK_RATE, D.LNK_CEILING, D.LNK_PROTOCOL] [.lnk] (enter s m .seek) (seek m s) :=
  (((takeSettings_on _ m).trans (OnLane.modLane _ m _)).trans ((setRate_on _ m 0).mono)).trans ((OnLane.put _ m _).trans (OnLane.put _ m _))

theorem seek_on (m : Nat) (s : State) : OnLane m seekSubs [.lnk] s (seek m s) := (enter_on s m .seek).mono.trans (seek_entered m s).mono

/-- Lane `m` stands at the start of its bring-up: in SEEK at rate code 0, without ceiling and protocol. -/
structure Sought (m : Nat) (t : State) : Prop where
  mode : (State.laneOf t m).mode = .seek
  ceiling : (State.laneOf t m).ceiling = none
  state : State.rLnk t (D.iLNK + m) D.LNK_STATE = 1
  noCeiling : State.rLnk t (D.iLNK + m) D.LNK_CEILING = 0xFF
  rate : State.rLnk t (D.iLNK + m) D.LNK_RATE = 0
  protocol : State.rLnk t (D.iLNK + m) D.LNK_PROTOCOL = 0

theorem seek_sought (s : State) {m : Nat} (hm : m < 48) : Sought m (seek m s) := by
  have last : OnLane m [D.LNK_PROTOCOL] [.lnk] _ (seek m s) := OnLane.put _ m _
  have lastTwo : OnLane m [D.LNK_CEILING, D.LNK_PROTOCOL] [.lnk] _ (seek m s) := (OnLane.put _ m _).trans (OnLane.put _ m _)
  exact {
    mode := by simp [seek, takeSettings]
    ceiling := by simp [seek]
    state := ((seek_entered m s).entries _ (by decide) (by decide)).trans (state_enter s hm .seek)
    noCeiling := (last.entries _ (by decide) (by decide)).trans (rLnk_put _ .u8 hm)
    rate := (lastTwo.entries _ (by decide) (by decide)).trans (rLnk_put _ .u8 hm)
    protocol := rLnk_put _ .u8 hm }

/-! ### Entering RELEARN (R256, R267) -/

/-- RELEARN is entered and its training set up. -/
def trained (s : State) (m : Nat) : State :=
  let s := takeSettings (enter s m .relearn) m
  startTraining (State.modLane s m fun l => { l with trainEnd := s.tick + l.trainTicks, switchAt := none }) m s.tick

theorem relearn_eq (s : State) (m : Nat) : relearn s m = State.incLnk (trained s m) (D.iLNK + m) D.LNK_RELEARNS 1 := rfl

theorem trained_entered (s : State) (m : Nat) : OnLane m [] [.lnk] (enter s m .relearn) (trained s m) :=
  ((takeSettings_on _ m).trans (OnLane.modLane _ m _)).trans (startTraining_on _ m _)

theorem relearn_entered (s : State) (m : Nat) : OnLane m [D.LNK_RELEARNS] [.lnk] (enter s m .relearn) (relearn s m) :=
  relearn_eq s m ▸ (trained_entered s m).mono.trans (OnLane.inc _ m _)

theorem relearn_on (s : State) (m : Nat) : OnLane m [D.LNK_STATE, D.LNK_LIVE, D.LNK_RELEARNS] [.lnk] s (relearn s m) :=
  (enter_on s m .relearn).mono.trans (relearn_entered s m).mono

@[simp] theorem mode_relearn (s : State) (m : Nat) : (State.laneOf (relearn s m) m).mode = .relearn := by simp [relearn, startTraining, takeSettings]

@[simp] theorem ceiling_relearn (s : State) (m : Nat) : (State.laneOf (relearn s m) m).ceiling = (State.laneOf s m).ceiling := by
  simp [relearn, startTraining, takeSettings]

@[simp] theorem rate_relearn (s : State) (m : Nat) : (State.laneOf (relearn s m) m).rate = (State.laneOf s m).rate := by
  simp [relearn, startTraining, takeSettings]

@[simp] theorem put_tick (s : State) (m sub v : Nat) : (put s m sub v).tick = s.tick := rfl
@[simp] theorem enter_tick (s : State) (m : Nat) (d : LaneMode) : (enter s m d).tick = s.tick := rfl

/-- A training lasts the TRAIN_TICKS that stand at the entry to RELEARN (R256, R268). -/
theorem trainEnd_relearn (s : State) (m : Nat) : (State.laneOf (relearn s m) m).trainEnd = s.tick + reg s m D.LNK_TRAIN_TICKS := by
  have ticks : reg (enter s m .relearn) m D.LNK_TRAIN_TICKS = reg s m D.LNK_TRAIN_TICKS :=
    congrArg Int.toNat ((enter_on s m .relearn).entries _ (by decide) (by decide))
  simp [relearn, startTraining, takeSettings, ticks]

theorem state_relearn (s : State) {m : Nat} (hm : m < 48) : State.rLnk (relearn s m) (D.iLNK + m) D.LNK_STATE = 5 :=
  ((relearn_entered s m).entries _ (by decide) (by decide)).trans (state_enter s hm .relearn)

theorem relearns_relearn (s : State) {m : Nat} (hm : m < 48) : State.rLnk (relearn s m) (D.iLNK + m) D.LNK_RELEARNS =
    Arith.clamp 0 65535 (State.rLnk s (D.iLNK + m) D.LNK_RELEARNS + 1) := by
  rw [relearn_eq, rLnk_count _ hm, (trained_entered s m).entries _ (by decide) (by decide), (enter_on s m .relearn).entries _ (by decide) (by decide)]

/-! ### The enable bit (R267, R268) -/

theorem unit_other {m base count : Nat} (hm : m < 48) (h : base + count ≤ D.iLNK ∨ D.iLNK + 48 ≤ base) : Apply.unit base count (D.iLNK + m) = none := by
  simp only [Apply.unit, Bool.and_eq_true, decide_eq_true_eq]
  exact if_neg (by omega)

theorem unit_lane {m : Nat} (hm : m < 48) : Apply.unit D.iLNK 48 (D.iLNK + m) = some m := by simp [Apply.unit, hm]

theorem idx_ne {m i : Nat} (hm : m < 48) (h : i < D.iLNK ∨ D.iLNK + 48 ≤ i) : D.iLNK + m ≠ i := by omega

theorem rawNum_lane {m : Nat} (hm : m < 48) (sub : Nat) (v : Int) (s : State) :
    Apply.rawNum 0 (D.iLNK + m) sub v s = State.wLnk s (D.iLNK + m) sub v := by
  have block : Dict.blkOf (D.iLNK + m) = some .lnk := by revert m; decide
  have bank : Dict.bankOf 0 (D.iLNK + m) = 0 := ite_self 0
  simp only [Apply.rawNum, block, bank]
  rfl

/-- A write of CTRL that clears ENABLE is refused while the channel is STARTED (R268). -/
theorem refused_ctrl {m : Nat} (hm : m < 48) (s : State) (v : Int) :
    Write.refused s true (D.iLNK + m) D.LNK_CTRL (.num v) = (!Arith.bit v.toNat 0 && started s m) := by
  simp (disch := decide) [Write.refused, Write.jobState, Write.unitState, unit_other hm, unit_lane hm, idx_ne hm]

theorem consistent_lane {m : Nat} (hm : m < 48) (s : State) (sub : Nat) : Apply.consistent s (D.iLNK + m) sub = true := by
  simp (disch := decide) [Apply.consistent, unit_other hm, idx_ne hm]

theorem stagedOk_lane {m : Nat} (hm : m < 48) (sub : Nat) (v : Int) : Write.stagedOk ⟨D.iLNK + m, sub, .num v⟩ = true := by
  simp (disch := decide) [Write.stagedOk, unit_other hm]

/-- CTRL of a lane is applied: its value is stored, and ENABLE switches the lane. -/
theorem num_ctrl {m : Nat} (hm : m < 48) (v : Int) (s : State) : Apply.num 0 (D.iLNK + m) D.LNK_CTRL v s = Apply.gate v (enable m) (disable m)
    (State.wLnk s (D.iLNK + m) D.LNK_CTRL (Apply.keep0 (Read.value s 0 (D.iLNK + m) D.LNK_CTRL) v)) := by
  simp (disch := decide) [Apply.num, Apply.barred, Apply.attachOf, Apply.jobHook, Apply.unitHook, unit_other hm, unit_lane hm, idx_ne hm, rawNum_lane hm]

theorem offPoint_dev (s : State) : ∃ d, State.offPoint s = { s with dev := d } := by
  unfold State.offPoint State.breakEnv
  split
  · dsimp only
    split <;> exact ⟨_, rfl⟩
  · exact ⟨s.dev, rfl⟩

theorem gate_setBit (x : Nat) (b : Bool) (f g : State → State) (s : State) :
    Apply.gate ((Arith.setBit x 0 b : Nat) : Int) f g s = (if b then f else g) s := by
  cases b <;> simp [Apply.gate, Arith.bit_setBit]

/-- The enable bit of a lane is applied: CTRL takes a value, the lane is switched, and a configuration change in a build is noted in the device state. -/
theorem enable_ctrl {s : State} {m : Nat} {on : Bool} (h : upNow s = true) (hm : m < 48) (ok : on = true ∨ started s m = false) :
    ∃ w d, Write.enable (D.iLNK + m) D.LNK_CTRL on s =
      { (if on then enable m else disable m) (State.wLnk s (D.iLNK + m) D.LNK_CTRL w) with dev := d } := by
  have allowed : (!on && started s m) = false := by obtain rfl | ho := ok <;> simp [*]
  have step : Write.enable (D.iLNK + m) D.LNK_CTRL on s = _ := if_pos h
  rw [step, Write.plain, refused_ctrl hm, Int.toNat_natCast, Arith.bit_setBit, allowed]
  simp only [Bool.false_eq_true, if_false, stagedOk_lane hm, consistent_lane hm, Bool.and_self, Bool.not_true, Apply.val, num_ctrl hm, gate_setBit]
  split
  · obtain ⟨d, hd⟩ := offPoint_dev _
    exact ⟨_, d, hd⟩
  · exact ⟨_, _, rfl⟩

theorem enable_refused {s : State} {m : Nat} (h : upNow s = true) (hm : m < 48) (hs : started s m = true) :
    Write.enable (D.iLNK + m) D.LNK_CTRL false s = s := by
  have step : Write.enable (D.iLNK + m) D.LNK_CTRL false s = _ := if_pos h
  rw [step, Write.plain, refused_ctrl hm, Int.toNat_natCast, Arith.bit_setBit, hs]
  rfl

/-- The entries that the enable bit writes. -/
abbrev ctrlSubs : List Nat := D.LNK_CTRL :: seekSubs

/-- Past the write of CTRL, the enable bit begins a bring-up at most. -/
theorem enable_switched (m : Nat) (s : State) :
    OnLane m seekSubs [.lnk] (put s m D.LNK_CTRL (Arith.setBit (reg s m D.LNK_CTRL) 0 true)) (enable m s) := (seek_on m _).ite (.refl ..)

theorem enable_on (m : Nat) (s : State) : OnLane m ctrlSubs [.lnk] s (enable m s) := (OnLane.put s m _).trans (enable_switched m s).mono

theorem enable_sought {s : State} {m : Nat} (hm : m < 48) (h : (State.laneOf s m).mode = .disabled) : Sought m (enable m s) := by
  have step : enable m s = seek m _ := if_pos h
  exact step ▸ seek_sought _ hm

/-- CTRL holds the enable bit written to it. -/
theorem bit_ctrl (s : State) {m : Nat} (hm : m < 48) (x : Nat) (b : Bool) : Arith.bit (reg (put s m D.LNK_CTRL (Arith.setBit x 0 b)) m D.LNK_CTRL) 0 = b := by
  rw [reg, put, rLnk_write s hm _ (ty := .u16), Arith.bit_norm_u16, Arith.bit_setBit]

theorem bit_enable (s : State) {m : Nat} (hm : m < 48) : Arith.bit (reg (enable m s) m D.LNK_CTRL) 0 = true := by
  rw [reg, (enable_switched m s).entries _ (by decide) (by decide)]
  exact bit_ctrl s hm _ true

/-- A lane of a channel that is not STARTED after its enable bit was cleared, its transmitter off. -/
def switchedOff (s : State) (m : Nat) : State :=
  State.modLane (enter (put s m D.LNK_CTRL (Arith.setBit (reg s m D.LNK_CTRL) 0 false)) m .disabled) m fun l =>
    { l with rate := none, lastCap := none, cap := none }

theorem disable_of_idle {s : State} {m : Nat} (h : started s m = false) :
    disable m s = put (put (switchedOff s m) m D.LNK_RATE 0xFF) m D.LNK_PROTOCOL 0 := if_pos (by simp [cmdOk, h])

theorem disable_on (m : Nat) (s : State) : OnLane m ctrlSubs [.lnk] s (disable m s) :=
  ((((OnLane.put s m _).trans (enter_on _ m _).mono).trans (OnLane.modLane _ m _)).trans ((OnLane.put _ m _).trans (OnLane.put _ m _))).ite (.refl ..)

/-- Lane `m` is DISABLED, without rate and protocol. -/
structure Off (m : Nat) (t : State) : Prop where
  mode : (State.laneOf t m).mode = .disabled
  bit : Arith.bit (reg t m D.LNK_CTRL) 0 = false
  state : State.rLnk t (D.iLNK + m) D.LNK_STATE = 0
  rate : State.rLnk t (D.iLNK + m) D.LNK_RATE = 0xFF
  protocol : State.rLnk t (D.iLNK + m) D.LNK_PROTOCOL = 0

theorem disable_off {s : State} {m : Nat} (hm : m < 48) (h : started s m = false) : Off m (disable m s) := by
  rw [disable_of_idle h]
  have entered : OnLane m [D.LNK_RATE, D.LNK_PROTOCOL] [.lnk] (enter (put s m D.LNK_CTRL (Arith.setBit (reg s m D.LNK_CTRL) 0 false)) m .disabled)
      (put (put (switchedOff s m) m D.LNK_RATE 0xFF) m D.LNK_PROTOCOL 0) :=
    (OnLane.modLane _ m _).trans ((OnLane.put _ m _).trans (OnLane.put _ m _))
  have last (u : State) : OnLane m [D.LNK_PROTOCOL] [.lnk] u (put u m D.LNK_PROTOCOL 0) := OnLane.put u m _
  exact {
    mode := by simp [switchedOff]
    bit := by
      rw [reg, entered.entries _ (by decide) (by decide), (enter_on _ m _).entries _ (by decide) (by decide)]
      exact bit_ctrl s hm _ false
    state := (entered.entries _ (by decide) (by decide)).trans (state_enter _ hm .disabled)
    rate := ((last _).entries _ (by decide) (by decide)).trans (rLnk_put _ .u8 hm)
    protocol := rLnk_put _ .u8 hm }

/-- What the enable bit of a lane leaves: what its switch leaves, on that lane. -/
theorem completes_ctrl {i : Instr} {s : State} {m : Nat} {on : Bool} {P : State → Prop}
    (he : exec i s = actOn m 48 (Write.enable (D.iLNK + m) D.LNK_CTRL on) s) (h : upNow s = true) (hm : m < 48) (ok : on = true ∨ started s m = false)
    (hp : ∀ w d, let t : State := { (if on then enable m else disable m) (State.wLnk s (D.iLNK + m) D.LNK_CTRL w) with dev := d }
      OnLane m ctrlSubs [.lnk, .dev] s t → P t) : completes i s P := by
  obtain ⟨w, d, hw⟩ := enable_ctrl h hm ok
  have switched (u : State) : OnLane m ctrlSubs [.lnk] u ((if on then enable m else disable m) u) := by
    split
    · exact enable_on m u
    · exact disable_on m u
  have noted (u : State) : OnLane m ctrlSubs [.lnk, .dev] u { u with dev := d } :=
    (OnLane.of_keeps m (keeps_dev u d) (by simp) (by simp)).mono (hs := List.Subset.refl _)
  have stays := ((OnLane.write s m w).trans ((switched (State.wLnk s (D.iLNK + m) D.LNK_CTRL w)).mono)).trans (noted _)
  exact completes_of_actOn_keeps he hm (upNow_rails h) (hw ▸ stays.parts) (by simp) (hw ▸ hp w d stays)

theorem lnkEnable_seeks {s : State} {m : Nat} (h : upNow s = true) (hm : m < 48) (hd : (State.laneOf s m).mode = .disabled) :
    completes (.lnkEnable m) s fun t => (State.laneOf t m).mode = .seek ∧ (State.laneOf t m).ceiling = none ∧
      State.rLnk t (D.iLNK + m) D.LNK_STATE = 1 ∧ State.rLnk t (D.iLNK + m) D.LNK_CEILING = 0xFF ∧ State.rLnk t (D.iLNK + m) D.LNK_RATE = 0 ∧
      State.rLnk t (D.iLNK + m) D.LNK_PROTOCOL = 0 ∧ Arith.bit (reg t m D.LNK_CTRL) 0 = true ∧ otherLanes m s t ∧ keeps [.lnk, .dev] s t := by
  refine completes_ctrl (on := true) rfl h hm (.inl rfl) fun w d on => ?_
  have sought := enable_sought (s := State.wLnk s (D.iLNK + m) D.LNK_CTRL w) hm hd
  exact ⟨sought.mode, sought.ceiling, sought.state, sought.noCeiling, sought.rate, sought.protocol, bit_enable _ hm, on.lanes, on.parts⟩

theorem lnkDisable_off {s : State} {m : Nat} (h : upNow s = true) (hm : m < 48) (hs : started s m = false) :
    completes (.lnkDisable m) s fun t => (State.laneOf t m).mode = .disabled ∧ Arith.bit (reg t m D.LNK_CTRL) 0 = false ∧
      State.rLnk t (D.iLNK + m) D.LNK_STATE = 0 ∧ State.rLnk t (D.iLNK + m) D.LNK_RATE = 0xFF ∧ State.rLnk t (D.iLNK + m) D.LNK_PROTOCOL = 0 ∧
      otherLanes m s t ∧ keeps [.lnk, .dev] s t := by
  refine completes_ctrl (on := false) rfl h hm (.inr hs) fun w d on => ?_
  have off := disable_off (s := State.wLnk s (D.iLNK + m) D.LNK_CTRL w) hm hs
  exact ⟨off.mode, off.bit, off.state, off.rate, off.protocol, on.lanes, on.parts⟩

theorem lnkDisable_refused {s : State} {m : Nat} (h : upNow s = true) (hm : m < 48) (hs : started s m = true) :
    completes (.lnkDisable m) s fun t => t = s := completes_idle_of_actOn rfl (enable_refused h hm hs)

/-! ### LNK_CMD (R267, R268) -/

theorem rowAt_cmd {m : Nat} (hm : m < 48) : Dict.rowAt (D.iLNK + m) D.LNK_CMD = some ⟨D.iLNK, 48, D.LNK_CMD, 1, 1, .u8, .wo, .c 0, .rng 1 2⟩ := by
  revert m; decide

/-- LNK_CMD takes its two command numbers (R269). -/
theorem numOk_cmd {m : Nat} (hm : m < 48) {v : Int} (hv : v ∈ [1, 2]) :
    Write.numOk ⟨D.iLNK, 48, D.LNK_CMD, 1, 1, .u8, .wo, .c 0, .rng 1 2⟩ (D.iLNK + m) D.LNK_CMD v = true := by
  revert m v; decide

/-- The command entry of a lane's record is that of the lane. -/
theorem command_lane {m : Nat} (hm : m < 48) (p : Nat) (v : Int) (s : State) : Write.command p (D.iLNK + m) v s = Write.laneCmd m v.toNat s := by
  simp (disch := decide) [Write.command, Write.unitCommand, unit_other hm, unit_lane hm, idx_ne hm]

/-- A command written by the host reaches its lane. -/
theorem num_cmd {s : State} {m : Nat} (h : hostOpen s = true) (hm : m < 48) {v : Int} (hv : v ∈ [1, 2]) :
    Mbx.num 0 (D.iLNK + m) D.LNK_CMD v s = (Write.laneCmd m v.toNat s).1 := by
  have assigned : ∀ m < 48, Dict.assigned (D.iLNK + m) = true := by decide
  have plain : ∀ m < 48, Write.fixed (D.iLNK + m) D.LNK_CMD = false ∧ Write.dataBlob (D.iLNK + m) D.LNK_CMD = false := by decide
  have hp : pathOpen 0 (D.iLNK + m) s = true := hostOpen_pathOpen h
  rw [Mbx.num_pathOpen hp, Write.write_command hp (assigned m hm) (rowAt_cmd hm) rfl (plain m hm).1 (by decide) (plain m hm).2 (numOk_cmd hm hv),
    command_lane hm]

/-- What a command that the host gives a lane leaves, when its operation stays on the lane. -/
theorem completes_cmd {i : Instr} {s : State} {m : Nat} {v : Int} {subs : List Nat} {P : State → Prop}
    (he : exec i s = actOn m 48 (Mbx.num 0 (D.iLNK + m) D.LNK_CMD v) s) (h : hostOpen s = true) (hm : m < 48) (hv : v ∈ [1, 2]) {t : State}
    (ht : (Write.laneCmd m v.toNat s).1 = t) (on : OnLane m subs [.lnk] s t) (hp : P t) : completes i s P := by
  have step : Mbx.num 0 (D.iLNK + m) D.LNK_CMD v s = t := (num_cmd h hm hv).trans ht
  subst step
  exact completes_of_actOn_keeps he hm (upNow_rails (hostOpen_upNow h)) on.parts (by simp) hp

theorem laneCmd_refused {s : State} {m : Nat} (h : started s m = true) (v : Nat) : (Write.laneCmd m v s).1 = s := by
  simp [Write.laneCmd, Write.when, cmdOk, h]

theorem laneCmd_retrain {s : State} {m : Nat} (h : started s m = false) (hd : (State.laneOf s m).mode ≠ .disabled) :
    (Write.laneCmd m 1 s).1 = seek m s := by
  simp [Write.laneCmd, Write.when, retrain, cmdOk, h, hd]

theorem laneCmd_relearn {s : State} {m : Nat} (h : started s m = false) (hu : (State.laneOf s m).mode = .up) :
    (Write.laneCmd m 2 s).1 = relearn s m := by
  simp [Write.laneCmd, Write.when, cmdRelearn, cmdOk, h, hu]

theorem lnkRetrain_seeks {s : State} {m : Nat} (h : hostOpen s = true) (hm : m < 48) (hs : started s m = false)
    (hd : (State.laneOf s m).mode ≠ .disabled) :
    completes (.lnkRetrain m) s fun t => (State.laneOf t m).mode = .seek ∧ (State.laneOf t m).ceiling = none ∧
      State.rLnk t (D.iLNK + m) D.LNK_STATE = 1 ∧ State.rLnk t (D.iLNK + m) D.LNK_CEILING = 0xFF ∧ State.rLnk t (D.iLNK + m) D.LNK_RATE = 0 ∧
      State.rLnk t (D.iLNK + m) D.LNK_PROTOCOL = 0 ∧ otherLanes m s t ∧ keeps [.lnk] s t := by
  have sought := seek_sought s hm
  have on := seek_on m s
  exact completes_cmd rfl h hm (by decide) (laneCmd_retrain hs hd) on
    ⟨sought.mode, sought.ceiling, sought.state, sought.noCeiling, sought.rate, sought.protocol, on.lanes, on.parts⟩

theorem lnkRelearn_relearns {s : State} {m : Nat} (h : hostOpen s = true) (hm : m < 48) (hs : started s m = false)
    (hu : (State.laneOf s m).mode = .up) :
    completes (.lnkRelearn m) s fun t => (State.laneOf t m).mode = .relearn ∧ State.rLnk t (D.iLNK + m) D.LNK_STATE = 5 ∧
      (State.laneOf t m).trainEnd = s.tick + reg s m D.LNK_TRAIN_TICKS ∧
      State.rLnk t (D.iLNK + m) D.LNK_RELEARNS = Arith.clamp 0 65535 (State.rLnk s (D.iLNK + m) D.LNK_RELEARNS + 1) ∧ otherLanes m s t ∧
      keeps [.lnk] s t := by
  have on := relearn_on s m
  exact completes_cmd rfl h hm (by decide) (laneCmd_relearn hs hu) on
    ⟨mode_relearn s m, state_relearn s hm, trainEnd_relearn s m, relearns_relearn s hm, on.lanes, on.parts⟩

/-- A command to a lane whose channel is STARTED changes nothing. -/
theorem cmd_refused {i : Instr} {s : State} {m : Nat} {v : Int} (he : exec i s = actOn m 48 (Mbx.num 0 (D.iLNK + m) D.LNK_CMD v) s)
    (h : hostOpen s = true) (hm : m < 48) (hv : v ∈ [1, 2]) (hs : started s m = true) : completes i s fun t => t = s :=
  completes_cmd he h hm hv (laneCmd_refused hs _) (.refl m [] _ s) rfl

theorem started_of_chOf {s : State} {m : Nat} (h : State.chOf s (m % 24) = .started) : started s m = true := beq_iff_eq.mpr h

theorem idle_of_chOf {s : State} {m : Nat} (h : State.chOf s (m % 24) ≠ .started) : started s m = false := beq_false_of_ne h

end Lnk

/-- Settles O32: each command by the case of its operation that the hypotheses select. -/
theorem lanesFollowTheirEntries : Obligations.LanesFollowTheirEntries :=
  ⟨fun _ _ h hm hd => Lnk.lnkEnable_seeks h hm hd,
    fun _ _ h hm hs => Lnk.lnkDisable_off h hm (Lnk.idle_of_chOf hs),
    fun _ _ h hm hs hd => Lnk.lnkRetrain_seeks h hm (Lnk.idle_of_chOf hs) hd,
    fun _ _ h hm hs hu => Lnk.lnkRelearn_relearns h hm (Lnk.idle_of_chOf hs) hu,
    fun _ _ h hm hs => Lnk.lnkDisable_refused h hm (Lnk.started_of_chOf hs),
    fun _ _ h hm hs => Lnk.cmd_refused rfl h hm (by decide) (Lnk.started_of_chOf hs),
    fun _ _ h hm hs => Lnk.cmd_refused rfl h hm (by decide) (Lnk.started_of_chOf hs)⟩

namespace Lnk

/-! ### Bring-up up to the error test (R259, R261) -/

theorem markerLock_unripe {s : State} {m : Nat} (serial : Nat) (h : (State.laneOf s m).mode ≠ .seek ∨ lockOpen s m = false) :
    markerLock m serial s = s := if_neg (by obtain h | h := h <;> simp [h])

/-- A lane that has locked its markers: in CAP, its far end noted as seen. -/
def locked (s : State) (m : Nat) : State := State.modLane (enter s m .cap) m fun l => { l with plugged := true }

theorem locked_on (s : State) (m : Nat) : OnLane m [D.LNK_STATE, D.LNK_LIVE] [.lnk] s (locked s m) :=
  (enter_on s m .cap).trans (OnLane.modLane _ m _)

theorem markerLock_ripe {s : State} {m : Nat} (serial : Nat) (h : (State.laneOf s m).mode = .seek) (ho : lockOpen s m = true) :
    markerLock m serial s = if (State.laneOf s m).plugged then locked s m else State.raise (locked s m) (0xA0 + m) 8 serial := if_pos ⟨h, ho⟩

theorem markerLock_locks {s : State} {m : Nat} (serial : Nat) (hr : s.pwr.rails = true) (hm : m < 48) (h : (State.laneOf s m).mode = .seek)
    (ho : lockOpen s m = true) :
    completes (.markerLock m serial) s fun t => (State.laneOf t m).mode = .cap ∧ (State.laneOf t m).plugged = true ∧
      State.rLnk t (D.iLNK + m) D.LNK_STATE = 2 ∧ State.rLnk t (D.iLNK + m) D.LNK_LIVE = 6 ∧
      t.raised = s.raised ++ (if (State.laneOf s m).plugged then [] else [⟨0xA0 + m, 8, serial % 2 ^ 32⟩]) ∧ otherLanes m s t ∧
      keeps [.lnk, .raised] s t := by
  have step := markerLock_ripe serial h ho
  have on : OnLane m [D.LNK_STATE, D.LNK_LIVE] [.lnk, .raised] s (markerLock m serial s) :=
    step ▸ (locked_on s m).mono.ite ((locked_on s m).mono.trans (OnLane.raise m _ _ _ _))
  have lane : State.laneOf (markerLock m serial s) m = State.laneOf (locked s m) m := by rw [step]; split <;> rfl
  have entry (sub : Nat) : State.rLnk (markerLock m serial s) (D.iLNK + m) sub = State.rLnk (enter s m .cap) (D.iLNK + m) sub := by
    rw [step]; split <;> rfl
  refine completes_of_actOn_keeps rfl hm hr on.parts (by simp) ⟨?_, ?_, ?_, ?_, ?_, on.lanes, on.parts⟩
  · simp [lane, locked]
  · simp [lane, locked]
  · exact (entry _).trans (state_enter s hm .cap)
  · exact (entry _).trans (live_enter s hm)
  · have kept : (locked s m).raised = s.raised := (locked_on s m).parts.same .raised (by simp)
    rw [step]
    split
    · rw [kept, List.append_nil]
    · rw [State.raise, kept]

/-- An error-free CAP block arrives on a lane in CAP. -/
def Offered (s : State) (m : Nat) (b : List Byte) : Prop := (State.laneOf s m).mode = .cap ∧ blockOk b = true ∧ (b.getD 0 0).toNat = 0x10

/-- A lane that has taken the capability of its far end, with the target rate that follows from it (R259, R269). -/
def capTaken (s : State) (m : Nat) (d : List Byte) : State :=
  let s := State.modLane s m fun l => { l with cap := some d, target := targetRate m (State.laneOf s m).maxRate d }
  let s := State.wLnk s (D.iLNK + m) D.LNK_REMOTE_CAP (remoteCap d : Int)
  State.wLnk s (D.iLNK + m) D.LNK_REMOTE_ID ((Arith.leAt d 6 4 * 2 ^ 32 + Arith.leAt d 10 4 : Nat) : Int)

theorem Offered.passes {s : State} {m : Nat} {b : List Byte} (h : Offered s m b) :
    ¬((State.laneOf s m).mode ≠ .cap ∨ (!blockOk b) = true ∨ (b.getD 0 0).toNat ≠ 0x10) := by
  obtain ⟨hm, hb, ht⟩ := h
  rintro (h | h | h)
  · exact h hm
  · simp [hb] at h
  · exact h ht

theorem capBlock_unfit {s : State} {m : Nat} {b d : List Byte} (h : Offered s m b) (hd : d = (b.drop 2).take 26) (hs : capSuits m d = false) :
    capBlock m b s = State.raise (State.modLane s m fun l => { l with lastCap := none }) (0xA0 + m) 4 (Arith.leAt d 0 1 + 256 * Arith.leAt d 3 1) := by
  subst hd
  exact (if_neg h.passes).trans (if_pos (by simp [hs]))

theorem capBlock_first {s : State} {m : Nat} {b d : List Byte} (h : Offered s m b) (hd : d = (b.drop 2).take 26) (hs : capSuits m d = true)
    (hl : (State.laneOf s m).lastCap ≠ some d) : capBlock m b s = State.modLane s m fun l => { l with lastCap := some d } := by
  subst hd
  exact ((if_neg h.passes).trans (if_neg (by simp [hs]))).trans (if_neg hl)

theorem capBlock_second {s : State} {m : Nat} {b d : List Byte} (h : Offered s m b) (hd : d = (b.drop 2).take 26) (hs : capSuits m d = true)
    (hl : (State.laneOf s m).lastCap = some d) (ht : targetRate m (State.laneOf s m).maxRate d ≠ 0) :
    capBlock m b s = nextStep (capTaken s m d) m := by
  subst hd
  exact (((if_neg h.passes).trans (if_neg (by simp [hs]))).trans (if_pos hl)).trans (if_neg ht)

theorem nextStep_on (s : State) (m : Nat) : OnLane m [D.LNK_STATE, D.LNK_LIVE] [.lnk] s (nextStep s m) := (enter_on s m .step).trans (OnLane.modLane _ m _)

theorem laneOf_nextStep (s : State) (m : Nat) : State.laneOf (nextStep s m) m =
    { State.laneOf (enter s m .step) m with tryRate := (State.laneOf s m).rate.getD 0 + 1, phase := .echo, switchAt := none } := by
  rw [nextStep, State.modLane_same, laneOf_enter]

theorem capBlock_steps {s : State} {m : Nat} {b d : List Byte} (hr : s.pwr.rails = true) (hm : m < 48) (h : Offered s m b)
    (hd : d = (b.drop 2).take 26) (hs : capSuits m d = true) (hl : (State.laneOf s m).lastCap = some d)
    (ht : targetRate m (State.laneOf s m).maxRate d ≠ 0) :
    completes (.capBlock m b) s fun t => (State.laneOf t m).mode = .step ∧ (State.laneOf t m).phase = .echo ∧ (State.laneOf t m).cap = some d ∧
      (State.laneOf t m).target = targetRate m (State.laneOf s m).maxRate d ∧ (State.laneOf t m).tryRate = (State.laneOf s m).rate.getD 0 + 1 ∧
      State.rLnk t (D.iLNK + m) D.LNK_REMOTE_CAP = (Arith.toUnsigned 64 (remoteCap d : Int) : Int) ∧ otherLanes m s t ∧ keeps [.lnk] s t := by
  have step := capBlock_second h hd hs hl ht
  have identified (u : State) (v : Int) : OnLane m [D.LNK_REMOTE_ID] [.lnk] u (State.wLnk u (D.iLNK + m) D.LNK_REMOTE_ID v) := OnLane.write u m v
  have taken : OnLane m [D.LNK_STATE, D.LNK_LIVE, D.LNK_REMOTE_CAP, D.LNK_REMOTE_ID] [.lnk] s (capTaken s m d) :=
    ((OnLane.modLane s m _).trans (OnLane.write _ m _)).trans (OnLane.write _ m _)
  have on := step ▸ taken.trans (nextStep_on _ m).mono
  refine completes_of_actOn_keeps rfl hm hr on.parts (by simp) ⟨?_, ?_, ?_, ?_, ?_, ?_, on.lanes, on.parts⟩
  all_goals rw [step]
  · simp [laneOf_nextStep]
  · simp [laneOf_nextStep]
  · simp [laneOf_nextStep, capTaken]
  · simp [laneOf_nextStep, capTaken]
  · simp [laneOf_nextStep, capTaken]
  · rw [(nextStep_on _ m).entries _ (by decide) (by decide), capTaken, (identified _ _).entries _ (by decide) (by decide)]
    exact rLnk_write _ hm _ (ty := .u64)

theorem capBlock_notes {s : State} {m : Nat} {b d : List Byte} (hr : s.pwr.rails = true) (hm : m < 48) (h : Offered s m b)
    (hd : d = (b.drop 2).take 26) (hs : capSuits m d = true) (hl : (State.laneOf s m).lastCap ≠ some d) :
    completes (.capBlock m b) s fun t => State.laneOf t m = { State.laneOf s m with lastCap := some d } ∧ otherLanes m s t ∧ keeps [.lnk] s t := by
  have step := capBlock_first h hd hs hl
  have on : OnLane m [] [.lnk] s (capBlock m b s) := step ▸ OnLane.modLane s m _
  exact completes_of_actOn_keeps rfl hm hr on.parts (by simp) ⟨step ▸ State.modLane_same s m _, on.lanes, on.parts⟩

theorem capBlock_mismatch {s : State} {m : Nat} {b d : List Byte} (hr : s.pwr.rails = true) (hm : m < 48) (h : Offered s m b)
    (hd : d = (b.drop 2).take 26) (hs : capSuits m d = false) :
    completes (.capBlock m b) s fun t => State.laneOf t m = { State.laneOf s m with lastCap := none } ∧
      lastRaised s (0xA0 + m) 4 ((Arith.leAt d 0 1 + 256 * Arith.leAt d 3 1) % 2 ^ 32) t ∧ otherLanes m s t ∧ keeps [.lnk, .raised] s t := by
  have step := capBlock_unfit h hd hs
  have on : OnLane m [] [.lnk, .raised] s (capBlock m b s) := step ▸ (OnLane.modLane s m _).trans (OnLane.raise m _ _ _ _)
  refine completes_of_actOn_keeps rfl hm hr on.parts (by simp) ⟨?_, step ▸ rfl, on.lanes, on.parts⟩
  rw [step, laneOf_raise, State.modLane_same]

theorem stepEcho_switches {s : State} {m : Nat} (hr : s.pwr.rails = true) (hm : m < 48) (h : (State.laneOf s m).mode = .step)
    (hp : (State.laneOf s m).phase = .echo) :
    completes (.stepEcho m) s fun t => State.laneOf t m =
      { State.laneOf s m with phase := .training, switchAt := some (s.tick + 2), trainEnd := s.tick + 2 + (State.laneOf s m).trainTicks } ∧
      otherLanes m s t ∧ keeps [.lnk] s t := by
  have step : stepEcho m s = State.modLane s m _ := if_pos ⟨h, hp⟩
  have on : OnLane m [] [.lnk] s (stepEcho m s) := step ▸ OnLane.modLane s m _
  exact completes_of_actOn_keeps rfl hm hr on.parts (by simp) ⟨step ▸ State.modLane_same s m _, on.lanes, on.parts⟩

/-! ### A training ends (R259, R267) -/

theorem switchDue_on (m : Nat) (s : State) : OnLane m [D.LNK_RATE] [.lnk] s (switchDue m s) := by
  unfold switchDue
  split
  · exact (((setRate_on s m _).trans (OnLane.modLane _ m _)).trans (startTraining_on _ m _)).ite (.refl ..)
  · exact .refl ..

@[simp] theorem mode_switchDue (m : Nat) (s : State) : (State.laneOf (switchDue m s) m).mode = (State.laneOf s m).mode := by
  unfold switchDue
  split
  · split
    · simp [startTraining]
    · rfl
  · rfl

theorem trainingEnd_early {s : State} {m : Nat} (eq rtd : Nat) (h : s.tick < (State.laneOf s m).trainEnd) : trainingEnd m eq rtd s = s := if_pos h

/-- The equaliser values at the end of a training (R254). -/
def equalised (s : State) (m eq : Nat) : State := put (put s m D.LNK_EQ (eqWord eq)) m D.LNK_EQ_TRAINED (eqWord eq)

theorem eqWord_lt (v : Nat) : eqWord v < 2 ^ 32 := by unfold eqWord; omega

theorem trainingEnd_step {s : State} {m : Nat} (eq rtd : Nat) (h : (State.laneOf s m).mode = .step) (hp : (State.laneOf s m).phase = .training)
    (ht : (State.laneOf s m).trainEnd ≤ s.tick) :
    trainingEnd m eq rtd s = State.modLane (equalised (switchDue m s) m eq) m fun l =>
      { l with phase := .test, blocks := { l.blocks with tests := 0, errors := 0, verdict := none } } := by
  simp [trainingEnd, Nat.not_lt.mpr ht, h, hp, equalised]

theorem trainingEnd_tests {s : State} {m : Nat} (eq rtd : Nat) (hr : s.pwr.rails = true) (hm : m < 48) (h : (State.laneOf s m).mode = .step)
    (hp : (State.laneOf s m).phase = .training) (ht : (State.laneOf s m).trainEnd ≤ s.tick) :
    completes (.trainingEnd m eq rtd) s fun t => (State.laneOf t m).mode = .step ∧ (State.laneOf t m).phase = .test ∧
      (State.laneOf t m).blocks.tests = 0 ∧ State.rLnk t (D.iLNK + m) D.LNK_EQ = (eqWord eq : Int) ∧
      State.rLnk t (D.iLNK + m) D.LNK_EQ_TRAINED = (eqWord eq : Int) ∧ otherLanes m s t ∧ keeps [.lnk] s t := by
  have step := trainingEnd_step eq rtd h hp ht
  have last (u : State) : OnLane m [D.LNK_EQ_TRAINED] [.lnk] (put u m D.LNK_EQ (eqWord eq)) (equalised u m eq) := OnLane.put _ m _
  have on : OnLane m [D.LNK_RATE, D.LNK_EQ, D.LNK_EQ_TRAINED] [.lnk] s (trainingEnd m eq rtd s) :=
    step ▸ (((switchDue_on m s).mono).trans ((OnLane.put _ m _).trans (OnLane.put _ m _))).trans (OnLane.modLane _ m _)
  refine completes_of_actOn_keeps rfl hm hr on.parts (by simp) ⟨?_, ?_, ?_, ?_, ?_, on.lanes, on.parts⟩
  all_goals rw [step]
  · simp [equalised, h]
  · simp
  · simp
  · rw [rLnk_modLane, (last _).entries _ (by decide) (by decide), rLnk_put _ .u32 hm (eqWord_lt eq)]
  · rw [rLnk_modLane, equalised, rLnk_put _ .u32 hm (eqWord_lt eq)]

/-! ### The entry to UP (R261, R264, R275) -/

/-- The parts that an entry to UP can change. -/
abbrev upParts : List Part := [.lnk, .att, .raised]

theorem applyDelays_on (s : State) (m dh lag : Nat) : OnLane m [] upParts s (applyDelays s m dh lag) := by
  unfold applyDelays
  split
  case isTrue h =>
    have own : D.iHDP + m = D.iHDP + m % 24 ∨ D.iSRC ≤ D.iHDP + m := .inl (by rw [Nat.mod_eq_of_lt h])
    exact (OnLane.attach s m _ own).trans (OnLane.attach _ m _ own)
  case isFalse => exact .refl ..

@[simp] theorem laneOf_applyDelays (s : State) (m dh lag j : Nat) : State.laneOf (applyDelays s m dh lag) j = State.laneOf s j := by
  unfold applyDelays
  split <;> rfl

theorem identity_on (s : State) (m : Nat) (cap : List Byte) : OnLane m [] upParts s (identity s m cap) := by
  unfold identity
  dsimp only
  split
  · exact (OnLane.modLane s m _).trans (applyDelays_on _ m _ _)
  · exact (OnLane.refl ..).ite ((OnLane.modLane s m _).ite (((OnLane.modLane s m _).trans (OnLane.modLane _ m _)).trans (OnLane.raise m _ _ _ _)))

@[simp] theorem mode_identity (s : State) (m : Nat) (cap : List Byte) : (State.laneOf (identity s m cap) m).mode = (State.laneOf s m).mode := by
  unfold identity
  dsimp only
  split
  · simp
  · split
    · rfl
    · split <;> simp

theorem linkDelay_on (s : State) (m rtd : Nat) : OnLane m [] upParts s (linkDelay s m rtd) := by
  have measured : OnLane m [] upParts s (if m < 24 then State.wAtt s (D.iHDP + m) D.HDP_LINK_DELAY (min ((rtd + 1) / 2) 65535 : Nat)
      else State.wAtt s (D.iSRC + (m - 24)) D.SRC_LINK_DELAY (min ((rtd + 1) / 2) 65535 : Nat)) := by
    split
    case isTrue h => exact OnLane.attach s m _ (.inl (by rw [Nat.mod_eq_of_lt h]))
    case isFalse => exact OnLane.attach s m _ (.inr (Nat.le_add_right _ _))
  exact (measured.trans (OnLane.modLane _ m _)).trans ((OnLane.raise m _ _ _ _).ite (.refl ..))

@[simp] theorem mode_linkDelay (s : State) (m rtd : Nat) : (State.laneOf (linkDelay s m rtd) m).mode = (State.laneOf s m).mode := by
  unfold linkDelay
  dsimp only
  split <;> split <;> simp

/-- A lane that enters UP with protocol `p`, before its delay and the identity of its far end are looked at. -/
def carrying (s : State) (m p : Nat) : State :=
  State.modLane (State.wLnk (put (enter s m .up) m D.LNK_PROTOCOL p) (D.iLNK + m) D.LNK_UP_TICK (s.tick : Int)) m fun l =>
    { l with plugged := false, since := s.tick, badEpisode := 0, staleEpisode := false }

/-- The protocol of a lane that enters UP (R261). -/
def upProto (s : State) (m : Nat) : Nat := protoFor m ((State.laneOf s m).rate.getD 0) (Arith.leAt ((State.laneOf s m).cap.getD []) 3 1)

theorem protoFor_lt (m rate protocols : Nat) : protoFor m rate protocols < 256 := by
  unfold protoFor
  repeat' split
  all_goals decide

theorem up_of_proto {s : State} {m : Nat} (rtd : Nat) (h : upProto s m ≠ 0) :
    up s m rtd = identity (linkDelay (carrying s m (upProto s m)) m rtd) m ((State.laneOf s m).cap.getD []) := by
  simp only [up, carrying, put_tick, enter_tick, State.wLnk_tick]
  exact if_neg h

theorem carrying_on (s : State) (m p : Nat) : OnLane m [D.LNK_STATE, D.LNK_LIVE, D.LNK_PROTOCOL, D.LNK_UP_TICK] upParts s (carrying s m p) :=
  (((enter_on s m .up).mono.trans (OnLane.put _ m _)).trans (OnLane.write _ m _)).trans (OnLane.modLane _ m _)

theorem up_carrying {s : State} {m : Nat} (rtd : Nat) (h : upProto s m ≠ 0) : OnLane m [] upParts (carrying s m (upProto s m)) (up s m rtd) :=
  up_of_proto rtd h ▸ (linkDelay_on _ m rtd).trans (identity_on _ m _)

/-! ### The error test (R259, R260) -/

theorem errorTestEnd_early {s : State} {m own : Nat} (rtd : Nat) (h : testOpen s m = false) (ho : own ≤ (State.laneOf s m).testMax) :
    errorTestEnd m own true rtd s = s := if_pos ⟨ho, rfl, by simp [h]⟩

/-- A lane is at the error test of a step. -/
def Testing (s : State) (m : Nat) : Prop := (State.laneOf s m).mode = .step ∧ (State.laneOf s m).phase = .test

theorem errorTestEnd_passed {s : State} {m own : Nat} (rtd : Nat) (h : Testing s m) (hw : testOpen s m = true) (ho : own ≤ (State.laneOf s m).testMax) :
    errorTestEnd m own true rtd s = if (State.laneOf s m).tryRate = (State.laneOf s m).target then up s m rtd else nextStep s m := by
  simp [errorTestEnd, testVerdict, h.1, h.2, hw, ho]

theorem errorTestEnd_failed {s : State} {m own : Nat} {pass : Bool} (rtd : Nat) (h : Testing s m)
    (hf : (State.laneOf s m).testMax < own ∨ pass = false) : errorTestEnd m own pass rtd s = stepFail s m := by
  have verdict : ¬(own ≤ (State.laneOf s m).testMax ∧ pass = true) := by
    rintro ⟨ho, rfl⟩
    obtain hf | hf := hf
    · omega
    · cases hf
  rw [errorTestEnd, if_neg fun ⟨ho, hp, _⟩ => verdict ⟨ho, hp⟩, testVerdict]
  simp only [h.1, h.2, and_self, if_true, if_neg verdict]

theorem errorTestEnd_up {s : State} {m own : Nat} (rtd : Nat) (hr : s.pwr.rails = true) (hm : m < 48) (h : Testing s m) (hw : testOpen s m = true)
    (ho : own ≤ (State.laneOf s m).testMax) (ht : (State.laneOf s m).tryRate = (State.laneOf s m).target) (hp : upProto s m ≠ 0) :
    completes (.errorTestEnd m own true rtd) s fun t => (State.laneOf t m).mode = .up ∧ State.rLnk t (D.iLNK + m) D.LNK_STATE = 4 ∧
      State.rLnk t (D.iLNK + m) D.LNK_UP_TICK = (Arith.toUnsigned 64 (s.tick : Int) : Int) ∧
      State.rLnk t (D.iLNK + m) D.LNK_PROTOCOL = (upProto s m : Int) ∧ otherHeads (m % 24) s t ∧ otherLanes m s t ∧ keeps [.lnk, .att, .raised] s t := by
  have step : errorTestEnd m own true rtd s = up s m rtd := (errorTestEnd_passed rtd h hw ho).trans (if_pos ht)
  have later := up_carrying rtd hp
  have upTick : OnLane m [D.LNK_UP_TICK] [.lnk] _ (carrying s m (upProto s m)) := (OnLane.write _ m _).trans (OnLane.modLane _ m _)
  have proto : OnLane m [D.LNK_PROTOCOL, D.LNK_UP_TICK] [.lnk] (enter s m .up) (carrying s m (upProto s m)) :=
    (OnLane.put _ m _).trans ((OnLane.write _ m _).trans (OnLane.modLane _ m _))
  have on := step ▸ (carrying_on s m (upProto s m)).trans later.mono
  refine completes_of_actOn_keeps rfl hm hr on.parts (by simp) ⟨?_, ?_, ?_, ?_, on.heads, on.lanes, on.parts⟩
  all_goals rw [step]
  · rw [up_of_proto rtd hp]
    simp [carrying]
  · rw [later.entries _ (by decide) (by decide), proto.entries _ (by decide) (by decide)]
    exact state_enter s hm .up
  · rw [later.entries _ (by decide) (by decide), carrying, rLnk_modLane, rLnk_write _ hm _ (ty := .u64)]
    rfl
  · rw [later.entries _ (by decide) (by decide), upTick.entries _ (by decide) (by decide)]
    exact rLnk_put _ .u8 hm (protoFor_lt ..)

theorem errorTestEnd_steps {s : State} {m own : Nat} (rtd : Nat) (hr : s.pwr.rails = true) (hm : m < 48) (h : Testing s m) (hw : testOpen s m = true)
    (ho : own ≤ (State.laneOf s m).testMax) (ht : (State.laneOf s m).tryRate ≠ (State.laneOf s m).target) :
    completes (.errorTestEnd m own true rtd) s fun t => (State.laneOf t m).mode = .step ∧ (State.laneOf t m).phase = .echo ∧
      (State.laneOf t m).tryRate = (State.laneOf s m).rate.getD 0 + 1 ∧ otherLanes m s t ∧ keeps [.lnk] s t := by
  have step : errorTestEnd m own true rtd s = nextStep s m := (errorTestEnd_passed rtd h hw ho).trans (if_neg ht)
  have on := step ▸ nextStep_on s m
  refine completes_of_actOn_keeps rfl hm hr on.parts (by simp) ⟨?_, ?_, ?_, on.lanes, on.parts⟩
  all_goals simp [step, laneOf_nextStep]

/-- A failed step counted and reported. -/
def failed (s : State) (m : Nat) : State :=
  State.raise (State.incLnk s (D.iLNK + m) D.LNK_STEP_FAILS 1) (0xA0 + m) 2 (State.laneOf s m).tryRate

/-- The lane of a failed step back at the rate below, which is its ceiling. -/
def fallenBack (s : State) (m : Nat) : State :=
  let r := (State.laneOf s m).tryRate - 1
  put (State.modLane (setRate (failed s m) m r) m fun l => { l with ceiling := some r }) m D.LNK_CEILING r

theorem stepFail_eq (s : State) (m : Nat) : stepFail s m = relearn (fallenBack s m) m := rfl

theorem fallenBack_failed (s : State) (m : Nat) : OnLane m [D.LNK_RATE, D.LNK_CEILING] [.lnk] (failed s m) (fallenBack s m) :=
  (((setRate_on _ m _).mono).trans (OnLane.modLane _ m _)).trans (OnLane.put _ m _)

theorem failed_on (s : State) (m : Nat) : OnLane m [D.LNK_STEP_FAILS] [.lnk, .raised] s (failed s m) := (OnLane.inc s m _).trans (OnLane.raise m _ _ _ _)

theorem fallenBack_on (s : State) (m : Nat) : OnLane m [D.LNK_STEP_FAILS, D.LNK_RATE, D.LNK_CEILING] [.lnk, .raised] s (fallenBack s m) :=
  (failed_on s m).mono.trans (fallenBack_failed s m).mono

theorem errorTestEnd_relearns {s : State} {m own : Nat} {pass : Bool} (rtd : Nat) (hr : s.pwr.rails = true) (hm : m < 48) (h : Testing s m)
    (hf : (State.laneOf s m).testMax < own ∨ pass = false) :
    completes (.errorTestEnd m own pass rtd) s fun t => (State.laneOf t m).mode = .relearn ∧
      (State.laneOf t m).ceiling = some ((State.laneOf s m).tryRate - 1) ∧ (State.laneOf t m).rate = some ((State.laneOf s m).tryRate - 1) ∧
      State.rLnk t (D.iLNK + m) D.LNK_STEP_FAILS = Arith.clamp 0 65535 (State.rLnk s (D.iLNK + m) D.LNK_STEP_FAILS + 1) ∧
      State.rLnk t (D.iLNK + m) D.LNK_RELEARNS = Arith.clamp 0 65535 (State.rLnk s (D.iLNK + m) D.LNK_RELEARNS + 1) ∧
      lastRaised s (0xA0 + m) 2 ((State.laneOf s m).tryRate % 2 ^ 32) t ∧ otherLanes m s t ∧ keeps [.lnk, .raised] s t := by
  have step := (errorTestEnd_failed rtd h hf).trans (stepFail_eq s m)
  have back := fallenBack_on s m
  have again := relearn_on (fallenBack s m) m
  have on : OnLane m [D.LNK_STEP_FAILS, D.LNK_RATE, D.LNK_CEILING, D.LNK_STATE, D.LNK_LIVE, D.LNK_RELEARNS] [.lnk, .raised] s (errorTestEnd m own pass rtd s) :=
    step ▸ back.mono.trans again.mono
  refine completes_of_actOn_keeps rfl hm hr on.parts (by simp) ⟨?_, ?_, ?_, ?_, ?_, ?_, on.lanes, on.parts⟩
  all_goals rw [step]
  · exact mode_relearn _ m
  · simp [fallenBack]
  · simp [fallenBack]
  · rw [again.entries _ (by decide) (by decide), (fallenBack_failed s m).entries _ (by decide) (by decide)]
    exact rLnk_count s hm
  · rw [relearns_relearn _ hm, back.entries _ (by decide) (by decide)]
  · have reported : (relearn (fallenBack s m) m).raised = (failed s m).raised :=
      ((fallenBack_failed s m).parts.trans again.parts).same .raised (by simp)
    exact reported

end Lnk

/-- Settles O33: each command by the case of its operation that the hypotheses select. -/
theorem lanesComeUpStepByStep : Obligations.LanesComeUpStepByStep :=
  ⟨fun _ _ serial hr hm h ho => Lnk.markerLock_locks serial hr hm h ho,
    fun _ _ serial h => completes_idle_of_actOn rfl (Lnk.markerLock_unripe serial h),
    fun _ _ _ _ hr hm h hb ht hd hs hl htarget => Lnk.capBlock_steps hr hm ⟨h, hb, ht⟩ hd hs hl htarget,
    fun _ _ _ _ hr hm h hb ht hd hs hl => Lnk.capBlock_notes hr hm ⟨h, hb, ht⟩ hd hs hl,
    fun _ _ _ _ hr hm h hb ht hd hs => Lnk.capBlock_mismatch hr hm ⟨h, hb, ht⟩ hd hs,
    fun _ _ hr hm h hp => Lnk.stepEcho_switches hr hm h hp,
    fun _ _ eq rtd hr hm h hp ht => Lnk.trainingEnd_tests eq rtd hr hm h hp ht,
    fun _ _ eq rtd h => completes_idle_of_actOn rfl (Lnk.trainingEnd_early eq rtd h),
    fun _ _ _ rtd hr hm h hp hw ho ht hproto => Lnk.errorTestEnd_up rtd hr hm ⟨h, hp⟩ hw ho ht hproto,
    fun _ _ _ rtd hr hm h hp hw ho ht => Lnk.errorTestEnd_steps rtd hr hm ⟨h, hp⟩ hw ho ht,
    fun _ _ _ rtd _ hr hm h hp hf => Lnk.errorTestEnd_relearns rtd hr hm ⟨h, hp⟩ hf,
    fun _ _ _ rtd hw ho => completes_idle_of_actOn rfl (Lnk.errorTestEnd_early rtd hw ho)⟩

end Sys2Proof.Machine

/-!
PROOFS of 11_head_source_protocols.md: the statement of the chapter fails. A status frame of an XY2-100 port that raises XY_STATUS_LOST stops its channel along
the path (R156, R291), and the first set-point of that stop may lie beyond the head units: the engine then raises HU_CLAMP behind it (R166).
-/
namespace Sys2Proof.Machine

/-- The messages of a command of the core domain are those of its operation. -/
theorem exec_act_raised {c : Instr} {f : State → State} {s t : State} (he : exec c s = act f s) (hr : s.pwr.rails = true) (h : exec c s = .next t) :
    t.raised = (f s).raised := by rw [exec_act_inv he hr h]

namespace Eng

/-! ### The messages of a stop along the path (R156, R166) -/

/-- A set-point that is clamped to the head units raises HU_CLAMP, another raises nothing (R166). -/
theorem makeSlot_raised (s : State) (c k : Nat) (pos : Pt) (ph : Option Phase) (rep : Bool) :
    (makeSlot s c k pos ph rep).raised = s.raised ++ if (toHu s c pos).2 then [⟨0x80 + c, 5, s.btick % 2 ^ 32⟩] else [] := by
  unfold makeSlot
  dsimp only
  split
  · rw [event_raised]; rfl
  · rw [List.append_nil]; rfl

theorem recordStop_raised (c : Nat) (s : State) : (recordStop c s).raised = s.raised := by
  unfold recordStop
  split
  · split <;> rfl
  · rfl

theorem stopSlot_keeps_raised (s : State) (c : Nat) (r : StopRun) : s.raised ⊆ (stopSlot s c r).raised := by
  have made (u : State) (pos : Pt) : u.raised ⊆ (makeSlot u c r.k pos none false).raised := makeSlot_raised u .. ▸ List.subset_append_left ..
  simp only [stopSlot, apply_ite State.raised, State.setEng_raised, ite_self]
  exact made (State.modEng s c _) _

theorem stopFill_keeps_raised (n c k : Nat) (s : State) : s.raised ⊆ (stopFill n c k s).raised := by
  induction n generalizing s with
  | zero => exact List.Subset.refl _
  | succ n ih =>
    unfold stopFill
    split
    · split
      · exact List.Subset.trans (stopSlot_keeps_raised s c _) (ih _)
      · exact List.Subset.refl _
    · exact List.Subset.refl _

/-- The correction chain of a channel on an XY2-100 port reads nothing of its engine: no drift is compensated (R165). -/
theorem toHu_setEng_of_legacy {s : State} {c : Nat} (h : State.legacy s c = true) (e : Engine) (p : Pt) : toHu (State.setEng s c e) c p = toHu s c p := by
  have hl : State.legacy (State.setEng s c e) c = true := h
  unfold toHu rawHu
  simp only [h, hl, if_true]
  rfl

/-- A stop of a moving engine begins with the position of its path in tick `k`, the first not yet sent (R156): HU_CLAMP is raised where the head cannot take
it. -/
theorem stopAt_clamps {s : State} {c c0 k : Nat} {p : Phase} (at4 prAt : Nat) (why : HoldWhy) (hl : State.legacy s c = true)
    (hk : c0 + State.delayOf s c + 1 = k) (hp : Geo.phaseAt (State.engOf s c).timeline (k : Rat) = some p) (hv : Geo.phaseSpeed p (k : Rat) ≠ 0)
    (hc : (toHu s c (Geo.phasePos p (k : Rat))).2 = true) :
    (⟨0x80 + c, 5, s.btick % 2 ^ 32⟩ : Msg) ∈ (stopAt s c c0 at4 prAt why).raised := by
  subst hk
  simp only [stopAt, hp, hv, if_false]
  apply stopFill_keeps_raised
  simp only [recordStop_raised, apply_ite State.raised, State.modAtt_raised, ite_self]
  rw [makeSlot_raised, toHu_setEng_of_legacy hl, hc]
  exact List.mem_append_right _ (List.mem_singleton.mpr rfl)

theorem stopNow_of_free {s : State} {c : Nat} (h : faultHeld (State.engOf s c) = false) (why : HoldWhy) :
    stopNow s c why = stopAt s c s.tick ((s.tick + 1) * 125) ((s.tick + 1) * 125) why := if_neg (by simp [h])

end Eng

namespace Att

/-! ### XY_STATUS_LOST of a STARTED channel (R291) -/

/-- An invalid frame before its port's faults are looked at: counted, and in the run of invalid frames. -/
def xyCounted (s : State) (p : Nat) : State :=
  State.modAtt (State.incAtt s (D.iXY + p) D.XY_BAD_FRAMES 1) p fun a => { a with xyBad := (State.attOf s p).xyBad + 1, xyWrong := 0 }

theorem xyStatus_invalid {s : State} {p w : Nat} (hp : p < 8) (hl : State.legacy s p = true) (hw : parityOk w = false) :
    xyStatus p w s = xyFault (xyFault (xyCounted s p) p 0x15 false) p 0x16
      (decide ((State.rAtt s (D.iXY + p) D.XY_STATUS_COUNT).toNat ≤ (State.attOf s p).xyBad + 1)) := by
  simp [xyStatus, xyCounted, Nat.not_le.mpr hp, hl, hw]

/-- The state in which the fault of a port that meets a STARTED channel stops it: the fault is raised, and the hold waits for its acknowledgement. -/
def xyRaised (s : State) (p kind : Nat) : State :=
  State.modAtt (State.raise (State.modAtt s p fun a => { a with standing := a.standing.filter (· != kind) ++ [kind] }) (0xA0 + p) kind (tickLow s)) p
    fun a => { a with xy := .ack }

theorem xyFault_stops {s : State} {p kind : Nat} (hs : State.chOf s p = .started) (ha : (State.attOf s p).xy = .none) :
    xyFault s p kind true = Eng.stopNow (xyRaised s p kind) p .fault := by
  simp [xyFault, xyRaised, hs, ha]

/-! ### A mark that leaves the range of its head -/

/-- A mark of 100 T along X, from 1,040,000 pu at 1,000 pu in each tick, from tick 1,000 on. -/
def leavingMark : Phase :=
  { kind := .mark, start := 1000, dur := 100, p0 := ⟨256 * 1040000, 0, 0⟩, p1 := ⟨256 * 1140000, 0, 0⟩, len := 100000, prof := .const 1000,
    pow0 := 0, pow1 := 0, item := 0, serial := 0, par := State.parOf State.reset 0 }

/-- A build at tick 1,000 in which channel 3, STARTED on its XY2-100 port, begins that mark with a head that reaches 1,048,576 pu (HEAD_HALF_XY at its least);
12 invalid status frames in a row have come. -/
def leaving : State :=
  let s := { State.reset with
    tick := 1000
    dev := { State.reset.dev with mode := .building }
    cat := { State.reset.cat with chMode := [(3, .started)] }
    trj := { State.reset.trj with tab := [(3, { Engine.init with timeline := [leavingMark], motion := .move, posSet := true })] }
    att := { State.reset.att with tab := [(3, { Attach.init with xyBad := 12 })] } }
  State.wTrj (State.wAtt s (D.iXY + 3) D.XY_SELECT 1) (D.iTRJ + 3) D.TRJ_HEAD_HALF_XY 1048576

/-- The same with XY_STATUS_LOST raised, before the stop. -/
def leavingLost : State := xyRaised (xyFault (xyCounted leaving 3) 3 0x15 false) 3 0x16

theorem xyStatus_leaving : xyStatus 3 0x20003 leaving = Eng.stopNow leavingLost 3 .fault := by
  have run : (State.rAtt leaving (D.iXY + 3) D.XY_STATUS_COUNT).toNat ≤ (State.attOf leaving 3).xyBad + 1 := by decide
  rw [xyStatus_invalid (by decide) (by decide) (by decide), decide_eq_true run, xyFault_stops (by decide) (by decide)]
  rfl

/-- The first set-point of the stop, in tick 1,021, lies at 1,061,000 pu. -/
theorem clamp_leaving : (⟨0x83, 5, 0⟩ : Msg) ∈ (xyStatus 3 0x20003 leaving).raised := by
  rw [xyStatus_leaving, Eng.stopNow_of_free (by decide)]
  exact Eng.stopAt_clamps (k := 1021) (p := leavingMark) _ _ _ (by decide) (by decide) (by decide) (by decide +kernel) (by decide +kernel)

end Att

theorem xyStatusFrame_on_port {p : Nat} (w : Nat) (hp : p < 8) (s : State) : exec (.xyStatusFrame p w) s = act (Att.xyStatus p w) s := actOn_unit hp

/-- Refutes O35: in `Att.leaving` the status frame raises XY_STATUS_LOST and stops channel 3 in its mark; the first set-point of the stop is beyond the head and
raises HU_CLAMP as well (R156, R166), where the statement has XY_STATUS_LOST as the only message. -/
theorem not_framesAreTakenFromAttachments : ¬ Obligations.FramesAreTakenFromAttachments := by
  rintro ⟨-, -, -, -, -, -, -, -, -, lost, -⟩
  obtain ⟨t, ht, -, -, -, only, -⟩ := lost Att.leaving 3 0x20003 rfl (by decide) (by decide) (by decide) (by decide) rfl rfl rfl
  have clamped : (⟨0x83, 5, 0⟩ : Msg) ∈ t.raised := by
    rw [exec_act_raised (xyStatusFrame_on_port 0x20003 (by decide) Att.leaving) rfl ht]
    exact Att.clamp_leaving
  rw [only] at clamped
  revert clamped
  decide

end Sys2Proof.Machine
